-- ==== Sys2Proof/Word.lean ====
section
/-! DEFINITION. The words the PTM-6180 works in, and the names its commands use for who asks and where from. -/

namespace Sys2Proof

/-- A byte, as payloads, records and host memory carry it. -/
abbrev Byte := BitVec 8

/-- A register word: every register of the part is 32 bits wide (R8, R15). -/
abbrev Word := BitVec 32

/-- A byte string, lowest address first (R8). -/
abbrev Bytes := List Byte

/-- Who makes a register access (R13, R722). The BMC and the chain reach registers through CMD (R513). -/
inductive Req where
  | keeper
  | fw
  | dma
  | head (h : Fin 4)
  | bmc
  | chain
  deriving DecidableEq, Repr

/-- The port a command packet arrives on (R472). -/
inductive Port where
  /-- The CXL mailbox of logical device `ld`, port kind 0x1. -/
  | mailbox (ld : Fin 16)
  /-- The mailbox of the FM-owned logical device of head `h`, port byte 0x1F. -/
  | fmOwned (h : Fin 4)
  /-- TWI-U, port kind 0x2. -/
  | twiu
  /-- CHAIN_UP, port kind 0x3. -/
  | chainUp
  /-- The internal port of the runtime firmware, port kind 0x5. -/
  | fw
  /-- The internal port of the Keeper, port kind 0x6. -/
  | keeper
  deriving DecidableEq, Repr

/-- What a command packet brings besides its opcode (R470): the port of arrival, the tag, DIST, the LENGTH field and the
payload bytes that came with it. DIST is 0 on every port but the chain (R477). -/
structure Hdr where
  port : Port
  tag : BitVec 32
  dist : Byte
  length : Nat
  payload : Bytes
  deriving DecidableEq, Repr

/-- The causes of a port reset (R525). -/
inductive PortReset where
  | conventional
  | hot
  | linkDisable
  | perst
  deriving DecidableEq, Repr

/-- The kinds of access the memory fence judges (R28). -/
inductive AccessKind where
  | read
  | write
  | execute
  deriving DecidableEq, Repr

/-- How a two-wire transaction ended (R742). -/
inductive TwiEnd where
  | done
  | addrNack
  | dataNack
  | busError
  deriving DecidableEq, Repr

/-- How a downloaded object checked out (R527, R576). -/
inductive AuthResult where
  | pass
  | authFail
  | versionFloor
  | baseMismatch
  | mediaError
  deriving DecidableEq, Repr

end Sys2Proof
end

