-- ==== Sys2Proof/Syntax.lean ====
section
/-! DEFINITION. The commands and events of the PTM-6180, one constructor for each row of spec/opcode_table.json,
in the table's order but for sixteen events without operands, which stand last. -/

namespace Sys2Proof

/-- What a program of SAV holds (R218). -/
inductive SaveItem where
  /-- Step 1: the save-open record. -/
  | openRecord
  /-- Steps 2 and 3: a page. -/
  | page (page : Nat)
  /-- Step 2: the seal record of an epoch whose boundary came just before the cut, its index segment and its commit record. -/
  | sealRecord
  | sealIndex
  | sealCommit
  /-- Step 4: the event mirror. -/
  | mirror
  /-- Step 5: the cut index. -/
  | cutIndex
  /-- Step 6: the cut commit record, whose pass is CUT_COMMIT_PASSED. -/
  | cutCommit
  deriving DecidableEq, Repr

/-- What the read of a codeword has shown (R307, R308): its flash address, the bits corrected, the read-retry levels climbed, and whether
it stays uncorrectable. -/
structure CodewordRead where
  fa : Nat
  corrected : Nat
  retries : Nat
  bad : Bool
  deriving DecidableEq, Repr

/-- What a read of one line of DRAM meets (R378, R381): nothing, an error that the code corrects, or one that stays uncorrectable when the
line is read once more. -/
inductive LineRead where
  | good
  | corrected
  | uncorrectable
  deriving DecidableEq, Repr

/-- The lines with errors that a read of DRAM meets, by line number (R378, R381). -/
structure LineErrors where
  corrected : List Nat
  uncorrectable : List Nat
  deriving DecidableEq, Repr

/-- A program of SAV that fails: its flash address, and what the reads of DRAM for it have met. -/
structure FailedProgram where
  fa : Nat
  errors : LineErrors
  deriving DecidableEq, Repr

/-- A source of delays that fails its verification at bring-up (R405, R406): the channel, the bin, and the code of TRN_CH_SRC. -/
structure SourceRefused where
  ch : Fin 8
  bin : Fin 6
  source : Fin 4
  deriving DecidableEq, Repr

/-- What a start finds of the flash (R299, R716): a population that mismatches, and the parts of the event mirror that cannot be read. -/
structure FlashFound where
  mismatch : Bool
  lostParts : List (Fin 16)
  lostRecords : List (Fin 13)
  deriving DecidableEq, Repr

/-- What the read of a page has shown besides its retries and its outcome (R307, R333): the bits corrected, and the codewords of the index
read for it. -/
structure PageShown where
  corrected : Nat
  maps : List CodewordRead
  deriving DecidableEq, Repr

/-- What the read of an original has shown (R308, R339): the bits corrected, the read-retry levels climbed, and whether it stays
uncorrectable. -/
structure CopyRead where
  corrected : Nat
  retries : Nat
  bad : Bool
  deriving DecidableEq, Repr

/-- How an erase ends (R319, R343): failed, or with the highest count of bits that read 0 in a codeword of the blank check, of page 0, the
last page and every 32nd. -/
inductive EraseEnd where
  | failed
  | ended (zeros : Nat)
  deriving DecidableEq, Repr

/-- A command sent to the device, an access to one of its registers, or an event on its pins, its media or its timers. -/
inductive Instr where
  /-- IDENTIFY (R495). Command that returns the device identity, versions and population figures. -/
  | identify (h : Hdr)
  /-- READY_GET (R495). Command that returns GLB state, readiness, image, arming, epoch numbers and DRP_ADM. -/
  | readyGet (h : Hdr)
  /-- RESULT_GET (R485). Command that returns the stored result of an asynchronous command of the same port and frees the entry after its last byte. -/
  | resultGet (h : Hdr)
  /-- FW_DOWNLOAD (R497). Command that moves one chunk of a runtime firmware image into application SRAM; the first chunk stops running firmware and the LAST chunk starts authentication. -/
  | fwDownload (h : Hdr)
  /-- FW_STATUS (R496). Command that returns the runtime firmware state, version, stop cause and floor. -/
  | fwStatus (h : Hdr)
  /-- KEEPER_UPDATE (R576). Command that moves one chunk of a Keeper update package; the LAST chunk starts the checks, installation and relay. -/
  | keeperUpdate (h : Hdr)
  /-- KEEPER_UPDATE_STATUS (R496). Command that returns the active slot, slot versions, the anti-rollback counter and the relay state. -/
  | keeperUpdateStatus (h : Hdr)
  /-- PERSIST_CONFIG (R96). Command that writes POLICY, AUTO_ARM and the select wait into the persistence configuration record. -/
  | persistConfig (h : Hdr)
  /-- ARM (R86). Command that arms the device when the conditions of R85 hold, and clears ARM_HOLD. -/
  | arm (h : Hdr)
  /-- DISARM (R89). Command that sets ARM_HOLD and disarms from ARMED, or clears PERSIST_ARMED in RESTORING. -/
  | disarm (h : Hdr)
  /-- SEAL_BARRIER (R99). Command that replies ACCEPTED and later completes with a durable epoch covering the head's completed writes. -/
  | sealBarrier (h : Hdr)
  /-- EPOCH_LIST (R499). Command that returns the image, the open, durable and retained epoch numbers, and the retained cut. -/
  | epochList (h : Hdr)
  /-- RESTORE_SELECT (R82). Command from the owner head that chooses a retained boundary epoch or the retained cut while the select window is open. -/
  | restoreSelect (h : Hdr)
  /-- RESTORE_PROCEED (R80). Command from the owner head that closes the select window with the reported image. -/
  | restoreProceed (h : Hdr)
  /-- LOSS_ACCEPT (R285). Command that releases every image in LOST, optionally crypto-erases, enters UNARMED and starts the zero fill. -/
  | lossAccept (h : Hdr)
  /-- BUDGET_CONFIG (R499). Command that writes BUDGET_CFG and EARLY_PCT into the persistence configuration record. -/
  | budgetConfig (h : Hdr)
  /-- WEAR_CONFIG (R499). Command that writes AVG_RATE and PEAK_MIN of the wear governor. -/
  | wearConfig (h : Hdr)
  /-- SAVE_MODEL_CONFIG (R153). Command that writes P_FULL, P_BASE, T_FIX and T_MAX after checking their consistency. -/
  | saveModelConfig (h : Hdr)
  /-- EPOCH_CONFIG (R199). Command that writes PERIOD_MS, CARAFE_WAIT, TIMING and NEXT_GIB. -/
  | epochConfig (h : Hdr)
  /-- SAVE_CONFIG (R249). Command that writes GRACE_MS, GPF_SRC and PANIC_SLOTS of SAV_CFG. -/
  | saveConfig (h : Hdr)
  /-- RESTORE_CONFIG (R288). Command that writes FI_RETRY, PANIC_SLOTS and the sweep priorities of the RSE. -/
  | restoreConfig (h : Hdr)
  /-- FOGHORN_RAISE (R207). Command that replies DONE and asserts Foghorn with a STAY_OFF flag and a rate cap. -/
  | foghornRaise (h : Hdr)
  /-- LD_CONFIG (R430). Command that sets a logical device's binding, capacity and release mode, and the bifurcation. -/
  | ldConfig (h : Hdr)
  /-- HEAD_OWNER_SET (R431). Command that names a new owner head once the host interface configuration record is written. -/
  | headOwnerSet (h : Hdr)
  /-- REGION_DC_ADD (R442). Command that offers device extents to a logical device through the dynamic capacity flow. -/
  | regionDcAdd (h : Hdr)
  /-- REGION_DC_RELEASE (R446). Command that asks the host to release dynamic capacity extents, with KEEP or SANITIZE. -/
  | regionDcRelease (h : Hdr)
  /-- REGION_LIST (R501). Command that returns the RGN_EXT entries of a named logical device or state. -/
  | regionList (h : Hdr)
  /-- RESERVE_STATUS (R503). Command that returns the pack measurements, state of charge and reserve figure. -/
  | reserveStatus (h : Hdr)
  /-- RESERVE_FIGURE (R647). Command from runtime firmware that submits a model estimate for the Keeper to check, clamp and accept. -/
  | reserveFigure (h : Hdr)
  /-- RESERVE_CONFIG (R657). Command that writes CHARGE_EN, REST_ALLOWED and the charge current limit. -/
  | reserveConfig (h : Hdr)
  /-- RESERVE_REST (R642). Command that starts a maintenance rest and completes when the rest ends. -/
  | reserveRest (h : Hdr)
  /-- EVENT_READ (R505). Command that returns records of one Event Recorder area from a sequence number. -/
  | eventRead (h : Hdr)
  /-- EVENT_CLEAR (R717). Command that empties an Event Recorder area of records numbered before its acceptance. -/
  | eventClear (h : Hdr)
  /-- EVENT_ROUTE (R720). Command that routes one event source to an MSI-X vector and a logical device mask. -/
  | eventRoute (h : Hdr)
  /-- DRAM_CONFIG (R506). Command that writes the DRAM configuration record fields named by its mask. -/
  | dramConfig (h : Hdr)
  /-- DRAM_STATUS (R506). Command that returns the DMC channel, map and training status registers. -/
  | dramStatus (h : Hdr)
  /-- TRAIN_RUN (R420). Command executed by runtime firmware that trains the named channels in turn and then stores the set. -/
  | trainRun (h : Hdr)
  /-- SPEED_SELECT (R418). Command that sets NEXT_BIN for the next cold start. -/
  | speedSelect (h : Hdr)
  /-- DELAY_SET_LIST (R506). Command that returns TRN_SETS and the bin and signature of each delay-set slot. -/
  | delaySetList (h : Hdr)
  /-- DELAY_SET_LOAD (R571). Command from the BMC that moves a delay set in chunks and writes it into a slot without verification. -/
  | delaySetLoad (h : Hdr)
  /-- FLASH_CONFIG (R508). Command that writes the flash rate, thresholds and channel enables. -/
  | flashConfig (h : Hdr)
  /-- FLASH_STATUS (R507). Command that returns the flash population, capacity, pools, bad blocks and wear. -/
  | flashStatus (h : Hdr)
  /-- KST_PROTECT (R564). Command that unlocks, locks or sets the password of an integrator protection group. -/
  | kstProtect (h : Hdr)
  /-- KST_USER_READ (R507). Command that reads bytes of the integrator area. -/
  | kstUserRead (h : Hdr)
  /-- KST_USER_PROGRAM (R555). Command that programs up to one page of the integrator area. -/
  | kstUserProgram (h : Hdr)
  /-- KST_USER_ERASE (R507). Command that erases one 4 KiB sector of the integrator area and completes after its blank check. -/
  | kstUserErase (h : Hdr)
  /-- RAIL_STATUS (R509). Command that returns the sensed voltage, flags, rank and levels of every rail. -/
  | railStatus (h : Hdr)
  /-- RAIL_CONFIG (R588). Command that sets a rail's rank and warning and fault levels. -/
  | railConfig (h : Hdr)
  /-- BEACON_CONFIG (R510). Command that writes the BEACON DELAY and first source number. -/
  | beaconConfig (h : Hdr)
  /-- TWI_CONFIG (R741). Command that sets the SCL rate, set-up and hold times of a TWI-D port. -/
  | twiConfig (h : Hdr)
  /-- TWI_PORT_ENABLE (R510). Command that re-enables a two-wire port disabled after a stuck bus. -/
  | twiPortEnable (h : Hdr)
  /-- CHAIN_SEND (R477). Command that sends a packet down the Dwegor chain to a target distance or as a broadcast. -/
  | chainSend (h : Hdr)
  /-- SIDEBAND_STATUS (R510). Command that returns the port and link states and the chain relay counts. -/
  | sidebandStatus (h : Hdr)
  /-- ECHO (R512). Command that returns its payload unchanged. -/
  | echo (h : Hdr)
  /-- REG_READ (R513). Command that reads up to 16 registers on behalf of the BMC or CHAIN source. -/
  | regRead (h : Hdr)
  /-- REG_WRITE (R513). Command that writes one register on behalf of the BMC source. -/
  | regWrite (h : Hdr)
  /-- FLASH_DIAG_READ (R512). Command that reads one codeword and reports its tag, corrections and pattern errors. -/
  | flashDiagRead (h : Hdr)
  /-- FLASH_DIAG_PROGRAM (R514). Command that programs a pattern page on flash before the first durable epoch. -/
  | flashDiagProgram (h : Hdr)
  /-- COMMAND_REPLY_TIMEOUT (R482). 10 ms after acceptance with no reply, CMD replies ACCEPTED on the executor's behalf. -/
  | commandReplyTimeout (port : Port) (tag : BitVec 32)
  /-- ASYNC_COMMAND_COMPLETION (R483). An asynchronous command's work ends, its result enters the port's result table and the port is notified. -/
  | asyncCommandCompletion (port : Port) (tag : BitVec 32) (status : BitVec 16) (result : Bytes)
  /-- CHUNK_TRANSFER_TIMEOUT (R497). A chunked transfer that receives no chunk for 10 s is discarded. -/
  | chunkTransferTimeout (opcode : BitVec 16)
  /-- CHAIN_SEND_TIMEOUT (R510). No reply to a CHAIN_SEND within 1 s completes it with ABORTED. -/
  | chainSendTimeout (tag : BitVec 32)
  /-- IDENTIFY_MEMORY_DEVICE (R452). Standard CXL command that returns the memory device identity. -/
  | identifyMemoryDevice (ld : Fin 16)
  /-- GET_SUPPORTED_LOGS (R452). Standard CXL command that lists the supported logs. -/
  | getSupportedLogs (ld : Fin 16)
  /-- GET_LOG (R452). Standard CXL command that returns the command effects log. -/
  | getLog (ld : Fin 16) (uuid : BitVec 128) (offset length : Nat)
  /-- GET_LSA (R452). Standard CXL command that reads the label storage area of a logical device. -/
  | getLsa (ld : Fin 16) (offset length : Nat)
  /-- SET_LSA (R570). Standard CXL command that writes a logical device's 16 KiB label area as a two-copy record. -/
  | setLsa (ld : Fin 16) (offset : Nat) (data : Bytes)
  /-- GET_HEALTH_INFO (R461). Standard CXL command that reports media status, life used, temperature and dirty shutdown count. -/
  | getHealthInfo (ld : Fin 16)
  /-- GET_ALERT_CONFIGURATION (R452). Standard CXL command that returns the alert configuration. -/
  | getAlertConfiguration (ld : Fin 16)
  /-- SET_ALERT_CONFIGURATION (R452). Standard CXL command that sets the alert configuration. -/
  | setAlertConfiguration (ld : Fin 16) (settings : Bytes)
  /-- GET_SHUTDOWN_STATE (R460). Standard CXL command that returns the stored shutdown state of a logical device. -/
  | getShutdownState (ld : Fin 16)
  /-- SET_SHUTDOWN_STATE (R460). Standard CXL command that stores a shutdown state per logical device. -/
  | setShutdownState (ld : Fin 16) (dirty : Bool)
  /-- GET_POISON_LIST (R454). Standard CXL command that returns a logical device's poison list. -/
  | getPoisonList (ld : Fin 16) (start length : Nat)
  /-- CLEAR_POISON (R107). Standard CXL command that clears the poison of a line as a write. -/
  | clearPoison (ld : Fin 16) (lpa : Nat) (data : Bytes)
  /-- INJECT_POISON (R452). Standard CXL command that injects poison while INJECT_EN is 1. -/
  | injectPoison (ld : Fin 16) (lpa : Nat)
  /-- SCAN_MEDIA (R453). Standard CXL command that reads an LPA range at scrub class and handles uncorrectable lines. -/
  | scanMedia (ld : Fin 16) (lpa length : Nat) (uncorrectable : List Nat)
  /-- GET_SCAN_MEDIA_RESULTS (R452). Standard CXL command that returns the results of a scan. -/
  | getScanMediaResults (ld : Fin 16)
  /-- GET_EVENT_RECORDS (R459). Standard CXL command that returns records of a CXL event log. -/
  | getEventRecords (ld : Fin 16) (log : Fin 5)
  /-- CLEAR_EVENT_RECORDS (R717). Standard CXL command that clears records of the CXL event logs only. -/
  | clearEventRecords (ld : Fin 16) (log : Fin 5) (all : Bool) (handles : List (BitVec 16))
  /-- GET_EVENT_INTERRUPT_POLICY (R457). Standard CXL command that returns the event interrupt policy. -/
  | getEventInterruptPolicy (ld : Fin 16)
  /-- SET_EVENT_INTERRUPT_POLICY (R457). Standard CXL command that accepts only MSI-X with the fixed vectors. -/
  | setEventInterruptPolicy (ld : Fin 16) (policy : Bytes)
  /-- GET_DYNAMIC_CAPACITY_CONFIG (R452). Standard CXL command that returns the dynamic capacity configuration. -/
  | getDynamicCapacityConfig (ld : Fin 16)
  /-- GET_DYNAMIC_CAPACITY_EXTENT_LIST (R452). Standard CXL command that returns the dynamic capacity extent list. -/
  | getDynamicCapacityExtentList (ld : Fin 16)
  /-- ADD_DYNAMIC_CAPACITY_RESPONSE (R443). Host response that accepts or rejects offered extents, which become MAPPED or revert. -/
  | addDynamicCapacityResponse (ld : Fin 16) (accepted : List Nat)
  /-- RELEASE_DYNAMIC_CAPACITY (R447). Host command that releases dynamic capacity extents, which become HELD or SANITIZING. -/
  | releaseDynamicCapacity (ld : Fin 16) (lpas : List Nat)
  /-- INITIATE_DYNAMIC_CAPACITY_ADD (R442). FM API command through the owner head's FM-owned LD, with the effect of REGION_DC_ADD. -/
  | initiateDynamicCapacityAdd (h : Hdr)
  /-- INITIATE_DYNAMIC_CAPACITY_RELEASE (R446). FM API command through the owner head's FM-owned LD, with the effect of REGION_DC_RELEASE. -/
  | initiateDynamicCapacityRelease (h : Hdr)
  /-- UNSUPPORTED_CXL_COMMAND (R452). A standard CXL command that is not listed returns Unsupported. -/
  | unsupportedCxlCommand (ld : Fin 16) (opcode : BitVec 16)
  /-- DC_WAIT_EXPIRED (R443). DC_WAIT_S elapses without a host answer, so offered extents revert or a release completes ABORTED or is forced. -/
  | dcWaitExpired (ld : Fin 16)
  /-- TRN_START (R409). TRN_CTL operation that starts a training session on one channel. -/
  | trnStart (req : Req) (ch : Fin 8)
  /-- TRN_COMMIT (R414). TRN_CTL operation that verifies the trial bank and copies it to the verified bank. -/
  | trnCommit (req : Req) (verified : Bool)
  /-- TRN_ABORT (R419). TRN_CTL operation that ends a session and restores the verified delays. -/
  | trnAbort (req : Req)
  /-- TRN_STORE (R416). TRN_CTL operation that writes the verified banks as a delay set into the Keeper store. -/
  | trnStore (req : Req)
  /-- NEXT_BIN_WRITE (R418). A write of TRN_CFG.NEXT_BIN, refused while training data are gathered. -/
  | nextBinWrite (req : Req) (bin : BitVec 4)
  /-- TRAINING_SLICE (R410). The TRN takes a channel for up to 20 µs, borrows a row, trains and writes it back. -/
  | trainingSlice (delays : List (Nat × BitVec 16)) (eyes : List (Nat × Nat)) (uncorrectable : List Nat) (complete : Bool)
  /-- DMA_START (R698). DMA_CHn_CTL operation that fetches the first descriptor and enters RUNNING. -/
  | dmaStart (req : Req) (ch : Fin 16)
  /-- DMA_PAUSE (R698). DMA_CHn_CTL operation that pauses a channel after its current burst. -/
  | dmaPause (req : Req) (ch : Fin 16)
  /-- DMA_RESUME (R698). DMA_CHn_CTL operation that resumes a paused channel, or finishes the held descriptor of a FOG_PAUSED one. -/
  | dmaResume (req : Req) (ch : Fin 16)
  /-- DMA_DRAIN (R698). DMA_CHn_CTL operation that completes the current descriptor and then enters DRAINED. -/
  | dmaDrain (req : Req) (ch : Fin 16)
  /-- DMA_HALT (R698). DMA_CHn_CTL operation that halts a channel after its current burst. -/
  | dmaHalt (req : Req) (ch : Fin 16)
  /-- DMA_SWREQ (R689). A write that sets software request lines of the DMA engine. -/
  | dmaSwreq (req : Req) (lines : BitVec 32)
  /-- DMA_BURST_DONE (R687). A burst's reads and writes complete; the channel completes its descriptor, fetches NEXT or takes the next burst. -/
  | dmaBurstDone (ch : Fin 16)
  /-- DMA_BEAT_TIMEOUT (R694). A beat that has waited 100 µs for its target ends the burst with a TIMEOUT error. -/
  | dmaBeatTimeout (ch : Fin 16) (write : Bool) (addr : Nat)
  /-- EVR_CURSOR_OLDEST (R724). EVR_CUR_CTL operation that sets the cursor to the lowest number in its area. -/
  | evrCursorOldest (req : Req)
  /-- EVR_CURSOR_ADVANCE (R724). EVR_CUR_CTL operation that moves the cursor past the last captured valid record. -/
  | evrCursorAdvance (req : Req)
  /-- EVR_CURSOR_SEEK (R724). EVR_CUR_CTL operation that sets the cursor to the value in EVR_CUR_SEQ. -/
  | evrCursorSeek (req : Req)
  /-- EVR_AREA_SELECT (R724). A write that changes EVR_CUR_CTL.AREA and acts as OLDEST. -/
  | evrAreaSelect (req : Req) (area : BitVec 2)
  /-- EVR_WIN0_READ (R723). A read of EVR_WIN0 that captures 8 records for the requester. -/
  | evrWin0Read (req : Req)
  /-- EPOCH_LO_CAPTURE_READ (R78). A read of an _LO register that captures the 48-bit value for the requester's next _HI read. -/
  | epochLoCaptureRead (req : Req) (off : BitVec 32)
  /-- DRP_SS_DIRTY_READ (R156). A read of DRP_SS_DIRTY that captures the four save-set counters for the requester. -/
  | drpSsDirtyRead (req : Req)
  /-- RC_REGISTER_READ (R10). A read of an RC field that returns the value and clears the field where entitled. -/
  | rcRegisterRead (req : Req) (off : BitVec 32) (size : Fin 5)
  /-- RGN_FAULT_READ (R468). A read of RGN_FAULT that clears KIND and re-arms the fault latch. -/
  | rgnFaultRead (req : Req)
  /-- CPX_VIOL_INFO_READ (R545). A read of CPX_VIOL_INFO that clears VALID and re-arms the denial latch. -/
  | cpxViolInfoRead (req : Req)
  /-- ADC_RESULT_READ (R674). A read of ADC_RESULT that removes and returns the oldest queued result. -/
  | adcResultRead (req : Req)
  /-- ADC_URG_RES_READ (R680). A read of ADC_URG_RES that clears VALID. -/
  | adcUrgResRead (req : Req)
  /-- ADC_URG (R670). A write of ADC_URG with GO that requests an urgent conversion. -/
  | adcUrg (req : Req) (value : Word)
  /-- ADC_CONVERSION_DONE (R675). A conversion slot ends; its result is tagged, written to ADC_LAST or the queue and fed to the rail compare. -/
  | adcConversionDone (conv : Bool) (code : BitVec 12) (ovr : Bool)
  /-- URGENT_CONVERSION_DONE (R672). An urgent conversion ends and its result goes to ADC_URG_RES and the queue. -/
  | urgentConversionDone (conv : Bool) (code : BitVec 12) (ovr : Bool)
  /-- LANTERN_ADC_CYCLE (R678). Every 60 s while OFF the Lantern domain converts PACK_ID, PACK_NTC, PACK_V and VSUP. -/
  | lanternAdcCycle (packId packNtc packV vsup : BitVec 12)
  /-- TWI_RXDATA_READ (R753). A read of TWI_RXDATA that removes the oldest received byte. -/
  | twiRxdataRead (req : Req) (port : Fin 3)
  /-- TWI_TXDATA_WRITE (R753). A write of TWI_TXDATA that appends a byte to the transmit FIFO. -/
  | twiTxdataWrite (req : Req) (port : Fin 3) (byte : Byte)
  /-- TWI_XFER (R742). A write of TWI_XFER with GO that starts a TWI-D transaction. -/
  | twiXfer (req : Req) (port : Fin 3) (value : Word)
  /-- TWI_TRANSACTION_DONE (R742). A TWI-D transaction ends with DONE, a NACK or BUS_ERROR. -/
  | twiTransactionDone (port : Fin 3) (result : TwiEnd) (data : Bytes)
  /-- TWI_TARGET_TIMEOUT (R742). A target holding SCL low for 25 ms ends the transaction with TIMEOUT. -/
  | twiTargetTimeout (port : Fin 3)
  /-- BUS_RECOVERY (R744). A port clocks SCL up to 9 times to free SDA, or disables itself and retries every 1 s. -/
  | busRecovery (port : Fin 3) (freed : Bool)
  /-- RELOCATE (R339). NFC_GC_REQ operation that copies a block's referenced page records to a GC block. -/
  | relocate (req : Req) (block : BitVec 27)
  /-- ERASE (R340). NFC_GC_REQ operation that journals and erases a RELEASED block. -/
  | erase (req : Req) (block : BitVec 27)
  /-- DOMAIN_POWER_UP (R614). CLK_DOM_REQ operation that powers a domain up. -/
  | domainPowerUp (req : Req) (domain : BitVec 4)
  /-- DOMAIN_POWER_DOWN (R616). CLK_DOM_REQ operation that powers a domain down after pausing DMA channels. -/
  | domainPowerDown (req : Req) (domain : BitVec 4)
  /-- DOMAIN_DMA_WAIT_TIMEOUT (R616). DMA channels still running 1 ms into a domain power-down halt with DOMAIN_OFF. -/
  | domainDmaWaitTimeout (domain : BitVec 4)
  /-- CPX_WDT_KICK (R545). A write of CPX_WDT_KICK that restarts the firmware watchdog. -/
  | cpxWdtKick (req : Req) (value : Word)
  /-- HIF_HEAD_CTO_WRITE (R463). A head declares its completion timeout; a value below 4 ms sets SHORT. -/
  | hifHeadCtoWrite (req : Req) (h : Fin 4) (value : Word)
  /-- KST_VMODE_ECC_WRITE (R581). A write of KST_VMODE or KST_ECC that makes the Keeper write the protection record. -/
  | kstVmodeEccWrite (req : Req) (ecc : Bool) (value : Word)
  /-- PWR_CFG_WRITE (R618). A write of PWR_CFG or PWR_VIN.WARN_MV that the Keeper stores in the power configuration record. -/
  | pwrCfgWrite (req : Req) (vin : Bool) (value : Word)
  /-- REGISTER_WRITE (R14). A write to a register without its own row, applied per field under entitlement, access type and change class. -/
  | registerWrite (req : Req) (off : BitVec 32) (size : Fin 5) (value : Word)
  /-- APP_CORE_ACCESS (R534). An application core access that the fence grants or denies. -/
  | appCoreAccess (core : Fin 4) (kind : AccessKind) (addr : BitVec 44) (size : Fin 5) (value : Word)
  /-- HOST_WRITE (R57). A CXL.mem write is translated, classified against granule state and admitted, then completed. -/
  | hostWrite (h : Fin 4) (ld : Fin 16) (lpa : Nat) (data : Bytes) (poison : Bool)
  /-- HOST_READ (R265). A CXL.mem read is translated and served from DRAM or waits for a demand fault-in. -/
  | hostRead (h : Fin 4) (ld : Fin 16) (lpa : Nat) (found : LineRead)
  /-- WAITING_WRITE_ADMITTED (R134). A waiting new-page write is admitted as S falls or a token arrives. -/
  | waitingWriteAdmitted
  /-- ADMISSION_TIMEOUT (R136). A new-page write still waiting 2 ms after receipt is admitted within the budget or as an overrun. -/
  | admissionTimeout
  /-- ARMING (R86). The Keeper sets PERSIST_ARMED automatically once the conditions of R85 hold. -/
  | arming
  /-- COPY_BEFORE_WRITE_DONE (R177). A Carafe copy of an owed page completes and the waiting host write is performed. -/
  | copyBeforeWriteDone (page : Nat) (errors : LineErrors)
  /-- DIRECT_PERSIST_DONE (R179). A direct persist of an owed page passes and the waiting host write is performed. -/
  | directPersistDone (page : Nat) (fa : Nat) (errors : LineErrors)
  /-- CARAFE_WAIT_EXPIRED (R180). A write has waited CARAFE_WAIT for a slot or direct persist, so the sealing epoch is abandoned. -/
  | carafeWaitExpired
  /-- TRACK_UE (R113). An uncorrectable tracking SRAM word abandons the sealing epoch and marks its granules dirty. -/
  | trackUe (word : Nat)
  /-- MASK_UE (R113). An uncorrectable side-table line sets the masks of its marked granules to all ones. -/
  | maskUe (line : Nat)
  /-- DRIP_PAGE_READ (R118). Drip clears a page's bit and issues its DRAM read and program as one step. -/
  | dripPageRead (fa : Nat) (errors : LineErrors)
  /-- DRIP_PROGRAM_PASS (R117). A Drip page program passes, the page is persisted and its granule state and counters change. -/
  | dripProgramPass (page : Nat)
  /-- DRIP_PROGRAM_FAIL (R144). A Drip page program fails and is repeated from the buffer on another block. -/
  | dripProgramFail (page : Nat) (fa : Nat)
  /-- WEAR_CREDIT_WRITE (R150). Every 10 min the Keeper writes the wear credit into the learned values record. -/
  | wearCreditWrite
  /-- BOUNDARY_DUE (R166). PERIOD_MS after the previous boundary a local boundary falls due, or is deferred. -/
  | boundaryDue
  /-- BEACON_FRAME (R188). A BEACON frame is received and judged for lock, acceptance or renumbering. -/
  | beaconFrame (number : BitVec 48) (crc : BitVec 8) (valid : Bool) (inWindow : Bool)
  /-- BEACON_WINDOW_MISS (R190). The capture window closes without an accepted frame, renumbering the open epoch and possibly ending lock. -/
  | beaconWindowMiss
  /-- BEACON_SOURCE_FRAME (R193). A sled in SOURCE timing emits its own frame every PERIOD_MS. -/
  | beaconSourceFrame
  /-- BEACON_ACCEPTED_BOUNDARY (R186). DELAY after an accepted frame's frame time its boundary falls. -/
  | beaconAcceptedBoundary
  /-- SEAL_RECORD_PASSED (R169). The seal record of the sealing epoch passes its program. -/
  | sealRecordPassed
  /-- INDEX_SEGMENT_PASSED (R169). The index segment of a sealing epoch passes and its commit record is queued. -/
  | indexSegmentPassed
  /-- EPOCH_DURABLE (R170). A commit record passes, GLB_DUR_EPOCH is set, releases, barrier completions and deferred boundaries follow. -/
  | epochDurable
  /-- RING_RECORD_PROGRAM_FAIL (R171). A seal, index or commit record program fails and is programmed again on another block. -/
  | ringRecordProgramFail (fa : Nat)
  /-- SANITIZE_FILL_PAGE (R449). The RGN writes zeros to a page of a SANITIZING extent in the Free band. -/
  | sanitizeFillPage (ext : Nat)
  /-- VIN_MAIN_FALL (R600). VIN_MAIN falls below its warning level and the 20 µs count starts, or a short dip is counted. -/
  | vinMainFall (shortDip : Bool)
  /-- VIN_LOSS_DETECTED (R600). VIN_MAIN has stayed below its warning level for 20 µs, raising the VIN_LOSS source. -/
  | vinLossDetected
  /-- GPF_PHASE1 (R206). GPF phase 1 from a head, answered at once and raising Foghorn when GPF_SRC names it. -/
  | gpfPhase1 (h : Fin 4)
  /-- GPF_PHASE2 (R98). GPF phase 2 from a head completes once its accepted writes complete; the last one may place the cut. -/
  | gpfPhase2 (h : Fin 4)
  /-- GRACE_EXPIRED (R65). tGRACE after t_F elapses and the cut falls. -/
  | graceExpired
  /-- CUTTING_END (R216). Accepted writes, copies and issued fault-ins have completed and the device enters SAVING. -/
  | cuttingEnd
  /-- SAVE_PROGRAM_PASS (R219). A SAV program passes and SAV issues the next programs of its steps. -/
  | saveProgramPass (item : SaveItem) (fa : Nat) (errors : LineErrors)
  /-- SAVE_PROGRAM_FAIL (R233). A SAV program fails, its block retires and the data are programmed on another reserve block. -/
  | saveProgramFail (item : SaveItem) (program : FailedProgram)
  /-- CUT_COMMIT_PASSED (R242). The cut commit record passes, the device enters SAVED, ranks self-refresh and SAV_LAST is set. -/
  | cutCommitPassed
  /-- VIN_VALID_QUALIFIED (R243). VIN_MAIN has been valid for 50 ms in SAVED and the device enters RESUMING. -/
  | vinValidQualified
  /-- RESUME_TIMEOUT (R248). No link has retrained 100 ms after a latched Foghorn in RESUMING, so the timed shutdown runs. -/
  | resumeTimeout
  /-- RAIL_PG_LOW (R590). RAILn_PG low for 2 µs while enabled counts as beyond the fault level. -/
  | railPgLow (rail : Fin 16)
  /-- TIMED_SHUTDOWN_STEP (R603). The sequencer disables one rank and moves on once its rails are off or 20 ms have passed, plus the step delay. -/
  | timedShutdownStep (before after : List (Fin 16 × Nat))
  /-- PBTN_PRESS (R608). PBTN held 50 ms makes a power-on request when OFF, or is recorded otherwise. -/
  | pbtnPress
  /-- PBTN_OFF (R608). PBTN held 8 s from its leading edge raises the PBTN_OFF Foghorn source. -/
  | pbtnOff
  /-- WAKE_REQUEST (R592). WAKE_N held low for 1 ms makes a power-on request. -/
  | wakeRequest
  /-- AUTO_POWER_ON (R592). With VIN_MAIN valid, AUTO_ON set and the latch clear, 200 ms after OFF the device requests power-on. -/
  | autoPowerOn
  /-- POWERUP_RETRY (R597). One second after a failed power-up the sequencer makes a retry request. -/
  | powerupRetry
  /-- POWERUP_RANK_STEP (R596). A rank's rails reach power good and warning level, and after the step delay the next rank is enabled. -/
  | powerupRankStep
  /-- POWERUP_TIMEOUT (R597). A rail misses its power-good condition within UP_TMO_MS, failing the power-up. -/
  | powerupTimeout (rail : Fin 16)
  /-- KEEPER_BOOT_START (R516). At t_P the mask ROM verifies and starts a Keeper slot, which sets KEEPER_UP. -/
  | keeperBootStart (disagree : List (Fin 8)) (refused : List SourceRefused) (flash : FlashFound)
  /-- MRST_N (R610). A manual reset edge restarts the ROM or the Keeper depending on the moment, or is ignored. -/
  | mrstN
  /-- VSUP_LEVEL_CROSSING (R586). VSUP crosses 4.5 V, 4.3 V or 18.5 V and the matching effect applies. -/
  | vsupLevelCrossing (mv : Nat)
  /-- LANTERN_RESET (R586). VSUP below 4.0 V for 5 µs drops every rail enable at once and loses the Lantern registers. -/
  | lanternReset
  /-- PLL_UNLOCK (R613). A PLL loses lock and the blocks it clocks react by PLL. -/
  | pllUnlock (pll : Fin 9)
  /-- REF_LOST (R612). REF25_CLK absent for 1 µs sets REF_LOST and every 25 MHz PLL loses lock. -/
  | refLost
  /-- PLL_LOCKED (R35). A PLL achieves lock and its waiting blocks leave reset. -/
  | pllLocked (pll : Fin 9)
  /-- DIE_OVER_TEMPERATURE (R764). The die exceeds 110 °C for 10 ms and the device shuts down or raises Foghorn by state. -/
  | dieOverTemperature
  /-- RSV_SAMPLE (R625). Every 10 ms the RSV block samples the pack and updates presence detection. -/
  | rsvSample (mv : Nat) (ma : Int) (tenthC : Int) (idCode : Nat)
  /-- KEEPER_RESERVE_EVAL (R648). Every 1 s the Keeper recomputes the voltage-table figure, rechecks the accepted figure and updates u_K. -/
  | keeperReserveEval
  /-- DSG_CUTOFF (R630). PACK_V below V_CUT for 1 ms opens the discharge switches. -/
  | dsgCutoff
  /-- CHARGE_END (R632). Current at or below I_TAPER for TAPER_S in CV ends charging. -/
  | chargeEnd
  /-- RECHARGE_START (R633). PACK_V below V_RECHG for 60 s, or 30 days since DONE, restarts charging. -/
  | rechargeStart
  /-- CHG_FAULT (R634). An over-voltage, over-current, timeout or uncontrolled charge puts the charger in FAULT. -/
  | chgFault (cause : Fin 5)
  /-- CHG_FAULT_RETRY (R634). One hour after a retryable charger fault, charging is tried again. -/
  | chgFaultRetry
  /-- REST_POINT (R636). Rest conditions have held 30 min, RESTED_MV is taken and the rest clock resets. -/
  | restPoint (mv : Nat)
  /-- MAINTENANCE_REST_TIMEOUT (R641). A maintenance rest reaches 2 h without a rest point and ends with TIMEOUT. -/
  | maintenanceRestTimeout
  /-- STEP_RESISTANCE_SAMPLE (R649). After a charge current step the Keeper takes a step resistance and moves R_STEP25. -/
  | stepResistanceSample (r25 : Nat)
  /-- IMAGE_INDEXED (R258). Judging of the images ends, GLB_IMAGE and SAV_LAST are written and the select window opens or the device moves on. -/
  | imageIndexed (keyOk : Bool) (reads : List CodewordRead) (badCrc foreign : List Nat)
  /-- SELECT_WAIT_EXPIRED (R80). The select wait elapses and the RESTORE_SELECT window closes. -/
  | selectWaitExpired
  /-- DIRECTORY_LOADED (R262). The extent directory of the chosen image is loaded and the sweep starts. -/
  | directoryLoaded
  /-- SWEEP_PAGE_DONE (R270). A sweep page is restored to DRAM and its bit set; extents become ready in turn. -/
  | sweepPageDone (uncorrectable : Bool) (retries : Nat) (shown : PageShown)
  /-- ZERO_FILL_PAGE (R274). The RSE fills a page with zeros for SOURCE NONE or after LOSS_ACCEPT. -/
  | zeroFillPage
  /-- FAULT_IN_DONE (R275). A demand fault-in reads, corrects, decrypts and writes a page, then releases the waiting requests. -/
  | faultInDone (page : Nat) (uncorrectable : Bool) (retries : Nat) (shown : PageShown)
  /-- DRAM_RECOVERY_DONE (R382). The RSE rewrites the uncorrectable lines of a persisted page from its record and the waiting requests proceed. -/
  | dramRecoveryDone (page : Nat) (uncorrectable : Bool) (retries corrected : Nat)
  /-- DRAM_ALERT (R380). A write CRC or parity alert makes the DMC replay, up to an uncorrectable command error. -/
  | dramAlert (ch : Fin 8) (replays : Nat) (rank : Fin 8) (lost : List Nat)
  /-- MIGRATION_UNIT_DONE (R386). A 4 KiB unit is copied to the spare and W advances; at full capacity the spare replaces the rank. -/
  | migrationUnitDone (ch : Fin 8) (errors : LineErrors)
  /-- REFRESH_DUE (R368). The refresh interval elapses and the DMC refreshes a rank unless postponed under panic. -/
  | refreshDue (ch : Fin 8) (rank : Fin 8) (bank : Fin 4) (feeds : List (Fin 32 × Fin 9))
  /-- MR4_POLL (R368). Every 1 ms the DMC reads DRAM mode register 4 to set the refresh rate. -/
  | mr4Poll (ch : Fin 8) (above1x : Bool)
  /-- ROW_DISTURB_THROTTLE (R371). A bank's activate count reaches ACT_THR, the offender is throttled and a refresh management command issued. -/
  | rowDisturbThrottle (ch : Fin 8) (id : Fin 22) (rank : Fin 8) (bank : Fin 32)
  /-- THROTTLE_END (R373). A throttle ends once 100 µs have passed and the bank count is below half of ACT_THR. -/
  | throttleEnd (ch : Fin 8) (id : Fin 22)
  /-- POWER_DOWN_TIMER (R375). A rank idle for PD_TIMER enters precharge power-down. -/
  | powerDownTimer (ch : Fin 8) (rank : Fin 8)
  /-- TIMED_ROW_CLOSE (R365). A TIMED row idle for IDLE_NS is precharged. -/
  | timedRowClose (ch : Fin 8)
  /-- SCRUB_PERIOD_END (R395). A scrub period ends; an unfinished pass sets LATE and the next pass starts. -/
  | scrubPeriodEnd (ch : Fin 8)
  /-- ERASE_INTENT_PASSED (R317). The INTENT record of an erase passes and the NFC issues the erase. -/
  | eraseIntentPassed (block : BitVec 27)
  /-- ERASE_DONE (R319). An erase ends, the block is blank-checked and the DONE entry programmed or the erase repeated. -/
  | eraseDone (block : BitVec 27) (result : EraseEnd)
  /-- RELOCATION_COPY_DONE (R339). A relocated PAGE copy passes and its FA is reported to the Keeper. -/
  | relocationCopyDone (block : BitVec 27) (fa : Nat) (read : CopyRead)
  /-- FLASH_TEMP_POLL (R345). Every 10 ms the NFC reads die temperatures, applying Drip and save throttles. -/
  | flashTempPoll (ch : Fin 32) (temps : List (Fin 64 × Int))
  /-- RECORD_WRITE_DONE (R568). A two-copy Keeper store record write completes its last page and the registers take its values. -/
  | recordWriteDone (rec : Nat) (ok : Bool)
  /-- KST_ERASE_DONE (R559). A Keeper store sector erase passes its blank check and the DONE entry is journaled. -/
  | kstEraseDone (sector : Nat) (blank : Bool)
  /-- LINK_UP (R426). A head trains to L0 and enables CXL.io or CXL.mem by width, rate and flit mode. -/
  | linkUp (h : Fin 4) (width gts : Nat) (flit256 : Bool)
  /-- LINK_DOWN (R427). A head's link goes down, its waiting requests are discarded and completions dropped. -/
  | linkDown (h : Fin 4)
  /-- CONFIG_SPACE_READY (R522). A head's configuration space becomes ready after L0, which may trigger CMD_BOOT. -/
  | configSpaceReady (h : Fin 4)
  /-- CXL_MEM_ENABLE (R523). A host sets CXL.mem enable on a logical device and LINKn_UP follows. -/
  | cxlMemEnable (ld : Fin 16) (on : Bool)
  /-- PORT_RESET (R525). Conventional reset, hot reset, link disable or PERST act as a link loss. -/
  | portReset (port : Fin 2) (kind : PortReset)
  /-- FUNCTION_LEVEL_RESET (R525). An FLR discards a logical device's held requests and its mailbox command. -/
  | functionLevelReset (ld : Fin 16)
  /-- TWIU_BLOCK_WRITE_FIRST (R732). TWI-U code 0x20 carries the first fragment of a command packet. -/
  | twiuBlockWriteFirst (data : Bytes) (pecOk : Bool)
  /-- TWIU_BLOCK_WRITE_NEXT (R732). TWI-U code 0x21 carries the next fragment; a complete packet passes to CMD. -/
  | twiuBlockWriteNext (data : Bytes) (pecOk : Bool)
  /-- TWIU_RAW_WRITE (R734). TWI-U code 0x30 places raw bytes in the receive FIFO. -/
  | twiuRawWrite (data : Bytes)
  /-- HOST_NOTIFY (R735). After 50 µs of bus idle TWI-U sends a pending host notify as controller. -/
  | hostNotify (acked : Bool) (collision : Bool)
  /-- HOST_NOTIFY_NACK_RETRY (R736). A host notify NACKed by the BMC is retried after 10 ms. -/
  | hostNotifyNackRetry (acked : Bool)
  /-- CHAIN_FRAME (R747). A chain frame is received, acknowledged or refused, and executed, relayed or matched under the hop rules. -/
  | chainFrame (down : Bool) (packet : Bytes) (crcOk : Bool)
  /-- CHAIN_ACK_TIMEOUT (R747). A chain frame without an answer for 1 ms is repeated, then dropped after 3 repeats. -/
  | chainAckTimeout (down : Bool)
  /-- CHAIN_LINK_UP (R746). A chain port reaches 1 ms of symbol lock. -/
  | chainLinkUp (down : Bool)
  /-- CHAIN_LINK_DOWN (R746). A chain port sees no valid symbols for 100 µs and discards a partial frame. -/
  | chainLinkDown (down : Bool)
  /-- KEEPER_RESTART_END (R540). A Keeper restart ends within 5 ms with its checks passed, deferred Keeper work and events resume, or a failed check leads to R541. -/
  | keeperRestartEnd (ok : Bool)
  /-- PATROL_SCRUB_READ (R394). The DMC completes a patrol-scrub read of a line, writing back correctable errors and handling uncorrectable ones under R381. -/
  | patrolScrubRead (ch : Fin 8) (correctable uncorrectable : Bool)
  /-- FAILED_UNIT_RESTART (R53). The Keeper restarts or retires a unit in FAILED, such as an NFC channel, releasing or poisoning the waiting work. -/
  | failedUnitRestart (unit : Nat) (retire : Bool)
  /-- MALFORMED_COMMAND_PACKET (R479). A command packet with an undefined opcode, a short or inconsistent length arrives and is refused with BAD_OPCODE, BAD_LENGTH or Invalid Payload Length. -/
  | malformedCommandPacket (port : Port) (packet : Bytes)
  /-- CMD_BOOT_SET (R524). CMD_BOOT is set within 10 ms of its trigger and the boot subset is accepted. -/
  | cmdBootSet
  /-- FW_READY_SIGNAL (R528). Runtime firmware signals ready and the Keeper sets FW_RUN and may raise the floor. -/
  | fwReadySignal
  /-- FW_READY_TIMEOUT (R528). No ready signal 2 s after release stops the firmware with cause WATCHDOG. -/
  | fwReadyTimeout
  /-- FW_WATCHDOG_EXPIRED (R530). CPX_WDT_KICK not written for WDT_MS stops the firmware. -/
  | fwWatchdogExpired
  /-- FW_CRASH (R530). A fatal exception, lock-up or SRAM error stops the firmware with cause CRASH. -/
  | fwCrash
  /-- PD_APP_IDLE_TIMEOUT (R615). FW_RUN has been 0 for 60 s and the Keeper powers PD_APP down. -/
  | pdAppIdleTimeout
  /-- KEEPER_LOCKSTEP (R539). A lockstep mismatch or SRAM error restarts the Keeper with integrity checks. -/
  | keeperLockstep
  /-- TWIU_REPLY_READ (R731). TWI-U code 0x22 reads the reply from its first byte. -/
  | twiuReplyRead
  /-- TWIU_REPLY_READ_NEXT (R731). TWI-U code 0x23 reads the next bytes of the reply. -/
  | twiuReplyReadNext
  /-- TWIU_STATUS_READ (R731). TWI-U code 0x24 returns the port status byte. -/
  | twiuStatusRead
  /-- TWIU_RAW_READ (R734). TWI-U code 0x31 reads raw bytes from the transmit FIFO. -/
  | twiuRawRead
  /-- TWIU_START_ABORT (R737). A START or STOP mid-byte discards the partial packet on TWI-U. -/
  | twiuStartAbort
  /-- TWIU_SCL_TIMEOUT (R738). SCL low for 30 ms releases TWI-U and discards the packet. -/
  | twiuSclTimeout
  /-- TWIU_SDA_STUCK (R739). SDA low with SCL high for 35 ms starts bus recovery of TWI-U. -/
  | twiuSdaStuck
  /-- VIN_MAIN_RETURN (R602). VIN_MAIN rises back above its warning level, becomes valid and starts the 50 ms qualification of R243. -/
  | vinMainReturn
  /-- SIDEBAND_UP (R524). The sideband ports finish starting, GLB_READY.SIDEBAND_UP is set within 50 ms of KEEPER_UP and may trigger CMD_BOOT. -/
  | sidebandUp
  deriving DecidableEq, Repr

end Sys2Proof
end

