-- ==== Sys2Proof/Config.lean ====
section
/-! DEFINITION. What one part fixes (silicon, fuses, straps) and the values the manual leaves open, as free
constants without a body: nothing can be proved about the value of one. -/

namespace Sys2Proof.Config

/-- FREE VALUE (log entry 1). The `n`-th value the machine takes where the manual states no value: a measured
time, a time since power-up, a value that an analogue or cryptographic step leaves open. -/
opaque freeValue : Nat → Nat

/-- Silicon revision, REV_MAJOR (R43). -/
opaque revMajor : BitVec 4
/-- Silicon revision, REV_MINOR (R43). -/
opaque revMinor : BitVec 4
/-- The part is fused as the faster grade XB, not CB (R1). -/
opaque fusedXB : Bool
/-- Fused speed grade, GLB_ID.GRADE: 0x0 CB or 0x1 XB (R1, R43). -/
def grade : BitVec 4 := if fusedXB then 1 else 0
/-- The PWRON_AUTO strap (R595). -/
opaque autoOnStrap : Bool
/-- The ADDR_SEL straps of TWI-U (R730). -/
opaque addrSel : BitVec 3
/-- Device unique identity, 16 bytes, least significant byte first (R495). -/
opaque uniqueId : BitVec 128
/-- UUID of the vendor-specific event records (R459, R495). -/
opaque vendorUuid : BitVec 128

/-- FREE VALUE. The SHA-384 digest of a byte string (R526, R574): the manual names the function and states none of its values. -/
opaque sha384 : Bytes → Bytes
/-- FREE VALUE. Whether a signature verifies over a digest (R526, R574). -/
opaque signatureOk : (signature : Bytes) → (digest : Bytes) → Bool

/-- FREE VALUE (log entry 106). The image key of a generation (R310), which the Keeper generates and nothing shows. -/
opaque imageKey : (generation : Nat) → BitVec 512
/-- FREE VALUE (log entry 106). AES-256-XTS encryption of a data unit under a key and a tweak (R309): the manual names the function and
states none of its values. -/
opaque aesXts : (key : BitVec 512) → (tweak : BitVec 128) → Bytes → Bytes
/-- FREE VALUE (log entry 106). The 96 bytes of LDPC parity of a payload and tag (R304, R307). -/
opaque ldpcParity : Bytes → Bytes
/-- FREE VALUE (log entry 106). The bytes of poisoned lines that R327 leaves undefined, by LSN and byte of the payload. -/
opaque poisonedByte : (lsn byte : Nat) → BitVec 8
/-- FREE VALUE (log entry 106). The payload of a diagnostic codeword (R512), by pattern, seed and slot; all zeros is not taken from here. -/
opaque patternBytes : (pattern seed slot : Nat) → Bytes

/-- The Keeper image that slot A holds as shipped (R567): its bytes are not the manual's. -/
opaque shippedImage : Bytes

/-- What is fitted, as numbers from which the population of R299 is taken: 0 planes per LUN, 1 LUN code, 2 targets on a channel, 3 blocks
per plane, 4 pages in a block, 5 populated channels. -/
opaque flashGeometry : Nat → Nat

/-- The blocks of a LUN that the die's factory marking shows as bad (R343). -/
opaque factoryBad : (lun : Nat) → List Nat

/-- FREE VALUE. The format version in the LUN labels that this device writes (R301). -/
opaque labelVersion : Nat

/-- FREE VALUE (log entry 5). Where the Keeper looks for the blocks of a LUN that it takes into the pre-erased save reserve (R313, R320),
in a power cycle. -/
opaque reserveAt : (cycle lun : Nat) → Nat

/-- The population signature of the fitted modules (R403). -/
opaque populationSignature : Nat
/-- FREE VALUE. The delays of the generic set in mask ROM, by place (R405). -/
opaque genericDelay : (place : Nat) → BitVec 16

/-- The UUID of a CXL DRAM Event Record (R459), and the UUID and the contents of the command effects log (R452), which CXL 3.1 lays
out. -/
opaque dramEventUuid : BitVec 128
opaque celUuid : BitVec 128
opaque celBytes : Bytes

/-- The refreshes of a rank that the DDR5 standard lets a controller postpone (R227, R369). -/
opaque refreshLimit : Nat

/-- The initial and maximum management thresholds that DRAM mode registers 58 and 59 give (R370). -/
opaque raaInitial : Nat
opaque raaMaximum : Nat

/-- FREE VALUE (log entry 40). DMC_RD_CFG.THR_GAP has passed for a throttled requester's request, by the number of requests that have issued
(R372). -/
opaque gapOver : (seq issued : Nat) → Bool

/-- FREE VALUE (log entry 40). The activates of a bank that have left the rolling window of R371 before a request's own. -/
opaque leftWindow : (seq : Nat) → Nat

/-- The fitted DRAM modules as raw numbers, from which the population of R351 is derived (log entry 4): 0 module type, 1 fastest bin, 2
ranks, 3 rank size, 4 stack height. -/
opaque dramGeometry : Nat → Nat

/-- FREE VALUE. The port number of a chain port in the CODE of its events (R706, R746, R754), which the manual does not state. -/
opaque chainPort : (down : Bool) → BitVec 8

/-- FREE VALUE. The code of the direction that an ADC_OVR event carries (R676), above or below the range. -/
opaque overRange : (above : Bool) → BitVec 8

end Sys2Proof.Config
end

