-- ==== Sys2Proof/Machine/Codes.lean ====
section
/-! DEFINITION. The event sources of R719 with their severities, the status codes of R491, the opcodes of chapter 11,
the persistence states of R44 and the other small code tables of the manual. -/

namespace Sys2Proof.Machine

/-- An event source: number, severity code (R718), and whether it is privileged (marked * in R719). -/
structure Source where
  num : Nat
  sev : Nat
  priv : Bool
  deriving DecidableEq, Repr

namespace Ev

/-- Source 0 of R719. -/
def KEEPER_BOOT_SLOT : Source := ⟨0, 1, false⟩
/-- Source 1 of R719. -/
def KEEPER_SLOT_REJECT : Source := ⟨1, 3, true⟩
/-- Source 2 of R719. -/
def KEEPER_RECOVERY : Source := ⟨2, 4, true⟩
/-- Source 3 of R719. -/
def KEEPER_LOCKSTEP : Source := ⟨3, 3, true⟩
/-- Source 4 of R719. -/
def KEEPER_STATE_LOST : Source := ⟨4, 4, true⟩
/-- Source 5 of R719. -/
def FW_START : Source := ⟨5, 1, false⟩
/-- Source 6 of R719. -/
def FW_STOP : Source := ⟨6, 2, false⟩
/-- Source 7 of R719. -/
def FENCE_VIOLATION : Source := ⟨7, 2, false⟩
/-- Source 8 of R719. -/
def ACCESS_DENIED : Source := ⟨8, 2, false⟩
/-- Source 9 of R719. -/
def CFG_LOCKED : Source := ⟨9, 1, false⟩
/-- Source 10 of R719. -/
def READY_CHANGE : Source := ⟨10, 1, false⟩
/-- Source 11 of R719. -/
def UNIT_FAILED : Source := ⟨11, 3, false⟩
/-- Source 12 of R719. -/
def EVR_CLEARED : Source := ⟨12, 2, false⟩
/-- Source 16 of R719. -/
def CMD_INTERNAL : Source := ⟨16, 3, false⟩
/-- Source 17 of R719. -/
def CMD_DENIED : Source := ⟨17, 2, false⟩
/-- Source 18 of R719. -/
def CHAIN_DISCARD : Source := ⟨18, 2, false⟩
/-- Source 19 of R719. -/
def FW_AUTH_FAIL : Source := ⟨19, 2, false⟩
/-- Source 20 of R719. -/
def KST_PASSWORD_FAIL : Source := ⟨20, 2, false⟩
/-- Source 32 of R719. -/
def RAIL_WARN : Source := ⟨32, 2, true⟩
/-- Source 33 of R719. -/
def RAIL_FAULT : Source := ⟨33, 3, true⟩
/-- Source 34 of R719. -/
def RAIL_EARLY : Source := ⟨34, 1, false⟩
/-- Source 35 of R719. -/
def RAIL_STUCK : Source := ⟨35, 2, true⟩
/-- Source 36 of R719. -/
def SHUTDOWN_LOG : Source := ⟨36, 1, true⟩
/-- Source 37 of R719. -/
def PWRUP_FAIL : Source := ⟨37, 3, true⟩
/-- Source 38 of R719. -/
def VSUP_LOW : Source := ⟨38, 2, false⟩
/-- Source 39 of R719. -/
def VSUP_HIGH : Source := ⟨39, 2, false⟩
/-- Source 40 of R719. -/
def PBTN_PRESS : Source := ⟨40, 1, false⟩
/-- Source 41 of R719. -/
def MANUAL_RESET : Source := ⟨41, 2, false⟩
/-- Source 42 of R719. -/
def PLL_UNLOCK : Source := ⟨42, 3, false⟩
/-- Source 43 of R719. -/
def REF_LOST : Source := ⟨43, 3, false⟩
/-- Source 44 of R719. -/
def DOMAIN_HALT : Source := ⟨44, 2, false⟩
/-- Source 64 of R719. -/
def ADC_OVR : Source := ⟨64, 2, false⟩
/-- Source 65 of R719. -/
def ADC_QUEUE_OVF : Source := ⟨65, 2, false⟩
/-- Source 66 of R719. -/
def ADC_RAIL_GAP : Source := ⟨66, 2, false⟩
/-- Source 80 of R719. -/
def PACK_DETECTED : Source := ⟨80, 1, false⟩
/-- Source 81 of R719. -/
def PACK_LOST : Source := ⟨81, 3, true⟩
/-- Source 82 of R719. -/
def RESERVE_LOST : Source := ⟨82, 3, true⟩
/-- Source 83 of R719. -/
def CHG_DONE : Source := ⟨83, 1, false⟩
/-- Source 84 of R719. -/
def CHG_FAULT : Source := ⟨84, 3, true⟩
/-- Source 85 of R719. -/
def REST_POINT : Source := ⟨85, 1, false⟩
/-- Source 86 of R719. -/
def REST_REQUESTED : Source := ⟨86, 2, false⟩
/-- Source 87 of R719. -/
def REST_END : Source := ⟨87, 1, false⟩
/-- Source 88 of R719. -/
def FIGURE_CLAMPED : Source := ⟨88, 1, false⟩
/-- Source 89 of R719. -/
def LEARN_REJECT : Source := ⟨89, 2, false⟩
/-- Source 90 of R719. -/
def LEARN_DEFAULTED : Source := ⟨90, 2, false⟩
/-- Source 96 of R719. -/
def KST_PROG_FAIL : Source := ⟨96, 2, false⟩
/-- Source 97 of R719. -/
def KST_SECTOR_FAIL : Source := ⟨97, 3, false⟩
/-- Source 98 of R719. -/
def KST_ERASE_REDONE : Source := ⟨98, 1, false⟩
/-- Source 99 of R719. -/
def KST_READ_WARN : Source := ⟨99, 2, false⟩
/-- Source 100 of R719. -/
def KST_WRITE_DROPPED : Source := ⟨100, 2, false⟩
/-- Source 101 of R719. -/
def RECORD_DEFAULTED : Source := ⟨101, 2, false⟩
/-- Source 102 of R719. -/
def RECORD_MIGRATED : Source := ⟨102, 1, false⟩
/-- Source 103 of R719. -/
def KEEPER_UPDATE_DONE : Source := ⟨103, 1, true⟩
/-- Source 104 of R719. -/
def KEEPER_UPDATE_COMMIT : Source := ⟨104, 1, true⟩
/-- Source 112 of R719. -/
def DMA_ERROR : Source := ⟨112, 2, false⟩
/-- Source 128 of R719. -/
def TWI_BUS_STUCK : Source := ⟨128, 3, false⟩
/-- Source 129 of R719. -/
def TWI_START_ABORT : Source := ⟨129, 2, false⟩
/-- Source 130 of R719. -/
def TWI_COLLISION : Source := ⟨130, 2, false⟩
/-- Source 131 of R719. -/
def TWI_PEC_ERROR : Source := ⟨131, 2, false⟩
/-- Source 132 of R719. -/
def CHAIN_LINK_DOWN : Source := ⟨132, 2, false⟩
/-- Source 133 of R719. -/
def CHAIN_LINK_UP : Source := ⟨133, 1, false⟩
/-- Source 144 of R719. -/
def LINK_UP : Source := ⟨144, 1, false⟩
/-- Source 145 of R719. -/
def LINK_DOWN : Source := ⟨145, 2, false⟩
/-- Source 146 of R719. -/
def LINK_DEGRADED : Source := ⟨146, 2, false⟩
/-- Source 147 of R719. -/
def OWNER_CHANGED : Source := ⟨147, 1, false⟩
/-- Source 148 of R719. -/
def TRANSLATION_FAULT : Source := ⟨148, 2, false⟩
/-- Source 149 of R719. -/
def DC_ADD : Source := ⟨149, 1, false⟩
/-- Source 150 of R719. -/
def DC_RELEASE : Source := ⟨150, 1, false⟩
/-- Source 151 of R719. -/
def SANITIZE_DONE : Source := ⟨151, 1, false⟩
/-- Source 152 of R719. -/
def POISON_LIST_OVERFLOW : Source := ⟨152, 3, false⟩
/-- Source 153 of R719. -/
def CTO_SHORT : Source := ⟨153, 2, false⟩
/-- Source 160 of R719. -/
def DRAM_POP_MISMATCH : Source := ⟨160, 3, false⟩
/-- Source 161 of R719. -/
def DRAM_UE : Source := ⟨161, 3, false⟩
/-- Source 162 of R719. -/
def DRAM_CMD_ERROR : Source := ⟨162, 3, false⟩
/-- Source 163 of R719. -/
def RANK_RETIRE : Source := ⟨163, 3, false⟩
/-- Source 164 of R719. -/
def MIGRATION_DONE : Source := ⟨164, 1, false⟩
/-- Source 165 of R719. -/
def NO_SPARE : Source := ⟨165, 3, false⟩
/-- Source 166 of R719. -/
def ROW_DISTURB_THROTTLE : Source := ⟨166, 2, false⟩
/-- Source 167 of R719. -/
def SCRUB_LATE : Source := ⟨167, 2, false⟩
/-- Source 168 of R719. -/
def DMC_CHANNEL_FAILED : Source := ⟨168, 4, false⟩
/-- Source 176 of R719. -/
def TRN_BRINGUP : Source := ⟨176, 1, false⟩
/-- Source 177 of R719. -/
def TRN_NO_SET : Source := ⟨177, 3, false⟩
/-- Source 178 of R719. -/
def TRN_ABANDONED : Source := ⟨178, 2, false⟩
/-- Source 179 of R719. -/
def TRN_VERIFY_FAIL : Source := ⟨179, 2, false⟩
/-- Source 180 of R719. -/
def TRN_SET_STORED : Source := ⟨180, 1, false⟩
/-- Source 192 of R719. -/
def TRACK_UE : Source := ⟨192, 3, false⟩
/-- Source 193 of R719. -/
def MASK_UE : Source := ⟨193, 3, false⟩
/-- Source 194 of R719. -/
def EPOCH_ABANDONED : Source := ⟨194, 2, false⟩
/-- Source 195 of R719. -/
def BUDGET_OVER_CAP : Source := ⟨195, 3, false⟩
/-- Source 196 of R719. -/
def ADMISSION_OVERRUN : Source := ⟨196, 2, false⟩
/-- Source 197 of R719. -/
def ADMISSION_STALL : Source := ⟨197, 3, false⟩
/-- Source 198 of R719. -/
def BEACON_LOST : Source := ⟨198, 2, false⟩
/-- Source 208 of R719. -/
def FOGHORN : Source := ⟨208, 2, true⟩
/-- Source 209 of R719. -/
def CUT_DISCARD : Source := ⟨209, 2, true⟩
/-- Source 210 of R719. -/
def SEAL_IN_SAVE : Source := ⟨210, 1, true⟩
/-- Source 211 of R719. -/
def SAVE_DMC_THROTTLE : Source := ⟨211, 2, true⟩
/-- Source 212 of R719. -/
def SAVE_THERMAL : Source := ⟨212, 2, true⟩
/-- Source 213 of R719. -/
def SAVE_NO_SPACE : Source := ⟨213, 4, true⟩
/-- Source 214 of R719. -/
def SAVE_ABORT : Source := ⟨214, 4, true⟩
/-- Source 215 of R719. -/
def SAVE_COMMIT : Source := ⟨215, 1, true⟩
/-- Source 216 of R719. -/
def RESUME_LATCHED : Source := ⟨216, 2, true⟩
/-- Source 217 of R719. -/
def DEVICE_RESUMED : Source := ⟨217, 1, false⟩
/-- Source 224 of R719. -/
def IMAGE_JUDGED : Source := ⟨224, 1, false⟩
/-- Source 225 of R719. -/
def IMAGE_OLDER : Source := ⟨225, 2, false⟩
/-- Source 226 of R719. -/
def CARAFE_SIZE_KEPT : Source := ⟨226, 2, false⟩
/-- Source 227 of R719. -/
def RESTORE_UE : Source := ⟨227, 3, false⟩
/-- Source 228 of R719. -/
def RESTORE_CHANNEL_WAIT : Source := ⟨228, 2, false⟩
/-- Source 229 of R719. -/
def RESTORE_DONE : Source := ⟨229, 1, false⟩
/-- Source 230 of R719. -/
def IMAGE_LOST : Source := ⟨230, 4, false⟩
/-- Source 231 of R719. -/
def LOSS_ACCEPTED : Source := ⟨231, 2, false⟩
/-- Source 240 of R719. -/
def FLASH_POP_MISMATCH : Source := ⟨240, 3, false⟩
/-- Source 241 of R719. -/
def READ_REFRESH : Source := ⟨241, 1, false⟩
/-- Source 242 of R719. -/
def FLASH_UE : Source := ⟨242, 3, false⟩
/-- Source 243 of R719. -/
def NFC_ORDER : Source := ⟨243, 2, false⟩
/-- Source 244 of R719. -/
def BLOCK_RETIRED : Source := ⟨244, 2, false⟩
/-- Source 245 of R719. -/
def ERASE_REDONE : Source := ⟨245, 1, false⟩
/-- Source 246 of R719. -/
def LUN_FOREIGN : Source := ⟨246, 3, false⟩
/-- Source 247 of R719. -/
def KEY_SCRUB : Source := ⟨247, 2, false⟩

end Ev

/-- Status codes of R491. -/
inductive Status where
  | done
  | accepted
  | busy
  | busySaving
  | busyRestoring
  | busyTraining
  | notReady
  | badOpcode
  | badLength
  | badField
  | denied
  | locked
  | versionFloor
  | authFail
  | mediaError
  | notBlank
  | nfcOrder
  | aborted
  | internal
  deriving DecidableEq, Repr

/-- The 16-bit code of a status (R491). -/
def Status.code : Status → Nat
  | .done => 0x0
  | .accepted => 0x1
  | .busy => 0x10
  | .busySaving => 0x11
  | .busyRestoring => 0x12
  | .busyTraining => 0x13
  | .notReady => 0x20
  | .badOpcode => 0x30
  | .badLength => 0x31
  | .badField => 0x32
  | .denied => 0x40
  | .locked => 0x41
  | .versionFloor => 0x50
  | .authFail => 0x51
  | .mediaError => 0x60
  | .notBlank => 0x61
  | .nfcOrder => 0x62
  | .aborted => 0x70
  | .internal => 0xff

/-- The source classes of R489. -/
inductive Src where
  | owner | head | bmc | chain | fw | keeper
  deriving DecidableEq, Repr

/-- The code of a source class (R489). -/
def Src.code : Src → Nat
  | .owner => 1 | .head => 2 | .bmc => 3 | .chain => 4 | .fw => 5 | .keeper => 6

namespace PState

/-- Persistence state OFF as GLB_STATE encodes it (R44). -/
def OFF : Nat := 0
/-- Persistence state KEEPER_BOOT as GLB_STATE encodes it (R44). -/
def KEEPER_BOOT : Nat := 1
/-- Persistence state RESTORING as GLB_STATE encodes it (R44). -/
def RESTORING : Nat := 2
/-- Persistence state UNARMED as GLB_STATE encodes it (R44). -/
def UNARMED : Nat := 3
/-- Persistence state ARMED as GLB_STATE encodes it (R44). -/
def ARMED : Nat := 4
/-- Persistence state CUTTING as GLB_STATE encodes it (R44). -/
def CUTTING : Nat := 5
/-- Persistence state SAVING as GLB_STATE encodes it (R44). -/
def SAVING : Nat := 6
/-- Persistence state SAVED as GLB_STATE encodes it (R44). -/
def SAVED : Nat := 7
/-- Persistence state RESUMING as GLB_STATE encodes it (R44). -/
def RESUMING : Nat := 8
/-- Persistence state LOST as GLB_STATE encodes it (R44). -/
def LOST : Nat := 9

end PState

namespace Opc

/-- Opcode of IDENTIFY (chapter 11). -/
def IDENTIFY : Nat := 0x0100
/-- Opcode of READY_GET (chapter 11). -/
def READY_GET : Nat := 0x0101
/-- Opcode of RESULT_GET (chapter 11). -/
def RESULT_GET : Nat := 0x0102
/-- Opcode of FW_DOWNLOAD (chapter 11). -/
def FW_DOWNLOAD : Nat := 0x0200
/-- Opcode of FW_STATUS (chapter 11). -/
def FW_STATUS : Nat := 0x0201
/-- Opcode of KEEPER_UPDATE (chapter 11). -/
def KEEPER_UPDATE : Nat := 0x0202
/-- Opcode of KEEPER_UPDATE_STATUS (chapter 11). -/
def KEEPER_UPDATE_STATUS : Nat := 0x0203
/-- Opcode of PERSIST_CONFIG (chapter 11). -/
def PERSIST_CONFIG : Nat := 0x0300
/-- Opcode of ARM (chapter 11). -/
def ARM : Nat := 0x0301
/-- Opcode of DISARM (chapter 11). -/
def DISARM : Nat := 0x0302
/-- Opcode of SEAL_BARRIER (chapter 11). -/
def SEAL_BARRIER : Nat := 0x0303
/-- Opcode of EPOCH_LIST (chapter 11). -/
def EPOCH_LIST : Nat := 0x0304
/-- Opcode of RESTORE_SELECT (chapter 11). -/
def RESTORE_SELECT : Nat := 0x0305
/-- Opcode of RESTORE_PROCEED (chapter 11). -/
def RESTORE_PROCEED : Nat := 0x0306
/-- Opcode of LOSS_ACCEPT (chapter 11). -/
def LOSS_ACCEPT : Nat := 0x0307
/-- Opcode of BUDGET_CONFIG (chapter 11). -/
def BUDGET_CONFIG : Nat := 0x0308
/-- Opcode of WEAR_CONFIG (chapter 11). -/
def WEAR_CONFIG : Nat := 0x0309
/-- Opcode of SAVE_MODEL_CONFIG (chapter 11). -/
def SAVE_MODEL_CONFIG : Nat := 0x030A
/-- Opcode of EPOCH_CONFIG (chapter 11). -/
def EPOCH_CONFIG : Nat := 0x030B
/-- Opcode of SAVE_CONFIG (chapter 11). -/
def SAVE_CONFIG : Nat := 0x030C
/-- Opcode of RESTORE_CONFIG (chapter 11). -/
def RESTORE_CONFIG : Nat := 0x030D
/-- Opcode of FOGHORN_RAISE (chapter 11). -/
def FOGHORN_RAISE : Nat := 0x030E
/-- Opcode of LD_CONFIG (chapter 11). -/
def LD_CONFIG : Nat := 0x0400
/-- Opcode of HEAD_OWNER_SET (chapter 11). -/
def HEAD_OWNER_SET : Nat := 0x0401
/-- Opcode of REGION_DC_ADD (chapter 11). -/
def REGION_DC_ADD : Nat := 0x0402
/-- Opcode of REGION_DC_RELEASE (chapter 11). -/
def REGION_DC_RELEASE : Nat := 0x0403
/-- Opcode of REGION_LIST (chapter 11). -/
def REGION_LIST : Nat := 0x0404
/-- Opcode of RESERVE_STATUS (chapter 11). -/
def RESERVE_STATUS : Nat := 0x0500
/-- Opcode of RESERVE_FIGURE (chapter 11). -/
def RESERVE_FIGURE : Nat := 0x0501
/-- Opcode of RESERVE_CONFIG (chapter 11). -/
def RESERVE_CONFIG : Nat := 0x0502
/-- Opcode of RESERVE_REST (chapter 11). -/
def RESERVE_REST : Nat := 0x0504
/-- Opcode of EVENT_READ (chapter 11). -/
def EVENT_READ : Nat := 0x0600
/-- Opcode of EVENT_CLEAR (chapter 11). -/
def EVENT_CLEAR : Nat := 0x0601
/-- Opcode of EVENT_ROUTE (chapter 11). -/
def EVENT_ROUTE : Nat := 0x0602
/-- Opcode of DRAM_CONFIG (chapter 11). -/
def DRAM_CONFIG : Nat := 0x0700
/-- Opcode of DRAM_STATUS (chapter 11). -/
def DRAM_STATUS : Nat := 0x0701
/-- Opcode of TRAIN_RUN (chapter 11). -/
def TRAIN_RUN : Nat := 0x0702
/-- Opcode of SPEED_SELECT (chapter 11). -/
def SPEED_SELECT : Nat := 0x0703
/-- Opcode of DELAY_SET_LIST (chapter 11). -/
def DELAY_SET_LIST : Nat := 0x0704
/-- Opcode of DELAY_SET_LOAD (chapter 11). -/
def DELAY_SET_LOAD : Nat := 0x0705
/-- Opcode of FLASH_CONFIG (chapter 11). -/
def FLASH_CONFIG : Nat := 0x0800
/-- Opcode of FLASH_STATUS (chapter 11). -/
def FLASH_STATUS : Nat := 0x0801
/-- Opcode of KST_PROTECT (chapter 11). -/
def KST_PROTECT : Nat := 0x0802
/-- Opcode of KST_USER_READ (chapter 11). -/
def KST_USER_READ : Nat := 0x0803
/-- Opcode of KST_USER_PROGRAM (chapter 11). -/
def KST_USER_PROGRAM : Nat := 0x0804
/-- Opcode of KST_USER_ERASE (chapter 11). -/
def KST_USER_ERASE : Nat := 0x0805
/-- Opcode of RAIL_STATUS (chapter 11). -/
def RAIL_STATUS : Nat := 0x0900
/-- Opcode of RAIL_CONFIG (chapter 11). -/
def RAIL_CONFIG : Nat := 0x0901
/-- Opcode of BEACON_CONFIG (chapter 11). -/
def BEACON_CONFIG : Nat := 0x0A00
/-- Opcode of TWI_CONFIG (chapter 11). -/
def TWI_CONFIG : Nat := 0x0A01
/-- Opcode of TWI_PORT_ENABLE (chapter 11). -/
def TWI_PORT_ENABLE : Nat := 0x0A02
/-- Opcode of CHAIN_SEND (chapter 11). -/
def CHAIN_SEND : Nat := 0x0A03
/-- Opcode of SIDEBAND_STATUS (chapter 11). -/
def SIDEBAND_STATUS : Nat := 0x0A04
/-- Opcode of ECHO (chapter 11). -/
def ECHO : Nat := 0x0F00
/-- Opcode of REG_READ (chapter 11). -/
def REG_READ : Nat := 0x0F01
/-- Opcode of REG_WRITE (chapter 11). -/
def REG_WRITE : Nat := 0x0F02
/-- Opcode of FLASH_DIAG_READ (chapter 11). -/
def FLASH_DIAG_READ : Nat := 0x0F03
/-- Opcode of FLASH_DIAG_PROGRAM (chapter 11). -/
def FLASH_DIAG_PROGRAM : Nat := 0x0F04

end Opc

end Sys2Proof.Machine
end

