-- ==== Sys2Proof/Machine/Bits.lean ====
section
/-! DEFINITION. Numbers, byte strings and maps: little-endian packing (R8), saturating counters, page masks, the two
checksums the manual defines, and finite maps kept as lists with rising keys. -/

namespace Sys2Proof.Machine

/-- `a + n`, stopping at the largest value of `w` bits, as the manual's counters do. -/
def satAdd (w a n : Nat) : Nat := min (a + n) (2 ^ w - 1)

/-- Bit `i` of `v`. -/
def bitOf (v i : Nat) : Bool := v / 2 ^ i % 2 == 1

/-- `v` with bit `i` set. -/
def setBitOf (v i : Nat) : Nat := if bitOf v i then v else v + 2 ^ i

/-- A mask of the numbers below `n` that satisfy a test. -/
def maskOf (n : Nat) (p : Nat → Bool) : Nat := (List.range n).foldl (fun acc k => if p k then setBitOf acc k else acc) 0

/-- `v` with bit `i` clear. -/
def clearBitOf (v i : Nat) : Nat := if bitOf v i then v - 2 ^ i else v

/-- 1 for true. -/
def ofBool (b : Bool) : Nat := if b then 1 else 0

/-- The `w` bits of `v` from bit `lo`. -/
def bitsOf (v lo w : Nat) : Nat := v / 2 ^ lo % 2 ^ w

/-- The number of ones among the low `n` bits. -/
def popcount : Nat → Nat → Nat
  | 0, _ => 0
  | n + 1, v => v % 2 + popcount n (v / 2)

/-- `n` bytes of `v`, least significant first (R8). -/
def leBytes : Nat → Nat → Bytes
  | 0, _ => []
  | n + 1, v => BitVec.ofNat 8 v :: leBytes n (v / 256)

/-- The number a little-endian byte string holds. -/
def leNat : Bytes → Nat
  | [] => 0
  | b :: bs => b.toNat + 256 * leNat bs

/-- The `n`-byte little-endian field at byte `off` of a payload. -/
def fieldAt (p : Bytes) (off n : Nat) : Nat := leNat ((p.drop off).take n)

/-- Byte `off` of a payload, 0 beyond its end. -/
def byteAt (p : Bytes) (off : Nat) : Nat := fieldAt p off 1

/-- Zero bytes. -/
def zeros (n : Nat) : Bytes := List.replicate n 0

/-- One step of the CRC-8 of R185 over one bit (polynomial x^8 + x^2 + x + 1). -/
def crc8Bit (c : Nat) (bit : Bool) : Nat :=
  let top := bitOf c 7 != bit
  let c' := c * 2 % 256
  if top then c' ^^^ 7 else c'

/-- The CRC-8 of R185 over the `n` low bits of `v`, most significant first, from an initial value of 0. -/
def crc8 (n v : Nat) : Nat :=
  (List.range n).foldl (fun c i => crc8Bit c (bitOf v (n - 1 - i))) 0

/-- One bit of the CRC-32 with the IEEE 802.3 polynomial, least significant bit first. -/
def crc32Bit (c : Nat) : Nat := if c % 2 == 1 then (c / 2) ^^^ 0xEDB88320 else c / 2

/-- One byte of the CRC-32. -/
def crc32Byte (c : Nat) (b : Byte) : Nat := (List.range 8).foldl (fun c _ => crc32Bit c) (c ^^^ b.toNat)

/-- The CRC-32 of a byte string with the IEEE 802.3 polynomial (R558, R571). -/
def crc32 (b : Bytes) : Nat := (b.foldl crc32Byte 0xFFFFFFFF) ^^^ 0xFFFFFFFF

/-- A finite map: keys strictly rising. -/
abbrev NMap (α : Type) := List (Nat × α)

/-- The entry under a key. -/
def NMap.find? {α : Type} : NMap α → Nat → Option α
  | [], _ => none
  | (k, a) :: m, n => if n = k then some a else NMap.find? m n

/-- The map with one entry set. -/
def NMap.insert {α : Type} : NMap α → Nat → α → NMap α
  | [], n, x => [(n, x)]
  | (k, a) :: m, n, x =>
    if n < k then (n, x) :: (k, a) :: m
    else if n = k then (n, x) :: m
    else (k, a) :: NMap.insert m n x

/-- The map with one key removed. -/
def NMap.erase {α : Type} : NMap α → Nat → NMap α
  | [], _ => []
  | (k, a) :: m, n => if n = k then m else (k, a) :: NMap.erase m n

/-- `m` with every entry of `m'` set over it. -/
def NMap.union {α : Type} (m m' : NMap α) : NMap α :=
  m'.foldl (fun acc e => NMap.insert acc e.1 e.2) m

/-- `m` with every entry of `m'` set over it, but one that is older than the entry there: numbers that rise with age, 0 always set. -/
def NMap.unionNew (m m' : NMap Nat) : NMap Nat :=
  m'.foldl (fun acc e => NMap.insert acc e.1 (if e.2 == 0 then 0 else max e.2 ((NMap.find? acc e.1).getD 0))) m

/-- The map with every entry passed through a function that may drop it. -/
def NMap.updateAll {α : Type} (m : NMap α) (f : α → Option α) : NMap α :=
  List.filterMap (fun (e : Nat × α) => (f e.2).map fun x => (e.1, x)) m

/-- A rising list of numbers with `n` in it. -/
def insertNat : List Nat → Nat → List Nat
  | [], n => [n]
  | k :: l, n => if n < k then n :: k :: l else if n = k then k :: l else k :: insertNat l n

/-- The first element that satisfies a test, and the list without it. -/
def takeFirst {α : Type} (p : α → Bool) : List α → Option (α × List α)
  | [] => none
  | a :: l =>
    if p a then some (a, l)
    else match takeFirst p l with
      | some (b, r) => some (b, a :: r)
      | none => none

end Sys2Proof.Machine
end

