-- ==== Sys2Proof/Machine/Regs.lean ====
section
/-! DEFINITION. The fields of the register map, one constant for each named field of spec/01 to spec/19
(an array register takes its index first, a field that repeats inside a register its number last). -/

namespace Sys2Proof.Machine

/-- A register field: the offset of its register in BAR 2, its lowest bit and its width. -/
structure Fld where
  off : Nat
  lo : Nat
  w : Nat
  deriving DecidableEq, Repr

/-- The key under which the register file holds a field. -/
def Fld.key (f : Fld) : Nat := f.off * 32 + f.lo

namespace Reg

/-- GLB_ID 31:16 (R43, RO): Part number -/
def GLB_ID.PART : Fld := ⟨0x0, 16, 16⟩
/-- GLB_ID 15:12 (R43, RO): Major silicon revision -/
def GLB_ID.REV_MAJOR : Fld := ⟨0x0, 12, 4⟩
/-- GLB_ID 11:8 (R43, RO): Minor silicon revision -/
def GLB_ID.REV_MINOR : Fld := ⟨0x0, 8, 4⟩
/-- GLB_ID 3:0 (R43, RO): 0x0 PTM-6180-CB, 0x1 PTM-6180-XB -/
def GLB_ID.GRADE : Fld := ⟨0x0, 0, 4⟩
/-- GLB_STATE 15:8 (R44, RO): Count of state transitions since the cold start, modulo 256 -/
def GLB_STATE.CHANGES : Fld := ⟨0x4, 8, 8⟩
/-- GLB_STATE 7:4 (R44, RO): State before the last transition, encoded as STATE -/
def GLB_STATE.PREV : Fld := ⟨0x4, 4, 4⟩
/-- GLB_STATE 3:0 (R44, RO): Current state: 0x1 KEEPER_BOOT, 0x2 RESTORING, 0x3 UNARMED, 0x4 ARMED, 0x5 CUTTING, 0x6 SAVING, 0x7 SAVED, 0x8 -/
def GLB_STATE.STATE : Fld := ⟨0x4, 0, 4⟩
/-- GLB_READY 12:12 (R45, RO): TWI-U, the Dwegor chain and the BEACON port are running -/
def GLB_READY.SIDEBAND_UP : Fld := ⟨0x8, 12, 1⟩
/-- GLB_READY 11:11 (R45, RO): 3 consecutive BEACON frames fell in the capture window and lock holds -/
def GLB_READY.BEACON_LOCK : Fld := ⟨0x8, 11, 1⟩
/-- GLB_READY 10:10 (R45, RO): Completed host writes are inside the persistence domain -/
def GLB_READY.PERSIST_ARMED : Fld := ⟨0x8, 10, 1⟩
/-- GLB_READY 9:9 (R45, RO): Every host-mappable extent is ready -/
def GLB_READY.MEM_FULL : Fld := ⟨0x8, 9, 1⟩
/-- GLB_READY 8:8 (R45, RO): At least one extent is ready; see the RSE readiness bitmap -/
def GLB_READY.MEM_PARTIAL : Fld := ⟨0x8, 8, 1⟩
/-- GLB_READY 7:7 (R45, RO): Image index loaded, IMAGE_SOURCE and epoch number reported; also set when no image exists -/
def GLB_READY.IMAGE_INDEXED : Fld := ⟨0x8, 7, 1⟩
/-- GLB_READY 6:6 (R45, RO): Firmware-driven training complete and its delays in use -/
def GLB_READY.TRAINED : Fld := ⟨0x8, 6, 1⟩
/-- GLB_READY 5:5 (R45, RO): Pack detected and the reserve figure is valid -/
def GLB_READY.RESERVE_OK : Fld := ⟨0x8, 5, 1⟩
/-- GLB_READY 4:4 (R45, RO): Runtime firmware authenticated and running -/
def GLB_READY.FW_RUN : Fld := ⟨0x8, 4, 1⟩
/-- GLB_READY 3:3 (R45, RO): Boot command subset accepted -/
def GLB_READY.CMD_BOOT : Fld := ⟨0x8, 3, 1⟩
/-- GLB_READY 2:2 (R45, RO): At least one head of HP1 has CXL.mem enabled -/
def GLB_READY.LINK1_UP : Fld := ⟨0x8, 2, 1⟩
/-- GLB_READY 1:1 (R45, RO): At least one head of HP0 has CXL.mem enabled -/
def GLB_READY.LINK0_UP : Fld := ⟨0x8, 1, 1⟩
/-- GLB_READY 0:0 (R45, RO): Keeper image verified and running -/
def GLB_READY.KEEPER_UP : Fld := ⟨0x8, 0, 1⟩
/-- GLB_READY_CHG 12:12 (R46, RW1C): change of the bit -/
def GLB_READY_CHG.SIDEBAND_UP : Fld := ⟨0xc, 12, 1⟩
/-- GLB_READY_CHG 11:11 (R46, RW1C): change of the bit -/
def GLB_READY_CHG.BEACON_LOCK : Fld := ⟨0xc, 11, 1⟩
/-- GLB_READY_CHG 10:10 (R46, RW1C): change of the bit -/
def GLB_READY_CHG.PERSIST_ARMED : Fld := ⟨0xc, 10, 1⟩
/-- GLB_READY_CHG 9:9 (R46, RW1C): change of the bit -/
def GLB_READY_CHG.MEM_FULL : Fld := ⟨0xc, 9, 1⟩
/-- GLB_READY_CHG 8:8 (R46, RW1C): change of the bit -/
def GLB_READY_CHG.MEM_PARTIAL : Fld := ⟨0xc, 8, 1⟩
/-- GLB_READY_CHG 7:7 (R46, RW1C): change of the bit -/
def GLB_READY_CHG.IMAGE_INDEXED : Fld := ⟨0xc, 7, 1⟩
/-- GLB_READY_CHG 6:6 (R46, RW1C): change of the bit -/
def GLB_READY_CHG.TRAINED : Fld := ⟨0xc, 6, 1⟩
/-- GLB_READY_CHG 5:5 (R46, RW1C): change of the bit -/
def GLB_READY_CHG.RESERVE_OK : Fld := ⟨0xc, 5, 1⟩
/-- GLB_READY_CHG 4:4 (R46, RW1C): change of the bit -/
def GLB_READY_CHG.FW_RUN : Fld := ⟨0xc, 4, 1⟩
/-- GLB_READY_CHG 3:3 (R46, RW1C): change of the bit -/
def GLB_READY_CHG.CMD_BOOT : Fld := ⟨0xc, 3, 1⟩
/-- GLB_READY_CHG 2:2 (R46, RW1C): change of the bit -/
def GLB_READY_CHG.LINK1_UP : Fld := ⟨0xc, 2, 1⟩
/-- GLB_READY_CHG 1:1 (R46, RW1C): change of the bit -/
def GLB_READY_CHG.LINK0_UP : Fld := ⟨0xc, 1, 1⟩
/-- GLB_READY_CHG 0:0 (R46, RW1C): change of the bit -/
def GLB_READY_CHG.KEEPER_UP : Fld := ⟨0xc, 0, 1⟩
/-- GLB_IMAGE 23:20 (R76, RO): Number of retained durable boundary epochs, 0–8 -/
def GLB_IMAGE.RETAINED : Fld := ⟨0x10, 20, 4⟩
/-- GLB_IMAGE 19:16 (R76, RO): Why the cut is not the reported image: 0x0 NONE, 0x1 SAVE_ABORTED, 0x2 NO_SAVE, 0x3 CUT_UNREADABLE, 0x4 SELECT -/
def GLB_IMAGE.REASON : Fld := ⟨0x10, 16, 4⟩
/-- GLB_IMAGE 8:8 (R76, RO): A committed cut image is retained (R73). EPOCH_LIST reports whether it can be read; only a readable one can be -/
def GLB_IMAGE.CUT_RETAINED : Fld := ⟨0x10, 8, 1⟩
/-- GLB_IMAGE 7:7 (R76, RO): The image was kept in DRAM through RESUMING -/
def GLB_IMAGE.RESUMED : Fld := ⟨0x10, 7, 1⟩
/-- GLB_IMAGE 6:6 (R76, RO): The device reported an image older than the latest durable epoch because newer images could not be read (R62, -/
def GLB_IMAGE.OLDER : Fld := ⟨0x10, 6, 1⟩
/-- GLB_IMAGE 5:5 (R76, RO): The RESTORE_SELECT window is open -/
def GLB_IMAGE.SELECT_OPEN : Fld := ⟨0x10, 5, 1⟩
/-- GLB_IMAGE 3:0 (R76, RO): 0x0 NONE, 0x1 CUT, 0x2 EPOCH, 0x3 LOST; other values reserved -/
def GLB_IMAGE.SOURCE : Fld := ⟨0x10, 0, 4⟩
/-- GLB_IMAGE_EPOCH_LO 31:0 (R77, RO): bits 31:0 -/
def GLB_IMAGE_EPOCH_LO.LO : Fld := ⟨0x14, 0, 32⟩
/-- GLB_IMAGE_EPOCH_HI 15:0 (R77, RO): bits 47:32 -/
def GLB_IMAGE_EPOCH_HI.HI : Fld := ⟨0x18, 0, 16⟩
/-- GLB_OPEN_EPOCH_LO 31:0 (R77, RO): bits 31:0 -/
def GLB_OPEN_EPOCH_LO.LO : Fld := ⟨0x1c, 0, 32⟩
/-- GLB_OPEN_EPOCH_HI 15:0 (R77, RO): bits 47:32 -/
def GLB_OPEN_EPOCH_HI.HI : Fld := ⟨0x20, 0, 16⟩
/-- GLB_DUR_EPOCH_LO 31:0 (R77, RO): bits 31:0 -/
def GLB_DUR_EPOCH_LO.LO : Fld := ⟨0x24, 0, 32⟩
/-- GLB_DUR_EPOCH_HI 15:0 (R77, RO): bits 47:32 -/
def GLB_DUR_EPOCH_HI.HI : Fld := ⟨0x28, 0, 16⟩
/-- GLB_ARM 7:7 (R94, RO): At least one host write is waiting under HOLD -/
def GLB_ARM.HELD : Fld := ⟨0x2c, 7, 1⟩
/-- GLB_ARM 6:6 (R94, RO): At least one write has been admitted under ALLOW_UNPROTECTED since the cold start; sticky until the next cold -/
def GLB_ARM.UNPROT_SEEN : Fld := ⟨0x2c, 6, 1⟩
/-- GLB_ARM 5:5 (R94, RO): 1: arm when the conditions hold; 0: arm on the ARM command -/
def GLB_ARM.AUTO_ARM : Fld := ⟨0x2c, 5, 1⟩
/-- GLB_ARM 4:4 (R94, RO): An accepted DISARM holds off automatic arming until ARM, a change of AUTO_ARM or the next cold start (R86) -/
def GLB_ARM.ARM_HOLD : Fld := ⟨0x2c, 4, 1⟩
/-- GLB_ARM 3:2 (R94, RO): 0x0 not armed, 0x1 CONSERVATIVE, 0x2 FULL; 0x3 reserved -/
def GLB_ARM.MODE : Fld := ⟨0x2c, 2, 2⟩
/-- GLB_ARM 1:0 (R94, RO): 0x0 HOLD, 0x1 ALLOW_UNPROTECTED; other values reserved -/
def GLB_ARM.POLICY : Fld := ⟨0x2c, 0, 2⟩
/-- GLB_UNPROT_CNT 31:0 (R95, RO): host writes admitted under ALLOW_UNPROTECTED -/
def GLB_UNPROT_CNT.UNPROT_WRITES : Fld := ⟨0x30, 0, 32⟩
/-- EVR_STAT 31:31 (R729, RO): R711 -/
def EVR_STAT.SEQ_WRAP : Fld := ⟨0x20000, 31, 1⟩
/-- EVR_STAT 28:17 (R729, RO): Records in the circulating area, 0–2,048 -/
def EVR_STAT.CIRC_USED : Fld := ⟨0x20000, 17, 12⟩
/-- EVR_STAT 16:9 (R729, RO): Records in the severity area, 0–128 -/
def EVR_STAT.SEV_USED : Fld := ⟨0x20000, 9, 8⟩
/-- EVR_STAT 8:0 (R729, RO): Records in the first area, 0–256 -/
def EVR_STAT.FIRST_USED : Fld := ⟨0x20000, 0, 9⟩
/-- EVR_SEQ_LO 31:0 (R729, RO): Bits 31:0 of the next sequence number -/
def EVR_SEQ_LO.NEXT_LO : Fld := ⟨0x20004, 0, 32⟩
/-- EVR_SEQ_HI 15:0 (R729, RO): Bits 47:32 of the next sequence number -/
def EVR_SEQ_HI.NEXT_HI : Fld := ⟨0x20008, 0, 16⟩
/-- EVR_CUR_CTL 31:28 (R729, WO): R724; other values ignored -/
def EVR_CUR_CTL.OP : Fld := ⟨0x2000c, 28, 4⟩
/-- EVR_CUR_CTL 9:9 (R729, RW): R726; runtime-firmware bank only -/
def EVR_CUR_CTL.IRQ_EN : Fld := ⟨0x2000c, 9, 1⟩
/-- EVR_CUR_CTL 8:8 (R729, RO): R725 -/
def EVR_CUR_CTL.LOST : Fld := ⟨0x2000c, 8, 1⟩
/-- EVR_CUR_CTL 1:0 (R729, RW): 0x0 first, 0x1 circulating, 0x2 severity; 0x3 reserved -/
def EVR_CUR_CTL.AREA : Fld := ⟨0x2000c, 0, 2⟩
/-- EVR_CUR_SEQ_LO 31:0 (R729, RW): Bits 31:0 of the cursor -/
def EVR_CUR_SEQ_LO.SEQ_LO : Fld := ⟨0x20010, 0, 32⟩
/-- EVR_CUR_SEQ_HI 15:0 (R729, RW): Bits 47:32 of the cursor -/
def EVR_CUR_SEQ_HI.SEQ_HI : Fld := ⟨0x20014, 0, 16⟩
/-- EVR_CUR_AVAIL 11:0 (R729, RO): Records in AREA at or above the cursor, 0–2,048 -/
def EVR_CUR_AVAIL.RECORDS : Fld := ⟨0x20018, 0, 12⟩
/-- EVR_CNT 31:16 (R729, RC): Records not made under R711 since the last read -/
def EVR_CNT.LOST : Fld := ⟨0x2001c, 16, 16⟩
/-- EVR_CNT 15:0 (R729, RC): Records kept out of the severity area since the last read -/
def EVR_CNT.SEV_DROP : Fld := ⟨0x2001c, 0, 16⟩
/-- EVR_ROUTE_SEL 8:0 (R729, RW): Source that EVR_ROUTE shows, 0–319 -/
def EVR_ROUTE_SEL.SOURCE : Fld := ⟨0x20020, 0, 9⟩
/-- EVR_ROUTE 31:16 (R729, RO): Logical devices of the route (R720) -/
def EVR_ROUTE.LD_MASK : Fld := ⟨0x20024, 16, 16⟩
/-- EVR_ROUTE 7:0 (R729, RO): Vector, 0 or 8–63 -/
def EVR_ROUTE.VECTOR : Fld := ⟨0x20024, 0, 8⟩
/-- EVR_WIN 31:0 (R729, RO): Window word n (R723) -/
def EVR_WIN.DATA (n : Nat) : Fld := ⟨0x20100 + 0x4 * n, 0, 32⟩
/-- PWR_CFG 23:16 (R619, RW): Power-up timeout per rank (R597), 1–100 ms; shipped 20 -/
def PWR_CFG.UP_TMO_MS : Fld := ⟨0x30000, 16, 8⟩
/-- PWR_CFG 15:8 (R619, RW): Step delay in 10 µs units, 1–255; shipped 20 (200 µs) -/
def PWR_CFG.STEP_10US : Fld := ⟨0x30000, 8, 8⟩
/-- PWR_CFG 5:4 (R619, RW): Power-up retries, 0–3; shipped 2 -/
def PWR_CFG.RETRIES : Fld := ⟨0x30000, 4, 2⟩
/-- PWR_CFG 0:0 (R619, RW): Automatic power-on (R595); shipped 1 -/
def PWR_CFG.AUTO_ON : Fld := ⟨0x30000, 0, 1⟩
/-- PWR_STAT 15:12 (R619, RO): 0x1 POWER_UP, 0x2 ON, 0x3 SHUTDOWN; other values reserved -/
def PWR_STAT.SEQ : Fld := ⟨0x30004, 12, 4⟩
/-- PWR_STAT 11:8 (R619, RO): Rank of the step in progress -/
def PWR_STAT.STEP_RANK : Fld := ⟨0x30004, 8, 4⟩
/-- PWR_STAT 4:4 (R619, RO): PBTN is pressed -/
def PWR_STAT.PBTN : Fld := ⟨0x30004, 4, 1⟩
/-- PWR_STAT 3:3 (R619, RO): Foghorn asserted -/
def PWR_STAT.FOGHORN : Fld := ⟨0x30004, 3, 1⟩
/-- PWR_STAT 2:2 (R619, RO): VSUP below 4.3 V (R586) -/
def PWR_STAT.VSUP_LOW : Fld := ⟨0x30004, 2, 1⟩
/-- PWR_STAT 1:1 (R619, RO): VIN_MAIN valid (R602) -/
def PWR_STAT.VIN_VALID : Fld := ⟨0x30004, 1, 1⟩
/-- PWR_VIN 31:16 (R619, RO): VIN_MAIN sensed, mV -/
def PWR_VIN.VIN_MV : Fld := ⟨0x30008, 16, 16⟩
/-- PWR_VIN 13:0 (R619, RW): VIN_MAIN warning level, 8,000–11,500 mV; shipped 10,200 -/
def PWR_VIN.WARN_MV : Fld := ⟨0x30008, 0, 14⟩
/-- PWR_VSUP 31:16 (R619, RO): VSUP sensed, mV -/
def PWR_VSUP.VSUP_MV : Fld := ⟨0x3000c, 16, 16⟩
/-- PWR_RAIL_LATCH 31:16 (R619, RW1C): Bit n: RAILn crossed its fault level -/
def PWR_RAIL_LATCH.FAULT_SEEN : Fld := ⟨0x30010, 16, 16⟩
/-- PWR_RAIL_LATCH 15:0 (R619, RW1C): Bit n: RAILn crossed its warning level -/
def PWR_RAIL_LATCH.WARN_SEEN : Fld := ⟨0x30010, 0, 16⟩
/-- PWR_EVCNT 31:16 (R619, RC): VIN_MAIN dips shorter than 20 µs (R600) -/
def PWR_EVCNT.VIN_DIP : Fld := ⟨0x30014, 16, 16⟩
/-- PWR_EVCNT 15:0 (R619, RC): MRST_N edges ignored (R610) -/
def PWR_EVCNT.MRST_IGN : Fld := ⟨0x30014, 0, 16⟩
/-- PWR_LAN 31:28 (R619, RO): Cause of the last power-off (R779): 0x0 none, 0x1 SAVED, 0x2 SAVE_ABORT, 0x3 NO_SAVE, 0x4 RAIL_FAULT, 0x5 PWRU -/
def PWR_LAN.LAST_OFF : Fld := ⟨0x30018, 28, 4⟩
/-- PWR_LAN 27:24 (R619, RO): Last power-on request, coded as R592 -/
def PWR_LAN.LAST_ON : Fld := ⟨0x30018, 24, 4⟩
/-- PWR_LAN 23:23 (R619, RO): Stay-off latch (R594) -/
def PWR_LAN.STAY_OFF : Fld := ⟨0x30018, 23, 1⟩
/-- PWR_LAN 22:22 (R619, RO): A Lantern reset occurred before the start of this power cycle. Reads 1 throughout the first power cycle after -/
def PWR_LAN.LAN_RESET : Fld := ⟨0x30018, 22, 1⟩
/-- PWR_LAN 21:21 (R619, RO): A power-on request was not honoured (R593) -/
def PWR_LAN.IGNORED : Fld := ⟨0x30018, 21, 1⟩
/-- PWR_LAN 20:20 (R619, RO): Automatic power-on in force -/
def PWR_LAN.AUTO_ON : Fld := ⟨0x30018, 20, 1⟩
/-- PWR_LAN 19:16 (R619, RO): Rail of the last power-up failure -/
def PWR_LAN.FAIL_RAIL : Fld := ⟨0x30018, 16, 4⟩
/-- PWR_LAN 7:4 (R619, RO): End of the save when LAST_OFF is SAVE_ABORT: 0x0 none, 0x2 ABORT_RAIL, 0x3 NO_SPACE, coded as SAV_LAST_RESULT. -/
def PWR_LAN.SAVE_END : Fld := ⟨0x30018, 4, 4⟩
/-- PWR_LAN 3:0 (R619, RO): Rail that aborted the save when SAVE_END is ABORT_RAIL -/
def PWR_LAN.SAVE_RAIL : Fld := ⟨0x30018, 0, 4⟩
/-- PWR_LAN_SHDN 31:16 (R619, RO): Bit n: RAILn stuck in the last shutdown (R604) -/
def PWR_LAN_SHDN.STUCK : Fld := ⟨0x3001c, 16, 16⟩
/-- PWR_LAN_SHDN 15:0 (R619, RO): Bit n: RAILn already off at its step -/
def PWR_LAN_SHDN.EARLY : Fld := ⟨0x3001c, 0, 16⟩
/-- PWR_RAIL_LVL 31:16 (R619, RW): Fault level, mV (R588) -/
def PWR_RAIL_LVL.FAULT_MV (n : Nat) : Fld := ⟨0x30100 + 0x8 * n, 16, 16⟩
/-- PWR_RAIL_LVL 15:0 (R619, RW): Warning level, mV -/
def PWR_RAIL_LVL.WARN_MV (n : Nat) : Fld := ⟨0x30100 + 0x8 * n, 0, 16⟩
/-- PWR_RAIL_CTL 31:16 (R619, RO): Sensed voltage, mV -/
def PWR_RAIL_CTL.SNS_MV (n : Nat) : Fld := ⟨0x30104 + 0x8 * n, 16, 16⟩
/-- PWR_RAIL_CTL 15:12 (R619, RW): Rank at the next power-up -/
def PWR_RAIL_CTL.RANK_NEXT (n : Nat) : Fld := ⟨0x30104 + 0x8 * n, 12, 4⟩
/-- PWR_RAIL_CTL 11:8 (R619, RO): Rank in force; 15 not used -/
def PWR_RAIL_CTL.RANK (n : Nat) : Fld := ⟨0x30104 + 0x8 * n, 8, 4⟩
/-- PWR_RAIL_CTL 4:4 (R619, RO): Beyond the fault level now -/
def PWR_RAIL_CTL.FAULT (n : Nat) : Fld := ⟨0x30104 + 0x8 * n, 4, 1⟩
/-- PWR_RAIL_CTL 3:3 (R619, RO): Below the warning level now -/
def PWR_RAIL_CTL.WARN (n : Nat) : Fld := ⟨0x30104 + 0x8 * n, 3, 1⟩
/-- PWR_RAIL_CTL 2:2 (R619, RO): RAILn_PG high -/
def PWR_RAIL_CTL.PG (n : Nat) : Fld := ⟨0x30104 + 0x8 * n, 2, 1⟩
/-- PWR_RAIL_CTL 1:1 (R619, RO): RAILn_EN high -/
def PWR_RAIL_CTL.EN (n : Nat) : Fld := ⟨0x30104 + 0x8 * n, 1, 1⟩
/-- ADC_STAT 31:16 (R680, RC): Longest rail interval of R669 since the last read, in 10 ns units -/
def ADC_STAT.RAIL_GAP : Fld := ⟨0x40000, 16, 16⟩
/-- ADC_STAT 3:3 (R680, RO): An urgent request waits on ADC-B -/
def ADC_STAT.URG_PEND_B : Fld := ⟨0x40000, 3, 1⟩
/-- ADC_STAT 2:2 (R680, RO): An urgent request waits on ADC-A -/
def ADC_STAT.URG_PEND_A : Fld := ⟨0x40000, 2, 1⟩
/-- ADC_STAT 1:0 (R680, RO): 0x1 normal, 0x2 Lantern (read only after a start); other values reserved -/
def ADC_STAT.MODE : Fld := ⟨0x40000, 0, 2⟩
/-- ADC_ROT0 31:0 (R680, RW): Bit n: input n is in rotation 0 -/
def ADC_ROT0.MASK : Fld := ⟨0x40004, 0, 32⟩
/-- ADC_ROT1 31:0 (R680, RW): Bit n: input n is in rotation 1 -/
def ADC_ROT1.MASK : Fld := ⟨0x40008, 0, 32⟩
/-- ADC_URG 31:31 (R680, WO): Start an urgent conversion (R670) -/
def ADC_URG.GO : Fld := ⟨0x4000c, 31, 1⟩
/-- ADC_URG 30:30 (R680, WO): 0 ADC-A, 1 ADC-B -/
def ADC_URG.CONV : Fld := ⟨0x4000c, 30, 1⟩
/-- ADC_URG 29:27 (R680, WO): Sampling time code k (R661) -/
def ADC_URG.SMP : Fld := ⟨0x4000c, 27, 3⟩
/-- ADC_URG 26:25 (R680, WO): As in R673 -/
def ADC_URG.GAIN : Fld := ⟨0x4000c, 25, 2⟩
/-- ADC_URG 4:0 (R680, WO): Input -/
def ADC_URG.INPUT : Fld := ⟨0x4000c, 0, 5⟩
/-- ADC_URG_RES 31:31 (R673, RO): VALID -/
def ADC_URG_RES.VALID : Fld := ⟨0x40010, 31, 1⟩
/-- ADC_URG_RES 30:30 (R673, RO): OVR -/
def ADC_URG_RES.OVR : Fld := ⟨0x40010, 30, 1⟩
/-- ADC_URG_RES 29:29 (R673, RO): RECOV -/
def ADC_URG_RES.RECOV : Fld := ⟨0x40010, 29, 1⟩
/-- ADC_URG_RES 28:28 (R673, RO): URG -/
def ADC_URG_RES.URG : Fld := ⟨0x40010, 28, 1⟩
/-- ADC_URG_RES 27:27 (R673, RO): CONV -/
def ADC_URG_RES.CONV : Fld := ⟨0x40010, 27, 1⟩
/-- ADC_URG_RES 26:22 (R673, RO): INPUT -/
def ADC_URG_RES.INPUT : Fld := ⟨0x40010, 22, 5⟩
/-- ADC_URG_RES 21:18 (R673, RO): ENTRY -/
def ADC_URG_RES.ENTRY : Fld := ⟨0x40010, 18, 4⟩
/-- ADC_URG_RES 17:16 (R673, RO): GAIN -/
def ADC_URG_RES.GAIN : Fld := ⟨0x40010, 16, 2⟩
/-- ADC_URG_RES 15:12 (R673, RO): CYCLE -/
def ADC_URG_RES.CYCLE : Fld := ⟨0x40010, 12, 4⟩
/-- ADC_URG_RES 11:0 (R673, RO): CODE -/
def ADC_URG_RES.CODE : Fld := ⟨0x40010, 0, 12⟩
/-- ADC_RESULT 31:31 (R673, RO): VALID -/
def ADC_RESULT.VALID : Fld := ⟨0x40014, 31, 1⟩
/-- ADC_RESULT 30:30 (R673, RO): OVR -/
def ADC_RESULT.OVR : Fld := ⟨0x40014, 30, 1⟩
/-- ADC_RESULT 29:29 (R673, RO): RECOV -/
def ADC_RESULT.RECOV : Fld := ⟨0x40014, 29, 1⟩
/-- ADC_RESULT 28:28 (R673, RO): URG -/
def ADC_RESULT.URG : Fld := ⟨0x40014, 28, 1⟩
/-- ADC_RESULT 27:27 (R673, RO): CONV -/
def ADC_RESULT.CONV : Fld := ⟨0x40014, 27, 1⟩
/-- ADC_RESULT 26:22 (R673, RO): INPUT -/
def ADC_RESULT.INPUT : Fld := ⟨0x40014, 22, 5⟩
/-- ADC_RESULT 21:18 (R673, RO): ENTRY -/
def ADC_RESULT.ENTRY : Fld := ⟨0x40014, 18, 4⟩
/-- ADC_RESULT 17:16 (R673, RO): GAIN -/
def ADC_RESULT.GAIN : Fld := ⟨0x40014, 16, 2⟩
/-- ADC_RESULT 15:12 (R673, RO): CYCLE -/
def ADC_RESULT.CYCLE : Fld := ⟨0x40014, 12, 4⟩
/-- ADC_RESULT 11:0 (R673, RO): CODE -/
def ADC_RESULT.CODE : Fld := ⟨0x40014, 0, 12⟩
/-- ADC_QSTAT 31:16 (R680, RC): Results overwritten since the last read -/
def ADC_QSTAT.OVF : Fld := ⟨0x40018, 16, 16⟩
/-- ADC_QSTAT 6:0 (R680, RO): Results in the queue, 0–64 -/
def ADC_QSTAT.LEVEL : Fld := ⟨0x40018, 0, 7⟩
/-- ADC_ERR 31:16 (R680, RC): Results with OVR since the last read -/
def ADC_ERR.OVR_CNT : Fld := ⟨0x4001c, 16, 16⟩
/-- ADC_ERR 15:0 (R680, RC): Urgent writes ignored under R670 since the last read -/
def ADC_ERR.URG_IGN : Fld := ⟨0x4001c, 0, 16⟩
/-- ADC_SEQ 31:31 (R680, RW): Entry enabled -/
def ADC_SEQ.EN (n : Nat) : Fld := ⟨0x40100 + 0x4 * n, 31, 1⟩
/-- ADC_SEQ 30:29 (R680, RW): 0x0 A, 0x1 B, 0x2 AB; 0x3 reserved -/
def ADC_SEQ.CONV (n : Nat) : Fld := ⟨0x40100 + 0x4 * n, 29, 2⟩
/-- ADC_SEQ 28:28 (R680, RW): Results enter the queue -/
def ADC_SEQ.QUEUE (n : Nat) : Fld := ⟨0x40100 + 0x4 * n, 28, 1⟩
/-- ADC_SEQ 27:25 (R680, RW): Further pairs of an AB entry, 0–7 -/
def ADC_SEQ.REPEAT (n : Nat) : Fld := ⟨0x40100 + 0x4 * n, 25, 3⟩
/-- ADC_SEQ 24:23 (R680, RW): As in R673 -/
def ADC_SEQ.GAIN (n : Nat) : Fld := ⟨0x40100 + 0x4 * n, 23, 2⟩
/-- ADC_SEQ 22:20 (R680, RW): Sampling time code k (R661) -/
def ADC_SEQ.SMP (n : Nat) : Fld := ⟨0x40100 + 0x4 * n, 20, 3⟩
/-- ADC_SEQ 6:5 (R680, RW): 0x0 fixed INPUT, 0x1 ROT0, 0x2 ROT1; 0x3 reserved -/
def ADC_SEQ.SRC (n : Nat) : Fld := ⟨0x40100 + 0x4 * n, 5, 2⟩
/-- ADC_SEQ 4:0 (R680, RW): Input when SRC is 0x0 -/
def ADC_SEQ.INPUT (n : Nat) : Fld := ⟨0x40100 + 0x4 * n, 0, 5⟩
/-- ADC_LAST 31:31 (R673, RO): VALID -/
def ADC_LAST.VALID (n : Nat) : Fld := ⟨0x40200 + 0x4 * n, 31, 1⟩
/-- ADC_LAST 30:30 (R673, RO): OVR -/
def ADC_LAST.OVR (n : Nat) : Fld := ⟨0x40200 + 0x4 * n, 30, 1⟩
/-- ADC_LAST 29:29 (R673, RO): RECOV -/
def ADC_LAST.RECOV (n : Nat) : Fld := ⟨0x40200 + 0x4 * n, 29, 1⟩
/-- ADC_LAST 28:28 (R673, RO): URG -/
def ADC_LAST.URG (n : Nat) : Fld := ⟨0x40200 + 0x4 * n, 28, 1⟩
/-- ADC_LAST 27:27 (R673, RO): CONV -/
def ADC_LAST.CONV (n : Nat) : Fld := ⟨0x40200 + 0x4 * n, 27, 1⟩
/-- ADC_LAST 26:22 (R673, RO): INPUT -/
def ADC_LAST.INPUT (n : Nat) : Fld := ⟨0x40200 + 0x4 * n, 22, 5⟩
/-- ADC_LAST 21:18 (R673, RO): ENTRY -/
def ADC_LAST.ENTRY (n : Nat) : Fld := ⟨0x40200 + 0x4 * n, 18, 4⟩
/-- ADC_LAST 17:16 (R673, RO): GAIN -/
def ADC_LAST.GAIN (n : Nat) : Fld := ⟨0x40200 + 0x4 * n, 16, 2⟩
/-- ADC_LAST 15:12 (R673, RO): CYCLE -/
def ADC_LAST.CYCLE (n : Nat) : Fld := ⟨0x40200 + 0x4 * n, 12, 4⟩
/-- ADC_LAST 11:0 (R673, RO): CODE -/
def ADC_LAST.CODE (n : Nat) : Fld := ⟨0x40200 + 0x4 * n, 0, 12⟩
/-- RSV_CFG 26:16 (R658, RW): Charge current limit in mA, 100–2,000; shipped 1,250 -/
def RSV_CFG.CHG_LIMIT : Fld := ⟨0x50000, 16, 11⟩
/-- RSV_CFG 1:1 (R658, RW): Device-started rests allowed (R640); shipped 1 -/
def RSV_CFG.REST_ALLOWED : Fld := ⟨0x50000, 1, 1⟩
/-- RSV_CFG 0:0 (R658, RW): Charging allowed; shipped 1 -/
def RSV_CFG.CHARGE_EN : Fld := ⟨0x50000, 0, 1⟩
/-- RSV_STAT 31:28 (R658, RO): Identity code of the present pack; 0 none -/
def RSV_STAT.PROFILE : Fld := ⟨0x50004, 28, 4⟩
/-- RSV_STAT 27:25 (R658, RO): Charger state (R631) -/
def RSV_STAT.CHG_STATE : Fld := ⟨0x50004, 25, 3⟩
/-- RSV_STAT 24:22 (R658, RO): 0x0 none, 0x1 OVERVOLT, 0x2 OVERCURRENT, 0x3 TIMEOUT, 0x4 UNCONTROLLED; other values reserved -/
def RSV_STAT.FAULT_CAUSE : Fld := ⟨0x50004, 22, 3⟩
/-- RSV_STAT 21:20 (R658, RO): Automatic retries used, 0–3 -/
def RSV_STAT.FAULT_RETRIES : Fld := ⟨0x50004, 20, 2⟩
/-- RSV_STAT 19:18 (R658, RO): End of the last rest: 0x0 none, 0x1 POINT, 0x2 TIMEOUT, 0x3 ABORTED -/
def RSV_STAT.REST_LAST : Fld := ⟨0x50004, 18, 2⟩
/-- RSV_STAT 17:17 (R658, RO): A maintenance rest is running -/
def RSV_STAT.REST_ACTIVE : Fld := ⟨0x50004, 17, 1⟩
/-- RSV_STAT 16:16 (R658, RO): A rest is requested (R640) -/
def RSV_STAT.REST_REQ : Fld := ⟨0x50004, 16, 1⟩
/-- RSV_STAT 5:5 (R658, RO): The defaults of R654 are in use -/
def RSV_STAT.NEW_PACK : Fld := ⟨0x50004, 5, 1⟩
/-- RSV_STAT 4:4 (R658, RO): An accepted model figure is held -/
def RSV_STAT.FW_FIG : Fld := ⟨0x50004, 4, 1⟩
/-- RSV_STAT 3:3 (R658, RO): The voltage-table figure is valid (R643) -/
def RSV_STAT.VT_VALID : Fld := ⟨0x50004, 3, 1⟩
/-- RSV_STAT 2:2 (R658, RO): DSG_EN is high -/
def RSV_STAT.DSG_ON : Fld := ⟨0x50004, 2, 1⟩
/-- RSV_STAT 1:1 (R658, RO): CHG_EN is high -/
def RSV_STAT.CHARGING : Fld := ⟨0x50004, 1, 1⟩
/-- RSV_STAT 0:0 (R658, RO): Pack detected (R625) -/
def RSV_STAT.PRESENT : Fld := ⟨0x50004, 0, 1⟩
/-- RSV_MEAS 31:16 (R658, RO): Pack current in 10 mA units, two's complement, charge positive -/
def RSV_MEAS.CUR : Fld := ⟨0x50008, 16, 16⟩
/-- RSV_MEAS 15:0 (R658, RO): Pack voltage, mV -/
def RSV_MEAS.PACK_MV : Fld := ⟨0x50008, 0, 16⟩
/-- RSV_TEMP 15:0 (R658, RO): Pack temperature in 0.1 °C, two's complement -/
def RSV_TEMP.PACK_T : Fld := ⟨0x5000c, 0, 16⟩
/-- RSV_QCNT 31:0 (R658, RO): Charge counted since the cold start, in mC, two's complement, modulo 2^32 -/
def RSV_QCNT.CHARGE_MC : Fld := ⟨0x50010, 0, 32⟩
/-- RSV_REST 31:0 (R658, RO): Rest clock, in s (R638) -/
def RSV_REST.CLOCK_S : Fld := ⟨0x50014, 0, 32⟩
/-- RSV_REST_V 15:0 (R658, RO): Rested voltage at the last rest point, mV -/
def RSV_REST_V.RESTED_MV : Fld := ⟨0x50018, 0, 16⟩
/-- RSV_UNC 25:16 (R658, RO): Uncertainty in use, in 0.1 % units -/
def RSV_UNC.U_USED : Fld := ⟨0x5001c, 16, 10⟩
/-- RSV_UNC 9:0 (R658, RO): u_K, in 0.1 % units -/
def RSV_UNC.U_KEEPER : Fld := ⟨0x5001c, 0, 10⟩
/-- RSV_VT_P 10:0 (R658, RO): P_vt, W -/
def RSV_VT_P.P_VT : Fld := ⟨0x50020, 0, 11⟩
/-- RSV_VT_E 31:0 (R658, RO): E_vt, J -/
def RSV_VT_E.E_VT : Fld := ⟨0x50024, 0, 32⟩
/-- RSV_LRN_CAP 31:16 (R658, RO): Capacity samples accepted, saturating -/
def RSV_LRN_CAP.SAMPLES : Fld := ⟨0x50028, 16, 16⟩
/-- RSV_LRN_CAP 15:0 (R658, RO): C_LRN, mAh -/
def RSV_LRN_CAP.CAP_MAH : Fld := ⟨0x50028, 0, 16⟩
/-- RSV_LRN_R 31:16 (R658, RO): R_STEP25, 0.1 mΩ -/
def RSV_LRN_R.R_STEP25 : Fld := ⟨0x5002c, 16, 16⟩
/-- RSV_LRN_R 15:0 (R658, RO): R_LRN25, 0.1 mΩ -/
def RSV_LRN_R.R_LRN25 : Fld := ⟨0x5002c, 0, 16⟩
/-- RSV_FIG 31:16 (R658, RO): Bits 15:0 of the last accepted sequence number -/
def RSV_FIG.SEQ_LO : Fld := ⟨0x50030, 16, 16⟩
/-- RSV_FIG 2:2 (R658, RO): The last figure had u raised to u_K -/
def RSV_FIG.U_RAISED : Fld := ⟨0x50030, 2, 1⟩
/-- RSV_FIG 1:1 (R658, RO): The last figure had E clamped -/
def RSV_FIG.E_CLAMP : Fld := ⟨0x50030, 1, 1⟩
/-- RSV_FIG 0:0 (R658, RO): The last figure had P clamped -/
def RSV_FIG.P_CLAMP : Fld := ⟨0x50030, 0, 1⟩
/-- RSV_FW_SOC 9:0 (R658, RW): State of charge from the model, in 0.1 % units, 0–1,000 -/
def RSV_FW_SOC.SOC_PERMIL : Fld := ⟨0x50034, 0, 10⟩
/-- RSV_FW_CAP 17:16 (R658, RW): Sample kind of R650; 0x0 no proposal -/
def RSV_FW_CAP.KIND : Fld := ⟨0x50038, 16, 2⟩
/-- RSV_FW_CAP 15:0 (R658, RW): Proposed capacity, mAh -/
def RSV_FW_CAP.CAP_MAH : Fld := ⟨0x50038, 0, 16⟩
/-- RSV_FW_RINT 15:0 (R658, RW): Proposed R25 in 0.1 mΩ; 0 no proposal -/
def RSV_FW_RINT.R25 : Fld := ⟨0x5003c, 0, 16⟩
/-- RSV_LAN 31:31 (R658, RO): No pack was seen while OFF (R628) -/
def RSV_LAN.PACK_GONE : Fld := ⟨0x50040, 31, 1⟩
/-- RSV_LAN 30:16 (R658, RO): Minutes of rest while OFF, saturating (R637) -/
def RSV_LAN.REST_MIN : Fld := ⟨0x50040, 16, 15⟩
/-- RSV_LAN 15:0 (R658, RO): Last 1-minute mean of PACK_V while OFF, mV -/
def RSV_LAN.LAST_MV : Fld := ⟨0x50040, 0, 16⟩
/-- RSV_LAN_CLK 31:0 (R658, RO): Minutes counted toward the rest clock while OFF -/
def RSV_LAN_CLK.OFF_MIN : Fld := ⟨0x50044, 0, 32⟩
/-- KST_STAT 13:12 (R582, RO): 0x0 none, 0x1 PENDING, 0x2 COMMITTED at this start; 0x3 reserved -/
def KST_STAT.MIG : Fld := ⟨0x60000, 12, 2⟩
/-- KST_STAT 11:11 (R582, RO): A sector has failed (R562) -/
def KST_STAT.DEGRADED : Fld := ⟨0x60000, 11, 1⟩
/-- KST_STAT 10:10 (R582, RW1C): A THRESHOLD read reached THR (R556) -/
def KST_STAT.READ_WARN : Fld := ⟨0x60000, 10, 1⟩
/-- KST_STAT 9:9 (R582, RO): Writes wait for VSUP (R568) -/
def KST_STAT.VSUP_HOLD : Fld := ⟨0x60000, 9, 1⟩
/-- KST_STAT 2:2 (R582, RO): An erase is suspended for a read (R548) -/
def KST_STAT.SUSPENDED : Fld := ⟨0x60000, 2, 1⟩
/-- KST_STAT 1:1 (R582, RO): Bank 1 is programming or erasing -/
def KST_STAT.BUSY1 : Fld := ⟨0x60000, 1, 1⟩
/-- KST_STAT 0:0 (R582, RO): Bank 0 is programming or erasing -/
def KST_STAT.BUSY0 : Fld := ⟨0x60000, 0, 1⟩
/-- KST_SLOT 17:16 (R582, RO): Attempt marks for the slot to be checked, 0–3 -/
def KST_SLOT.ATTEMPTS : Fld := ⟨0x60004, 16, 2⟩
/-- KST_SLOT 15:8 (R582, RO): Slot to be checked: 0x00 A, 0x01 B, 0xFF none -/
def KST_SLOT.CHECK : Fld := ⟨0x60004, 8, 8⟩
/-- KST_SLOT 0:0 (R582, RO): Active slot: 0 A, 1 B -/
def KST_SLOT.ACTIVE : Fld := ⟨0x60004, 0, 1⟩
/-- KST_VER_A 31:0 (R582, RO): VERSION of slot A; 0 if not well formed -/
def KST_VER_A.VERSION : Fld := ⟨0x60008, 0, 32⟩
/-- KST_VER_B 31:0 (R582, RO): VERSION of slot B; 0 if not well formed -/
def KST_VER_B.VERSION : Fld := ⟨0x6000c, 0, 32⟩
/-- KST_ARB 14:0 (R582, RO): Anti-rollback counter (R554), saturating at 0x7FFF -/
def KST_ARB.COUNTER : Fld := ⟨0x60010, 0, 15⟩
/-- KST_PROT 31:24 (R582, RO): Bit k: group 8 + k has a password -/
def KST_PROT.PW_SET : Fld := ⟨0x60014, 24, 8⟩
/-- KST_PROT 23:16 (R582, RO): Bit k: group 8 + k is locked -/
def KST_PROT.LOCKED : Fld := ⟨0x60014, 16, 8⟩
/-- KST_PROT 15:8 (R582, RO): Bit k: group 8 + k refuses KST_PROTECT until the cold start (R508) -/
def KST_PROT.LOCKOUT : Fld := ⟨0x60014, 8, 8⟩
/-- KST_VMODE 7:0 (R582, RW): Bit k: group 8 + k uses 0 PULSE, 1 THRESHOLD; the block is busy while the group programs or erases; shipped 0x -/
def KST_VMODE.MODE : Fld := ⟨0x60018, 0, 8⟩
/-- KST_ECC 1:0 (R582, RW): Corrected bits per word that warn, 1–2; shipped 1 -/
def KST_ECC.THR : Fld := ⟨0x6001c, 0, 2⟩
/-- KST_ERR 31:24 (R582, RC): Programs that set the fail flag -/
def KST_ERR.PROG_FAIL : Fld := ⟨0x60020, 24, 8⟩
/-- KST_ERR 23:16 (R582, RC): Erases that failed their blank check -/
def KST_ERR.ERASE_FAIL : Fld := ⟨0x60020, 16, 8⟩
/-- KST_ERR 15:8 (R582, RC): Programs rejected under R555 -/
def KST_ERR.NOT_BLANK : Fld := ⟨0x60020, 8, 8⟩
/-- KST_ERR 7:0 (R582, RC): Words that warned under R556 -/
def KST_ERR.READ_WARN : Fld := ⟨0x60020, 0, 8⟩
/-- KST_JRNL 15:8 (R582, RO): Sectors erased again at this start (R561) -/
def KST_JRNL.REDONE : Fld := ⟨0x60024, 8, 8⟩
/-- KST_JRNL 7:0 (R582, RO): Half-erased sectors found in this power cycle (R562) -/
def KST_JRNL.HALF : Fld := ⟨0x60024, 0, 8⟩
/-- KST_UPD 31:16 (R582, RO): Completion status of the last KEEPER_UPDATE -/
def KST_UPD.LAST_STATUS : Fld := ⟨0x60028, 16, 16⟩
/-- KST_UPD 5:4 (R582, RO): 0x0 none, 0x1 relaying, 0x2 relayed; 0x3 reserved -/
def KST_UPD.RELAY : Fld := ⟨0x60028, 4, 2⟩
/-- KST_UPD 3:0 (R582, RO): 0x0 IDLE, 0x1 RECEIVING, 0x2 CHECKING, 0x3 ERASING, 0x4 PROGRAMMING, 0x5 VERIFYING, 0x6 MARKED; other values r -/
def KST_UPD.PHASE : Fld := ⟨0x60028, 0, 4⟩
/-- DMA_STAT 31:16 (R704, RO): Bit n: channel n in ERROR -/
def DMA_STAT.ERR : Fld := ⟨0x70000, 16, 16⟩
/-- DMA_STAT 15:0 (R704, RO): Bit n: channel n RUNNING -/
def DMA_STAT.ACTIVE : Fld := ⟨0x70000, 0, 16⟩
/-- DMA_DONE 15:0 (R704, RW1C): Bit n: a descriptor with IRQ completed on channel n (R695) -/
def DMA_DONE.DONE : Fld := ⟨0x70004, 0, 16⟩
/-- DMA_SWREQ 31:0 (R704, WO): Bit k: set software line 32 + k (R689) -/
def DMA_SWREQ.REQ : Fld := ⟨0x70008, 0, 32⟩
/-- DMA_REQ_LVL 31:0 (R704, RO): Bit k: hardware line k asserted -/
def DMA_REQ_LVL.LEVEL : Fld := ⟨0x7000c, 0, 32⟩
/-- DMA_CH_CFG 1:0 (R704, RW): Priority, 3 highest (R691) -/
def DMA_CH_CFG.PRIO (n : Nat) : Fld := ⟨0x70100 + 0x40 * n, 0, 2⟩
/-- DMA_CH_CTL 31:28 (R704, WO): 0x1 START, 0x2 PAUSE, 0x3 RESUME, 0x4 DRAIN, 0x5 HALT; other values ignored -/
def DMA_CH_CTL.OP (n : Nat) : Fld := ⟨0x70104 + 0x40 * n, 28, 4⟩
/-- DMA_CH_STAT 31:28 (R704, RO): 0x0 IDLE, 0x1 RUNNING, 0x2 PAUSED, 0x3 FOG_PAUSED, 0x4 DONE, 0x5 DRAINED, 0x6 HALTED, 0x7 ERROR -/
def DMA_CH_STAT.STATE (n : Nat) : Fld := ⟨0x70108 + 0x40 * n, 28, 4⟩
/-- DMA_CH_STAT 27:26 (R704, RO): When HALTED: 0x1 COMMAND, 0x2 FW_STOP, 0x3 DOMAIN_OFF -/
def DMA_CH_STAT.CAUSE (n : Nat) : Fld := ⟨0x70108 + 0x40 * n, 26, 2⟩
/-- DMA_CH_STAT 15:0 (R704, RO): Descriptors completed since START, saturating -/
def DMA_CH_STAT.DESC_DONE (n : Nat) : Fld := ⟨0x70108 + 0x40 * n, 0, 16⟩
/-- DMA_CH_DESC 31:0 (R704, RW): First descriptor for START; then the current descriptor -/
def DMA_CH_DESC.ADDR (n : Nat) : Fld := ⟨0x7010c + 0x40 * n, 0, 32⟩
/-- DMA_CH_SRC_LO 31:0 (R704, RO): Next source address -/
def DMA_CH_SRC_LO.SRC (n : Nat) : Fld := ⟨0x70110 + 0x40 * n, 0, 32⟩
/-- DMA_CH_SRC_HI 11:0 (R704, RO): Next source address (43:32) -/
def DMA_CH_SRC_HI.SRC (n : Nat) : Fld := ⟨0x70114 + 0x40 * n, 0, 12⟩
/-- DMA_CH_DST_LO 31:0 (R704, RO): Next destination address -/
def DMA_CH_DST_LO.DST (n : Nat) : Fld := ⟨0x70118 + 0x40 * n, 0, 32⟩
/-- DMA_CH_DST_HI 11:0 (R704, RO): Next destination address (43:32) -/
def DMA_CH_DST_HI.DST (n : Nat) : Fld := ⟨0x7011c + 0x40 * n, 0, 12⟩
/-- DMA_CH_REMAIN 23:0 (R704, RO): Bytes left in the current descriptor -/
def DMA_CH_REMAIN.BYTES (n : Nat) : Fld := ⟨0x70120 + 0x40 * n, 0, 24⟩
/-- DMA_CH_ERR_INFO 31:28 (R704, RO): 0x0 none, 0x1 BUS, 0x2 FENCE, 0x3 TIMEOUT, 0x4 DESC, 0x5 LINE_IN_USE -/
def DMA_CH_ERR_INFO.KIND (n : Nat) : Fld := ⟨0x70124 + 0x40 * n, 28, 4⟩
/-- DMA_CH_ERR_INFO 27:27 (R704, RO): 0 read, 1 write -/
def DMA_CH_ERR_INFO.DIR (n : Nat) : Fld := ⟨0x70124 + 0x40 * n, 27, 1⟩
/-- DMA_CH_ERR_INFO 26:26 (R704, RO): The error concerns a descriptor (R703) -/
def DMA_CH_ERR_INFO.DESC_FETCH (n : Nat) : Fld := ⟨0x70124 + 0x40 * n, 26, 1⟩
/-- DMA_CH_ERR_ADDR_LO 31:0 (R704, RO): Latched fabric address (R702) -/
def DMA_CH_ERR_ADDR_LO.ADDR (n : Nat) : Fld := ⟨0x70128 + 0x40 * n, 0, 32⟩
/-- DMA_CH_ERR_ADDR_HI 11:0 (R704, RO): Latched fabric address (R702) (43:32) -/
def DMA_CH_ERR_ADDR_HI.ADDR (n : Nat) : Fld := ⟨0x7012c + 0x40 * n, 0, 12⟩
/-- TWI_CFG 31:22 (R753, RW): D only: SCL rate, 10–1,000 kHz; shipped 1,000 on TWI-D0, 400 on TWI-D1 -/
def TWI_CFG.SCL_KHZ (n : Nat) : Fld := ⟨0x80000 + 0x1000 * n, 22, 10⟩
/-- TWI_CFG 21:12 (R753, RW): D only: set-up time, 50–1,000 ns; shipped 100 -/
def TWI_CFG.SU_NS (n : Nat) : Fld := ⟨0x80000 + 0x1000 * n, 12, 10⟩
/-- TWI_CFG 11:3 (R753, RW): D only: hold time, 0–500 ns; shipped 60 -/
def TWI_CFG.HD_NS (n : Nat) : Fld := ⟨0x80000 + 0x1000 * n, 3, 9⟩
/-- TWI_CFG 2:0 (R753, RO): U only: address straps (R730) -/
def TWI_CFG.ADDR_SEL (n : Nat) : Fld := ⟨0x80000 + 0x1000 * n, 0, 3⟩
/-- TWI_STAT 7:6 (R753, RO): Recovery retries used, 0–3 -/
def TWI_STAT.RETRIES (n : Nat) : Fld := ⟨0x80004 + 0x1000 * n, 6, 2⟩
/-- TWI_STAT 5:5 (R753, RO): Port disabled after a stuck bus -/
def TWI_STAT.DISABLED (n : Nat) : Fld := ⟨0x80004 + 0x1000 * n, 5, 1⟩
/-- TWI_STAT 4:4 (R753, RO): Bus recovery running -/
def TWI_STAT.RECOVERING (n : Nat) : Fld := ⟨0x80004 + 0x1000 * n, 4, 1⟩
/-- TWI_STAT 3:3 (R753, RO): U only: host notify pending -/
def TWI_STAT.NOTIFY_PEND (n : Nat) : Fld := ⟨0x80004 + 0x1000 * n, 3, 1⟩
/-- TWI_STAT 2:2 (R753, RO): U only: a reply is readable -/
def TWI_STAT.REPLY_RDY (n : Nat) : Fld := ⟨0x80004 + 0x1000 * n, 2, 1⟩
/-- TWI_STAT 1:1 (R753, RO): A transaction is in progress -/
def TWI_STAT.BUSY (n : Nat) : Fld := ⟨0x80004 + 0x1000 * n, 1, 1⟩
/-- TWI_STAT 0:0 (R753, RO): Port running -/
def TWI_STAT.UP (n : Nat) : Fld := ⟨0x80004 + 0x1000 * n, 0, 1⟩
/-- TWI_ERR 31:24 (R753, RC): U: R737 events; D: 0 -/
def TWI_ERR.START_ABORT (n : Nat) : Fld := ⟨0x80008 + 0x1000 * n, 24, 8⟩
/-- TWI_ERR 23:16 (R753, RC): U: notifies abandoned (R735); D: BUS_ERROR results -/
def TWI_ERR.COLLISION (n : Nat) : Fld := ⟨0x80008 + 0x1000 * n, 16, 8⟩
/-- TWI_ERR 15:8 (R753, RC): U: PEC errors and R732 discards; D: NACK results -/
def TWI_ERR.FRAME (n : Nat) : Fld := ⟨0x80008 + 0x1000 * n, 8, 8⟩
/-- TWI_ERR 7:0 (R753, RC): R738, or TIMEOUT results -/
def TWI_ERR.TIMEOUT (n : Nat) : Fld := ⟨0x80008 + 0x1000 * n, 0, 8⟩
/-- TWI_XFER 31:31 (R753, WO): D only: start a transaction (R742) -/
def TWI_XFER.GO (n : Nat) : Fld := ⟨0x8000c + 0x1000 * n, 31, 1⟩
/-- TWI_XFER 30:24 (R753, WO): Target address -/
def TWI_XFER.ADDR (n : Nat) : Fld := ⟨0x8000c + 0x1000 * n, 24, 7⟩
/-- TWI_XFER 13:8 (R753, WO): Bytes to read, 0–32 -/
def TWI_XFER.RD_LEN (n : Nat) : Fld := ⟨0x8000c + 0x1000 * n, 8, 6⟩
/-- TWI_XFER 5:0 (R753, WO): Bytes to write, 0–32 -/
def TWI_XFER.WR_LEN (n : Nat) : Fld := ⟨0x8000c + 0x1000 * n, 0, 6⟩
/-- TWI_XSTAT 31:28 (R753, RO): 0x0 IDLE, 0x1 BUSY, 0x2 DONE, 0x3 ADDR_NACK, 0x4 DATA_NACK, 0x5 TIMEOUT, 0x6 BUS_ERROR, 0x7 DISABLED -/
def TWI_XSTAT.RESULT (n : Nat) : Fld := ⟨0x80010 + 0x1000 * n, 28, 4⟩
/-- TWI_XSTAT 13:8 (R753, RO): Bytes in the receive FIFO, 0–32 -/
def TWI_XSTAT.RX_LEVEL (n : Nat) : Fld := ⟨0x80010 + 0x1000 * n, 8, 6⟩
/-- TWI_XSTAT 5:0 (R753, RO): Bytes in the transmit FIFO, 0–32 -/
def TWI_XSTAT.TX_LEVEL (n : Nat) : Fld := ⟨0x80010 + 0x1000 * n, 0, 6⟩
/-- TWI_TXDATA 7:0 (R753, WO): Byte appended to the transmit FIFO; ignored when full -/
def TWI_TXDATA.DATA (n : Nat) : Fld := ⟨0x80014 + 0x1000 * n, 0, 8⟩
/-- TWI_RXDATA 8:8 (R753, RO): DATA holds a byte -/
def TWI_RXDATA.VALID (n : Nat) : Fld := ⟨0x80018 + 0x1000 * n, 8, 1⟩
/-- TWI_RXDATA 7:0 (R753, RO): Oldest byte; the read removes it -/
def TWI_RXDATA.DATA (n : Nat) : Fld := ⟨0x80018 + 0x1000 * n, 0, 8⟩
/-- NCH_CHAIN_STAT 7:5 (R754, RO): Packets queued on CHAIN_DN, 0–4 -/
def NCH_CHAIN_STAT.DN_QUEUE : Fld := ⟨0x90000, 5, 3⟩
/-- NCH_CHAIN_STAT 4:2 (R754, RO): Packets queued on CHAIN_UP, 0–4 -/
def NCH_CHAIN_STAT.UP_QUEUE : Fld := ⟨0x90000, 2, 3⟩
/-- NCH_CHAIN_STAT 1:1 (R754, RO): CHAIN_DN link up -/
def NCH_CHAIN_STAT.DN_LINK : Fld := ⟨0x90000, 1, 1⟩
/-- NCH_CHAIN_STAT 0:0 (R754, RO): CHAIN_UP link up -/
def NCH_CHAIN_STAT.UP_LINK : Fld := ⟨0x90000, 0, 1⟩
/-- NCH_CHAIN_CNT 31:16 (R754, RC): Packets relayed since the last read -/
def NCH_CHAIN_CNT.RELAYED : Fld := ⟨0x90004, 16, 16⟩
/-- NCH_CHAIN_CNT 15:0 (R754, RC): Packets discarded (R478, R748) since the last read -/
def NCH_CHAIN_CNT.DISCARD : Fld := ⟨0x90004, 0, 16⟩
/-- NCH_CHAIN_ERR 31:24 (R754, RC): Frames received with a bad CRC -/
def NCH_CHAIN_ERR.CRC_ERR : Fld := ⟨0x90008, 24, 8⟩
/-- NCH_CHAIN_ERR 23:16 (R754, RC): Frames sent again (R747) -/
def NCH_CHAIN_ERR.RETRY : Fld := ⟨0x90008, 16, 8⟩
/-- NCH_CHAIN_ERR 15:8 (R754, RC): Frames dropped after 3 repeats -/
def NCH_CHAIN_ERR.DROP : Fld := ⟨0x90008, 8, 8⟩
/-- NCH_CHAIN_ERR 7:0 (R754, RC): Link losses on either port -/
def NCH_CHAIN_ERR.LINK_DOWNS : Fld := ⟨0x90008, 0, 8⟩
/-- NCH_BCN_STAT 16:16 (R754, RO): An edge was seen on BEACON_IN in the last 1 s -/
def NCH_BCN_STAT.ACTIVITY : Fld := ⟨0x90010, 16, 1⟩
/-- NCH_BCN_STAT 15:0 (R754, RC): Invalid frames under R750 since the last read -/
def NCH_BCN_STAT.CODE_ERR : Fld := ⟨0x90010, 0, 16⟩
/-- CLK_PLL_STAT 24:24 (R620, RO): REF25_CLK absent (R612) -/
def CLK_PLL_STAT.REF_LOST : Fld := ⟨0xa0000, 24, 1⟩
/-- CLK_PLL_STAT 17:9 (R620, RO): Bit n − 9: PLLn locked -/
def CLK_PLL_STAT.LOCKED : Fld := ⟨0xa0000, 9, 9⟩
/-- CLK_PLL_STAT 8:0 (R620, RO): Bit n: PLLn running -/
def CLK_PLL_STAT.RUNNING : Fld := ⟨0xa0000, 0, 9⟩
/-- CLK_UNLOCK 31:24 (R620, RO): PLL of the last loss of lock; 0xFF none -/
def CLK_UNLOCK.LAST_PLL : Fld := ⟨0xa0004, 24, 8⟩
/-- CLK_UNLOCK 15:0 (R620, RC): Losses of lock since the last read -/
def CLK_UNLOCK.COUNT : Fld := ⟨0xa0004, 0, 16⟩
/-- CLK_DOM_STAT 24:16 (R620, RO): Bit d: domain d is powering up or down -/
def CLK_DOM_STAT.CHANGING : Fld := ⟨0xa0008, 16, 9⟩
/-- CLK_DOM_STAT 8:0 (R620, RO): Bit d: domain d powered (R614 codes) -/
def CLK_DOM_STAT.ON : Fld := ⟨0xa0008, 0, 9⟩
/-- CLK_DOM_REQ 31:31 (R620, WO): 1 power up, 0 power down -/
def CLK_DOM_REQ.ON : Fld := ⟨0xa000c, 31, 1⟩
/-- CLK_DOM_REQ 3:0 (R620, WO): Domain code -/
def CLK_DOM_REQ.DOMAIN : Fld := ⟨0xa000c, 0, 4⟩
/-- CLK_DOM_CNT 31:16 (R620, RC): Channels halted with DOMAIN_OFF (R616) -/
def CLK_DOM_CNT.HALTS : Fld := ⟨0xa0010, 16, 16⟩
/-- CLK_DOM_CNT 15:0 (R620, RC): Longest wait of R616, in µs -/
def CLK_DOM_CNT.WAIT_MAX_US : Fld := ⟨0xa0010, 0, 16⟩
/-- RGN_CFG 15:8 (R468, RW): Host answer limit of R443 and R446, in s, 1–255; shipped 30 -/
def RGN_CFG.DC_WAIT_S : Fld := ⟨0x100000, 8, 8⟩
/-- RGN_CFG 0:0 (R468, RW): Inject Poison allowed; shipped 0 -/
def RGN_CFG.INJECT_EN : Fld := ⟨0x100000, 0, 1⟩
/-- RGN_STAT 31:16 (R468, RO): Extents FREE -/
def RGN_STAT.FREE : Fld := ⟨0x100004, 16, 16⟩
/-- RGN_STAT 15:0 (R468, RO): Extents MAPPED or RELEASE_PENDING -/
def RGN_STAT.MAPPED : Fld := ⟨0x100004, 0, 16⟩
/-- RGN_STAT2 31:16 (R468, RO): Extents HELD -/
def RGN_STAT2.HELD : Fld := ⟨0x100008, 16, 16⟩
/-- RGN_STAT2 15:0 (R468, RO): Extents SANITIZING -/
def RGN_STAT2.SANITIZING : Fld := ⟨0x100008, 0, 16⟩
/-- RGN_PEND 31:16 (R468, RO): Extents ADD_PENDING -/
def RGN_PEND.ADD_PEND : Fld := ⟨0x10000c, 16, 16⟩
/-- RGN_PEND 15:0 (R468, RO): Extents RELEASE_PENDING -/
def RGN_PEND.REL_PEND : Fld := ⟨0x10000c, 0, 16⟩
/-- RGN_FAULT 31:28 (R468, RC): First fault since the last read, coded as R440; 0x0 none -/
def RGN_FAULT.KIND : Fld := ⟨0x100010, 28, 4⟩
/-- RGN_FAULT 27:27 (R468, RO): 0 read, 1 write -/
def RGN_FAULT.DIR : Fld := ⟨0x100010, 27, 1⟩
/-- RGN_FAULT 23:20 (R468, RO): Logical device of the request -/
def RGN_FAULT.LD : Fld := ⟨0x100010, 20, 4⟩
/-- RGN_FAULT 19:18 (R468, RO): Head of the request -/
def RGN_FAULT.HEAD : Fld := ⟨0x100010, 18, 2⟩
/-- RGN_FAULT_ADDR_LO 31:0 (R468, RO): LPA bits 31:0 -/
def RGN_FAULT_ADDR_LO.LPA_LO : Fld := ⟨0x100014, 0, 32⟩
/-- RGN_FAULT_ADDR_HI 15:0 (R468, RO): LPA bits 47:32 -/
def RGN_FAULT_ADDR_HI.LPA_HI : Fld := ⟨0x100018, 0, 16⟩
/-- RGN_LD_CAP 30:30 (R468, RO): Mode of host releases: 0 KEEP, 1 SANITIZE; shipped 1 -/
def RGN_LD_CAP.REL_SANITIZE (n : Nat) : Fld := ⟨0x100100 + 0x4 * n, 30, 1⟩
/-- RGN_LD_CAP 29:15 (R468, RO): Dynamic region size in extents, 0–32,767 -/
def RGN_LD_CAP.DC_MAX (n : Nat) : Fld := ⟨0x100100 + 0x4 * n, 15, 15⟩
/-- RGN_LD_CAP 14:0 (R468, RO): Static region size in extents, 0–32,767 -/
def RGN_LD_CAP.STATIC (n : Nat) : Fld := ⟨0x100100 + 0x4 * n, 0, 15⟩
/-- RGN_LD_USED 14:0 (R468, RO): Dynamic region extents MAPPED or RELEASE_PENDING -/
def RGN_LD_USED.DC_MAPPED (n : Nat) : Fld := ⟨0x100140 + 0x4 * n, 0, 15⟩
/-- RGN_LD_FLT 31:0 (R468, RC): Translation faults of LDn since the last read -/
def RGN_LD_FLT.FAULTS (n : Nat) : Fld := ⟨0x100180 + 0x4 * n, 0, 32⟩
/-- RGN_EXT 31:29 (R468, RO): State of device extent n (R436) -/
def RGN_EXT.STATE (n : Nat) : Fld := ⟨0x110000 + 0x4 * n, 29, 3⟩
/-- RGN_EXT 28:28 (R468, RO): R439 -/
def RGN_EXT.ZERO (n : Nat) : Fld := ⟨0x110000 + 0x4 * n, 28, 1⟩
/-- RGN_EXT 27:27 (R468, RO): 1 static region, 0 dynamic region -/
def RGN_EXT.STATIC (n : Nat) : Fld := ⟨0x110000 + 0x4 * n, 27, 1⟩
/-- RGN_EXT 26:23 (R468, RO): Logical device mapped, offered, asked, home or releasing -/
def RGN_EXT.LD (n : Nat) : Fld := ⟨0x110000 + 0x4 * n, 23, 4⟩
/-- RGN_EXT 14:0 (R468, RO): LD extent number while MAPPED, ADD_PENDING or RELEASE_PENDING; otherwise 0 -/
def RGN_EXT.LXN (n : Nat) : Fld := ⟨0x110000 + 0x4 * n, 0, 15⟩
/-- DMC_CFG 29:28 (R397, RO): 0x0 none, 0x1 RDIMM, 0x2 MRDIMM; 0x3 reserved -/
def DMC_CFG.MODULE (n : Nat) : Fld := ⟨0x200000 + 0x10000 * n, 28, 2⟩
/-- DMC_CFG 27:24 (R397, RO): Physical ranks found, 0–8 -/
def DMC_CFG.RANKS (n : Nat) : Fld := ⟨0x200000 + 0x10000 * n, 24, 4⟩
/-- DMC_CFG 23:22 (R397, RO): 0x0 32, 0x1 64, 0x2 128, 0x3 256 GiB -/
def DMC_CFG.RANK_SIZE (n : Nat) : Fld := ⟨0x200000 + 0x10000 * n, 22, 2⟩
/-- DMC_CFG 21:20 (R397, RO): 0x0 monolithic, 0x1 2, 0x2 4, 0x3 8 dies -/
def DMC_CFG.STACK (n : Nat) : Fld := ⟨0x200000 + 0x10000 * n, 20, 2⟩
/-- DMC_CFG 15:8 (R397, RO): Data rate in use, in 100 MT/s units -/
def DMC_CFG.RATE (n : Nat) : Fld := ⟨0x200000 + 0x10000 * n, 8, 8⟩
/-- DMC_STAT 6:6 (R397, RO): A bank is in in-order mode (R363) -/
def DMC_STAT.INORDER (n : Nat) : Fld := ⟨0x200004 + 0x10000 * n, 6, 1⟩
/-- DMC_STAT 5:5 (R397, RO): A requester is throttled (R372) -/
def DMC_STAT.THROTTLE (n : Nat) : Fld := ⟨0x200004 + 0x10000 * n, 5, 1⟩
/-- DMC_STAT 4:4 (R397, RO): A real-time feed is in panic (R367) -/
def DMC_STAT.PANIC (n : Nat) : Fld := ⟨0x200004 + 0x10000 * n, 4, 1⟩
/-- DMC_STAT 3:3 (R397, RO): Ranks in self-refresh (R376) -/
def DMC_STAT.SELF_REFRESH (n : Nat) : Fld := ⟨0x200004 + 0x10000 * n, 3, 1⟩
/-- DMC_STAT 2:2 (R397, RO): The channel runs on a stored delay set -/
def DMC_STAT.FIXED_DELAYS (n : Nat) : Fld := ⟨0x200004 + 0x10000 * n, 2, 1⟩
/-- DMC_STAT 1:1 (R397, RO): Channel in FAILED (R393) -/
def DMC_STAT.FAILED (n : Nat) : Fld := ⟨0x200004 + 0x10000 * n, 1, 1⟩
/-- DMC_STAT 0:0 (R397, RO): Channel in service -/
def DMC_STAT.UP (n : Nat) : Fld := ⟨0x200004 + 0x10000 * n, 0, 1⟩
/-- DMC_SCHED 3:0 (R397, RW): Hits that may pass the oldest miss (R361), 0–15; shipped 4 -/
def DMC_SCHED.HIT_CAP (n : Nat) : Fld := ⟨0x200008 + 0x10000 * n, 0, 4⟩
/-- DMC_PAGE 7:0 (R397, RW): TIMED close delay in 5 ns units, 2–255; shipped 12 (60 ns) -/
def DMC_PAGE.IDLE_NS (n : Nat) : Fld := ⟨0x20000c + 0x10000 * n, 0, 8⟩
/-- DMC_PWR 7:0 (R397, RW): Power-down timer in 100 ns units, 0 off, 1–255; shipped 10 (1 µs) -/
def DMC_PWR.PD_TIMER (n : Nat) : Fld := ⟨0x200010 + 0x10000 * n, 0, 8⟩
/-- DMC_REF 15:8 (R397, RO): Refreshes now postponed under R369 -/
def DMC_REF.POSTPONED (n : Nat) : Fld := ⟨0x200014 + 0x10000 * n, 8, 8⟩
/-- DMC_REF 5:4 (R397, RO): 0x0 interval 3.9 µs, 0x1 interval 1.95 µs (R368); other values reserved -/
def DMC_REF.RATE_X (n : Nat) : Fld := ⟨0x200014 + 0x10000 * n, 4, 2⟩
/-- DMC_REF 0:0 (R397, RW): 0 all-bank, 1 same-bank; shipped 1 -/
def DMC_REF.MODE (n : Nat) : Fld := ⟨0x200014 + 0x10000 * n, 0, 1⟩
/-- DMC_RD_CFG 31:24 (R398, RW): Activate spacing of a throttled requester, in 10 ns units, 1–255; shipped 50 (500 ns) -/
def DMC_RD_CFG.THR_GAP (n : Nat) : Fld := ⟨0x200018 + 0x10000 * n, 24, 8⟩
/-- DMC_RD_CFG 23:16 (R398, RW): Counting window in µs, 1–255; shipped 32 -/
def DMC_RD_CFG.WINDOW_US (n : Nat) : Fld := ⟨0x200018 + 0x10000 * n, 16, 8⟩
/-- DMC_RD_CFG 11:0 (R398, RW): Activates per bank per window that start a throttle, 16–4,095; shipped 256 -/
def DMC_RD_CFG.ACT_THR (n : Nat) : Fld := ⟨0x200018 + 0x10000 * n, 0, 12⟩
/-- DMC_RD_STAT 21:0 (R398, RO): Bit n set while requester ID n is throttled (R358) -/
def DMC_RD_STAT.THROTTLED (n : Nat) : Fld := ⟨0x20001c + 0x10000 * n, 0, 22⟩
/-- DMC_RD_CNT 31:16 (R398, RC): Throttles begun since the last read -/
def DMC_RD_CNT.THROTTLES (n : Nat) : Fld := ⟨0x200020 + 0x10000 * n, 16, 16⟩
/-- DMC_RD_CNT 15:0 (R398, RC): Refresh management commands since the last read -/
def DMC_RD_CNT.RFM (n : Nat) : Fld := ⟨0x200020 + 0x10000 * n, 0, 16⟩
/-- DMC_ECC_CFG 31:16 (R398, RW): Correctable errors per rank in 24 h that retire it, 0 off; shipped 2,048 -/
def DMC_ECC_CFG.CE_THR (n : Nat) : Fld := ⟨0x200024 + 0x10000 * n, 16, 16⟩
/-- DMC_ECC_CNT 31:16 (R398, RC): Correctable errors since the last read -/
def DMC_ECC_CNT.CE (n : Nat) : Fld := ⟨0x200028 + 0x10000 * n, 16, 16⟩
/-- DMC_ECC_CNT 15:8 (R398, RC): Uncorrectable data and command errors since the last read -/
def DMC_ECC_CNT.UE (n : Nat) : Fld := ⟨0x200028 + 0x10000 * n, 8, 8⟩
/-- DMC_ECC_CNT 7:0 (R398, RC): Lines recovered from flash (R382) since the last read -/
def DMC_ECC_CNT.RECOVERED (n : Nat) : Fld := ⟨0x200028 + 0x10000 * n, 0, 8⟩
/-- DMC_ECC_LOC 31:28 (R398, RO): Last uncorrectable error: 0x0 none, 0x1 DATA, 0x2 COMMAND, 0x3 DATA in the spare; other values reserved -/
def DMC_ECC_LOC.KIND (n : Nat) : Fld := ⟨0x20002c + 0x10000 * n, 28, 4⟩
/-- DMC_ECC_LOC 27:24 (R398, RO): Physical rank -/
def DMC_ECC_LOC.PRANK (n : Nat) : Fld := ⟨0x20002c + 0x10000 * n, 24, 4⟩
/-- DMC_ECC_LOC 23:23 (R398, RO): Subchannel -/
def DMC_ECC_LOC.SC (n : Nat) : Fld := ⟨0x20002c + 0x10000 * n, 23, 1⟩
/-- DMC_ECC_LOC 22:18 (R398, RO): Bank group × 4 + bank -/
def DMC_ECC_LOC.BANK (n : Nat) : Fld := ⟨0x20002c + 0x10000 * n, 18, 5⟩
/-- DMC_ECC_LOC 17:14 (R398, RO): Device 0–9 on the subchannel; 0xF unknown -/
def DMC_ECC_LOC.DEVICE (n : Nat) : Fld := ⟨0x20002c + 0x10000 * n, 14, 4⟩
/-- DMC_ECC_ADDR_LO 31:0 (R398, RO): DPA bits 31:0 -/
def DMC_ECC_ADDR_LO.DPA_LO (n : Nat) : Fld := ⟨0x200030 + 0x10000 * n, 0, 32⟩
/-- DMC_ECC_ADDR_HI 15:0 (R398, RO): DPA bits 47:32 -/
def DMC_ECC_ADDR_HI.DPA_HI (n : Nat) : Fld := ⟨0x200034 + 0x10000 * n, 0, 16⟩
/-- DMC_RANK_MAP 31:0 LR7–LR0 (R399): Logical to physical rank map (R355, R389, R390) -/
def DMC_RANK_MAP.LR (n : Nat) (k : Nat) : Fld := ⟨0x200038 + 0x10000 * n, 0 + 4 * k, 4⟩
/-- DMC_SPARE 31:28 (R399, RO): 0x0 NONE, 0x1 READY, 0x2 MIGRATING, 0x3 HELD, 0x4 DONE; other values reserved -/
def DMC_SPARE.STATE (n : Nat) : Fld := ⟨0x20003c + 0x10000 * n, 28, 4⟩
/-- DMC_SPARE 27:24 (R399, RO): Physical rank of the spare -/
def DMC_SPARE.SPARE_PRANK (n : Nat) : Fld := ⟨0x20003c + 0x10000 * n, 24, 4⟩
/-- DMC_SPARE 23:20 (R399, RO): Logical rank retired -/
def DMC_SPARE.SRC_LRANK (n : Nat) : Fld := ⟨0x20003c + 0x10000 * n, 20, 4⟩
/-- DMC_SPARE 19:16 (R399, RO): 0x0 none, 0x1 UE_DATA, 0x2 UE_COMMAND, 0x3 CE_LIMIT; other values reserved -/
def DMC_SPARE.REASON (n : Nat) : Fld := ⟨0x20003c + 0x10000 * n, 16, 4⟩
/-- DMC_MIG_WM 26:0 (R399, RO): Watermark W in 4 KiB units of rank offset -/
def DMC_MIG_WM.WM_4K (n : Nat) : Fld := ⟨0x200040 + 0x10000 * n, 0, 27⟩
/-- DMC_SCRUB 23:16 (R399, RW): Scrub period in hours, 0 off, 1–255; shipped 24 -/
def DMC_SCRUB.SCRUB_H (n : Nat) : Fld := ⟨0x200044 + 0x10000 * n, 16, 8⟩
/-- DMC_SCRUB 8:8 (R399, RO): The last pass overran its period (R395) -/
def DMC_SCRUB.LATE (n : Nat) : Fld := ⟨0x200044 + 0x10000 * n, 8, 1⟩
/-- DMC_SCRUB 7:0 (R399, RO): Share of the current pass done, in percent -/
def DMC_SCRUB.PASS_PCT (n : Nat) : Fld := ⟨0x200044 + 0x10000 * n, 0, 8⟩
/-- TRN_CFG 15:8 (R422, RW): Minimum lane eye in 1/64 UI, 1–63; shipped 20 -/
def TRN_CFG.MIN_EYE : Fld := ⟨0x280000, 8, 8⟩
/-- TRN_CFG 3:0 (R422, RW): Bin at the next cold start (R404, R418); shipped 0x2 for RDIMM and 0x4 for MRDIMM -/
def TRN_CFG.NEXT_BIN : Fld := ⟨0x280000, 0, 4⟩
/-- TRN_CTL 31:28 (R422, WO): 0x1 START, 0x2 COMMIT, 0x3 ABORT, 0x4 STORE; other values ignored -/
def TRN_CTL.OP : Fld := ⟨0x280004, 28, 4⟩
/-- TRN_CTL 2:0 (R422, WO): Channel for START -/
def TRN_CTL.CH : Fld := ⟨0x280004, 0, 3⟩
/-- TRN_STAT 31:28 (R422, RO): 0x0 none, 0x1 COMMITTED, 0x2 VERIFY_FAIL, 0x3 ABORTED, 0x4 ABANDON_FOGHORN, 0x5 ABANDON_FW, 0x6 CH_FAILED -/
def TRN_STAT.LAST_END : Fld := ⟨0x280008, 28, 4⟩
/-- TRN_STAT 27:24 (R422, RO): Bin in force -/
def TRN_STAT.BIN : Fld := ⟨0x280008, 24, 4⟩
/-- TRN_STAT 23:20 (R422, RO): 0x0 idle, 0x1 CS_CA, 0x2 WLEVEL, 0x3 READ, 0x4 WRITE, 0x5 VERIFY, 0x6 COMMIT -/
def TRN_STAT.STEP : Fld := ⟨0x280008, 20, 4⟩
/-- TRN_STAT 18:16 (R422, RO): Logical rank under training -/
def TRN_STAT.RANK : Fld := ⟨0x280008, 16, 3⟩
/-- TRN_STAT 14:12 (R422, RO): Channel of the session -/
def TRN_STAT.CH : Fld := ⟨0x280008, 12, 3⟩
/-- TRN_STAT 3:3 (R422, RW1C): A request was refused (R409, R416, R418) -/
def TRN_STAT.REQ_REJECT : Fld := ⟨0x280008, 3, 1⟩
/-- TRN_STAT 2:2 (R422, RO): Session waits for a migration (R412) -/
def TRN_STAT.WAIT_MIG : Fld := ⟨0x280008, 2, 1⟩
/-- TRN_STAT 1:1 (R422, RO): Training data are being gathered (R415) -/
def TRN_STAT.GATHER : Fld := ⟨0x280008, 1, 1⟩
/-- TRN_STAT 0:0 (R422, RO): A session is active -/
def TRN_STAT.ACTIVE : Fld := ⟨0x280008, 0, 1⟩
/-- TRN_CH_SRC 23:0 SRC7–SRC0 (R422): Per channel n, bits 3n+2:3n: 0x0 none, 0x1 STORED, 0x2 DERIVED, 0x3 GENERIC, 0x4 TRAINED -/
def TRN_CH_SRC.SRC (k : Nat) : Fld := ⟨0x28000c, 0 + 3 * k, 3⟩
/-- TRN_SETS 28:24 (R422, RO): Bit k: slot k matches (R403) -/
def TRN_SETS.MATCH : Fld := ⟨0x280010, 24, 5⟩
/-- TRN_SETS 23:20 (R422, RO): Slot whose set is in use, 0–4; 0xF none -/
def TRN_SETS.IN_USE : Fld := ⟨0x280010, 20, 4⟩
/-- TRN_SETS 19:0 SLOT4–SLOT0 (R422): Per slot k, bit 4k+3 VALID and bits 4k+2:4k bin code -/
def TRN_SETS.SLOT (k : Nat) : Fld := ⟨0x280010, 0 + 4 * k, 4⟩
/-- TRN_PAT 27:24 (R422, RW): 0x0 PRBS15, 0x1 PRBS23, 0x2 walking ones, 0x3 SEED repeated -/
def TRN_PAT.PATTERN : Fld := ⟨0x280014, 24, 4⟩
/-- TRN_PAT 23:0 (R422, RW): Generator seed -/
def TRN_PAT.SEED : Fld := ⟨0x280014, 0, 24⟩
/-- TRN_EYE_SEL 6:0 (R422, RW): Lane reported in TRN_EYE, 0–79 -/
def TRN_EYE_SEL.LANE : Fld := ⟨0x280018, 0, 7⟩
/-- TRN_EYE 31:16 (R422, RO): Passing margin before the trial delay, in ps -/
def TRN_EYE.LEFT_PS : Fld := ⟨0x28001c, 16, 16⟩
/-- TRN_EYE 15:0 (R422, RO): Passing margin after the trial delay, in ps -/
def TRN_EYE.RIGHT_PS : Fld := ⟨0x28001c, 0, 16⟩
/-- TRN_DLY_SEL 31:31 (R422, RW): 0 verified, 1 trial -/
def TRN_DLY_SEL.BANK : Fld := ⟨0x280020, 31, 1⟩
/-- TRN_DLY_SEL 27:24 (R422, RW): Kind of R402 -/
def TRN_DLY_SEL.KIND : Fld := ⟨0x280020, 24, 4⟩
/-- TRN_DLY_SEL 22:20 (R422, RW): Channel -/
def TRN_DLY_SEL.CH : Fld := ⟨0x280020, 20, 3⟩
/-- TRN_DLY_SEL 18:16 (R422, RW): Logical rank; DIMM-equivalent 0–1 for CA_DLY -/
def TRN_DLY_SEL.RANK : Fld := ⟨0x280020, 16, 3⟩
/-- TRN_DLY_SEL 15:15 (R422, RW): Subchannel -/
def TRN_DLY_SEL.SC : Fld := ⟨0x280020, 15, 1⟩
/-- TRN_DLY_SEL 13:10 (R422, RW): Device 0–9 -/
def TRN_DLY_SEL.DEV : Fld := ⟨0x280020, 10, 4⟩
/-- TRN_DLY_SEL 9:8 (R422, RW): Bit 0–3 -/
def TRN_DLY_SEL.BIT : Fld := ⟨0x280020, 8, 2⟩
/-- TRN_DLY_DATA 15:0 (R422, RW): Selected entry. A write takes effect only in the trial bank of the channel under session (R412) -/
def TRN_DLY_DATA.VALUE : Fld := ⟨0x280024, 0, 16⟩
/-- DMC_MAP 27:26 (R400, RW): Grain at the next cold start: 0x0 256 B, 0x1 4 KiB, 0x2 64 KiB, 0x3 2 MiB; shipped 0x1 -/
def DMC_MAP.NEXT_GRAIN : Fld := ⟨0x290000, 26, 2⟩
/-- DMC_MAP 25:25 (R400, RW): Sparing at the next cold start; shipped 1 -/
def DMC_MAP.NEXT_SPARE : Fld := ⟨0x290000, 25, 1⟩
/-- DMC_MAP 23:22 (R400, RO): Grain in force, coded as NEXT_GRAIN -/
def DMC_MAP.GRAIN : Fld := ⟨0x290000, 22, 2⟩
/-- DMC_MAP 21:21 (R400, RO): Sparing in force (R353) -/
def DMC_MAP.SPARE : Fld := ⟨0x290000, 21, 1⟩
/-- DMC_MAP 19:16 (R400, RO): Populated channels in use: 4 or 8 -/
def DMC_MAP.CHANNELS : Fld := ⟨0x290000, 16, 4⟩
/-- DMC_MAP 15:12 (R400, RO): First channel in use: 0 or 4 -/
def DMC_MAP.BASE : Fld := ⟨0x290000, 12, 4⟩
/-- DMC_MAP 5:0 (R400, RO): Addressable capacity per channel in 32 GiB units, 1–32 -/
def DMC_MAP.CH_CAP : Fld := ⟨0x290000, 0, 6⟩
/-- DMC_LD_PAGE 31:0 POL15–POL0 (R400): Page hint of each logical device (R358); shipped TIMED for all -/
def DMC_LD_PAGE.POL (k : Nat) : Fld := ⟨0x290004, 0 + 2 * k, 2⟩
/-- DRP_CFG 15:8 (R154, RW): Early-cleaning mark, percent of B_eff, 0–100; shipped 50 -/
def DRP_CFG.EARLY_PCT : Fld := ⟨0x300000, 8, 8⟩
/-- DRP_CFG 4:0 (R154, RW): Configured budget in 16 GiB units, 1–24; shipped 16 (256 GiB) -/
def DRP_CFG.BUDGET_CFG : Fld := ⟨0x300000, 0, 5⟩
/-- DRP_BUDGET 28:26 (R155, RO): Term that set B_eff: 0x0 CONFIG, 0x1 TIME, 0x2 ENERGY, 0x3 FLASH, 0x4 CONSERVATIVE, 0x5 NO_FIGURE; other value -/
def DRP_BUDGET.LIMITER : Fld := ⟨0x300004, 26, 3⟩
/-- DRP_BUDGET 25:25 (R155, RO): k_u is below 1 -/
def DRP_BUDGET.UDERATE : Fld := ⟨0x300004, 25, 1⟩
/-- DRP_BUDGET 24:24 (R155, RO): S exceeds C_save -/
def DRP_BUDGET.OVER_CAP : Fld := ⟨0x300004, 24, 1⟩
/-- DRP_BUDGET 23:14 (R155, RO): C_save in whole GiB, rounded down, saturating at 1,023 -/
def DRP_BUDGET.CAPACITY : Fld := ⟨0x300004, 14, 10⟩
/-- DRP_BUDGET 9:5 (R155, RO): Configured budget in effect, in 16 GiB units -/
def DRP_BUDGET.CFG_IN_FORCE : Fld := ⟨0x300004, 5, 5⟩
/-- DRP_BUDGET 4:0 (R155, RO): B_eff in 16 GiB units; 0 while tracking has not started -/
def DRP_BUDGET.EFF_BUDGET : Fld := ⟨0x300004, 0, 5⟩
/-- DRP_SS_DIRTY 31:0 (R156, RO): save-set counter -/
def DRP_SS_DIRTY.PAGES : Fld := ⟨0x300008, 0, 32⟩
/-- DRP_SS_FROZEN 31:0 (R156, RO): save-set counter -/
def DRP_SS_FROZEN.PAGES : Fld := ⟨0x30000c, 0, 32⟩
/-- DRP_SS_CARAFE 31:0 (R156, RO): save-set counter -/
def DRP_SS_CARAFE.PAGES : Fld := ⟨0x300010, 0, 32⟩
/-- DRP_SS_TOTAL 31:0 (R156, RO): save-set counter -/
def DRP_SS_TOTAL.PAGES : Fld := ⟨0x300014, 0, 32⟩
/-- DRP_ADM 21:12 (R157, RO): S − B_eff when positive, in 16 MiB units, 0–512 -/
def DRP_ADM.MARGIN_USED : Fld := ⟨0x300018, 12, 10⟩
/-- DRP_ADM 11:4 (R157, RO): S as a percentage of B_eff, saturating at 255 -/
def DRP_ADM.FILL_PCT : Fld := ⟨0x300018, 4, 8⟩
/-- DRP_ADM 3:3 (R157, RO): The Carafe margin is exhausted (R139) -/
def DRP_ADM.STALL : Fld := ⟨0x300018, 3, 1⟩
/-- DRP_ADM 1:0 (R157, RO): 0x0 Free, 0x1 Paced, 0x2 Held; 0x3 reserved -/
def DRP_ADM.BAND : Fld := ⟨0x300018, 0, 2⟩
/-- DRP_ADM_OVR_CNT 31:16 (R158, RC): Stalls begun since the last read, saturating -/
def DRP_ADM_OVR_CNT.STALL_CNT : Fld := ⟨0x30001c, 16, 16⟩
/-- DRP_ADM_OVR_CNT 15:0 (R158, RC): Overrun admissions since the last read, saturating -/
def DRP_ADM_OVR_CNT.OVR_CNT : Fld := ⟨0x30001c, 0, 16⟩
/-- DRP_ADM_MAXHOLD 31:0 (R158, RC): Longest admission wait since the last read, in µs, saturating -/
def DRP_ADM_MAXHOLD.MAX_HOLD_US : Fld := ⟨0x300020, 0, 32⟩
/-- DRP_RATE 23:12 (R159, RO): Drip rate ceiling of R143, in 0.25 GB/s units -/
def DRP_RATE.RATE_LIMIT : Fld := ⟨0x300024, 12, 12⟩
/-- DRP_RATE 11:0 (R159, RO): R_clean, in 0.25 GB/s units -/
def DRP_RATE.CLEAN_RATE : Fld := ⟨0x300024, 0, 12⟩
/-- DRP_WEAR_CFG 15:8 (R160, RW): Bucket depth, in minutes at peak, 1–255; shipped 30 -/
def DRP_WEAR_CFG.PEAK_MIN : Fld := ⟨0x300028, 8, 8⟩
/-- DRP_WEAR_CFG 7:0 (R160, RW): Average rate in 0.25 GB/s units, 1–255; shipped 16 (4 GB/s) -/
def DRP_WEAR_CFG.AVG_RATE : Fld := ⟨0x300028, 0, 8⟩
/-- DRP_WEAR_CREDIT 31:0 (R159, RO): Wear credit in GB, as a two's-complement signed value -/
def DRP_WEAR_CREDIT.CREDIT_GB : Fld := ⟨0x30002c, 0, 32⟩
/-- DRP_MODEL_P 25:16 (R160, RW): Sled save power at 100 GB/s, in W, 1–1,023; shipped 320 -/
def DRP_MODEL_P.P_FULL : Fld := ⟨0x300030, 16, 10⟩
/-- DRP_MODEL_P 9:0 (R160, RW): Rate-independent part of the sled save power, in W, 0–1,022; shipped 120 -/
def DRP_MODEL_P.P_BASE : Fld := ⟨0x300030, 0, 10⟩
/-- DRP_MODEL_T 28:16 (R160, RW): Ceiling on save time, in ms, 1,000–8,000; shipped 7,500 -/
def DRP_MODEL_T.T_MAX : Fld := ⟨0x300034, 16, 13⟩
/-- DRP_MODEL_T 11:0 (R160, RW): Fixed part of save time, in ms, 100–4,000; shipped 650 -/
def DRP_MODEL_T.T_FIX : Fld := ⟨0x300034, 0, 12⟩
/-- DRP_RES_P 31:22 (R161, RO): Uncertainty u, in 0.1 % units, 0–1,000 -/
def DRP_RES_P.U_PERMIL : Fld := ⟨0x300038, 22, 10⟩
/-- DRP_RES_P 21:11 (R161, RO): P_wc in W, after k_u -/
def DRP_RES_P.P_WC : Fld := ⟨0x300038, 11, 11⟩
/-- DRP_RES_P 10:0 (R161, RO): P_model in W, as received -/
def DRP_RES_P.P_MODEL : Fld := ⟨0x300038, 0, 11⟩
/-- DRP_RES_E 31:0 (R161, RO): E_wc in J, after k_u -/
def DRP_RES_E.E_WC : Fld := ⟨0x30003c, 0, 32⟩
/-- DRP_TRK_ERR 15:8 (R158, RC): Side-table lines reset under R113, saturating -/
def DRP_TRK_ERR.MASK_UE : Fld := ⟨0x300040, 8, 8⟩
/-- DRP_TRK_ERR 7:0 (R158, RC): Tracking SRAM words reset under R113, saturating -/
def DRP_TRK_ERR.TRK_UE : Fld := ⟨0x300040, 0, 8⟩
/-- DRP_LD_NEWPG 31:0 (R158, RC): New-page writes admitted for LDn since the last read, saturating -/
def DRP_LD_NEWPG.NEW_PAGES (n : Nat) : Fld := ⟨0x300100 + 0x4 * n, 0, 32⟩
/-- DRP_BND_CFG 29:28 (R200, RW): 0x0 LOCAL, 0x1 FOLLOW, 0x2 SOURCE; 0x3 reserved; shipped LOCAL -/
def DRP_BND_CFG.TIMING : Fld := ⟨0x300200, 28, 2⟩
/-- DRP_BND_CFG 26:16 (R200, RW): Limit of R180 in µs, 200–1,500; shipped 1,000 -/
def DRP_BND_CFG.CARAFE_WAIT : Fld := ⟨0x300200, 16, 11⟩
/-- DRP_BND_CFG 9:0 (R200, RW): Epoch period in ms, 1–1,000; shipped 20 -/
def DRP_BND_CFG.PERIOD_MS : Fld := ⟨0x300200, 0, 10⟩
/-- DRP_BND_STAT 6:4 (R201, RO): End of the last sealing epoch: 0x0 none, 0x1 DURABLE, 0x2 ABANDON_TRACK, 0x3 ABANDON_CARAFE; other values rese -/
def DRP_BND_STAT.LAST_END : Fld := ⟨0x300204, 4, 3⟩
/-- DRP_BND_STAT 3:3 (R201, RO): The open epoch's number was taken from an accepted frame -/
def DRP_BND_STAT.RACK : Fld := ⟨0x300204, 3, 1⟩
/-- DRP_BND_STAT 2:2 (R201, RO): A boundary under local timing is due and deferred -/
def DRP_BND_STAT.DEFERRED : Fld := ⟨0x300204, 2, 1⟩
/-- DRP_BND_STAT 1:1 (R201, RO): An epoch is sealing -/
def DRP_BND_STAT.SEALING : Fld := ⟨0x300204, 1, 1⟩
/-- DRP_BND_STAT 0:0 (R201, RO): An epoch is open -/
def DRP_BND_STAT.OPEN : Fld := ⟨0x300204, 0, 1⟩
/-- DRP_BND_SEAL_EPOCH_LO 31:0 (R202, RO): bits 31:0 -/
def DRP_BND_SEAL_EPOCH_LO.LO : Fld := ⟨0x300208, 0, 32⟩
/-- DRP_BND_SEAL_EPOCH_HI 15:0 (R202, RO): bits 47:32 -/
def DRP_BND_SEAL_EPOCH_HI.HI : Fld := ⟨0x30020c, 0, 16⟩
/-- DRP_BND_CNT 31:16 (R203, RC): Boundaries that fell due and were not taken at once since the last read: local-timing boundaries deferred unde -/
def DRP_BND_CNT.DEFER_CNT : Fld := ⟨0x300210, 16, 16⟩
/-- DRP_BND_CNT 15:8 (R203, RC): Numbers skipped under R189 and R190 since the last read -/
def DRP_BND_CNT.SKIP_CNT : Fld := ⟨0x300210, 8, 8⟩
/-- DRP_BND_CNT 7:0 (R203, RC): Sealing epochs abandoned since the last read -/
def DRP_BND_CNT.ABANDON_CNT : Fld := ⟨0x300210, 0, 8⟩
/-- DRP_BND_SEAL_TIME 31:16 (R203, RC): Longest boundary-to-durable time since the last read, in ms -/
def DRP_BND_SEAL_TIME.MAX_MS : Fld := ⟨0x300214, 16, 16⟩
/-- DRP_BND_SEAL_TIME 15:0 (R203, RO): Boundary-to-durable time of the last durable epoch, in ms -/
def DRP_BND_SEAL_TIME.LAST_MS : Fld := ⟨0x300214, 0, 16⟩
/-- DRP_CAR_CFG 23:16 (R203, RO): Carafe size in force, in GiB -/
def DRP_CAR_CFG.SIZE_GIB : Fld := ⟨0x300220, 16, 8⟩
/-- DRP_CAR_CFG 7:0 (R203, RW): Carafe size at the next cold start, in GiB, 8–128; shipped 32 -/
def DRP_CAR_CFG.NEXT_GIB : Fld := ⟨0x300220, 0, 8⟩
/-- DRP_CAR_USED 31:0 (R203, RO): Slots in use, including copies in progress -/
def DRP_CAR_USED.SLOTS : Fld := ⟨0x300224, 0, 32⟩
/-- DRP_CAR_COPY_CNT 31:0 (R203, RC): Copies-before-write since the last read -/
def DRP_CAR_COPY_CNT.COPIES : Fld := ⟨0x300228, 0, 32⟩
/-- DRP_CAR_DIRECT_CNT 31:0 (R203, RC): Direct persists since the last read -/
def DRP_CAR_DIRECT_CNT.DIRECT : Fld := ⟨0x30022c, 0, 32⟩
/-- DRP_CAR_MAXWAIT 31:0 (R203, RC): Longest delay of R181 since the last read, in ns -/
def DRP_CAR_MAXWAIT.MAX_WAIT_NS : Fld := ⟨0x300230, 0, 32⟩
/-- DRP_BCN_CFG 11:0 (R204, RW): Frame time to boundary, in 10 ns units, 3,000–4,095; shipped 3,000 -/
def DRP_BCN_CFG.DELAY : Fld := ⟨0x300240, 0, 12⟩
/-- DRP_BCN_STAT 6:6 (R204, RO): The sled emits frames as source -/
def DRP_BCN_STAT.SENDING : Fld := ⟨0x300244, 6, 1⟩
/-- DRP_BCN_STAT 5:4 (R204, RO): Consecutive misses while locked, 0–2 -/
def DRP_BCN_STAT.MISS_RUN : Fld := ⟨0x300244, 4, 2⟩
/-- DRP_BCN_STAT 3:1 (R204, RO): Frames counted toward lock, 0–3 -/
def DRP_BCN_STAT.GOOD_RUN : Fld := ⟨0x300244, 1, 3⟩
/-- DRP_BCN_STAT 0:0 (R204, RO): Copy of GLB_READY.BEACON_LOCK -/
def DRP_BCN_STAT.LOCK : Fld := ⟨0x300244, 0, 1⟩
/-- DRP_BCN_LAST_LO 31:0 (R204, RO): Bits 31:0 of the number in the last valid frame -/
def DRP_BCN_LAST_LO.NUM_LO : Fld := ⟨0x300248, 0, 32⟩
/-- DRP_BCN_LAST_HI 15:0 (R204, RO): Bits 47:32 of that number -/
def DRP_BCN_LAST_HI.NUM_HI : Fld := ⟨0x30024c, 0, 16⟩
/-- DRP_BCN_START_LO 31:0 (R204, RW): Bits 31:0 of the first source number under R193; 0 with START_HI 0 means none -/
def DRP_BCN_START_LO.START_LO : Fld := ⟨0x300250, 0, 32⟩
/-- DRP_BCN_START_HI 15:0 (R204, RW): Bits 47:32 of the first source number -/
def DRP_BCN_START_HI.START_HI : Fld := ⟨0x300254, 0, 16⟩
/-- DRP_BCN_ERR 31:24 (R204, RC): Frames with a bad CRC since the last read -/
def DRP_BCN_ERR.CRC_ERR : Fld := ⟨0x300258, 24, 8⟩
/-- DRP_BCN_ERR 23:16 (R204, RC): Valid frames outside the window since the last read -/
def DRP_BCN_ERR.WIN_ERR : Fld := ⟨0x300258, 16, 8⟩
/-- DRP_BCN_ERR 15:8 (R204, RC): In-window frames with an unexpected number since the last read -/
def DRP_BCN_ERR.SEQ_ERR : Fld := ⟨0x300258, 8, 8⟩
/-- DRP_BCN_ERR 7:0 (R204, RC): Misses under R190 since the last read -/
def DRP_BCN_ERR.MISS : Fld := ⟨0x300258, 0, 8⟩
/-- SAV_CFG 23:20 (R251, RW): Empty feed slots that start panic (R227), 1–8; shipped 6 -/
def SAV_CFG.PANIC_SLOTS : Fld := ⟨0x310000, 20, 4⟩
/-- SAV_CFG 17:16 (R251, RW): 0x0 NONE, 0x1 OWNER, 0x2 ANY; 0x3 reserved; shipped OWNER -/
def SAV_CFG.GPF_SRC : Fld := ⟨0x310000, 16, 2⟩
/-- SAV_CFG 5:0 (R251, RW): tGRACE in ms, 0–50; shipped 10 -/
def SAV_CFG.GRACE_MS : Fld := ⟨0x310000, 0, 6⟩
/-- SAV_STAT 15:8 (R252, RO): NFC channels in FAILED during this save, 0–32 -/
def SAV_STAT.FAILED_FC : Fld := ⟨0x310004, 8, 8⟩
/-- SAV_STAT 7:7 (R252, RO): A Foghorn is latched in RESUMING (R248) -/
def SAV_STAT.LATCHED : Fld := ⟨0x310004, 7, 1⟩
/-- SAV_STAT 6:6 (R252, RO): Resume in place is allowed for this save -/
def SAV_STAT.RESUME_OK : Fld := ⟨0x310004, 6, 1⟩
/-- SAV_STAT 5:5 (R252, RO): A flash die is throttled under R237 now -/
def SAV_STAT.THROTTLE : Fld := ⟨0x310004, 5, 1⟩
/-- SAV_STAT 4:4 (R252, RO): A feed is in panic now -/
def SAV_STAT.PANIC : Fld := ⟨0x310004, 4, 1⟩
/-- SAV_STAT 3:0 (R252, RO): 0x0 IDLE, 0x1 GRACE, 0x2 CUTTING, 0x3 OPEN_REC, 0x4 SEALING, 0x5 CUT_PAGES, 0x6 MIRROR, 0x7 INDEX, 0x8 COMMIT, -/
def SAV_STAT.PHASE : Fld := ⟨0x310004, 0, 4⟩
/-- SAV_FOG_SRC 7:4 (R252, RO): Bit 4 VIN_LOSS, bit 5 HOST_GPF, bit 6 PBTN_OFF, bit 7 COMMAND -/
def SAV_FOG_SRC.SEEN : Fld := ⟨0x310008, 4, 4⟩
/-- SAV_FOG_SRC 2:0 (R252, RO): First source, coded as in R205; 0x0 none -/
def SAV_FOG_SRC.FIRST : Fld := ⟨0x310008, 0, 3⟩
/-- SAV_RATE 23:12 (R253, RO): Rate the flash population sustains (R235), in 0.25 GB/s units -/
def SAV_RATE.POP_RATE : Fld := ⟨0x31000c, 12, 12⟩
/-- SAV_RATE 11:0 (R253, RO): Save rate ceiling (R212), in 0.25 GB/s units -/
def SAV_RATE.CEILING : Fld := ⟨0x31000c, 0, 12⟩
/-- SAV_RSV 31:16 (R253, RO): Pre-erased save reserve, whole GiB -/
def SAV_RSV.RESERVE_GIB : Fld := ⟨0x310010, 16, 16⟩
/-- SAV_RSV 15:0 (R253, RO): C_flash (R232), whole GiB -/
def SAV_RSV.C_FLASH_GIB : Fld := ⟨0x310010, 0, 16⟩
/-- SAV_PROGRESS 31:0 (R253, RO): Pages whose programs have passed in the current save -/
def SAV_PROGRESS.PAGES : Fld := ⟨0x310014, 0, 32⟩
/-- SAV_DISCARD 31:16 (R253, RO): Writes waiting in the HIF under HOLD or before GLB_READY.MEM_PARTIAL (R213, R264), discarded at the last cut, -/
def SAV_DISCARD.HELD : Fld := ⟨0x310018, 16, 16⟩
/-- SAV_DISCARD 15:0 (R253, RO): Writes waiting for admission, or for a fault-in not issued at the cut (R213), discarded at the last cut, satur -/
def SAV_DISCARD.ADMIT : Fld := ⟨0x310018, 0, 16⟩
/-- SAV_LAST_RESULT 15:12 (R254, RO): 0x0 NONE, 0x1 COMMITTED, 0x2 ABORT_RAIL, 0x3 NO_SPACE, 0x4 INCOMPLETE; other values reserved -/
def SAV_LAST_RESULT.END : Fld := ⟨0x31001c, 12, 4⟩
/-- SAV_LAST_RESULT 11:11 (R254, RO): The save ended in resume in place -/
def SAV_LAST_RESULT.RESUMED : Fld := ⟨0x31001c, 11, 1⟩
/-- SAV_LAST_RESULT 10:10 (R254, RO): A sealing epoch became durable during the save (R220) -/
def SAV_LAST_RESULT.SEAL_DURABLE : Fld := ⟨0x31001c, 10, 1⟩
/-- SAV_LAST_RESULT 9:9 (R254, RO): A die was throttled under R237 -/
def SAV_LAST_RESULT.THERMAL : Fld := ⟨0x31001c, 9, 1⟩
/-- SAV_LAST_RESULT 8:8 (R254, RO): SAV was throttled under R228 -/
def SAV_LAST_RESULT.DMC_THROTTLE : Fld := ⟨0x31001c, 8, 1⟩
/-- SAV_LAST_RESULT 7:7 (R254, RO): The Foghorn arose in RESTORING -/
def SAV_LAST_RESULT.FROM_RESTORE : Fld := ⟨0x31001c, 7, 1⟩
/-- SAV_LAST_RESULT 3:0 (R254, RO): Rail number when END is ABORT_RAIL -/
def SAV_LAST_RESULT.ABORT_RAIL : Fld := ⟨0x31001c, 0, 4⟩
/-- SAV_LAST_TIME 31:16 (R254, RO): Cut to cut commit record, in ms; 0xFFFF without a commit record -/
def SAV_LAST_TIME.SAVE_MS : Fld := ⟨0x310020, 16, 16⟩
/-- SAV_LAST_TIME 15:0 (R254, RO): t_F to the cut, in µs -/
def SAV_LAST_TIME.CUT_US : Fld := ⟨0x310020, 0, 16⟩
/-- SAV_LAST_PAGES 31:0 (R254, RO): Page records written by the save -/
def SAV_LAST_PAGES.PAGES : Fld := ⟨0x310024, 0, 32⟩
/-- SAV_LAST_POISON 31:0 (R254, RO): Lines recorded as poisoned by the save (R224) -/
def SAV_LAST_POISON.LINES : Fld := ⟨0x310028, 0, 32⟩
/-- SAV_LAST_RETRY 31:16 (R254, RO): Programs repeated after failure, page records and the records of R236 alike, saturating -/
def SAV_LAST_RETRY.PROG_RETRY : Fld := ⟨0x31002c, 16, 16⟩
/-- SAV_LAST_RETRY 15:0 (R254, RO): Entries into panic, saturating -/
def SAV_LAST_RETRY.PANIC_CNT : Fld := ⟨0x31002c, 0, 16⟩
/-- SAV_LAST_EPOCH_LO 31:0 (R254, RO): Bits 31:0 of the cut epoch number -/
def SAV_LAST_EPOCH_LO.NUM_LO : Fld := ⟨0x310030, 0, 32⟩
/-- SAV_LAST_EPOCH_HI 15:0 (R254, RO): Bits 47:32 of the cut epoch number -/
def SAV_LAST_EPOCH_HI.NUM_HI : Fld := ⟨0x310034, 0, 16⟩
/-- RSE_CFG 15:12 (R289, RW): Full feed slots that start panic (R271), 1–8; shipped 6 -/
def RSE_CFG.PANIC_SLOTS : Fld := ⟨0x320000, 12, 4⟩
/-- RSE_CFG 6:4 (R289, RW): Read retries for each demand fault-in (R275, R276), 0–7; shipped 1 -/
def RSE_CFG.FI_RETRY : Fld := ⟨0x320000, 4, 3⟩
/-- RSE_STAT 23:20 (R290, RO): 0x0 none, 0x1 UNREADABLE (no image readable under R63), 0x2 CAPACITY (an image was unreadable only under R257) -/
def RSE_STAT.LOST_CAUSE : Fld := ⟨0x320004, 20, 4⟩
/-- RSE_STAT 19:16 (R290, RO): Images judged readable, 0–9 -/
def RSE_STAT.JUDGED : Fld := ⟨0x320004, 16, 4⟩
/-- RSE_STAT 8:8 (R290, RO): The promotion list holds 64 extents -/
def RSE_STAT.PROMOTE_FULL : Fld := ⟨0x320004, 8, 1⟩
/-- RSE_STAT 3:0 (R290, RO): 0x0 IDLE, 0x1 JUDGE, 0x2 SELECT, 0x3 LOAD_DIR, 0x4 SWEEP, 0x5 FILL, 0x6 DONE, 0x7 HALTED, 0x8 LOST; other valu -/
def RSE_STAT.PHASE : Fld := ⟨0x320004, 0, 4⟩
/-- RSE_LD_PRIO 31:0 PRIO15–PRIO0 (R291): sweep priority of each logical device -/
def RSE_LD_PRIO.PRIO (k : Nat) : Fld := ⟨0x320008, 0 + 2 * k, 2⟩
/-- RSE_EXT_CNT 31:16 (R292, RO): Host-mappable extents ready, 0–32,768 -/
def RSE_EXT_CNT.READY : Fld := ⟨0x32000c, 16, 16⟩
/-- RSE_EXT_CNT 15:0 (R292, RO): Host-mappable extents, 0–32,768 -/
def RSE_EXT_CNT.MAPPABLE : Fld := ⟨0x32000c, 0, 16⟩
/-- RSE_PAGES 31:0 (R292, RO): Pages restored in this power cycle, by sweep, fill or fault-in -/
def RSE_PAGES.RESTORED : Fld := ⟨0x320010, 0, 32⟩
/-- RSE_RATE 23:12 (R292, RO): Sweep rate over the last 100 ms, in 0.25 GB/s units -/
def RSE_RATE.SWEEP_RATE : Fld := ⟨0x320014, 12, 12⟩
/-- RSE_RATE 7:0 (R292, RO): Share of flash read time taken by fault-ins over the last 100 ms, in percent -/
def RSE_RATE.FI_PCT : Fld := ⟨0x320014, 0, 8⟩
/-- RSE_TIME 31:16 (R292, RO): Entry to RESTORING, or start of the fill, to MEM_FULL, in s; 0 until MEM_FULL -/
def RSE_TIME.TO_FULL_S : Fld := ⟨0x320018, 16, 16⟩
/-- RSE_TIME 15:0 (R292, RO): Restore start to IMAGE_INDEXED, in ms -/
def RSE_TIME.INDEX_MS : Fld := ⟨0x320018, 0, 16⟩
/-- RSE_FI_CNT 31:0 (R293, RC): Demand fault-ins started since the last read, joined requests not counted -/
def RSE_FI_CNT.FAULTINS : Fld := ⟨0x32001c, 0, 32⟩
/-- RSE_FI_MAX 31:0 (R293, RC): Longest wait of R276 since the last read, in ns -/
def RSE_FI_MAX.MAX_NS : Fld := ⟨0x320020, 0, 32⟩
/-- RSE_ERR 31:16 (R293, RC): Pages poisoned under R275 and R279 since the last read -/
def RSE_ERR.UE_PAGES : Fld := ⟨0x320024, 16, 16⟩
/-- RSE_ERR 15:0 (R293, RC): Flash read retries by sweep and fault-in since the last read -/
def RSE_ERR.RETRIES : Fld := ⟨0x320024, 0, 16⟩
/-- RSE_RDY_BMP 31:0 (R294, RO): readiness of 32 extents -/
def RSE_RDY_BMP.RDY (n : Nat) : Fld := ⟨0x321000 + 0x4 * n, 0, 32⟩
/-- NFC_CH_CFG 11:8 (R347, RW): 0x1 800, 0x2 1600, 0x3 2400, 0x4 3200, 0x5 3600 MT/s; other values reserved; shipped 0x5 -/
def NFC_CH_CFG.RATE (n : Nat) : Fld := ⟨0x400000 + 0x2000 * n, 8, 4⟩
/-- NFC_CH_CFG 0:0 (R347, RW): Channel in use; shipped 1 -/
def NFC_CH_CFG.ENABLE (n : Nat) : Fld := ⟨0x400000 + 0x2000 * n, 0, 1⟩
/-- NFC_CH_STAT 23:16 (R347, RO): LUNs found, 0–64 -/
def NFC_CH_STAT.LUNS (n : Nat) : Fld := ⟨0x400004 + 0x2000 * n, 16, 8⟩
/-- NFC_CH_STAT 15:8 (R347, RO): Targets found, 0–16 -/
def NFC_CH_STAT.TARGETS (n : Nat) : Fld := ⟨0x400004 + 0x2000 * n, 8, 8⟩
/-- NFC_CH_STAT 3:3 (R347, RO): Interface training passed at RATE -/
def NFC_CH_STAT.TRAINED (n : Nat) : Fld := ⟨0x400004 + 0x2000 * n, 3, 1⟩
/-- NFC_CH_STAT 2:2 (R347, RO): A die is throttled under R147 or R237 -/
def NFC_CH_STAT.THROTTLED (n : Nat) : Fld := ⟨0x400004 + 0x2000 * n, 2, 1⟩
/-- NFC_CH_STAT 1:1 (R347, RO): Channel in FAILED -/
def NFC_CH_STAT.FAILED (n : Nat) : Fld := ⟨0x400004 + 0x2000 * n, 1, 1⟩
/-- NFC_CH_STAT 0:0 (R347, RO): Channel running -/
def NFC_CH_STAT.UP (n : Nat) : Fld := ⟨0x400004 + 0x2000 * n, 0, 1⟩
/-- NFC_CH_TEMP 13:8 (R347, RO): Volume × 4 + LUN of the hottest die -/
def NFC_CH_TEMP.HOT_LUN (n : Nat) : Fld := ⟨0x400008 + 0x2000 * n, 8, 6⟩
/-- NFC_CH_TEMP 7:0 (R347, RO): Its temperature in °C, two's complement -/
def NFC_CH_TEMP.MAX_TEMP (n : Nat) : Fld := ⟨0x400008 + 0x2000 * n, 0, 8⟩
/-- NFC_CH_CORR 31:16 (R347, RC): Most bits corrected in one codeword since the last read -/
def NFC_CH_CORR.CORR_MAX (n : Nat) : Fld := ⟨0x40000c + 0x2000 * n, 16, 16⟩
/-- NFC_CH_CORR 15:0 (R347, RC): Reads above REFRESH_THR since the last read -/
def NFC_CH_CORR.OVER_THR (n : Nat) : Fld := ⟨0x40000c + 0x2000 * n, 0, 16⟩
/-- NFC_CH_ERR 31:24 (R347, RC): Uncorrectable codewords (R308) -/
def NFC_CH_ERR.UE (n : Nat) : Fld := ⟨0x400010 + 0x2000 * n, 24, 8⟩
/-- NFC_CH_ERR 23:16 (R347, RC): Reads that needed a retry level -/
def NFC_CH_ERR.RETRY (n : Nat) : Fld := ⟨0x400010 + 0x2000 * n, 16, 8⟩
/-- NFC_CH_ERR 15:8 (R347, RC): Program failures -/
def NFC_CH_ERR.PROG_FAIL (n : Nat) : Fld := ⟨0x400010 + 0x2000 * n, 8, 8⟩
/-- NFC_CH_ERR 7:0 (R347, RC): Erase and blank-check failures -/
def NFC_CH_ERR.ERASE_FAIL (n : Nat) : Fld := ⟨0x400010 + 0x2000 * n, 0, 8⟩
/-- NFC_CH_SUSP 31:0 (R347, RC): Erase and program suspensions since the last read -/
def NFC_CH_SUSP.SUSPENDS (n : Nat) : Fld := ⟨0x400014 + 0x2000 * n, 0, 32⟩
/-- NFC_CH_ORDER 15:0 (R347, RC): Programs refused under R314 since the last read -/
def NFC_CH_ORDER.ORDER_REJ (n : Nat) : Fld := ⟨0x400018 + 0x2000 * n, 0, 16⟩
/-- NFC_POP 23:20 (R348, RO): Planes per LUN: 2, 4 or 6 -/
def NFC_POP.PLANES : Fld := ⟨0x440000, 20, 4⟩
/-- NFC_POP 19:18 (R348, RO): LUNs per target: 0x0 one, 0x1 two, 0x2 four -/
def NFC_POP.LUN_CODE : Fld := ⟨0x440000, 18, 2⟩
/-- NFC_POP 12:8 (R348, RO): Targets per channel, 1–16 -/
def NFC_POP.TGT_PER_CH : Fld := ⟨0x440000, 8, 5⟩
/-- NFC_POP 5:0 (R348, RO): Populated channels: 8, 16 or 32 -/
def NFC_POP.CHANNELS : Fld := ⟨0x440000, 0, 6⟩
/-- NFC_GEOM 31:16 (R348, RO): Blocks per plane -/
def NFC_GEOM.BLOCKS : Fld := ⟨0x440004, 16, 16⟩
/-- NFC_GEOM 11:0 (R348, RO): pSLC pages per block, minus 1 -/
def NFC_GEOM.PAGES_M1 : Fld := ⟨0x440004, 0, 12⟩
/-- NFC_CAP 31:0 (R348, RO): Usable pSLC capacity, whole GiB -/
def NFC_CAP.CAP_GIB : Fld := ⟨0x440008, 0, 32⟩
/-- NFC_ECC_THR 23:16 (R348, RW): Zero bits tolerated per erased codeword (R319), 0–255; shipped 16 -/
def NFC_ECC_THR.BLANK_THR : Fld := ⟨0x44000c, 16, 8⟩
/-- NFC_ECC_THR 6:0 (R348, RW): Corrected bits per codeword that mark a block for refresh (R307), 1–72; shipped 40 -/
def NFC_ECC_THR.REFRESH_THR : Fld := ⟨0x44000c, 0, 7⟩
/-- NFC_KEY 15:0 (R348, RO): Current image key generation -/
def NFC_KEY.KEYGEN : Fld := ⟨0x440010, 0, 16⟩
/-- NFC_BAD_FACTORY 31:0 (R348, RO): Factory bad blocks -/
def NFC_BAD_FACTORY.BLOCKS : Fld := ⟨0x440014, 0, 32⟩
/-- NFC_BAD_GROWN 31:0 (R348, RO): Blocks retired in service -/
def NFC_BAD_GROWN.BLOCKS : Fld := ⟨0x440018, 0, 32⟩
/-- NFC_POOL 31:16 (R348, RO): ERASED pool, whole GiB -/
def NFC_POOL.ERASED_GIB : Fld := ⟨0x44001c, 16, 16⟩
/-- NFC_POOL 15:0 (R348, RO): RELEASED blocks, whole GiB -/
def NFC_POOL.RELEASED_GIB : Fld := ⟨0x44001c, 0, 16⟩
/-- NFC_GC_REQ 31:30 (R349, WO): 0x1 RELOCATE, 0x2 ERASE; other values ignored -/
def NFC_GC_REQ.OP : Fld := ⟨0x440030, 30, 2⟩
/-- NFC_GC_REQ 26:0 (R349, WO): Block named as R303 states -/
def NFC_GC_REQ.BLOCK_ID : Fld := ⟨0x440030, 0, 27⟩
/-- NFC_GC_STAT 31:28 (R349, RO): 0x0 IDLE, 0x1 BUSY, 0x2 DONE, 0x3 REFUSED_STATE; other values reserved -/
def NFC_GC_STAT.RESULT : Fld := ⟨0x440034, 28, 4⟩
/-- NFC_GC_STAT 26:0 (R349, RO): Block of the last request -/
def NFC_GC_STAT.BLOCK_ID : Fld := ⟨0x440034, 0, 27⟩
/-- NFC_GC_INFO_SEL 26:0 (R349, RW): Block that NFC_GC_INFO describes -/
def NFC_GC_INFO_SEL.BLOCK_ID : Fld := ⟨0x440038, 0, 27⟩
/-- NFC_GC_INFO 31:28 (R349, RO): Block state code (R313) -/
def NFC_GC_INFO.STATE : Fld := ⟨0x44003c, 28, 4⟩
/-- NFC_GC_INFO 27:27 (R349, RO): Marked under R307 -/
def NFC_GC_INFO.REFRESH : Fld := ⟨0x44003c, 27, 1⟩
/-- NFC_GC_INFO 26:24 (R349, RO): 0x0 none, 0x1 DRIP, 0x2 SAV, 0x3 GC, 0x4 KEEPER -/
def NFC_GC_INFO.OWNER : Fld := ⟨0x44003c, 24, 3⟩
/-- NFC_GC_INFO 23:0 (R349, RO): Referenced codewords in the block, 0–98,304 (6 planes × 4 slots × 4,096 pages at most) -/
def NFC_GC_INFO.LIVE : Fld := ⟨0x44003c, 0, 24⟩
/-- HIF_CFG 9:8 (R466, RO): Owner head, 0–3; shipped 0 -/
def HIF_CFG.OWNER : Fld := ⟨0x500000, 8, 2⟩
/-- HIF_CFG 5:5 (R466, RO): HP1 at the next cold start: 0 x16, 1 2 × x8; shipped 0 -/
def HIF_CFG.NEXT_BIFUR1 : Fld := ⟨0x500000, 5, 1⟩
/-- HIF_CFG 4:4 (R466, RO): HP0 at the next cold start, coded as NEXT_BIFUR1; shipped 0 -/
def HIF_CFG.NEXT_BIFUR0 : Fld := ⟨0x500000, 4, 1⟩
/-- HIF_CFG 1:1 (R466, RO): HP1 bifurcation in force -/
def HIF_CFG.BIFUR1 : Fld := ⟨0x500000, 1, 1⟩
/-- HIF_CFG 0:0 (R466, RO): HP0 bifurcation in force -/
def HIF_CFG.BIFUR0 : Fld := ⟨0x500000, 0, 1⟩
/-- HIF_LD_BIND 31:0 HEAD15–HEAD0 (R466): Per LDn, bits 2n+1:2n: head bound, in force; absent devices read 0 and show 0 in PRESENT -/
def HIF_LD_BIND.HEAD (k : Nat) : Fld := ⟨0x500004, 0 + 2 * k, 2⟩
/-- HIF_LD_STAT 31:16 (R466, RO): Bit n: LDn has CXL.mem enabled -/
def HIF_LD_STAT.MEM_EN : Fld := ⟨0x500008, 16, 16⟩
/-- HIF_LD_STAT 15:0 (R466, RO): Bit n: LDn is bound to a head -/
def HIF_LD_STAT.PRESENT : Fld := ⟨0x500008, 0, 16⟩
/-- HIF_LD_EVT 15:0 (R466, RW1C): Bit n: an event log of LDn overflowed (R459) -/
def HIF_LD_EVT.OVERFLOW : Fld := ⟨0x50000c, 0, 16⟩
/-- HIF_HEAD_STAT 23:20 (R466, RO): 0x0 down, 0x1 x4, 0x2 x8, 0x3 x16, 0x4 x2, 0x5 x1; other values reserved -/
def HIF_HEAD_STAT.WIDTH (n : Nat) : Fld := ⟨0x500010 + 0x4 * n, 20, 4⟩
/-- HIF_HEAD_STAT 19:16 (R466, RO): 0x0 none, 0x1 below 32 GT/s, 0x2 32 GT/s, 0x3 64 GT/s; other values reserved -/
def HIF_HEAD_STAT.RATE (n : Nat) : Fld := ⟨0x500010 + 0x4 * n, 16, 4⟩
/-- HIF_HEAD_STAT 7:6 (R466, RO): Last DevLoad sent: 0x0 Light, 0x1 Optimal, 0x2 Moderate, 0x3 Severe -/
def HIF_HEAD_STAT.DEVLOAD (n : Nat) : Fld := ⟨0x500010 + 0x4 * n, 6, 2⟩
/-- HIF_HEAD_STAT 5:5 (R466, RO): GPF phase 2 completed since t_F -/
def HIF_HEAD_STAT.GPF2_DONE (n : Nat) : Fld := ⟨0x500010 + 0x4 * n, 5, 1⟩
/-- HIF_HEAD_STAT 4:4 (R466, RO): GPF phase 1 received since t_F -/
def HIF_HEAD_STAT.GPF1_SEEN (n : Nat) : Fld := ⟨0x500010 + 0x4 * n, 4, 1⟩
/-- HIF_HEAD_STAT 3:3 (R466, RO): CXL.mem enabled on a logical device of the head -/
def HIF_HEAD_STAT.MEM_EN (n : Nat) : Fld := ⟨0x500010 + 0x4 * n, 3, 1⟩
/-- HIF_HEAD_STAT 2:2 (R466, RO): The head is the owner head -/
def HIF_HEAD_STAT.OWNER (n : Nat) : Fld := ⟨0x500010 + 0x4 * n, 2, 1⟩
/-- HIF_HEAD_STAT 1:1 (R466, RO): Latency-optimised flits in use -/
def HIF_HEAD_STAT.FLIT_LO (n : Nat) : Fld := ⟨0x500010 + 0x4 * n, 1, 1⟩
/-- HIF_HEAD_STAT 0:0 (R466, RO): Link up -/
def HIF_HEAD_STAT.UP (n : Nat) : Fld := ⟨0x500010 + 0x4 * n, 0, 1⟩
/-- HIF_HEAD_CTO 16:16 (R466, RO): DECLARED is non-zero and below 4 ms (R463) -/
def HIF_HEAD_CTO.SHORT (n : Nat) : Fld := ⟨0x500020 + 0x4 * n, 16, 1⟩
/-- HIF_HEAD_CTO 15:0 (R466, RW): Declared completion timeout in 100 µs units; 0 not declared -/
def HIF_HEAD_CTO.DECLARED (n : Nat) : Fld := ⟨0x500020 + 0x4 * n, 0, 16⟩
/-- HIF_HEAD_LAT 31:16 (R466, RC): Completions after DECLARED since the last read -/
def HIF_HEAD_LAT.OVER_CNT (n : Nat) : Fld := ⟨0x500030 + 0x4 * n, 16, 16⟩
/-- HIF_HEAD_LAT 15:0 (R466, RC): Longest CXL.mem service time since the last read, in µs -/
def HIF_HEAD_LAT.MAX_US (n : Nat) : Fld := ⟨0x500030 + 0x4 * n, 0, 16⟩
/-- CPX_FW_CFG 23:16 (R545, RW): Denials per second that stop the firmware, 1–255 (R530) -/
def CPX_FW_CFG.FENCE_LIMIT : Fld := ⟨0xe0000000, 16, 8⟩
/-- CPX_FW_CFG 13:12 (R545, RW): Automatic restarts per hour, 0–3 (R532) -/
def CPX_FW_CFG.RESTART_MAX : Fld := ⟨0xe0000000, 12, 2⟩
/-- CPX_FW_CFG 11:0 (R545, RW): Watchdog period in ms, 100–4,000 -/
def CPX_FW_CFG.WDT_MS : Fld := ⟨0xe0000000, 0, 12⟩
/-- CPX_FW_STAT 31:16 (R545, RO): Stops since the cold start -/
def CPX_FW_STAT.STOPS : Fld := ⟨0xe0000004, 16, 16⟩
/-- CPX_FW_STAT 15:14 (R545, RO): Automatic restarts in the last hour -/
def CPX_FW_STAT.RESTARTS : Fld := ⟨0xe0000004, 14, 2⟩
/-- CPX_FW_STAT 10:8 (R545, RO): Coded as FW_STATUS byte 5 -/
def CPX_FW_STAT.LAST_CAUSE : Fld := ⟨0xe0000004, 8, 3⟩
/-- CPX_FW_STAT 2:0 (R545, RO): Coded as FW_STATUS byte 4 -/
def CPX_FW_STAT.STATE : Fld := ⟨0xe0000004, 0, 3⟩
/-- CPX_FW_VER 31:0 (R545, RO): Running version; 0 if none -/
def CPX_FW_VER.VERSION : Fld := ⟨0xe0000008, 0, 32⟩
/-- CPX_FW_FLOOR 31:0 (R545, RO): Stored version floor (R529) -/
def CPX_FW_FLOOR.FLOOR : Fld := ⟨0xe000000c, 0, 32⟩
/-- CPX_WDT_KICK 31:0 (R545, WO): A write of any value restarts the watchdog -/
def CPX_WDT_KICK.KICK : Fld := ⟨0xe0000010, 0, 32⟩
/-- CPX_KP_STAT 31:24 (R545, RO): Lockstep mismatches since the cold start -/
def CPX_KP_STAT.LOCKSTEP : Fld := ⟨0xe0000014, 24, 8⟩
/-- CPX_KP_STAT 23:16 (R545, RO): Keeper restarts since the cold start (R539) -/
def CPX_KP_STAT.RESTARTS : Fld := ⟨0xe0000014, 16, 8⟩
/-- CPX_KP_STAT 0:0 (R545, RO): Slot running: 0 A, 1 B -/
def CPX_KP_STAT.SLOT : Fld := ⟨0xe0000014, 0, 1⟩
/-- CPX_VIOL_CNT 31:0 (R545, RC): Fence denials since the last read -/
def CPX_VIOL_CNT.DENIALS : Fld := ⟨0xe0000020, 0, 32⟩
/-- CPX_VIOL_INFO 31:28 (R545, RO): 0x0–0x3 AC0–AC3, 0x4 DMA -/
def CPX_VIOL_INFO.REQ : Fld := ⟨0xe0000024, 28, 4⟩
/-- CPX_VIOL_INFO 27:26 (R545, RO): 0x0 read, 0x1 write, 0x2 execute -/
def CPX_VIOL_INFO.KIND : Fld := ⟨0xe0000024, 26, 2⟩
/-- CPX_VIOL_INFO 20:16 (R545, RO): DMA channel when REQ is DMA -/
def CPX_VIOL_INFO.DMA_CH : Fld := ⟨0xe0000024, 16, 5⟩
/-- CPX_VIOL_INFO 0:0 (R545, RC): A denial is latched -/
def CPX_VIOL_INFO.VALID : Fld := ⟨0xe0000024, 0, 1⟩
/-- CPX_VIOL_ADDR_LO 31:0 (R545, RO): Fabric address bits 31:0 -/
def CPX_VIOL_ADDR_LO.ADDR_LO : Fld := ⟨0xe0000028, 0, 32⟩
/-- CPX_VIOL_ADDR_HI 11:0 (R545, RO): Fabric address bits 43:32 -/
def CPX_VIOL_ADDR_HI.ADDR_HI : Fld := ⟨0xe000002c, 0, 12⟩
/-- CPX_WIN_BASE 31:0 (R545, RW): Window start, fabric address bits 43:12 -/
def CPX_WIN_BASE.BASE_4K (n : Nat) : Fld := ⟨0xe0000100 + 0x10 * n, 0, 32⟩
/-- CPX_WIN_SIZE 31:0 (R545, RW): Window length in 4 KiB units -/
def CPX_WIN_SIZE.SIZE_4K (n : Nat) : Fld := ⟨0xe0000104 + 0x10 * n, 0, 32⟩
/-- CPX_WIN_ATTR 31:31 (R545, RW): Window enabled -/
def CPX_WIN_ATTR.EN (n : Nat) : Fld := ⟨0xe0000108 + 0x10 * n, 31, 1⟩
/-- CPX_WIN_ATTR 10:10 (R545, RW): Execute granted -/
def CPX_WIN_ATTR.X (n : Nat) : Fld := ⟨0xe0000108 + 0x10 * n, 10, 1⟩
/-- CPX_WIN_ATTR 9:9 (R545, RW): Write granted -/
def CPX_WIN_ATTR.W (n : Nat) : Fld := ⟨0xe0000108 + 0x10 * n, 9, 1⟩
/-- CPX_WIN_ATTR 8:8 (R545, RW): Read granted -/
def CPX_WIN_ATTR.R (n : Nat) : Fld := ⟨0xe0000108 + 0x10 * n, 8, 1⟩
/-- CPX_WIN_ATTR 4:4 (R545, RW): DMA engine named -/
def CPX_WIN_ATTR.DMA (n : Nat) : Fld := ⟨0xe0000108 + 0x10 * n, 4, 1⟩
/-- CPX_WIN_ATTR 3:0 (R545, RW): Bit k: application core k named -/
def CPX_WIN_ATTR.AC (n : Nat) : Fld := ⟨0xe0000108 + 0x10 * n, 0, 4⟩

end Reg

end Sys2Proof.Machine
end

