-- ==== Sys2Proof/Machine/Parts.lean ====
section
/-! DEFINITION. The parts the state is made of: the register file and the hidden state of each subsystem, all of it
plain data. -/

namespace Sys2Proof.Machine

open Host

/-! ## Registers -/

/-- The register file: one entry for each field, under `Fld.key`; a field with no entry holds 0. -/
abbrev RegFile := NMap Nat

/-- The value of a field. -/
def RegFile.get (r : RegFile) (f : Fld) : Nat := (NMap.find? r f.key).getD 0

/-- The file with a field set to the low `f.w` bits of `v`. -/
def RegFile.set (r : RegFile) (f : Fld) (v : Nat) : RegFile := NMap.insert r f.key (v % 2 ^ f.w)

/-- Set several fields, the first in the list first. -/
def RegFile.setAll (r : RegFile) (l : List (Fld × Nat)) : RegFile := l.foldl (fun r e => r.set e.1 e.2) r

/-- A value held for one requester's later read (R78, R156, R723): the offset whose read captured it and the words. -/
structure Capture where
  req : Req
  off : Nat
  words : List Nat
  deriving DecidableEq, Repr

/-! ## Event Recorder (chapter 18) -/

/-- A record of R706; `data` holds bytes 12–23 as one little-endian number, `valid` whether bytes 28–31 hold the mark. -/
structure EvRecord where
  source : Nat
  severity : Nat
  code : Nat
  seq : Nat
  repeats : Nat
  data : Nat
  timeMs : Nat
  deriving DecidableEq, Repr

/-- An event that has occurred: its source, CODE, DATA and the logical device it is tied to. -/
structure Occurrence where
  source : Source
  code : Nat
  data : Nat
  tied : Option (Fin 16)
  deriving DecidableEq, Repr

/-- A cursor bank (R722): the cursor, and the value in EVR_CUR_SEQ that SEEK takes (R724). -/
structure Cursor where
  area : Nat := 1
  seq : Nat := 0
  staged : Nat := 0
  lost : Bool := false
  irqEn : Bool := false
  deriving DecidableEq, Repr

/-- The cursor banks after a cold start: each selects the circulating area at its oldest record (R722). -/
def Cursor.banks : List (Req × Cursor) :=
  [Req.keeper, .fw, .dma, .head 0, .head 1, .head 2, .head 3, .bmc, .chain].map fun r => (r, {})

/-- The Event Recorder: its three areas (R713), numbering (R709), routes (R721) and cursor banks (R722). -/
structure Evr where
  /-- First area: pages of at most 8 records, programmed or being gathered; the last page is the one being gathered. -/
  first : List EvRecord
  /-- Pages of the first area programmed so far, and how many of `first` they hold. -/
  firstPages : Nat
  firstProgrammed : Nat
  /-- Circulating area, oldest first. -/
  circ : List EvRecord
  /-- Severity area, in order of entry. -/
  sev : List EvRecord
  /-- Base of this power cycle (R709) and the next sequence number. -/
  base : Nat
  next : Nat
  /-- The base has been written, so records are placed (R709). -/
  baseWritten : Bool
  /-- Records already numbered that wait for the base (R709). -/
  waiting : List EvRecord
  /-- Keeper events of a Keeper restart in progress, which are made when it ends (R727). -/
  deferred : List Occurrence
  /-- Routes of R721: source, vector, logical device mask. -/
  routes : NMap (Nat × Nat)
  cursors : List (Req × Cursor)
  /-- The newest event mirror on flash (R716). -/
  mirror : List EvRecord
  deriving DecidableEq, Repr

/-! ## Outputs -/

/-- What the device sends out: the observer's side of the ports and pins. -/
inductive Out where
  /-- A reply packet (R473): port, opcode, tag, status code, payload. -/
  | reply (port : Port) (opcode : Nat) (tag : BitVec 32) (status : Nat) (payload : Bytes)
  /-- Port notified of a completion (R483). -/
  | completion (port : Port) (opcode : Nat) (tag : BitVec 32) (status : Nat) (result : Bytes)
  /-- The CXL return code Invalid Payload Length, with no reply packet (R474). -/
  | invalidLength (port : Port)
  /-- A CXL mailbox return code and payload for a standard command (chapter 10). -/
  | mailbox (ld : Fin 16) (code : Nat) (payload : Bytes)
  /-- Completion of a CXL.mem write. -/
  | memWriteDone (id : Nat) (ld : Fin 16)
  /-- Data returned for a CXL.mem read. -/
  | memReadDone (id : Nat) (ld : Fin 16) (data : Bytes) (poison : Bool)
  /-- An MSI-X vector of a logical device. -/
  | msix (ld : Fin 16) (vector : Nat)
  /-- A vendor notice to a head (R210, R42, R64): kind and data. -/
  | notice (head : Fin 4) (kind : Nat) (data : List Nat)
  /-- GPF phase answered (R98, R206). -/
  | gpfDone (head : Fin 4) (phase : Nat)
  /-- The value returned for a register read. -/
  | regRead (req : Req) (value : Nat)
  /-- A bus error signalled to a fence requester (R30). -/
  | busError (req : Req)
  /-- The value an application core's read returns. -/
  | coreRead (core : Fin 4) (value : Nat)
  /-- A read by an application core has met a poisoned line: poison is returned to it (R379). -/
  | corePoison (core : Fin 4)
  /-- Bytes put on TWI-U in answer to a read. -/
  | twiu (data : Bytes)
  /-- A transaction started on a TWI-D port. -/
  | twiStart (port : Fin 3) (address : Nat) (data : Bytes) (readLen : Nat)
  /-- A packet sent on a chain port (`down` for CHAIN_DN). -/
  | chain (down : Bool) (packet : Bytes)
  /-- The answer to a received chain frame: 0 acknowledge, 1 refuse. -/
  | chainAnswer (down : Bool) (nak : Bool)
  /-- A frame on BEACON_OUT (R749): the number, the CRC, and whether its coding is whole. -/
  | beacon (number crc : Nat) (valid : Bool)
  /-- A pin or rail enable driven to a level: name code (1 FOGHORN_N, 2 RAILn_EN, 3 FCA_WP_N and
  FCB_WP_N), number and level. -/
  | pin (name : Nat) (index : Nat) (level : Bool)
  /-- What drives the ball ADC_BIAS18 (R664): 0 nothing, so that it is high-impedance, 1 RAIL6, 2 the Lantern domain. -/
  | bias18 (source : Nat)
  /-- Host notify sent on TWI-U with its byte (R735). -/
  | hostNotify (bits : Nat)
  /-- A command handed to the runtime firmware (R492). -/
  | toFirmware (opcode : Nat) (port : Port) (tag : BitVec 32) (payload : Bytes)
  /-- An interrupt to the application cores (R726). -/
  | appInterrupt (cause : Nat)
  deriving DecidableEq, Repr

/-! ## Command processor (chapter 11) -/

/-- An entry of a port's result table (R483); `status` is `none` while the command is in progress, `replied` says
that the command has had its reply. -/
structure ResultEntry where
  port : Port
  tag : BitVec 32
  opcode : Nat
  status : Option Nat
  result : Bytes
  replied : Bool
  /-- DIST of the command, for a reply or completion on the chain (R477). -/
  dist : Nat
  deriving DecidableEq, Repr

/-- A chunked transfer in progress (R497). -/
structure Transfer where
  opcode : Nat
  port : Port
  total : Nat
  received : Bytes
  flags : Nat
  deriving DecidableEq, Repr

/-- An entry of a delay set (R571): where the delay applies (kind, channel, rank, subchannel, device and bit packed as
TRN_DLY_SEL packs them) and its value. -/
structure DelayEntry where
  place : Nat
  value : Nat
  deriving DecidableEq, Repr

/-- A delay-set slot that holds a valid set (R571). -/
structure DelaySet where
  bin : Nat
  signature : Nat
  seq : Nat
  lastUse : Nat
  entries : List DelayEntry
  deriving DecidableEq, Repr

/-- The body of the learned values record (R653), with the credit in GB and the charge throughput in units of 10 mA ms. -/
structure Learned where
  code : Nat
  capMah : Nat
  samples : Nat
  rLrn : Nat
  rStep : Nat
  clockMin : Nat
  restedMv : Nat
  credit : Int
  throughput : Nat
  deriving DecidableEq, Repr

/-- The states of a device extent (R436) that the table lists; RESERVED, BEYOND and FREE follow from the population where no entry stands. -/
inductive ExtState where
  | free
  | mapped
  | addPending
  | releasePending
  | held
  | sanitizing
  deriving DecidableEq, Repr

/-- An entry of the extent table (R436, R468). `prior` is the state an ADD_PENDING extent returns to, `sanitize` the
mode a RELEASE_PENDING extent takes, `fillNext` the next page a fill writes and `fillEpoch` the epoch of R450. -/
structure Extent where
  st : ExtState
  zero : Bool
  stat : Bool
  ld : Nat
  lxn : Nat
  prior : ExtState
  priorLd : Nat
  sanitize : Bool
  fillNext : Nat
  fillEpoch : Nat
  deriving DecidableEq, Repr

/-- What follows a write of the region record (R437). -/
inductive RegionEnd where
  | nothing
  /-- Extents that a host has accepted become live (R443), or that it has released (R446). -/
  | dcMapped (ld : Nat) (extents : List Nat)
  | dcReleased (ld : Nat) (extents : List Nat)
  /-- Extents that are ADD_PENDING are offered (R442 step 4). -/
  | dcOffered (ld : Nat) (extents : List Nat)
  /-- A dynamic capacity command ends (R443, R446): its origin, its status code, and the extents that its result lists. -/
  | dcEnded (origin : Option (Port × BitVec 32)) (status : Nat) (extents : List Nat)
  /-- Extents whose sanitize fill is durable are FREE (R450). -/
  | dcFreed (extents : List Nat)
  deriving DecidableEq, Repr

/-- The change a record write carries (R494, R568). -/
inductive RecUpdate where
  /-- Register fields that take these values, and a new select wait (R81). -/
  | fields (l : List (Fld × Nat)) (wait : Option Nat)
  /-- The values that a register write has already put in force (R581, R618). -/
  | stores (l : List (Fld × Nat))
  /-- A route of the event routing record (R721). -/
  | route (source vector mask : Nat)
  /-- The new event base (R709). -/
  | base (n : Nat)
  /-- The configuration of one logical device for the next cold start (R430, R502). -/
  | ldConfig (ld : Nat) (bound sanitize : Bool) (head stat dcMax : Nat) (bifur : Option Nat)
  /-- The owner head (R431). -/
  | owner (h : Nat)
  /-- A label area (R570). -/
  | labels (ld : Nat) (body : Bytes)
  /-- A group's password digest, or none (R564). -/
  | password (group : Nat) (digest : Option Bytes)
  /-- The retirement of a logical rank of a channel (R385), with its reason code. -/
  | retire (ch lrank reason : Nat)
  /-- The extent table that the region record takes (R437), and what follows. -/
  | regions (table : NMap Extent) (after : RegionEnd)
  /-- The boot record of a committed first start (R579): the running slot. -/
  | bootCommit (slot : Nat)
  /-- A delay set in a slot of the store (R416, R571). -/
  | delaySet (slot : Nat) (set : DelaySet)
  /-- The learned values (R653). -/
  | learned (l : Learned)
  /-- The ring list (R326). -/
  | ringList (blocks : List Nat)
  /-- The firmware floor (R529). -/
  | floor (n : Nat)
  /-- The last-use counts of delay-set slots, each in turn the highest (R552, R571). -/
  | setsUsed (slots : List Nat)
  /-- The boot record names a slot to be checked, or none (0xFF), with no attempt marks (R576). -/
  | checkSlot (slot : Nat)
  /-- Nothing but the write itself: defaults and migrated records. -/
  | other (tag : Nat)
  deriving DecidableEq, Repr

/-- A record write of R568 in progress: the record, its change and the command that waits for it. -/
structure RecWrite where
  record : Nat
  upd : RecUpdate
  origin : Option (Port × BitVec 32)
  deriving DecidableEq, Repr

/-- The command processor. -/
structure Cmd where
  results : List ResultEntry
  transfers : List Transfer
  writes : List RecWrite
  /-- Records whose write has failed once and is made again (R557). -/
  retried : List Nat
  /-- CHAIN_SEND commands waiting for their reply: inner tag, issuing port and tag (R477, R511). -/
  chainSends : List (BitVec 32 × Port × BitVec 32)
  /-- SEAL_BARRIER commands: port, tag, and the epoch with which each completes once a boundary has sealed it (R99–R101). -/
  barriers : List (Port × BitVec 32 × Option Nat)
  deriving DecidableEq, Repr

/-! ## Drip, boundaries and the Carafe (chapters 03 and 04) -/

/-- The listed states of a granule (R114); a granule with no entry is PERSISTED. -/
inductive GState where
  | dirty
  | frozen
  | staged
  deriving DecidableEq, Repr

/-- A granule that is not PERSISTED: its state, side-table mask, and the directory's owed and copied masks. -/
structure Gran where
  st : GState
  mask : Nat
  owed : Nat
  copied : Nat
  deriving DecidableEq, Repr

/-- The contents of a 4 KiB page: bytes that are not 0, by offset, and one poison bit for each 64-byte line. -/
structure PageImage where
  cells : List Cell
  poison : Nat
  deriving DecidableEq, Repr

/-- Which counter of R120 a page program in flight is counted in. -/
inductive Role where
  | opened
  | sealing
  | carafe
  | discarded
  deriving DecidableEq, Repr

/-- A Drip page program in flight (R117, R118): the page, its role, its log sequence number (R306), its flash address,
the data buffer of R144, the channels on which it has failed so far, and whether SAV has taken it over (R223). -/
structure DripProg where
  page : Nat
  role : Role
  lsn : Nat
  fa : Nat
  image : PageImage
  failed : List Nat
  bySav : Bool
  deriving DecidableEq, Repr

/-- Where the sealing epoch stands in the steps of R169. -/
inductive SealStep where
  | sealQueued
  | persisting
  | indexQueued
  | commitQueued
  deriving DecidableEq, Repr

/-- The Drip engine with the boundary unit. -/
structure Drp where
  /-- Tracking has started (R123). -/
  tracking : Bool
  grans : NMap Gran
  progs : List DripProg
  /-- Carafe slots in use, by page (R175), and the number of the slot that a page has taken (R177). -/
  slots : NMap PageImage
  slotNo : NMap Nat
  /-- Pages whose copy is in progress (R177) and pages whose direct persist waits for issue (R179). -/
  copying : List Nat
  directs : List Nat
  /-- Lines of 64 granules' masks that the mask cache holds, all written since they were read (R111). -/
  maskCache : List Nat
  /-- Rotating pointer of R141. -/
  pointer : Nat
  /-- B_eff in GiB, C_save in bytes, and R_a in 0.25 GB/s units, as a fraction (numerator 0 for none) (R126–R129). -/
  beffGiB : Nat
  csave : Nat
  rateA : Nat × Nat
  /-- The reserve figure in use (R127): power in mW, energy in mJ, u in permil; whether it is the accepted model estimate, to which
  k_u applies; and whether the reserve is lost (R130). -/
  figure : Option (Nat × Nat × Nat)
  figureModel : Bool
  lost : Bool
  /-- Tokens of R133 with the fraction of the next one in 65,536ths, and pages persisted in Held that still allow a write
  (R134). -/
  tokens : Nat
  tokenPart : Nat
  heldCredit : Nat
  /-- The logical device whose turn comes next (R135). -/
  turn : Nat
  /-- Wear credit in bytes, signed, and the part in µs of the present ten minutes whose fill it does not yet hold (R148). -/
  credit : Int
  fillUs : Nat
  /-- Epoch numbers: open, sealing, durable (0 none) and every number used this cycle or read at this start (R71). -/
  openEpoch : Nat
  sealEpoch : Nat
  maxUsed : Nat
  sealStep : SealStep
  /-- Whether the open and sealing epochs carry the rack flag (R192). -/
  openRack : Bool
  sealRack : Bool
  /-- The sealing epoch was sealed in RESTORING (flag IN_RESTORE of R328). -/
  sealInRestore : Bool
  /-- A boundary under local timing is due and deferred (R166). -/
  deferred : Bool
  /-- BEACON: a valid frame has been received, so that the window of R187 has an anchor; reference or last number seen; expected number,
  and whether an accepted frame carried it (R192); an accepted frame waiting for its boundary; next source number. -/
  bcnSeen : Bool
  bcnRef : Nat
  bcnExpected : Nat
  bcnFromFrame : Bool
  bcnAccepted : Option Nat
  bcnNext : Nat
  deriving DecidableEq, Repr

/-! ## Image log (chapter 07) -/

/-- A page record on flash: its page, flash address and contents, the generation of the key that encrypted it and its RELOC flag
(R305, R327). The record's key is its LSN (R306), raised for a relocation copy. -/
structure PageRec where
  page : Nat
  fa : Nat
  image : PageImage
  keygen : Nat
  reloc : Bool
  deriving DecidableEq, Repr

/-- What a SAVE_OPEN record says (R328): cut and sealing epoch numbers, the latest durable commit record at t_F, D, F and C at the
cut, the Foghorn source, its flags and the LSN at the start of the save. -/
structure OpenBody where
  cut : Nat
  sealing : Nat
  durable : Nat
  d : Nat
  f : Nat
  c : Nat
  source : Nat
  fromRestore : Bool
  resumeOk : Bool
  start : Nat
  deriving DecidableEq, Repr

/-- What a SEAL record says (R328): the epoch, the LSN of the boundary, the parent commit record, F at the boundary, its flags. -/
structure SealBody where
  epoch : Nat
  boundary : Nat
  parent : Nat
  f : Nat
  rack : Bool
  inRestore : Bool
  afterAbandon : Bool
  deriving DecidableEq, Repr

/-- What an EPOCH_COMMIT or CUT_COMMIT record says (R328). `ref` and `parent` are flash addresses; `roots` holds the flash address
of each root codeword that is not 0. -/
structure CommitBody where
  cut : Bool
  number : Nat
  ref : Nat
  parent : Nat
  high : Nat
  carafe : Nat
  reserved : Nat
  fitted : Nat
  rack : Bool
  inRestore : Bool
  poisoned : Nat
  saveMs : Nat
  cutUs : Nat
  sealDurable : Bool
  thermal : Bool
  dmcThrottle : Bool
  fromRestore : Bool
  pages : Nat
  retries : Nat
  panics : Nat
  roots : NMap Nat
  deriving DecidableEq, Repr

/-- The payload of a ring record (R323, R328, R329). The entries of an erase journal record name a block and its kind, 1 INTENT
or 2 DONE. -/
inductive RingBody where
  | saveOpen (b : OpenBody)
  | seal (b : SealBody)
  | commit (b : CommitBody)
  | journal (seq : Nat) (entries : List (Nat × Nat))
  deriving DecidableEq, Repr

/-- A ring record (R325): its LSN, the flash addresses of its two copies, the flash address under which other records name it (R328),
that of its first copy as it was first programmed, the key generation and the payload. -/
structure RingRec where
  lsn : Nat
  fa : Nat
  fb : Nat
  name : Nat
  keygen : Nat
  body : RingBody
  deriving DecidableEq, Repr

/-- The payload of a codeword of the KEEPER (R323): a ring record, the entries of an index codeword that are not 0, by place (R330), or
a part of the event mirror (R716). -/
inductive Payload where
  | ring (body : RingBody)
  | entries (m : NMap Nat)
  | mirror (l : List EvRecord)
  deriving DecidableEq, Repr

/-- A codeword of the KEEPER on flash: its tag (R305) and payload. -/
structure KeeperWord where
  lsn : Nat
  subject : Nat
  type : Nat
  flags : Nat
  keygen : Nat
  payload : Payload
  deriving DecidableEq, Repr

/-- A LUN label (R301); the manual gives no layout of its payload. -/
structure LunLabel where
  identity : BitVec 128
  channel : Nat
  volume : Nat
  lun : Nat
  version : Nat
  deriving DecidableEq, Repr

/-- A page that a diagnostic program has written (R512, R514): the flash address of slot 0, pattern, seed, the LSN of slot 0 and KEYGEN. -/
structure DiagPage where
  fa : Nat
  pattern : Nat
  seed : Nat
  lsn : Nat
  keygen : Nat
  deriving DecidableEq, Repr

/-- The index codewords that an image reaches (R330, R332), by TYPE × 2^24 + SUBJECT (R323): their LSN and flash address. -/
abbrev Words := NMap (Nat × Nat)

/-- A retained image (R61, R73): a cut or a boundary epoch, its number, the flags EPOCH_LIST reports, whether it was
judged readable (R63), whether it is newer than the restored image (R74), its index: page to LSN, 0 for a page recorded as poisoned
without a record (R331); the fitted and reserved extents and the Carafe GiB of its commit record (R328); its index codewords; and
the LSNs of its commit record and of the SEAL or SAVE_OPEN record that this names (R335). -/
structure Image where
  cut : Bool
  number : Nat
  rack : Bool
  inRestore : Bool
  readable : Bool
  sealReadable : Bool
  newer : Bool
  index : NMap Nat
  fitted : Nat
  carafe : Nat
  reserved : Nat
  words : Words
  commit : Nat
  ref : Nat
  deriving DecidableEq, Repr

/-- A block of flash: its state code and owner code (R313), its write pointer and the codewords that the page below it has taken (R300,
R304), the erases in a row that failed its blank check (R319), its refresh mark (R307), its mark for retirement (R315), and whether the
save in progress has opened it from the reserve (R230). -/
structure Block where
  st : Nat
  owner : Nat
  next : Nat
  slots : Nat
  fails : Nat
  refresh : Bool
  retire : Bool
  fromReserve : Bool
  deriving DecidableEq, Repr

/-- A block in which nothing is written, with no owner. -/
def Block.blank (st : Nat) : Block := ⟨st, 0, 0, 0, 0, false, false, false⟩

/-- A Keeper flash request in progress (R339, R340). -/
inductive GcOp where
  | relocate (block : Nat) (pages : List Nat)
  | erase (block : Nat) (intentPassed : Bool)
  deriving DecidableEq, Repr

/-- A save as the records on flash show it (R240, R250, R328): what its SAVE_OPEN record says, the LSN of that record, whether its cut
commit record was written, that record where it can be read, and whether the save is newer than every durable boundary epoch. -/
structure SaveRec where
  lsn : Nat
  opened : OpenBody
  written : Bool
  commit : Option CommitBody
  current : Bool
  deriving DecidableEq, Repr

/-- The flash and what the image log on it holds. -/
structure Flash where
  records : NMap PageRec
  /-- Retained images, newest first (R73). -/
  images : List Image
  nextLsn : Nat
  /-- Index of the latest durable or restored image, and the records of the sealing and open epochs: page to LSN. -/
  baseIndex : NMap Nat
  sealRecs : NMap Nat
  openRecs : NMap Nat
  /-- LSNs of PAGE records of the sealing and of the open epoch that a newer record of the same epoch has replaced, with those of an
  epoch abandoned since the last durable one, and the flash addresses of the index codewords of such an epoch (R337). -/
  sealOld : List Nat
  openOld : List Nat
  oldWords : List Nat
  /-- Index codewords and flash address of the commit record of that image, the parent of the next (R328, R332). -/
  baseWords : Words
  baseCommit : Nat
  /-- The index segment of the sealing epoch, once it has passed: its index, its codewords, and how many relocation copies it has
  taken (R169, R332, R333). -/
  segIndex : NMap Nat
  segWords : Words
  segCopies : Nat
  /-- The boundary of the sealing epoch: its LSN and F (R328); an epoch has been abandoned since the last durable one (R173). -/
  boundaryLsn : Nat
  boundaryF : Nat
  abandoned : Bool
  /-- A boundary epoch has become durable since the cold start (R74, R514). -/
  durableSince : Bool
  /-- Ring records, newest first (R325); the ring blocks, and those of the list in the Keeper store (R326); the journal sequence number
  of the next erase journal record (R329). -/
  ring : List RingRec
  ringBlocks : List Nat
  ringStored : List Nat
  journalSeq : Nat
  /-- Codewords of the KEEPER by flash address, until an erase takes them (R304), and the flash addresses of the newest event mirror. -/
  cells : NMap KeeperWord
  mirrorFas : List Nat
  /-- The blocks that are not in the state that most have, `blankSt`: ERASED, or RELEASED after a crypto-erase (R312, R313). -/
  blocks : NMap Block
  blankSt : Nat
  /-- The label of each LUN that has one (R301). -/
  labels : NMap LunLabel
  gc : List GcOp
  /-- Relocation copies reported to the Keeper and in no index yet: the key of the original record and of the copy (R339). -/
  copies : List (Nat × Nat)
  /-- LUNs that Drip leaves alone (R147), and LUNs that a save programs at half rate (R237): channel × 64 + volume × 4 + LUN. -/
  hot : List Nat
  scorched : List Nat
  /-- LUNs whose label names another device (R301). -/
  foreign : List Nat
  /-- Pages by which the data part of the save reserve is short (R321), and those of them that programs repeated after a failure have
  taken from the retry allowance (R232); codeword slots by which its record part is short (R320). -/
  refill : Nat
  repeated : Nat
  recordShort : Nat
  /-- C_flash in pages (R232), 0 before the flash is up. -/
  cFlash : Nat
  /-- Lines poisoned in DRAM while a record without that poison held their page, and those of them at the boundary of the sealing
  epoch (R106, R108). -/
  spoiled : List Nat
  sealSpoiled : List Nat
  /-- NFC channels on which a program of the KEEPER or of SAV has failed that has not been repeated yet (R52, R171, R233). -/
  failed : List Nat
  /-- Pages that a diagnostic program has written (R514). -/
  diag : List DiagPage
  deriving DecidableEq, Repr

/-! ## Restore engine (chapter 06) -/

/-- The restore engine. -/
structure Rse where
  /-- Index of the chosen image, page to LSN, and its codewords (R334); empty for the zero fill. -/
  index : NMap Nat
  words : Words
  /-- Promoted extents, oldest first (R269). -/
  promoted : List Nat
  /-- Restored pages as disjoint ranges (first page, page after the last), rising (R265). -/
  restored : List (Nat × Nat)
  /-- Pages with a fault-in issued, oldest first (R275). -/
  faultIns : List Nat
  /-- The page whose sweep read has been issued and not yet written (R273). -/
  sweeping : Option Nat
  /-- Uncorrectable lines whose recovery from flash is in progress (R382). -/
  recovering : List Nat
  /-- The restore page bitmap occupies the Carafe (R266). -/
  bitmap : Bool
  deriving DecidableEq, Repr

/-- What is fitted (R351, R302): DRAM in GiB, and the flash channels populated. -/
structure Pop where
  dramGiB : Nat
  flashChannels : List Nat
  deriving DecidableEq, Repr

/-- A slot of an NFC channel's feed buffer (R227) whose page is to be programmed again (R233): the channel, the page, its contents and
how many of its lines could not be read (R224). -/
structure FeedSlot where
  channel : Nat
  page : Nat
  image : PageImage
  bad : Nat
  deriving DecidableEq, Repr

/-- The feed buffer of an NFC channel in a save (R227): how many of its 8 slots are empty, and the DMC channels that its requests go to. -/
structure Feed where
  empty : Nat
  dram : List Nat
  deriving DecidableEq, Repr

/-- The save engine (chapter 05). -/
structure Sav where
  /-- The earliest step of R218 that has not ended: 0 none, 1 save-open record, 2 to 4 the sealing epoch's pages, index segment and
  commit record, 5 cut pages, 6 event mirror, 7 cut index, 8 cut commit record. -/
  step : Nat
  /-- Steps that have passed: the save-open record, the event mirror, the cut index with its codewords (R219). -/
  opened : Bool
  mirrored : Bool
  indexed : Bool
  words : Words
  /-- LSN and flash address of the SAVE_OPEN record. -/
  openLsn : Nat
  openFa : Nat
  /-- The source of this Foghorn (R205), GPF_SRC and GRACE_MS as sampled at t_F (R211, R251), and the flash address of the latest
  durable commit record at t_F (R328). -/
  source : Nat
  gpfSrc : Nat
  grace : Nat
  durable : Nat
  /-- D, F and C at the cut (R218), and the LSN at the start of the save. -/
  cutD : Nat
  cutF : Nat
  cutC : Nat
  start : Nat
  /-- Numbers of the cut image (R68) and of the epoch that was sealing at the cut, 0 for none (R218). -/
  epoch : Nat
  sealing : Nat
  /-- Records of cut pages written by this save: page to LSN. -/
  recs : NMap Nat
  /-- The feed buffers (R227): those of the NFC channels, and the slots whose pages are to be programmed again (R233). -/
  feeds : NMap Feed
  held : List FeedSlot
  /-- Resume in place is allowed (R205, R208). -/
  mayResume : Bool
  /-- The rate cap of a FOGHORN_RAISE in 0.25 GB/s units, 0 for none (R207, R212). -/
  cap : Nat
  /-- The Foghorn arose in RESTORING. -/
  fromRestore : Bool
  /-- The sampled figures of this save: pages written, lines poisoned, programs repeated, entries into panic. -/
  pages : Nat
  poison : Nat
  retries : Nat
  panics : Nat
  sealDurable : Bool
  thermal : Bool
  dmcThrottle : Bool
  /-- A Foghorn latched in RESUMING (R248): its first source, STAY_OFF, cap, and every source seen since (R205). -/
  latched : Option (Nat × Bool × Nat × Nat)
  deriving DecidableEq, Repr

/-! ## Power supervision (chapter 14) -/

/-- The sequencer and what the wake logic keeps. -/
structure Pwr where
  /-- A timed shutdown has been decided (R208), and its first rail disable has taken place (R244). -/
  underway : Bool
  noReturn : Bool
  /-- The LAST_OFF code of R779 for the end of this power cycle, and whether the stay-off latch is then set (R594). -/
  lastOff : Nat
  stay : Bool
  /-- Failed power-ups in a row, and whether the shutdown in progress follows one (R597). -/
  upFails : Nat
  upFailed : Bool
  /-- A retry request is due (R597), and a failed power-up is to be recorded at the next t_P (R621). -/
  retryDue : Bool
  failLog : Bool
  /-- A timed shutdown is to be recorded at the next t_P (R606). -/
  shutdownLog : Bool
  /-- Rails treated as rank 15 until the power cycle ends (R599). -/
  unused : List Nat
  /-- For each rail, the samples in a row below the warning level, below the fault level and above 115 % (R590). -/
  runs : NMap (Nat × Nat × Nat)
  /-- VIN_MAIN has been valid for 50 ms (R243). -/
  vinLong : Bool
  /-- VSUP is below 4.5 V (R586). -/
  vsupOut : Bool
  deriving DecidableEq, Repr

/-! ## Reserve pack (chapter 15) -/

/-- The reserve block and the Keeper's estimate. -/
structure Rsv where
  /-- Good and bad samples in a row, and the identity code of the last good sample (R625). -/
  good : Nat
  bad : Nat
  lastCode : Nat
  /-- The latest sample: mV, mA (charge positive) and 0.1 °C. -/
  mv : Nat
  ma : Int
  tenthC : Int
  /-- A sample since the last evaluation carried OVR or RECOV (R643, R677). -/
  ovr : Bool
  /-- The accepted model figure as submitted: W, J, permil (R647), and the last accepted sequence number (R646). -/
  accepted : Option (Nat × Nat × Nat)
  seq : Nat
  /-- The state of charge taken with the last accepted figure (R646), in 0.1 %. -/
  soc : Nat
  /-- Charge counted since the cold start, in µC. -/
  charge : Int
  /-- The charger state that PAUSED left (R631). -/
  pausedFrom : Nat
  /-- The RESERVE_REST command that waits for the rest (R642), and the seconds until the device may start a rest (R640). -/
  restOrigin : Option (Port × BitVec 32)
  restHold : Nat
  /-- Identity code and charge throughput of the learned values record (R653); the next pack is new (R627). -/
  learnedCode : Nat
  throughput : Nat
  newPack : Bool
  /-- A rest episode is in progress, its first rest point taken (R636, R655). -/
  resting : Bool
  deriving DecidableEq, Repr

/-! ## ADC (chapter 16) -/

/-- An urgent request that waits on a converter (R670): input, gain and sampling code. -/
structure Urgent where
  input : Nat
  gain : Nat
  smp : Nat
  deriving DecidableEq, Repr

/-- One converter: its place in the sequence, the pairs of an AB entry still to convert, its urgent request and the
conversions that still carry RECOV (R677), and the slots to complete before the next urgent request (R671). -/
structure Converter where
  next : Nat := 0
  pairs : Option Nat := none
  urgent : Option Urgent := none
  recov : Nat := 0
  hold : Nat := 0
  deriving DecidableEq, Repr

/-- The ADC. -/
structure Adc where
  /-- The result queue, oldest first (R674). -/
  queue : List Nat
  a : Converter
  b : Converter
  /-- Rotation pointers (R666) and cycle count (R673). -/
  rot0 : Nat
  rot1 : Nat
  cycle : Nat
  deriving DecidableEq, Repr

/-! ## DRAM controller and training (chapters 08 and 09) -/

/-- A request of the DMC (R358–R360): its arrival number, the line it names, its bank (packed as `State.bankAt` packs it) and row, its
requester ID, and whether it is a copy-before-write and whether it writes. -/
structure DmcReq where
  seq : Nat
  line : Nat
  bank : Nat
  row : Nat
  id : Nat
  copy : Bool
  write : Bool
  deriving DecidableEq, Repr

/-- An open row (R365, R366): the hint of its last access, and that access's place in the order of issue. -/
structure OpenRow where
  row : Nat
  hint : Nat
  last : Nat
  deriving DecidableEq, Repr

/-- What the DMC keeps besides its registers. -/
structure Dmc where
  /-- The seconds since each correctable error of a logical rank within 24 h, under channel × 8 + rank (R384). -/
  ce : NMap (List Nat)
  /-- Ranks in precharge power-down, as channel × 8 + rank (R375). -/
  down : List Nat
  /-- Lines read in each channel's scrub pass (R394). -/
  scrub : NMap Nat
  /-- Open rows by bank (R365, R366). -/
  rows : NMap OpenRow
  /-- Retirements that the DRAM configuration record holds: channel, logical rank, reason (R385, R389). -/
  retired : List (Nat × Nat × Nat)
  /-- Logical ranks that were retired with no spare READY, as channel × 8 + rank (R391). -/
  unspared : List Nat
  /-- Requests in the ingress FIFOs, oldest first: those of one requester and one channel are a FIFO (R360). -/
  fifo : List DmcReq
  /-- Requests in the bank queues, oldest first, and the next arrival number (R359). -/
  queue : List DmcReq
  nextSeq : Nat
  /-- How many requests have issued. -/
  issued : Nat
  /-- Banks in in-order mode, with the writes that are still to issue before it ends (R363). -/
  inOrder : NMap Nat
  /-- Row hits that have passed a miss, under the miss's arrival number (R361), and the rotating pointer of each subchannel, under
  channel × 2 + subchannel (R362). -/
  passed : NMap Nat
  pointer : NMap Nat
  /-- The requester IDs of each bank's last 64 activates, newest first, and its activates in the rolling window (R371). -/
  acts : NMap (List Nat)
  counts : NMap Nat
  /-- The bank that started, or last extended, the throttle of a requester, under channel × 32 + ID (R373). -/
  starts : NMap Nat
  /-- The rolling accumulated activate count of each bank, and the refresh management commands that each channel has issued to keep it
  in its bounds (R370). -/
  raa : NMap Nat
  rfms : NMap Nat
  /-- Refreshes now postponed: channel × 8 + rank, and the bank of each group (R227, R369). -/
  postponed : List (Nat × Nat)
  /-- Lines of the unit being copied that others than a host have written, after the copy of the unit, as R387 has it. -/
  late : List Nat
  deriving DecidableEq, Repr

/-- The training unit: the verified and trial banks, by the place that TRN_DLY_SEL packs, and the eye of each lane. -/
structure Trn where
  verified : NMap Nat
  trial : NMap Nat
  eyes : NMap (Nat × Nat)
  deriving DecidableEq, Repr

/-! ## Processor complex and DMA (chapters 12 and 17) -/

/-- The runtime firmware and the Keeper's cores. -/
structure Cpx where
  /-- Application SRAM by offset: bytes that are not 0. -/
  ram : List Cell
  /-- The image that runs or ran last: VERSION, FLOOR, BODY_HASH, code and body length (R526, R528). -/
  version : Nat
  floor : Nat
  hash : Bytes
  codeLen : Nat
  bodyLen : Nat
  /-- The body after the code region, as received (R532). -/
  rest : Bytes
  /-- The cores are released and the ready signal is awaited (R528). -/
  released : Bool
  /-- Denials within the present second (R530). -/
  denials : Nat
  /-- Bytes received in the last FW_DOWNLOAD (R496). -/
  received : Nat
  /-- The firmware stopped because PLL1 lost lock, and restarts after relock (R613). -/
  relock : Bool
  /-- Commands that runtime firmware executes (R492). -/
  executing : List (Port × BitVec 32)
  /-- The seconds since each automatic restart of the firmware within the last hour (R532). -/
  fwRestarts : List Nat
  /-- The Keeper restarts (R539); whether by MRST_N; the seconds since each restart within the last hour (R541); ROM recovery (R520). -/
  restarting : Bool
  manual : Bool
  restarts : List Nat
  rom : Bool
  deriving DecidableEq, Repr

/-- The descriptor a DMA channel works on (R684, R685): CTRL, NEXT, whether it ends in DRAINED. -/
structure DmaJob where
  ctrl : Nat
  next : Nat
  drain : Bool
  deriving DecidableEq, Repr

/-- The DMA engine: the descriptor of each channel, the software lines that are set (R689), the channels that hold a slot, and the last one
granted (R691). -/
structure Dma where
  jobs : NMap DmaJob
  lines : Nat
  slots : List Nat
  last : Nat
  deriving DecidableEq, Repr

/-! ## Keeper store (chapter 13) -/

/-- A copy of a two-copy record (R566): sequence number and validity. -/
structure RecCopy where
  seq : Nat
  valid : Bool
  fmt : Nat
  deriving DecidableEq, Repr

/-- A sector erase in progress (R559): the sector, the command that waits, and the failures in a row so far. -/
structure KstErase where
  sector : Nat
  origin : Option (Port × BitVec 32)
  fails : Nat
  /-- Its INTENT entry is in the journal and the erase has been issued (R559). -/
  begun : Bool
  deriving DecidableEq, Repr

/-- An entry of a journal of the Keeper store (R558): its sequence number, its kind (1 INTENT, 2 DONE, 3 SCRUB_BEGIN,
4 SCRUB_DONE) and the sector it names. -/
structure JrnlEntry where
  seq : Nat
  kind : Nat
  sector : Nat
  deriving DecidableEq, Repr

/-- A sector of a journal's ring (R560), with its entries in order. -/
structure JrnlSector where
  sector : Nat
  entries : List JrnlEntry
  deriving DecidableEq, Repr

/-- A Keeper image slot that is well formed (R572): VERSION, ROLLBACK, RECFMT, whether its signature verifies, and the image. -/
structure KeeperSlot where
  version : Nat
  rollback : Nat
  recfmt : Nat
  signed : Bool
  image : Bytes
  deriving DecidableEq, Repr

/-- The configuration of a logical device for the next cold start (R430). -/
structure LdNext where
  head : Nat
  stat : Nat
  dcMax : Nat
  deriving DecidableEq, Repr

/-- The Keeper store. -/
structure Kst where
  /-- The two copies of each record, by record number (R552). -/
  copies : NMap (RecCopy × RecCopy)
  /-- The positions of the learned values record (R569): 0–15 in copy A, 16–31 in copy B. -/
  spots : NMap RecCopy
  /-- Integrator area by offset: the complement of each byte, where it is not 0. -/
  user : List Cell
  /-- Pages of the integrator area whose blank flag is clear (R549). -/
  programmed : List Nat
  /-- Password digests by group (R564); groups unlocked in this power cycle; wrong UNLOCKs by group (R508). -/
  passwords : NMap Bytes
  unlocked : List Nat
  wrong : NMap Nat
  /-- Sector erases in progress (store sector number), with the command that waits, and failed sectors. -/
  erases : List KstErase
  failed : List Nat
  /-- Sectors of the integrator area that have been read or erased in this power cycle (R562). -/
  checked : List Nat
  /-- The journals (R558, R560): the number of the next entry, and the sectors in use of J0 (erases of bank 1) and of J1 (erases
  of bank 0), oldest first. -/
  jseq : Nat
  j0 : List JrnlSector
  j1 : List JrnlSector
  /-- Keeper image slots A and B; `none` where a slot is not well formed. -/
  slotA : Option KeeperSlot
  slotB : Option KeeperSlot
  /-- Running slot (0 A, 1 B), first start not yet committed (R579), a restart has taken place since t_P. -/
  running : Nat
  firstStart : Bool
  /-- Image key: the generation held, or none before the first (R310, R311), and whether this start could not read the key (R311). -/
  keyGen : Option Nat
  keyLost : Bool
  /-- Label areas by logical device (R570). -/
  labels : NMap Bytes
  /-- Stored shutdown state of each logical device, bit n (R460). -/
  shutdown : Nat
  /-- CXL dirty shutdown count (R109). -/
  dirtyShutdowns : Nat
  /-- Delay-set slots by number (R571). -/
  sets : NMap DelaySet
  /-- Firmware floor (R529). -/
  floor : Nat
  /-- Bound logical devices at the next cold start (R430). -/
  ldNext : NMap LdNext
  /-- Keeper update (R577, R578): the staged package, the installation in progress with the command that waits, its source
  class code, and the relay with the offset of its next chunk and the flags of the command. -/
  package : Bytes
  installing : Option (Port × BitVec 32)
  installer : Nat
  relay : Option (Nat × Nat)
  /-- The select wait in ms (R81): the one this start took, and the stored one (R96). -/
  selectWait : Nat
  storedWait : Nat
  /-- The body of the learned values record in force (R653), where one has been written. -/
  learned : Option Learned
  deriving DecidableEq, Repr

/-! ## Host interface and region manager (chapter 10) -/

/-- Why a CXL.mem request waits in the HIF. -/
inductive Stage where
  /-- Under HOLD (R90). -/
  | hold
  /-- Before `GLB_READY.MEM_PARTIAL` (R264). -/
  | memPartial
  /-- For admission (R132–R136). -/
  | admission
  /-- Behind the copy-before-write of its page (R177, R178). -/
  | copy
  /-- For a slot or the direct persist of its page (R179). -/
  | direct
  /-- For the demand fault-in of its page (R275). -/
  | faultIn
  /-- For a demand fault-in that has not been issued (R275). -/
  | faultInQueued
  /-- For the recovery of an uncorrectable line (R382). -/
  | recovery
  /-- For the watermark of a migration to pass the unit being copied (R387). -/
  | unit
  deriving DecidableEq, Repr

/-- A CXL.mem request of one 64-byte line; `data` is empty for a read. -/
structure HostReq where
  id : Nat
  head : Fin 4
  ld : Fin 16
  lpa : Nat
  dpa : Nat
  write : Bool
  data : Bytes
  poison : Bool
  stage : Stage
  /-- The write was released or admitted under ALLOW_UNPROTECTED. -/
  unprotected : Bool
  /-- The write is that of a mailbox command, Clear Poison or Inject Poison, which its completion answers (R107). -/
  clear : Bool
  deriving DecidableEq, Repr

/-- A record of a CXL event log (R459): log number 0–4, handle, source, Event Recorder number. -/
structure LogRecord where
  log : Nat
  handle : Nat
  source : Nat
  seq : Nat
  data : Nat
  deriving DecidableEq, Repr

/-- What one logical device keeps besides its registers. -/
structure LdState where
  logs : List LogRecord := []
  /-- Per log, bit n: overflow flag; and the records lost, by log (R459). -/
  logOverflow : Nat := 0
  logLost : NMap Nat := []
  nextHandle : Nat := 1
  poisonList : List Nat := []
  poisonOverflow : Bool := false
  alert : Bytes := []
  msix : Bool := true
  scan : Option (Nat × Nat × List Nat) := none
  deriving DecidableEq, Repr

/-- The host interface. -/
structure Hif where
  lds : NMap LdState
  reqs : List HostReq
  nextId : Nat
  /-- Heads whose configuration space is ready (R522) and heads that had CXL.mem enabled at t_F (R65). -/
  ready : List Nat
  atFog : List Nat
  /-- GPF phases 2 in progress: the head, and the writes accepted before it that have not completed (R98). -/
  gpf2 : NMap (List Nat)
  /-- The CXL Memory_Active indication of every logical device (R263, R523). -/
  memActive : Bool
  /-- Heads whose link trained to CXL.io only (R426). -/
  degraded : List Nat
  /-- Heads that are still to receive DEVICE_RESUMED once their link has retrained (R64). -/
  resumed : List Nat
  deriving DecidableEq, Repr

/-- A dynamic capacity command in progress (R442, R446): the logical device, whether it is an add, its extents, those
answered for, FORCE, and the command that waits. -/
structure DcOp where
  ld : Nat
  add : Bool
  extents : List Nat
  answered : List Nat
  force : Bool
  origin : Option (Port × BitVec 32)
  /-- The host has been asked (R442 step 4, R446). -/
  offered : Bool
  deriving DecidableEq, Repr

/-- The region manager: extents listed by device extent number, in the table and in the region record (R437), and whether this start found
no valid copy of that record (R567). -/
structure Rgn where
  exts : NMap Extent
  ops : List DcOp
  record : NMap Extent
  defaulted : Bool
  deriving DecidableEq, Repr

/-! ## Two-wire ports, chain and BEACON port (chapter 19) -/

/-- A packet in a chain port's transmit queue: its direction (`down` for CHAIN_DN), whether it is relayed, and the times it has
been repeated (R747, R748). -/
structure ChainTx where
  down : Bool
  relayed : Bool
  packet : Bytes
  repeats : Nat
  deriving DecidableEq, Repr

/-- The sideband: TWI-U's packet engine, the TWI-D FIFOs and the chain ports. -/
structure Twi where
  /-- Host notify bits that wait to be sent (R735): bit 0 RESULT, bit 1 FOGHORN, bit 2 READY. -/
  notify : Nat
  /-- The packet being assembled (R732), the reply packet held and how much of it has been read (R731). -/
  partialPacket : Bytes
  reply : Bytes
  replyPos : Nat
  /-- Receive and transmit FIFOs by port (R734, R753). -/
  rx : NMap Bytes
  tx : NMap Bytes
  /-- The transmit queues of the chain ports: in each direction the first is the frame sent and not yet answered (R747, R748). -/
  chainSent : List ChainTx
  /-- An edge has been seen on BEACON_IN since the last evaluation (R754). -/
  edges : Bool
  deriving DecidableEq, Repr

/-- A fault waiting in a unit's queue (R52): severity, repeat count, and whether its handling takes no further work of the unit,
so that it ends as soon as it becomes active (log entry 97). -/
structure QueuedFault where
  sev : Nat
  repeats : Nat
  brief : Bool
  deriving DecidableEq, Repr

/-- The fault context of one unit (R51). Units are numbered: DMC channel c is 0x100 + c, NFC channel n 0x200 + n, DMA
channel n 0x300 + n, sideband port p 0x400 + p, and any other subsystem its number in R22. -/
structure FaultCtx where
  active : Option Nat
  queue : List QueuedFault
  failed : Bool
  deriving DecidableEq, Repr

end Sys2Proof.Machine
end

