-- ==== Sys2Proof/Machine/State.lean ====
section
/-! DEFINITION. The state of the PTM-6180, all of it plain data, the reasons a step can stop, and the state after reset. -/

namespace Sys2Proof.Machine

open Host

/-- Faults: none. The block answers every command with a state; its own errors are status codes, events and fault
contexts of the state. -/
inductive Fault
  deriving DecidableEq, Repr

/-- Refusals. -/
inductive Refusal where
  /-- A command that has no meaning yet, by its mnemonic; raised by an arm of `exec` alone. Safe: nothing follows from it. -/
  | notModelled (mnemonic : String)
  deriving DecidableEq, Repr

/-- The whole machine. -/
structure State where
  /-- The fields of the register map (chapters 01 to 19). -/
  regs : RegFile
  /-- Shadow copies of B-class fields that wait for their boundary or sequence start (R16, R17). -/
  shadows : RegFile
  /-- Values of the configuration records in the Keeper store, by the field they load (R552). -/
  stored : RegFile
  /-- Values captured for a requester's later reads (R78, R156, R723). -/
  caps : List Capture
  /-- The model's own: how many free values have been taken (log entry 1). -/
  freeCtr : Nat
  /-- What the device has sent out, newest first. -/
  out : List Out
  evr : Evr
  cmd : Cmd
  drp : Drp
  kst : Kst
  hif : Hif
  rgn : Rgn
  twi : Twi
  flash : Flash
  rse : Rse
  sav : Sav
  pwr : Pwr
  rsv : Rsv
  adc : Adc
  dmc : Dmc
  trn : Trn
  cpx : Cpx
  dma : Dma
  pop : Pop
  /-- Device memory by DPA: bytes that are not 0 (log entry 3). -/
  dram : List Cell
  /-- Poisoned 64-byte lines, by DPA / 64 (R105). -/
  poison : List Nat
  /-- Fault contexts of units that have one (R51). -/
  faults : NMap FaultCtx
  /-- Commands that wait, first in, first out. -/
  pending : List Instr
  deriving DecidableEq, Repr

/-! ## Reset -/

/-- Values the configuration records of the Keeper store hold as shipped, by the field they load (R567; each from the
Meaning column of its register table). -/
def shippedPersist : List (Fld × Nat) := [
  (Reg.GLB_ARM.AUTO_ARM, 1), (Reg.GLB_ARM.POLICY, 0),
  (Reg.DRP_CFG.EARLY_PCT, 50), (Reg.DRP_CFG.BUDGET_CFG, 16), (Reg.DRP_BUDGET.CFG_IN_FORCE, 16),
  (Reg.DRP_WEAR_CFG.PEAK_MIN, 30), (Reg.DRP_WEAR_CFG.AVG_RATE, 16),
  (Reg.DRP_MODEL_P.P_FULL, 320), (Reg.DRP_MODEL_P.P_BASE, 120),
  (Reg.DRP_MODEL_T.T_MAX, 7500), (Reg.DRP_MODEL_T.T_FIX, 650),
  (Reg.DRP_BND_CFG.TIMING, 0), (Reg.DRP_BND_CFG.CARAFE_WAIT, 1000), (Reg.DRP_BND_CFG.PERIOD_MS, 20),
  (Reg.DRP_CAR_CFG.SIZE_GIB, 32), (Reg.DRP_CAR_CFG.NEXT_GIB, 32),
  (Reg.DRP_BCN_CFG.DELAY, 3000), (Reg.DRP_BCN_START_LO.START_LO, 0), (Reg.DRP_BCN_START_HI.START_HI, 0),
  (Reg.SAV_CFG.PANIC_SLOTS, 6), (Reg.SAV_CFG.GPF_SRC, 1), (Reg.SAV_CFG.GRACE_MS, 10),
  (Reg.RSE_CFG.PANIC_SLOTS, 6), (Reg.RSE_CFG.FI_RETRY, 1)]

/-- The shipped flash configuration (R347, R348), on all 32 channels. -/
def shippedFlash : List (Fld × Nat) :=
  [(Reg.NFC_ECC_THR.BLANK_THR, 16), (Reg.NFC_ECC_THR.REFRESH_THR, 40)] ++
    (List.range 32).flatMap fun n => [(Reg.NFC_CH_CFG.RATE n, 5), (Reg.NFC_CH_CFG.ENABLE n, 1)]

/-- The shipped DRAM configuration (R397–R400, R422), on all 8 channels. -/
def shippedDram : List (Fld × Nat) :=
  [(Reg.DMC_MAP.NEXT_GRAIN, 1), (Reg.DMC_MAP.NEXT_SPARE, 1), (Reg.DMC_MAP.GRAIN, 1), (Reg.DMC_MAP.SPARE, 1),
   (Reg.TRN_CFG.MIN_EYE, 20), (Reg.TRN_CFG.NEXT_BIN, 2)] ++
    ((List.range 8).flatMap fun c => [
      (Reg.DMC_SCHED.HIT_CAP c, 4), (Reg.DMC_PAGE.IDLE_NS c, 12), (Reg.DMC_PWR.PD_TIMER c, 10), (Reg.DMC_REF.MODE c, 1),
      (Reg.DMC_RD_CFG.THR_GAP c, 50), (Reg.DMC_RD_CFG.WINDOW_US c, 32), (Reg.DMC_RD_CFG.ACT_THR c, 256),
      (Reg.DMC_ECC_CFG.CE_THR c, 2048), (Reg.DMC_SCRUB.SCRUB_H c, 24)]) ++
    (List.range 16).map fun n => (Reg.DMC_LD_PAGE.POL n, 2)

/-- The shipped host interface configuration (R430, R466, R468): LD0 on H0, the owner head H0. -/
def shippedHif : List (Fld × Nat) :=
  [(Reg.HIF_CFG.OWNER, 0), (Reg.HIF_LD_STAT.PRESENT, 1), (Reg.RGN_CFG.DC_WAIT_S, 30), (Reg.RGN_CFG.INJECT_EN, 0)] ++
    (List.range 16).map fun n => (Reg.RGN_LD_CAP.REL_SANITIZE n, 1)

/-- The shipped reserve and sideband configuration (R658, R753). -/
def shippedSide : List (Fld × Nat) := [
  (Reg.RSV_CFG.CHG_LIMIT, 1250), (Reg.RSV_CFG.REST_ALLOWED, 1), (Reg.RSV_CFG.CHARGE_EN, 1),
  (Reg.TWI_CFG.SCL_KHZ 1, 1000), (Reg.TWI_CFG.SU_NS 1, 100), (Reg.TWI_CFG.HD_NS 1, 60),
  (Reg.TWI_CFG.SCL_KHZ 2, 400), (Reg.TWI_CFG.SU_NS 2, 100), (Reg.TWI_CFG.HD_NS 2, 60),
  (Reg.KST_VMODE.MODE, 0), (Reg.KST_ECC.THR, 1)]

/-- The record that keeps the registers of a block (R396, R494, R552, R581, R618). -/
def recordOf (off : Nat) : Option Nat :=
  let within (lo hi : Nat) : Bool := decide (lo ≤ off) && decide (off < hi)
  if within 0 0x10000 || within 0x300000 0x400000 then some 1
  else if within 0x200000 0x300000 then some 2
  else if within 0x400000 0x500000 then some 3
  else if within 0x500000 0x600000 || within 0x100000 0x200000 then some 4
  else if within 0x50000 0x60000 then some 5
  else if within 0x30000 0x40000 then some 6
  else if within 0x80000 0x90000 then some 7
  else if within 0x60000 0x70000 then some 11
  else none

/-- A power rail of R587: nominal voltage, shipped warning and fault levels in mV, shipped rank, save-critical. -/
structure Rail where
  nominal : Nat
  warn : Nat
  fault : Nat
  rank : Nat
  critical : Bool
  deriving DecidableEq, Repr

/-- The sixteen rails of R587, RAIL0 first. -/
def railTable : List Rail := [
  ⟨750, 713, 675, 4, true⟩, ⟨800, 760, 720, 5, true⟩, ⟨900, 855, 810, 6, false⟩, ⟨1200, 1140, 1080, 7, false⟩,
  ⟨1100, 1045, 990, 7, true⟩, ⟨900, 855, 810, 6, true⟩, ⟨1800, 1710, 1620, 3, false⟩, ⟨3300, 3135, 2970, 2, false⟩,
  ⟨1200, 1140, 1080, 6, true⟩, ⟨2500, 2375, 2250, 7, true⟩, ⟨12000, 10200, 9000, 8, true⟩,
  ⟨12000, 10200, 9000, 8, true⟩, ⟨900, 855, 810, 4, true⟩, ⟨12000, 10200, 9000, 1, false⟩,
  ⟨3300, 3135, 2970, 2, false⟩, ⟨12000, 10200, 9000, 1, false⟩]

/-- A rail's row. -/
def rail (n : Nat) : Rail := railTable.getD n ⟨0, 0, 0, 0, false⟩

/-- The shipped power configuration (R587, R619). -/
def shippedPower : List (Fld × Nat) :=
  [(Reg.PWR_CFG.UP_TMO_MS, 20), (Reg.PWR_CFG.STEP_10US, 20), (Reg.PWR_CFG.RETRIES, 2), (Reg.PWR_CFG.AUTO_ON, 1),
   (Reg.PWR_VIN.WARN_MV, 10200)] ++
    (List.range 16).flatMap fun n => [
      (Reg.PWR_RAIL_LVL.WARN_MV n, (rail n).warn), (Reg.PWR_RAIL_LVL.FAULT_MV n, (rail n).fault),
      (Reg.PWR_RAIL_CTL.RANK_NEXT n, (rail n).rank), (Reg.PWR_RAIL_CTL.RANK n, (rail n).rank)]

/-- Every value the configuration records hold as shipped. -/
def shipped : List (Fld × Nat) :=
  shippedPersist ++ shippedFlash ++ shippedDram ++ shippedHif ++ shippedSide ++ shippedPower

/-- A register file whose fields of a record read as shipped (R567): those that `stored` keeps in the record read 0 where nothing is shipped. -/
def shipRecord (rec : Nat) (stored file : RegFile) : RegFile :=
  let mine : List (Nat × Nat) := stored.filter fun e => recordOf (e.1 / 32) == some rec
  let file := mine.foldl (fun (r : RegFile) e => NMap.erase r e.1) file
  file.setAll (shipped.filter fun e => recordOf e.1.off == some rec)

/-- What the power-up has left at t_P: the sequencer ON, VIN_MAIN valid, every rail enabled with its power good, PLL0
locked, PD_KEEP powered (R596, R598, R602, R614; log entry 13). -/
def upFields : List (Fld × Nat) :=
  [(Reg.PWR_STAT.SEQ, 2), (Reg.PWR_STAT.VIN_VALID, 1), (Reg.CLK_PLL_STAT.RUNNING, 1), (Reg.CLK_PLL_STAT.LOCKED, 1),
   (Reg.CLK_DOM_STAT.ON, 1)] ++
    (List.range 16).flatMap fun n => [(Reg.PWR_RAIL_CTL.EN n, 1), (Reg.PWR_RAIL_CTL.PG n, 1)]

/-- Reset values that are not 0 and are not loaded from a record, each from the Reset column of its register table. -/
def resetFields : List (Fld × Nat) := [
  (Reg.GLB_ID.PART, 0x6180), (Reg.GLB_ID.REV_MAJOR, Config.revMajor.toNat), (Reg.GLB_ID.REV_MINOR, Config.revMinor.toNat),
  (Reg.GLB_ID.GRADE, Config.grade.toNat), (Reg.GLB_STATE.STATE, PState.KEEPER_BOOT),
  (Reg.DRP_BUDGET.LIMITER, 5), (Reg.TRN_SETS.IN_USE, 0xF),
  (Reg.TRN_PAT.SEED, 1), (Reg.TWI_CFG.ADDR_SEL 0, Config.addrSel.toNat), (Reg.CPX_FW_CFG.FENCE_LIMIT, 0x40), (Reg.CPX_FW_CFG.RESTART_MAX, 3), (Reg.CPX_FW_CFG.WDT_MS, 0x3E8),
  (Reg.CLK_UNLOCK.LAST_PLL, 0xFF), (Reg.RSV_UNC.U_KEEPER, 0x1E), (Reg.ADC_STAT.MODE, 1),
  (Reg.ADC_ROT0.MASK, 0xFFFF), (Reg.ADC_ROT1.MASK, 0x07FF0000)] ++ upFields

/-- The sequence entries as shipped (R668): entries 0–5 convert rotation 0 on ADC-A, 6–7 rotation 1 on ADC-A with the
queue, 8–13 rotation 0 on ADC-B and 14–15 rotation 1 on ADC-B with the queue. -/
def shippedSeq : List (Fld × Nat) :=
  (List.range 16).flatMap fun n => [
    (Reg.ADC_SEQ.EN n, 1), (Reg.ADC_SEQ.CONV n, n / 8), (Reg.ADC_SEQ.QUEUE n, if n % 8 < 6 then 0 else 1),
    (Reg.ADC_SEQ.SRC n, if n % 8 < 6 then 1 else 2)]

/-- Lantern-domain registers after a Lantern reset (R619, R658). -/
def lanternFields : List (Fld × Nat) := [
  (Reg.PWR_LAN.LAN_RESET, 1), (Reg.PWR_LAN.AUTO_ON, 1), (Reg.RSV_LAN.PACK_GONE, 1)]

/-- Keeper-store registers of a new device: slot A active, none to be checked (R567, R582). -/
def storeFields : List (Fld × Nat) := [
  (Reg.KST_SLOT.CHECK, 0xFF), (Reg.KST_VER_A.VERSION, 1), (Reg.KST_ARB.COUNTER, 1)]

/-- The recorder of a new device: no record, numbering from the first base of R710, which is not yet written. -/
def Evr.reset : Evr where
  first := []
  firstPages := 0
  firstProgrammed := 0
  circ := []
  sev := []
  base := 0x100000000
  next := 0x100000000
  baseWritten := false
  waiting := []
  deferred := []
  routes := []
  cursors := Cursor.banks
  mirror := []

/-- The command processor with nothing in progress. -/
def Cmd.reset : Cmd where
  results := []
  transfers := []
  writes := []
  retried := []
  chainSends := []
  barriers := []

/-- The Drip engine before tracking starts (R123, R127). -/
def Drp.reset : Drp where
  tracking := false
  grans := []
  progs := []
  slots := []
  slotNo := []
  copying := []
  directs := []
  maskCache := []
  pointer := 0
  beffGiB := 0
  csave := 0
  rateA := (0, 1)
  figure := none
  figureModel := false
  lost := false
  tokens := 0
  tokenPart := 0
  heldCredit := 0
  turn := 0
  credit := 0
  fillUs := 600000000
  openEpoch := 0
  sealEpoch := 0
  maxUsed := 0
  sealStep := .sealQueued
  openRack := false
  sealRack := false
  sealInRestore := false
  deferred := false
  bcnSeen := false
  bcnRef := 0
  bcnExpected := 0
  bcnFromFrame := false
  bcnAccepted := none
  bcnNext := 0

/-- The Keeper store of a new device (R567): slot A, everything else blank. -/
def Kst.reset : Kst where
  copies := []
  spots := []
  user := []
  programmed := []
  passwords := []
  unlocked := []
  wrong := []
  erases := []
  failed := []
  checked := []
  jseq := 0
  j0 := []
  j1 := []
  slotA := some ⟨1, 1, 1, true, Config.shippedImage⟩
  slotB := none
  running := 0
  firstStart := false
  keyGen := none
  keyLost := false
  labels := []
  shutdown := 0
  dirtyShutdowns := 0
  sets := []
  floor := 0
  ldNext := [(0, ⟨0, 32639, 0⟩)]
  package := []
  installing := none
  installer := 0
  relay := none
  selectWait := 0
  storedWait := 0
  learned := none

/-- The host interface with no link up. -/
def Hif.reset : Hif where
  lds := []
  reqs := []
  nextId := 0
  ready := []
  atFog := []
  gpf2 := []
  memActive := false
  degraded := []
  resumed := []

/-- The region manager with no extent listed. -/
def Rgn.reset : Rgn where
  exts := []
  ops := []
  record := []
  defaulted := false

/-- The sideband with nothing in progress. -/
def Twi.reset : Twi where
  notify := 0
  partialPacket := []
  reply := []
  replyPos := 0
  rx := []
  tx := []
  chainSent := []
  edges := false

/-- The flash of a new device: no record, no image. -/
def Flash.reset : Flash where
  records := []
  images := []
  nextLsn := 1
  baseIndex := []
  sealRecs := []
  openRecs := []
  sealOld := []
  openOld := []
  oldWords := []
  baseWords := []
  baseCommit := 0
  segIndex := []
  segWords := []
  segCopies := 0
  boundaryLsn := 0
  boundaryF := 0
  abandoned := false
  durableSince := false
  ring := []
  ringBlocks := []
  ringStored := []
  journalSeq := 1
  cells := []
  mirrorFas := []
  blocks := []
  blankSt := 4
  labels := []
  gc := []
  copies := []
  hot := []
  scorched := []
  foreign := []
  refill := 0
  repeated := 0
  recordShort := 0
  cFlash := 0
  spoiled := []
  sealSpoiled := []
  failed := []
  diag := []

/-- The restore engine at a cold start. -/
def Rse.reset : Rse where
  index := []
  words := []
  promoted := []
  restored := []
  faultIns := []
  sweeping := none
  recovering := []
  bitmap := false

/-- The save engine at a cold start. -/
def Sav.reset : Sav where
  step := 0
  opened := false
  mirrored := false
  indexed := false
  words := []
  openLsn := 0
  openFa := 0
  source := 0
  gpfSrc := 0
  grace := 0
  durable := 0
  cutD := 0
  cutF := 0
  cutC := 0
  start := 0
  epoch := 0
  sealing := 0
  recs := []
  feeds := []
  held := []
  mayResume := true
  cap := 0
  fromRestore := false
  pages := 0
  poison := 0
  retries := 0
  panics := 0
  sealDurable := false
  thermal := false
  dmcThrottle := false
  latched := none

/-- The sequencer with every rail up. -/
def Pwr.reset : Pwr where
  underway := false
  noReturn := false
  lastOff := 0
  stay := false
  upFails := 0
  upFailed := false
  retryDue := false
  failLog := false
  shutdownLog := false
  unused := []
  runs := []
  vinLong := true
  vsupOut := false

/-- The reserve block before any sample. -/
def Rsv.reset : Rsv where
  good := 0
  bad := 0
  lastCode := 0
  mv := 0
  ma := 0
  tenthC := 0
  ovr := false
  accepted := none
  seq := 0
  soc := 0
  charge := 0
  pausedFrom := 0
  restOrigin := none
  restHold := 0
  learnedCode := 0
  throughput := 0
  newPack := true
  resting := false

/-- The ADC at the start of a cycle with an empty queue. -/
def Adc.reset : Adc where
  queue := []
  a := {}
  b := {}
  rot0 := 0
  rot1 := 16
  cycle := 0

/-- The DRAM controller before bring-up. -/
def Dmc.reset : Dmc where
  ce := []
  down := []
  scrub := []
  rows := []
  retired := []
  queue := []
  nextSeq := 0
  inOrder := []
  passed := []
  unspared := []
  fifo := []
  issued := 0
  counts := []
  starts := []
  raa := []
  rfms := []
  postponed := []
  late := []
  pointer := []
  acts := []

/-- The training unit with no session. -/
def Trn.reset : Trn where
  verified := []
  trial := []
  eyes := []

/-- The processor complex with no firmware. -/
def Cpx.reset : Cpx where
  ram := []
  version := 0
  floor := 0
  hash := []
  codeLen := 0
  bodyLen := 0
  rest := []
  released := false
  denials := 0
  received := 0
  relock := false
  executing := []
  fwRestarts := []
  restarting := false
  manual := false
  restarts := []
  rom := false

/-- Every DMA channel idle. -/
def Dma.reset : Dma where
  jobs := []
  lines := 0
  slots := []
  last := 15

/-- The full population: 8 TiB of DRAM and 32 flash channels (log entry 4). -/
def Pop.reset : Pop where
  dramGiB := 8192
  flashChannels := List.range 32

/-- The register file at the first cold start of a new device. -/
def resetRegs : RegFile :=
  RegFile.setAll [] (resetFields ++ shipped ++ shippedSeq ++ lanternFields ++ storeFields)

/-- The machine right after reset: t_P of the first cold start of a device as shipped, in KEEPER_BOOT (R36, R44, R567). -/
def State.reset : State where
  regs := resetRegs
  shadows := []
  stored := RegFile.setAll [] shipped
  caps := []
  freeCtr := 0
  out := []
  evr := Evr.reset
  cmd := Cmd.reset
  drp := Drp.reset
  kst := Kst.reset
  hif := Hif.reset
  rgn := Rgn.reset
  twi := Twi.reset
  flash := Flash.reset
  rse := Rse.reset
  sav := Sav.reset
  pwr := Pwr.reset
  rsv := Rsv.reset
  adc := Adc.reset
  dmc := Dmc.reset
  trn := Trn.reset
  cpx := Cpx.reset
  dma := Dma.reset
  pop := Pop.reset
  dram := []
  poison := []
  faults := []
  pending := []

end Sys2Proof.Machine
end

