-- ==== Sys2Proof/Machine/Ops.lean ====
section
/-! DEFINITION. The named operations every meaning is written with: register fields, free values, outputs, events,
readiness, the persistence state, fault contexts, replies and completions. -/

namespace Sys2Proof.Machine

open Host

/-! ## Register fields -/

/-- The value of a field. -/
def State.get (s : State) (f : Fld) : Nat := s.regs.get f

/-- Whether a one-bit field is set. -/
def State.flag (s : State) (f : Fld) : Bool := s.get f != 0

/-- Set a field to the low bits of a value. -/
def State.put (s : State) (f : Fld) (v : Nat) : State := { s with regs := s.regs.set f v }

/-- Set several fields. -/
def State.putAll (s : State) (l : List (Fld × Nat)) : State := { s with regs := s.regs.setAll l }

/-- Add to a counter, which stops at its largest value. -/
def State.count (s : State) (f : Fld) (n : Nat) : State := s.put f (satAdd f.w (s.get f) n)

/-- Keep the larger of a field's value and `n`. -/
def State.raise (s : State) (f : Fld) (n : Nat) : State := s.put f (max (s.get f) (min n (2 ^ f.w - 1)))

/-- A 48-bit number held in a _LO and _HI pair (R77). -/
def State.pair (s : State) (lo hi : Fld) : Nat := s.get lo + 2 ^ 32 * s.get hi

/-- Set a 48-bit pair. -/
def State.putPair (s : State) (lo hi : Fld) (n : Nat) : State := (s.put lo n).put hi (n / 2 ^ 32)

/-- The next free value (log entry 1), which nothing constrains. -/
def State.free (s : State) : Nat := Config.freeValue s.freeCtr

/-- The free value has been taken. -/
def State.tick (s : State) : State := { s with freeCtr := s.freeCtr + 1 }

/-- Free bytes. -/
def State.freeBytes (s : State) (n : Nat) : Bytes × State :=
  ((List.range n).map fun i => BitVec.ofNat 8 (Config.freeValue (s.freeCtr + i)), { s with freeCtr := s.freeCtr + n })

/-- Set a field to a free value. -/
def State.putFree (s : State) (f : Fld) : State := (s.put f s.free).tick

/-- A maximum takes a measured value, which is free. -/
def State.raiseFree (s : State) (f : Fld) : State := (s.raise f s.free).tick

/-- The persistence state (R44). -/
def State.pstate (s : State) : Nat := s.get Reg.GLB_STATE.STATE

/-- The device is in CUTTING, SAVING or SAVED. -/
def State.saving (s : State) : Bool :=
  s.pstate == PState.CUTTING || s.pstate == PState.SAVING || s.pstate == PState.SAVED

/-- The device is powered: every state but OFF. -/
def State.powered (s : State) : Bool := s.pstate != PState.OFF

/-- The device's next state, as an outcome. -/
abbrev Res := Host.Outcome State Fault Refusal

/-- The command leaves the machine as it is (log entry 2). -/
def State.idle (s : State) : Res := .next s

/-- Send something out. -/
def State.emit (s : State) (o : Out) : State := { s with out := o :: s.out }

/-- Fold an update over a list. -/
def State.each {α : Type} (s : State) (l : List α) (g : State → α → State) : State := l.foldl g s

/-! ## Logical devices and heads -/

/-- The logical device is bound to a head (R428). -/
def State.ldPresent (s : State) (ld : Nat) : Bool := bitOf (s.get Reg.HIF_LD_STAT.PRESENT) ld

/-- CXL.mem is enabled on the logical device. -/
def State.ldMem (s : State) (ld : Nat) : Bool := bitOf (s.get Reg.HIF_LD_STAT.MEM_EN) ld

/-- The head a logical device is bound to (R428). -/
def State.ldHead (s : State) (ld : Nat) : Nat := s.get (Reg.HIF_LD_BIND.HEAD ld)

/-- A head's link is up. -/
def State.headUp (s : State) (h : Nat) : Bool := s.flag (Reg.HIF_HEAD_STAT.UP h)

/-- A head has CXL.mem enabled on one of its logical devices. -/
def State.headMem (s : State) (h : Nat) : Bool := s.flag (Reg.HIF_HEAD_STAT.MEM_EN h)

/-- A head that has CXL.mem enabled and whose link is up. -/
def State.headLive (s : State) (h : Nat) : Bool := s.headMem h && s.headUp h

/-- The owner head (R431). -/
def State.owner (s : State) : Nat := s.get Reg.HIF_CFG.OWNER

/-- What a logical device keeps; a device with no entry keeps the defaults. -/
def State.ldState (s : State) (ld : Nat) : LdState := (NMap.find? s.hif.lds ld).getD {}

/-- Change what a logical device keeps. -/
def State.setLd (s : State) (ld : Nat) (d : LdState) : State :=
  { s with hif := { s.hif with lds := NMap.insert s.hif.lds ld d } }

/-- All logical device numbers. -/
def allLds : List (Fin 16) := [0, 1, 2, 3, 4, 5, 6, 7, 8, 9, 10, 11, 12, 13, 14, 15]

/-- All head numbers. -/
def allHeads : List (Fin 4) := [0, 1, 2, 3]

/-- Signal an MSI-X vector of a logical device that has MSI-X enabled (R457). -/
def State.signal (s : State) (ld : Fin 16) (vector : Nat) : State :=
  if (s.ldState ld).msix then s.emit (.msix ld vector) else s

/-- Signal a vector on every logical device with CXL.mem enabled. -/
def State.signalAll (s : State) (vector : Nat) : State :=
  s.each allLds fun s ld => if s.ldMem ld then s.signal ld vector else s

/-! Return codes of the standard CXL mailbox (log entry 18). -/

namespace Cxl
def success : Nat := 0
def background : Nat := 1
def invalidInput : Nat := 2
def unsupported : Nat := 3
def internalError : Nat := 4
def busy : Nat := 6
end Cxl

/-! ## Event Recorder (chapter 18) -/

/-- DATA of a record (R707): values packed little-endian from byte 12, each (bytes, value); a value that would not fit
whole in 12 bytes is left out with every value after it. -/
def packData : List (Nat × Nat) → Nat → Nat
  | [], _ => 0
  | (w, v) :: l, used =>
    if used + w ≤ 12 then 2 ^ (8 * used) * (v % 2 ^ (8 * w)) + packData l (used + w) else 0

/-- The records held in an area (R713). -/
def Evr.area (e : Evr) (a : Nat) : List EvRecord :=
  if a == 0 then e.first else if a == 1 then e.circ else e.sev

/-- Cursors of an area that pointed at or below a record that leaves it now read LOST (R725). -/
def Evr.lose (e : Evr) (area seq : Nat) : Evr :=
  { e with cursors := e.cursors.map fun c => if c.2.area == area && decide (c.2.seq ≤ seq) then (c.1, { c.2 with lost := true }) else c }

/-- Program the gathered page of the first area (R714). -/
def Evr.programFirst (e : Evr) : Evr :=
  if decide (e.firstProgrammed < e.first.length) && decide (e.firstPages < 32) then
    { e with firstPages := e.firstPages + 1, firstProgrammed := e.first.length }
  else e

/-- The first area takes every record until its 32nd page is programmed (R713, R714). -/
def Evr.toFirst (e : Evr) (r : EvRecord) : Evr :=
  if e.firstPages < 32 then
    let e := { e with first := e.first ++ [r] }
    if e.first.length - e.firstProgrammed ≥ 8 then e.programFirst else e
  else e

/-- The circulating area takes every record and overwrites its oldest (R713). -/
def Evr.toCirc (e : Evr) (r : EvRecord) : Evr :=
  if e.circ.length < 2048 then { e with circ := e.circ ++ [r] }
  else match e.circ with
    | [] => { e with circ := [r] }
    | o :: rest => { e with circ := rest ++ [r] }.lose 1 o.seq

/-- A privileged record and the severity area (R715); the flag says that it did not enter. -/
def Evr.toSev (e : Evr) (r : EvRecord) : Evr × Bool :=
  if e.sev.length < 128 then ({ e with sev := e.sev ++ [r] }, false)
  else match takeFirst (fun o => decide (o.severity ≤ r.severity)) e.sev with
    | some (o, rest) => ({ e with sev := rest ++ [r] }.lose 2 o.seq, false)
    | none => (e, true)

/-- The extent table as the region record is to hold it (R437): the extents that a host has accepted are MAPPED there before they are
live (R443). -/
def Rgn.table (r : Rgn) : NMap Extent :=
  r.exts.map fun (e : Nat × Extent) =>
    if e.2.st == .addPending && r.ops.any (fun (o : DcOp) => o.add && o.answered.contains e.1) then (e.1, { e.2 with st := .mapped }) else e

/-- A write of the region record (record 0, R437), which takes the table as it is now. -/
def State.writeRegions (s : State) (after : RegionEnd) : State :=
  { s with cmd := { s.cmd with writes := s.cmd.writes ++ [⟨0, .regions s.rgn.table after, none⟩] } }

/-- Logs that receive a record: the log number of R458 in each logical device of the list; on overflow the flag, the
count and `HIF_LD_EVT.OVERFLOW` (R459). -/
def State.cxlLog (s : State) (log : Nat) (r : EvRecord) (lds : List (Fin 16)) : State :=
  s.each lds fun s ld =>
    let d := s.ldState ld
    let s :=
      if (d.logs.filter fun x => x.log == log).length < 64 then
        s.setLd ld { d with logs := d.logs ++ [⟨log, d.nextHandle, r.source, r.seq, r.data⟩],
                            nextHandle := d.nextHandle % 65535 + 1 }
      else
        (s.setLd ld { d with logOverflow := setBitOf d.logOverflow log, logLost := NMap.insert d.logLost log ((NMap.find? d.logLost log).getD 0 + 1) }).put
          Reg.HIF_LD_EVT.OVERFLOW (setBitOf (s.get Reg.HIF_LD_EVT.OVERFLOW) ld)
    s.signal ld (log + 1)

/-- Sources that R458 calls device-wide: readiness, reserve, save and restore. -/
def deviceWide (source : Nat) : Bool :=
  source == 10 || (decide (80 ≤ source) && decide (source < 96)) || (decide (208 ≤ source) && decide (source < 240))

/-- The logical devices that receive an event (R458): the one it is tied to, else all with CXL.mem enabled for a
device-wide event, else those of the owner head. -/
def State.logTargets (s : State) (source : Nat) (tied : Option (Fin 16)) : List (Fin 16) :=
  match tied with
  | some ld => [ld]
  | none =>
    if deviceWide source then allLds.filter fun ld => s.ldMem ld
    else allLds.filter fun ld => s.ldPresent ld && s.ldHead ld == s.owner

/-- A cursor bank (R722). -/
def Evr.cursor (e : Evr) (r : Req) : Cursor :=
  ((e.cursors.find? fun (c : Req × Cursor) => c.1 == r).map (·.2)).getD {}

/-- Set a cursor bank. -/
def Evr.setCursor (e : Evr) (r : Req) (c : Cursor) : Evr :=
  { e with cursors := (r, c) :: e.cursors.filter fun (x : Req × Cursor) => x.1 != r }

/-- The records of the cursor's area at or above the cursor. -/
def Evr.ahead (e : Evr) (c : Cursor) : List EvRecord := (e.area c.area).filter fun x => decide (c.seq ≤ x.seq)

/-- The interrupt of the recorder to the application cores (R726): its cause, behind those of the 16 DMA channels. -/
def recorderCause : Nat := 16

/-- The recorder interrupts the application cores while it is enabled in their bank and records are ahead of their cursor. -/
def State.recorderInterrupt (s : State) : State :=
  let c := s.evr.cursor .fw
  if c.irqEn && !(s.evr.ahead c).isEmpty then s.emit (.appInterrupt recorderCause) else s

/-- Place a numbered record: the areas of R713, the CXL logs of R458 and the route of R720. Dynamic capacity events go to
their own log. -/
def State.place (s : State) (r : EvRecord) (priv : Bool) (tied : Option (Fin 16)) : State :=
  let e := (s.evr.toFirst r).toCirc r
  let s :=
    if priv then
      let (e, dropped) := e.toSev r
      let s := { s with evr := e }
      if dropped then s.count Reg.EVR_CNT.SEV_DROP 1 else s
    else { s with evr := e }
  let log := if r.source == 149 || r.source == 150 then 4 else r.severity - 1
  let s := s.recorderInterrupt.cxlLog log r (s.logTargets r.source tied)
  match NMap.find? s.evr.routes r.source with
  | none => s
  | some (vector, mask) =>
    if vector == 0 then s
    else s.each allLds fun s ld => if bitOf mask ld then s.signal ld vector else s

/-- Two occurrences are identical (R708). -/
def EvRecord.same (r : EvRecord) (source severity code data : Nat) : Bool :=
  r.source == source && r.severity == severity && r.code == code && r.data == data

/-- Add 1 to REPEAT of the last record of an area where it is identical to the occurrence. -/
def repeatLast (l : List EvRecord) (source severity code data : Nat) : List EvRecord :=
  match l.getLast? with
  | none => l
  | some r => if r.same source severity code data then l.dropLast ++ [{ r with repeats := min (r.repeats + 1) 0xFFFF }] else l

/-- A new record takes the next number, up to base + 0xFFFF_FFFF (R711). -/
def State.newRecord (s : State) (src : Source) (code data : Nat) (tied : Option (Fin 16)) : State :=
  if s.evr.next - s.evr.base > 0xFFFFFFFF then s.count Reg.EVR_CNT.LOST 1
  else
    let r : EvRecord := ⟨src.num, src.sev, code, s.evr.next, 0, data, s.free⟩
    let s := { s.tick with evr := { s.evr with next := s.evr.next + 1 } }
    if s.evr.baseWritten then s.place r src.priv tied
    else { s with evr := { s.evr with waiting := s.evr.waiting ++ [r] } }

/-- An occurrence is recorded (R706–R711): a repeat of the newest circulating record adds to REPEAT; otherwise the next number is
taken and the record placed, or kept waiting until the base is written (R709). -/
def State.recordNow (s : State) (src : Source) (code data : Nat) (tied : Option (Fin 16)) : State :=
  match s.evr.circ.getLast? with
  | some r =>
    if r.same src.num src.sev code data && decide (r.repeats < 0xFFFF) then
      { s with evr := { s.evr with circ := repeatLast s.evr.circ src.num src.sev code data,
                                   sev := repeatLast s.evr.sev src.num src.sev code data } }
    else s.newRecord src code data tied
  | none => s.newRecord src code data tied

/-- A source whose events the Keeper raises: those of GLB, CPX and EVR but the fence, access denials, locked fields, readiness and failed units,
and those of CMD, RSV and KST (DESIGN CHOICE; log entry 142). -/
def keeperSource (n : Nat) : Bool :=
  decide (n ≤ 6) || n == 12 || (decide (16 ≤ n) && decide (n < 32)) || (decide (80 ≤ n) && decide (n < 112))

/-- Record an event. A Keeper event during a Keeper restart is made when the restart ends (R727). `tied` is the logical device of R458. -/
def State.recordFor (s : State) (src : Source) (code : Nat) (vals : List (Nat × Nat)) (tied : Option (Fin 16)) : State :=
  let data := packData vals 0
  if s.cpx.restarting && keeperSource src.num then
    { s with evr := { s.evr with deferred := s.evr.deferred ++ [⟨src, code, data, tied⟩] } }
  else s.recordNow src code data tied

/-- The Keeper events that have waited for the end of a Keeper restart are made, in their order (R727). -/
def State.recordDeferred (s : State) : State :=
  State.each { s with evr := { s.evr with deferred := [] } } s.evr.deferred fun s o => s.recordNow o.source o.code o.data o.tied

/-- Record an event that is tied to no logical device. -/
def State.record (s : State) (src : Source) (code : Nat) (vals : List (Nat × Nat)) : State :=
  s.recordFor src code vals none

/-- CODE of a device-wide event (R706). -/
def wide : Nat := 0xFF

/-! ## Readiness and persistence state -/

/-- Set or clear a bit of GLB_READY; a change sets the bit of GLB_READY_CHG and raises the readiness event on vector 7
and to the BMC (R42, R457, R735). -/
def State.setReady (s : State) (f : Fld) (v : Bool) : State :=
  if s.flag f == v then s
  else
    let s := (s.put f (ofBool v)).put ⟨Reg.GLB_READY_CHG.KEEPER_UP.off, f.lo, 1⟩ 1
    let s := s.record Ev.READY_CHANGE wide []
    let s := { s with twi := { s.twi with notify := s.twi.notify ||| 4 } }
    s.signalAll 7

/-- A bit of GLB_READY. -/
def State.ready (s : State) (f : Fld) : Bool := s.flag f

/-- Move to a persistence state (R36, R44). -/
def State.enter (s : State) (p : Nat) : State :=
  if s.pstate == p then s
  else ((s.put Reg.GLB_STATE.PREV s.pstate).put Reg.GLB_STATE.CHANGES (s.get Reg.GLB_STATE.CHANGES + 1)).put
    Reg.GLB_STATE.STATE p

/-- The die temperature in 0.1 °C, from the last result of ADC input 26: 4 mV/°C, 1,000 mV at 25 °C (R662, R663), rounded down
(log entry 10). Before the first result it is not measured: a free value. -/
def State.dieTenthC (s : State) : Int :=
  if s.flag (Reg.ADC_LAST.VALID 26) then
    (s.get (Reg.ADC_LAST.CODE 26) * 4500 / (4096 * 2 ^ s.get (Reg.ADC_LAST.GAIN 26)) : Nat) - 2250
  else s.free

/-- A number of `w` bits in two's complement. -/
def signed (w : Nat) (v : Int) : Nat := (v % 2 ^ w).toNat

/-! ## The learned values record, record 12 (R653, R655) -/

/-- The values in use in Keeper SRAM, as a record write carries them; the credit in whole GB, rounded toward minus infinity as
CREDIT_GB is (log entry 10). -/
def State.learnedNow (s : State) : Learned where
  code := s.rsv.learnedCode
  capMah := s.get Reg.RSV_LRN_CAP.CAP_MAH
  samples := s.get Reg.RSV_LRN_CAP.SAMPLES
  rLrn := s.get Reg.RSV_LRN_R.R_LRN25
  rStep := s.get Reg.RSV_LRN_R.R_STEP25
  clockMin := s.get Reg.RSV_REST.CLOCK_S / 60
  restedMv := s.get Reg.RSV_REST_V.RESTED_MV
  credit := s.drp.credit / 1000000000
  throughput := s.rsv.throughput

/-- A record is to be written with its latest content: a write of it that still waits takes that content. The first write in order has
started, unless VSUP holds it. -/
def State.writeLatest (s : State) (w : RecWrite) : State :=
  let n := if s.flag Reg.KST_STAT.VSUP_HOLD then 0 else 1
  let run := s.cmd.writes.take n
  let wait := s.cmd.writes.drop n
  let wait := if wait.any fun (x : RecWrite) => x.record == w.record then wait.map fun (x : RecWrite) => if x.record == w.record then w else x
    else wait ++ [w]
  { s with cmd := { s.cmd with writes := run ++ wait } }

/-- Write the learned values record (R655). -/
def State.writeLearned (s : State) : State := s.writeLatest ⟨12, .learned s.learnedNow, none⟩

/-! ## Fault contexts (R51–R54) -/

/-- The number of a unit that is one of many: DMC channel, NFC channel, DMA channel, sideband port. -/
def dmcUnit (c : Nat) : Nat := 0x100 + c
def nfcUnit (n : Nat) : Nat := 0x200 + n
def dmaUnit (n : Nat) : Nat := 0x300 + n
def sideUnit (p : Nat) : Nat := 0x400 + p

/-- The restore engine, the Keeper store, the processor complex and the reserve as units (R22, R51). -/
def rseUnit : Nat := 8
def kstUnit : Nat := 10
def cpxUnit : Nat := 11
def rsvUnit : Nat := 15

/-- The first source number of the block a unit belongs to, as UNIT_FAILED carries it (R719). -/
def unitKind (u : Nat) : Nat :=
  if u / 256 == 1 then 160 else if u / 256 == 2 then 240 else if u / 256 == 3 then 112 else if u / 256 == 4 then 128
  else if u == 5 || u == 6 then 192 else if u == 7 then 208 else if u == 8 then 224 else if u == 10 then 96
  else if u == 13 then 32 else if u == 14 then 64 else if u == 15 then 80 else if u == 12 then 16
  else if u == 1 || u == 2 then 144 else 0

/-- A unit is in FAILED (R53). -/
def State.unitFailed (s : State) (u : Nat) : Bool :=
  match NMap.find? s.faults u with
  | some c => c.failed
  | none => false

/-- A session ends: LAST_END takes its code. -/
def State.endSession (s : State) (last : Nat) : State :=
  s.putAll [
    (Reg.TRN_STAT.ACTIVE, 0), (Reg.TRN_STAT.GATHER, 0), (Reg.TRN_STAT.WAIT_MIG, 0), (Reg.TRN_STAT.STEP, 0),
    (Reg.TRN_STAT.RANK, 0), (Reg.TRN_STAT.LAST_END, last)]

/-- A session is abandoned: 4 ABANDON_FOGHORN, 5 ABANDON_FW, 6 CH_FAILED. The verified delays stay in force. -/
def State.abandonSession (s : State) (last : Nat) : State :=
  if s.flag Reg.TRN_STAT.ACTIVE then
    (s.endSession last).record Ev.TRN_ABANDONED (s.get Reg.TRN_STAT.CH) []
  else s

/-- A fault strikes a unit (R51–R53): one of higher severity pre-empts the active one, any other is queued behind it. A brief one
that finds the unit with no active fault is handled at once. A channel that enters FAILED shows it, and a DMC channel loses its
training session (R419). -/
def State.strikeUnit (s : State) (u sev : Nat) (brief : Bool) : State :=
  let set (c : FaultCtx) : State := { s with faults := NMap.insert s.faults u c }
  match NMap.find? s.faults u with
  | none => if brief then s else set ⟨some sev, [], false⟩
  | some c =>
    match c.active with
    | none => if brief then s else set { c with active := some sev }
    | some a =>
      if sev > a then set { c with active := some sev }
      else if c.queue.length < 8 then set { c with queue := c.queue ++ [⟨sev, 0, brief⟩] }
      else
        let n := ((c.queue.getLast?).map (·.repeats)).getD 0 + 1
        let q := c.queue.dropLast ++ ((c.queue.getLast?).map fun x => { x with repeats := n }).toList
        let s' := set { c with queue := q, failed := true }
        if c.failed then s'
        else
          let s' := s'.record Ev.UNIT_FAILED (u % 256) [(1, unitKind u), (4, n)]
          if u / 256 == 2 then s'.put (Reg.NFC_CH_STAT.FAILED (u % 256)) 1
          else if u / 256 == 1 then
            let s' := (s'.put (Reg.DMC_STAT.FAILED (u % 256)) 1).record Ev.DMC_CHANNEL_FAILED (u % 256) []
            if s'.get Reg.TRN_STAT.CH == u % 256 then s'.abandonSession 6 else s'
          else s'

/-- A fault whose handling goes on until `State.endFault`. -/
def State.raiseFault (s : State) (u sev : Nat) : State := s.strikeUnit u sev false

/-- A fault whose handling takes no further work of the unit (log entry 97). -/
def State.strike (s : State) (u sev : Nat) : State := s.strikeUnit u sev true

/-- The active fault of a unit has been handled; the oldest queued one becomes active (R52), and brief ones end at once. -/
def State.endFault (s : State) (u : Nat) : State :=
  match NMap.find? s.faults u with
  | none => s
  | some c =>
    match c.queue.dropWhile QueuedFault.brief with
    | [] => if c.failed then { s with faults := NMap.insert s.faults u { c with active := none, queue := [] } }
            else { s with faults := NMap.erase s.faults u }
    | q :: rest => { s with faults := NMap.insert s.faults u { c with active := some q.sev, queue := rest } }

/-! ## Replies and completions (R473, R483, R488) -/

/-- SRC_PORT of a packet (R472). -/
def portByte : Port → Nat
  | .mailbox ld => 0x10 + ld
  | .fmOwned _ => 0x1F
  | .twiu => 0x20
  | .chainUp => 0x30
  | .fw => 0x50
  | .keeper => 0x60

/-- A packet of R470. -/
def packet (opcode flags port : Nat) (tag : BitVec 32) (status hop dist : Nat) (payload : Bytes) : Bytes :=
  leBytes 2 opcode ++ leBytes 1 flags ++ leBytes 1 port ++ leBytes 4 tag.toNat ++ leBytes 4 payload.length ++
    leBytes 2 status ++ leBytes 1 hop ++ leBytes 1 dist ++ payload

/-! The chain's transmit queues (R747, R748). -/

/-- The link of a chain port is up: CHAIN_DN (`true`) or CHAIN_UP. -/
def State.chainLink (s : State) (down : Bool) : Bool :=
  if down then s.flag Reg.NCH_CHAIN_STAT.DN_LINK else s.flag Reg.NCH_CHAIN_STAT.UP_LINK

/-- Packets in the transmit queue of a chain port. -/
def State.chainQueued (s : State) (down : Bool) : Nat := (s.twi.chainSent.filter fun (x : ChainTx) => x.down == down).length

/-- Queue a packet on a chain port. It is discarded where the queue of 4 is full or the link is down; a packet of this sled for
a link that is down is not counted (R488, R748). -/
def State.chainSend (s : State) (down relayed : Bool) (pk : Bytes) : State :=
  if !s.chainLink down then if relayed then s.count Reg.NCH_CHAIN_CNT.DISCARD 1 else s
  else if 4 ≤ s.chainQueued down then s.count Reg.NCH_CHAIN_CNT.DISCARD 1
  else
    let first := s.chainQueued down == 0
    let s := if relayed then s.count Reg.NCH_CHAIN_CNT.RELAYED 1 else s
    let s := { s with twi := { s.twi with chainSent := s.twi.chainSent ++ [⟨down, relayed, pk, 0⟩] } }
    if first then s.emit (.chain down pk) else s

/-- The port is up: its link, for a mailbox or the chain (R488). -/
def State.portUp (s : State) : Port → Bool
  | .mailbox ld => s.ldPresent ld && s.headUp (s.ldHead ld)
  | .fmOwned h => s.headUp h
  | .twiu => (s.flag Reg.GLB_READY.SIDEBAND_UP && !s.flag (Reg.TWI_STAT.DISABLED 0)) || s.cpx.rom
  | .chainUp => s.flag Reg.GLB_READY.SIDEBAND_UP && s.chainLink false
  | .fw => s.flag Reg.GLB_READY.FW_RUN
  | .keeper => s.flag Reg.GLB_READY.KEEPER_UP

/-- TWI-U's reply buffer is emptied; a reply that nobody has read is counted (R732). -/
def State.dropTwiReply (s : State) : State :=
  let s := if !s.twi.reply.isEmpty && s.twi.replyPos == 0 then s.count (Reg.TWI_ERR.FRAME 0) 1 else s
  { s with twi := { s.twi with reply := [], replyPos := 0 } }

/-- Send the reply of a command: through its link, into TWI-U's reply buffer, or up the chain with HOP set to DIST − 1 (R473,
R477). A reply whose link is down is discarded (R488), and a broadcast has none (R478). -/
def State.reply (s : State) (port : Port) (opcode : Nat) (tag : BitVec 32) (status dist : Nat) (payload : Bytes) : State :=
  if s.portUp port && !(port == .chainUp && dist == 255) then
    let s := s.emit (.reply port opcode tag status payload)
    match port with
    | .twiu =>
      let s := s.dropTwiReply
      { s with twi := { s.twi with reply := packet opcode 1 (portByte port) tag status 0 0 payload } }
    | .chainUp => s.chainSend false false (packet opcode 1 (portByte port) tag status (dist - 1) dist payload)
    | _ => s
  else s

/-- Notify a port of a completion (R483): MSI-X vector 0, host notify, a packet up the chain that carries what RESULT_GET would
return within 1,024 bytes, an internal signal. -/
def State.notifyPort (s : State) (port : Port) (opcode : Nat) (tag : BitVec 32) (status dist : Nat) (result : Bytes) : State :=
  let s := s.emit (.completion port opcode tag status result)
  match port with
  | .mailbox ld => s.signal ld 0
  | .twiu => { s with twi := { s.twi with notify := s.twi.notify ||| 1 } }
  | .chainUp =>
    if dist == 255 then s
    else s.chainSend false false (packet opcode 3 (portByte port) tag status (dist - 1) dist
      (leBytes 2 opcode ++ leBytes 2 status ++ leBytes 4 result.length ++ result.take 1016))
  | _ => s

/-- The entry of a port's result table with a tag (R484). -/
def State.findResult (s : State) (port : Port) (tag : BitVec 32) : Option ResultEntry :=
  s.cmd.results.find? fun e => e.port == port && e.tag == tag

/-- Entries in a port's result table (R483). -/
def State.resultCount (s : State) (port : Port) : Nat := (s.cmd.results.filter fun e => e.port == port).length

/-- Remove an entry of a result table. -/
def State.dropResult (s : State) (port : Port) (tag : BitVec 32) : State :=
  { s with cmd := { s.cmd with results := s.cmd.results.filter fun e => !(e.port == port && e.tag == tag) } }

/-- Runtime firmware no longer executes a command (R492). -/
def State.notExecuting (s : State) (port : Port) (tag : BitVec 32) : State :=
  { s with cpx := { s.cpx with executing := s.cpx.executing.filter fun (e : Port × BitVec 32) => !(e.1 == port && e.2 == tag) } }

/-- An asynchronous command ends (R483): a command that has had no reply yet gets it now and gives its entry back;
otherwise the entry takes status and result, and the port is notified. The completion of a broadcast is recorded nowhere else
(R578). -/
def State.complete (s : State) (port : Port) (tag : BitVec 32) (status : Nat) (result : Bytes) : State :=
  let s := s.notExecuting port tag
  match s.findResult port tag with
  | none => s
  | some e =>
    match e.status with
    | some _ => s
    | none =>
      if e.replied && port == .chainUp && e.dist == 255 then s.dropResult port tag
      else if e.replied then
        let s := { s with cmd := { s.cmd with results := s.cmd.results.map fun (x : ResultEntry) =>
          if x.port == port && x.tag == tag then { x with status := some status, result := result } else x } }
        s.notifyPort port e.opcode tag status e.dist result
      else (s.dropResult port tag).reply port e.opcode tag status e.dist (if status == 0 then result else [])

/-- The command behind some work completes with a status code. -/
def State.completeCode (s : State) (origin : Option (Port × BitVec 32)) (status : Nat) (result : Bytes) : State :=
  match origin with
  | none => s
  | some (p, t) => s.complete p t status result

/-- Complete the command behind a piece of work, where there is one. -/
def State.completeFor (s : State) (origin : Option (Port × BitVec 32)) (status : Status) (result : Bytes) : State :=
  s.completeCode origin status.code result

/-- The entries with one marked as replied to. -/
def markReplied (l : List ResultEntry) (port : Port) (tag : BitVec 32) : List ResultEntry :=
  l.map fun e => if e.port == port && e.tag == tag then { e with replied := true } else e

/-- ACCEPTED (R482, R483): the command in progress has its reply. -/
def State.acceptReply (s : State) (op : Nat) (port : Port) (tag : BitVec 32) (dist : Nat) : State :=
  { s with cmd := { s.cmd with results := markReplied s.cmd.results port tag } }.reply port op tag Status.accepted.code dist []

/-- ACCEPTED to a command whose reply is still awaited (R482). -/
def State.acceptLate (s : State) (port : Port) (tag : BitVec 32) : State :=
  match s.findResult port tag with
  | none => s
  | some e => if e.replied || e.status.isSome then s else s.acceptReply e.opcode port tag e.dist

end Sys2Proof.Machine
end

