-- ==== Sys2Proof/Machine/Journal.lean ====
section
/-! DEFINITION. The records of the Keeper store and where they lie (R551, R552, R566–R571), and the journals of its sector erases
(R558–R560). -/

namespace Sys2Proof.Machine

open Host

/-! ## Records (R551, R552, R568–R571) -/

/-- The two copies of the learned values record (R569): the highest sequence number among the valid positions of each area. -/
def Kst.learnedCopies (k : Kst) : RecCopy × RecCopy :=
  let best (lo : Nat) : RecCopy := ((k.spots.filter fun (e : Nat × RecCopy) => decide (lo ≤ e.1) && decide (e.1 < lo + 16) && e.2.valid).map
    (·.2)).foldl (fun a c => if !a.valid || decide (a.seq < c.seq) then c else a) ⟨0, false, 0⟩
  (best 0, best 16)

/-- The two copies of a record (R552, R569). -/
def Kst.copiesOf (k : Kst) (rec : Nat) : RecCopy × RecCopy :=
  if rec == 12 then k.learnedCopies else (NMap.find? k.copies rec).getD (⟨0, false, 0⟩, ⟨0, false, 0⟩)

/-- The Keeper image slot that runs. -/
def Kst.runningSlot (k : Kst) : Option KeeperSlot := if k.running == 0 then k.slotA else k.slotB

/-- The record format that the running image writes (R572, R580). -/
def Kst.recfmt (k : Kst) : Nat := (k.runningSlot.map (·.recfmt)).getD 0

/-- The copy that a record write targets (R568, R580): the invalid one, or the one with the lower SEQ; before the commit of a first start
not the one copy that has an older format. -/
def State.targetCopy (s : State) (rec : Nat) : Nat :=
  let (a, b) := s.kst.copiesOf rec
  let older (c : RecCopy) : Bool := decide (c.fmt < s.kst.recfmt)
  if !a.valid then 0 else if !b.valid then 1
  else if s.kst.firstStart && older a != older b then (if older a then 1 else 0)
  else if a.seq ≤ b.seq then 0 else 1

/-- The position of the learned values record that the next write of a copy uses (R569): the one after the copy's newest, in turn. -/
def Kst.nextSpot (k : Kst) (copy : Nat) : Nat :=
  let c := if copy == 0 then k.learnedCopies.1 else k.learnedCopies.2
  match List.find? (fun (e : Nat × RecCopy) => e.1 / 16 == copy && e.2 == c && c.valid) k.spots with
  | some e => 16 * copy + (e.1 + 1) % 16
  | none => 16 * copy

/-- First sector within the area of a bank, and number of sectors, of each record of R552. -/
def recordExtent (rec : Nat) : Nat × Nat :=
  ([(0, 36), (36, 2), (38, 2), (40, 1), (41, 1), (42, 1), (43, 1), (44, 1), (45, 1), (46, 1), (47, 4), (51, 1)] : List (Nat × Nat)).getD rec (0, 0)

/-- Sectors of the store from `first` on. -/
def sectorRun (first n : Nat) : List Nat := (List.range n).map (first + ·)

/-- The sectors of the target of a record write (R551): records of R552, the learned values (12), the boot record (13), the label
area of logical device n (16 + n), and delay-set slot k (32 + k), which holds one set and no copy. -/
def State.targetSectors (s : State) (rec : Nat) : List Nat :=
  let copy := s.targetCopy rec
  if rec < 12 then sectorRun (0x190 + 0x400 * copy + (recordExtent rec).1) (recordExtent rec).2
  else if rec == 12 then [0x210 + 0x400 * copy + s.kst.nextSpot copy % 16]
  else if rec < 16 then [0x400 * copy]
  else if rec < 32 then sectorRun ((if copy == 0 then 0x280 else 0x660) + 8 * (rec - 16)) 8
  else if rec < 35 then sectorRun (0x220 + 32 * (rec - 32)) 32
  else sectorRun (0x620 + 32 * (rec - 35)) 32

/-- The bank that a record write programs and erases (R551). -/
def State.targetBank (s : State) (rec : Nat) : Nat := if rec < 32 then s.targetCopy rec else if rec < 35 then 0 else 1

/-! ## Journals (R558–R560) -/

/-- The journal that records the erases of a sector: that of the other bank (R558). -/
def journalOf (sector : Nat) : Nat := if sector < 1024 then 1 else 0

/-- The sectors in use of a journal, oldest first. -/
def State.journal (s : State) (j : Nat) : List JrnlSector := if j == 0 then s.kst.j0 else s.kst.j1

/-- Replace a journal. -/
def State.putJournal (s : State) (j : Nat) (l : List JrnlSector) : State :=
  { s with kst := if j == 0 then { s.kst with j0 := l } else { s.kst with j1 := l } }

/-- The first of the twelve sectors of a journal (R551). -/
def journalBase (j : Nat) : Nat := if j == 0 then 4 else 1028

/-- The entries of a journal, in order. -/
def journalEntries (l : List JrnlSector) : List JrnlEntry := (l.map JrnlSector.entries).flatten

/-- An INTENT has a later DONE (R560). -/
def intentDone (l : List JrnlEntry) (e : JrnlEntry) : Bool := l.any fun (d : JrnlEntry) => d.kind == 2 && d.sector == e.sector && decide (e.seq < d.seq)

/-- The sectors that have an INTENT and no later DONE (R561). -/
def openErases (l : List JrnlSector) : List Nat :=
  let es := journalEntries l
  ((es.filter fun (e : JrnlEntry) => e.kind == 1 && !intentDone es e).map JrnlEntry.sector).foldl insertNat []

/-- Pages of a journal that can still take an entry, of 16 in each of 12 sectors (R551, R558, R560). -/
def journalRoom (l : List JrnlSector) : Nat := 192 - (16 * (l.length - 1) + ((l.getLast?.map fun (x : JrnlSector) => x.entries.length).getD 0))

/-- The rings hold what they must: twelve sectors at most, with a page left for the DONE of each erase that is open. -/
def State.journalsFit (s : State) : Bool :=
  (List.range 2).all fun j => decide ((s.journal j).length ≤ 12) && decide ((openErases (s.journal j)).length ≤ journalRoom (s.journal j))

/-- An entry goes into the next page of a journal (R558): of its newest sector, or of the next sector in rotation. -/
def State.appendEntry (s : State) (j kind sector : Nat) : State :=
  let e : JrnlEntry := ⟨s.kst.jseq, kind, sector⟩
  let l := s.journal j
  let l := match l.getLast? with
    | none => [⟨journalBase j, [e]⟩]
    | some x =>
      if x.entries.length < 16 then l.dropLast ++ [{ x with entries := x.entries ++ [e] }]
      else l ++ [⟨journalBase j + (x.sector - journalBase j + 1) % 12, [e]⟩]
  let s := s.putJournal j l
  { s with kst := { s.kst with jseq := s.kst.jseq + 1 } }

/-- The oldest sector of a journal may be erased: every INTENT in it has a later DONE (R560). -/
def oldestDone (l : List JrnlSector) : Bool :=
  match l with
  | [] => false
  | x :: _ => (x.entries.filter fun (e : JrnlEntry) => e.kind == 1).all (intentDone (journalEntries l))

/-- The oldest sector of a full journal is erased, and the erase is itself journaled in the other journal (R560). The manual does not
say when: the model erases it as soon as the twelfth sector is in use (DESIGN CHOICE, log entry 102). -/
def State.tidyJournals (fuel : Nat) (s : State) : State :=
  match fuel with
  | 0 => s
  | fuel + 1 =>
    match (List.range 2).find? fun j => decide (12 ≤ (s.journal j).length) && oldestDone (s.journal j) &&
        decide ((openErases (s.journal (1 - j))).length + 2 ≤ journalRoom (s.journal (1 - j))) with
    | none => s
    | some j =>
      match s.journal j with
      | [] => s
      | x :: rest => State.tidyJournals fuel (((s.appendEntry (1 - j) 1 x.sector).putJournal j rest).appendEntry (1 - j) 2 x.sector)

/-- An entry about the erase of a sector goes into the journal of the other bank (R558). -/
def State.journalErase (s : State) (kind sector : Nat) : State := State.tidyJournals 4 (s.appendEntry (journalOf sector) kind sector)

/-- Sectors erased one after another, each between its INTENT and its DONE (R559). -/
def State.journalSectors (s : State) (l : List Nat) : State := s.each l fun s x => (s.journalErase 1 x).journalErase 2 x

/-- The copies of a record after a write (R568): the target takes the higher sequence number plus 1 where the write passed, and is
invalid otherwise. -/
def State.writeCopy (s : State) (rec : Nat) (ok : Bool) : State :=
  let (a, b) := s.kst.copiesOf rec
  let copy := s.targetCopy rec
  let new : RecCopy := ⟨if ok then max a.seq b.seq + 1 else 0, ok, s.kst.recfmt⟩
  if rec == 12 then { s with kst := { s.kst with spots := NMap.insert s.kst.spots (s.kst.nextSpot copy) new } }
  else { s with kst := { s.kst with copies := NMap.insert s.kst.copies rec (if copy == 0 then (new, b) else (a, new)) } }

/-- A record write that has failed once ends, and with it the fault that it raised (R52, R557). -/
def State.endRetry (s : State) (rec : Nat) : State := if s.cmd.retried.contains rec then s.endFault kstUnit else s

/-! ## The end of an installation (R576–R578) -/

/-- A KEEPER_UPDATE has its completion status (R576, R578): the register, the event with TARGET_VERSION and the source class, and the
command that waits. -/
def State.endUpdate (s : State) (st : Status) : State :=
  let origin := s.kst.installing
  let s := { s with kst := { s.kst with installing := none } }.put Reg.KST_UPD.LAST_STATUS st.code
  let s := s.record Ev.KEEPER_UPDATE_DONE wide [(2, st.code), (4, fieldAt s.kst.package 8 4), (1, s.kst.installer)]
  s.completeFor origin st []

/-- The rewrite of the boot record with a slot to be checked is pending (R576). -/
def RecWrite.marks (w : RecWrite) : Bool :=
  match w.upd with
  | .checkSlot n => n != 0xFF
  | _ => false

/-- An installation that ends before its slot is marked leaves it unmarked (R577). -/
def State.withoutMark (s : State) : State :=
  if !s.cmd.writes.any RecWrite.marks then s
  else
    let s := s.endRetry 13
    { s with cmd := { s.cmd with writes := s.cmd.writes.filter (fun (w : RecWrite) => !w.marks), retried := s.cmd.retried.filter (· != 13) } }

end Sys2Proof.Machine
end

