-- ==== Sys2Proof/Machine/SaveSet.lean ====
section
/-! DEFINITION. The save set: granule states and masks (R114, R115), the counters of R120, the bands of R132, the
effective budget of R126, and the contents of device memory. -/

namespace Sys2Proof.Machine

open Host

/-! ## Device memory (R58, R105, R107) -/

/-- The granule of a 4 KiB page (R110). -/
def granOf (page : Nat) : Nat := page / 16

/-- A page's bit in its granule's masks. -/
def bitIn (page : Nat) : Nat := page % 16

/-- The byte at a DPA; memory that nothing has written reads 0 (log entry 3). -/
def dramByte : List Cell → Nat → Byte
  | [], _ => 0
  | (k, b) :: m, a => if a = k then b else dramByte m a

/-- Write one byte; writing 0 removes the entry, so the list stays canonical. -/
def dramPut : List Cell → Nat → Byte → List Cell
  | [], a, b => if b = 0 then [] else [(a, b)]
  | (k, c) :: m, a, b =>
    if a < k then (if b = 0 then (k, c) :: m else (a, b) :: (k, c) :: m)
    else if a = k then (if b = 0 then m else (k, b) :: m)
    else (k, c) :: dramPut m a b

/-- Write consecutive bytes. -/
def dramWrite : List Cell → Nat → Bytes → List Cell
  | m, _, [] => m
  | m, a, b :: bs => dramWrite (dramPut m a b) (a + 1) bs

/-- Read consecutive bytes. -/
def dramRead (m : List Cell) (a n : Nat) : Bytes := (List.range n).map fun i => dramByte m (a + i)

/-- Memory is canonical: addresses strictly rising, no entry holds 0. -/
def Memory.wf : List Cell → Bool
  | [] => true
  | [(_, b)] => b != 0
  | (a, b) :: (a', b') :: m => b != 0 && decide (a < a') && Memory.wf ((a', b') :: m)

/-- The entries of a range. -/
def cellsIn (m : List Cell) (a n : Nat) : List Cell := m.filter fun c => decide (a ≤ c.1) && decide (c.1 < a + n)

/-- Memory with a range cleared to 0. -/
def clearRange (m : List Cell) (a n : Nat) : List Cell := m.filter fun c => !(decide (a ≤ c.1) && decide (c.1 < a + n))

/-- The grain's exponent g of R355. -/
def grainBits (code : Nat) : Nat := if code == 0 then 8 else if code == 1 then 12 else if code == 2 then 16 else 21

/-- log2 of the number of channels in use (R355). -/
def State.chanBits (s : State) : Nat := if s.get Reg.DMC_MAP.CHANNELS == 4 then 2 else 3

/-- The channel of a DPA (R355). -/
def State.channelOf (s : State) (dpa : Nat) : Nat :=
  s.get Reg.DMC_MAP.BASE + bitsOf dpa (grainBits (s.get Reg.DMC_MAP.GRAIN)) s.chanBits

/-- The channel address of a DPA (R355). -/
def State.channelAddr (s : State) (dpa : Nat) : Nat :=
  let g := grainBits (s.get Reg.DMC_MAP.GRAIN)
  dpa / 2 ^ (g + s.chanBits) * 2 ^ g + dpa % 2 ^ g

/-- Rank capacity in bytes, from the code of DMC_CFG.RANK_SIZE (R397). -/
def State.rankSize (s : State) (c : Nat) : Nat := 2 ^ (35 + s.get (Reg.DMC_CFG.RANK_SIZE c))

/-- The logical rank of a DPA, and the offset within it (R355). -/
def State.lrankOf (s : State) (dpa : Nat) : Nat := s.channelAddr dpa / s.rankSize (s.channelOf dpa)
def State.rankOffset (s : State) (dpa : Nat) : Nat := s.channelAddr dpa % s.rankSize (s.channelOf dpa)

/-- The physical rank that serves a DPA (R355, R387, R389, R390): below the watermark of a migration, the spare. -/
def State.prankOf (s : State) (dpa : Nat) : Nat :=
  let c := s.channelOf dpa
  let l := s.lrankOf dpa
  let moving := s.get (Reg.DMC_SPARE.STATE c) == 2 || s.get (Reg.DMC_SPARE.STATE c) == 3
  if moving && s.get (Reg.DMC_SPARE.SRC_LRANK c) == l && decide (s.rankOffset dpa < s.get (Reg.DMC_MIG_WM.WM_4K c) * 4096) then
    s.get (Reg.DMC_SPARE.SPARE_PRANK c)
  else s.get (Reg.DMC_RANK_MAP.LR c l)

/-- The device physical address of the Carafe slot that a page has taken: the Carafe lies under the side table at the top of device memory
(R26; log entry 111). -/
def State.slotAddress (s : State) (page : Nat) : Nat :=
  s.pop.dramGiB * 2 ^ 30 - 2 ^ 28 - s.get Reg.DRP_CAR_CFG.SIZE_GIB * 2 ^ 30 + ((NMap.find? s.drp.slotNo page).getD 0) * 4096

/-- Page hints (R358, R365). -/
def hintOpen : Nat := 0
def hintClose : Nat := 1
def hintTimed : Nat := 2

/-- The DPA lies in the unit that a migration is copying (R386, R387). -/
def State.inUnit (s : State) (dpa : Nat) : Bool :=
  let c := s.channelOf dpa
  s.get (Reg.DMC_SPARE.STATE c) == 2 && s.get (Reg.DMC_SPARE.SRC_LRANK c) == s.lrankOf dpa &&
    s.rankOffset dpa / 4096 == s.get (Reg.DMC_MIG_WM.WM_4K c)

/-- The bank of a rank offset in a physical rank, packed as channel, physical rank, chip, subchannel, bank group and bank, and its row
(R357). -/
def State.bankAt (s : State) (c prank o : Nat) : Nat × Nat :=
  let rb := 16 + s.get (Reg.DMC_CFG.RANK_SIZE c) - s.get (Reg.DMC_CFG.STACK c)
  let chip := o / 2 ^ (19 + rb)
  ((((c * 8 + prank) * 8 + chip) * 2 + bitsOf o 6 1) * 32 + bitsOf o 9 3 * 4 + bitsOf o 12 2, bitsOf o 19 rb)

/-- The bank and row that an access to a DPA goes to (R357, R387): a write to the unit being copied waits, and goes to the spare. -/
def State.bankOf (s : State) (dpa : Nat) (write : Bool) : Nat × Nat :=
  let c := s.channelOf dpa
  s.bankAt c (if write && s.inUnit dpa then s.get (Reg.DMC_SPARE.SPARE_PRANK c) else s.prankOf dpa) (s.rankOffset dpa)

/-- The channel and physical rank of a packed bank, as channel × 8 + rank. -/
def rankOfBank (b : Nat) : Nat := b / 512

/-- Poison more lines of a page's contents, by line number (R105, R224). -/
def PageImage.poisonLines (p : PageImage) (lines : List Nat) : PageImage :=
  { p with poison := lines.foldl (fun acc l => setBitOf acc (l % 64)) p.poison }

/-- A line lies on a DMC channel in FAILED, every read of which returns poison (R393). -/
def State.lineFailed (s : State) (line : Nat) : Bool := s.unitFailed (dmcUnit (s.channelOf (line * 64)))

/-- A line reads as poisoned (R105, R393). -/
def State.poisoned (s : State) (line : Nat) : Bool := s.poison.contains line || s.lineFailed line

/-- Poison a line. -/
def State.poisonLine (s : State) (line : Nat) : State := { s with poison := insertNat s.poison line }

/-- Clear the poison of a line, which no record needs to be marked for any more (R107). -/
def State.cleanLine (s : State) (line : Nat) : State :=
  { s with poison := s.poison.filter (· != line), flash := { s.flash with spoiled := s.flash.spoiled.filter (· != line) } }

/-- No line of a page holds poison any more. -/
def State.cleanPage (s : State) (page : Nat) : State := { s with poison := s.poison.filter fun l => l / 64 != page }

/-- The contents of a page with its poison (R106). -/
def State.pageImage (s : State) (page : Nat) : PageImage where
  cells := (cellsIn s.dram (page * 4096) 4096).map fun c => (c.1 - page * 4096, c.2)
  poison := (List.range 64).foldl (fun acc i => if s.poisoned (page * 64 + i) then setBitOf acc i else acc) 0

/-- Put a page into device memory with its poison. What goes to a channel in FAILED is discarded, and its lines are recorded as poisoned
(R393). -/
def State.putPage (s : State) (page : Nat) (p : PageImage) : State :=
  let base := page * 4096
  let failed := (List.range 64).filter fun i => s.lineFailed (page * 64 + i)
  let cells := p.cells.filter fun c => !failed.contains (c.1 / 64)
  let m := cells.foldl (fun m c => dramPut m (base + c.1) c.2) (clearRange s.dram base 4096)
  let keep := s.poison.filter fun l => l / 64 != page
  let marks := (List.range 64).filter fun i => bitOf p.poison i || failed.contains i
  let spoiled := s.flash.spoiled.filter fun l => l / 64 != page
  { s with
    dram := m
    poison := marks.foldl (fun acc i => insertNat acc (page * 64 + i)) keep
    flash := { s.flash with spoiled := failed.foldl (fun acc i => insertNat acc (page * 64 + i)) spoiled } }

/-! ## Granules and counters (R114, R120) -/

/-- The entry of a granule that is not PERSISTED. -/
def Drp.gran (d : Drp) (g : Nat) : Option Gran := NMap.find? d.grans g

/-- Set a granule's entry. -/
def Drp.setGran (d : Drp) (g : Nat) (x : Gran) : Drp := { d with grans := NMap.insert d.grans g x }

/-- The granule becomes PERSISTED. -/
def Drp.dropGran (d : Drp) (g : Nat) : Drp := { d with grans := NMap.erase d.grans g }

/-- Programs in flight in a role. -/
def Drp.inFlight (d : Drp) (r : Role) : Nat := (d.progs.filter fun p => p.role == r).length

/-- D of R120. -/
def Drp.countD (d : Drp) : Nat :=
  (d.grans.map fun e => if e.2.st == .frozen then 0 else popcount 16 e.2.mask).sum + d.inFlight .opened

/-- F of R120. -/
def Drp.countF (d : Drp) : Nat :=
  (d.grans.map fun e => match e.2.st with
    | .dirty => 0
    | .frozen => popcount 16 e.2.mask
    | .staged => popcount 16 e.2.owed - popcount 16 (e.2.owed &&& e.2.copied)).sum + d.inFlight .sealing

/-- C of R120. -/
def Drp.countC (d : Drp) : Nat :=
  (d.grans.map fun e => if e.2.st == .staged then popcount 16 (e.2.owed &&& e.2.copied) else 0).sum + d.inFlight .carafe

/-- The save set S, in pages (R120). -/
def Drp.saveSet (d : Drp) : Nat := d.countD + d.countF + d.countC

/-- The page is marked in the open-epoch role, so that a write to it is no new-page write (R121). -/
def Drp.marked (d : Drp) (page : Nat) : Bool :=
  match d.gran (granOf page) with
  | none => false
  | some g => g.st != .frozen && bitOf g.mask (bitIn page)

/-- The page is owed to the sealing epoch and not yet copied (R114). -/
def Drp.owedUncopied (d : Drp) (page : Nat) : Bool :=
  match d.gran (granOf page) with
  | none => false
  | some g => match g.st with
    | .dirty => false
    | .frozen => bitOf g.mask (bitIn page)
    | .staged => bitOf g.owed (bitIn page) && !bitOf g.copied (bitIn page)

/-- A host write to a page is classified: the transition of R115 and the mark in the open-epoch role. -/
def Drp.classify (d : Drp) (page : Nat) : Drp :=
  let g := granOf page
  match d.gran g with
  | none => d.setGran g ⟨.dirty, setBitOf 0 (bitIn page), 0, 0⟩
  | some x => match x.st with
    | .frozen => d.setGran g ⟨.staged, setBitOf 0 (bitIn page), x.mask, 0⟩
    | _ => d.setGran g { x with mask := setBitOf x.mask (bitIn page) }

/-- The epoch is abandoned (R115, R119, R173): every FROZEN and STAGED granule becomes DIRTY with the pages that the
Carafe does not hold, copies are discarded, and programs in flight join the open epoch. -/
def Drp.abandonMasks (d : Drp) : Drp :=
  { d with
    grans := d.grans.filterMap fun e => match e.2.st with
      | .dirty => some e
      | .frozen => some (e.1, ⟨.dirty, e.2.mask, 0, 0⟩)
      | .staged => some (e.1, ⟨.dirty, e.2.mask ||| (e.2.owed &&& (0xFFFF ^^^ e.2.copied)), 0, 0⟩)
    progs := d.progs.map fun p => match p.role with
      | .sealing => { p with role := .opened }
      | .carafe => { p with role := .discarded }
      | _ => p
    slots := []
    slotNo := []
    copying := []
    directs := [] }

/-! ## Restored pages (R265) -/

/-- Every page from `a` to before `b` has been restored (R265). -/
def Rse.covers (r : Rse) (a b : Nat) : Bool := r.restored.any fun i => decide (i.1 ≤ a) && decide (b ≤ i.2)

/-- A page is restored (R265). -/
def State.pageRestored (s : State) (page : Nat) : Bool := s.rse.covers page (page + 1)

/-- The pages of a granule that are still to be persisted for the sealing epoch (R114). In a save a page that the restore has not reached
is none of them: SAV never reads it from DRAM, and the index keeps the record of the image being restored (R225). -/
def State.stillOwed (s : State) (g : Nat) (x : Gran) : Nat :=
  let m := match x.st with
    | .dirty => 0
    | .frozen => x.mask
    | .staged => x.owed
  if s.saving then m &&& (x.copied ||| maskOf 16 fun i => s.pageRestored (g * 16 + i)) else m

/-! ## Budget (R124–R131) -/

/-- Pages in a GiB. -/
def pagesPerGiB : Nat := 262144

/-- k_u of R126 in parts of 920: 920 for u (permil) up to 8 %, else 1000 - u. With the voltage-`table` figure k_u is 1 (R127). -/
def kuOf (table : Bool) (u : Nat) : Nat := if table || u ≤ 80 then 920 else 1000 - u

/-- The terms of R126 as exact fractions. `n / d` is R_a / 100 GB/s; `ku` is in parts of 920. -/
structure Terms where
  n : Nat
  d : Nat
  /-- C_time, C_energy and C_flash in bytes. -/
  time : Nat
  energy : Nat
  flash : Nat
  deriving DecidableEq, Repr

/-- The terms of R126 for a figure (mW, mJ, k_u) and a save model (mW, ms). The division is made last, so each
capacity is the exact value rounded down to a byte. -/
def termsOf (power energy ku pFull pBase tFix tMax grace flash : Nat) : Terms :=
  let d := 920 * (pFull - pBase)
  let n := min d (power * ku - 920 * pBase)
  let den := min (power * ku) (920 * pFull)
  let num := energy * ku * 1000 - 920 * pFull * grace
  { n, d, flash
    time := if d == 0 then 0 else 100000000 * (tMax - tFix) * n / d
    energy := if d == 0 || den == 0 then 0 else 100000000 * n * (num - tFix * den) / (d * den) }

/-- A term as whole 16 GiB steps above the 8 GiB margin (R126, R128). -/
def stepsOf (bytes : Nat) : Nat := (bytes - 8 * 2 ^ 30) / (16 * 2 ^ 30)

end Sys2Proof.Machine
end

