-- ==== Sys2Proof/Machine/Banks.lean ====
section
/-! DEFINITION. The bank queues of the DRAM controller (R358–R366, R371, R375): a request arrives, requests issue in the order of
R361 to R364, and rows and activates follow. When queued requests issue is timing, which the manual leaves open: a free number of
them has issued before the next arrives on their subchannel (log entry 40). -/

namespace Sys2Proof.Machine

/-! ## Requesters (R358) -/

def reqDrip : Nat := 16
def reqSav : Nat := 17
def reqRse : Nat := 18
def reqMigration : Nat := 19
def reqApp : Nat := 20
def reqScrub : Nat := 21

/-- The page hint of a logical device (R358). -/
def State.ldHint (s : State) (ld : Nat) : Nat := s.get (Reg.DMC_LD_PAGE.POL ld)

/-- The page hint of a requester (R358). -/
def State.hintOf (s : State) (id : Nat) : Nat :=
  if id < 16 then s.ldHint id else if id == reqApp then hintTimed else if id == reqScrub then hintClose else hintOpen

/-- The channel and the subchannel of a packed bank, as channel × 2 + subchannel (R359). -/
def subOf (b : Nat) : Nat := rankOfBank b / 8 * 2 + b / 32 % 2

/-- The place of a request in the order of R48 for the DMC, 0 highest, in the present phase. The RSE has no place in normal service;
the zero fill takes the one it has below its panic mark in RESTORING. A write of the RSE is marked as a copy where it is that of a
demand fault-in, which is always served as above the panic mark (R271). -/
def State.dmcClass (s : State) (r : DmcReq) : Nat :=
  let p := s.pstate
  let panic := s.flag (Reg.DMC_STAT.PANIC (subOf r.bank / 2))
  if p == PState.SAVING then
    if r.id == reqSav then 0 else if r.id < 16 && !r.write then 1 else 9
  else if p == PState.CUTTING then
    if r.id == reqRse then 2 else if r.copy then 1 else if r.id < 16 then (if r.write then 3 else 4) else if r.id == reqDrip then 5 else 9
  else if r.id == reqRse && (panic || r.copy) && p == PState.RESTORING then 0
  else if r.copy then 1
  else if r.id < 16 then (if r.write then 3 else 2)
  else if r.id == reqRse || r.id == reqSav then 4
  else if r.id == reqMigration then 5 else if r.id == reqDrip then 6 else if r.id == reqApp then 7 else 8

/-! ## Which request issues next -/

/-- The request hits the open row of its bank. -/
def Dmc.hits (d : Dmc) (r : DmcReq) : Bool := (NMap.find? d.rows r.bank).map OpenRow.row == some r.row

/-- The request of a throttled requester needs an activate before DMC_RD_CFG.THR_GAP has passed since its last one on the channel (R364,
R372). When that is, is timing: a free value (log entry 40). -/
def State.throttled (s : State) (d : Dmc) (r : DmcReq) : Bool :=
  bitOf (s.get (Reg.DMC_RD_STAT.THROTTLED (subOf r.bank / 2))) r.id && !d.hits r && !Config.gapOver r.seq d.issued

/-- The candidate of a bank (R361, R363, R364): in in-order mode the oldest; otherwise, in the highest class, the oldest or a row hit, of
which HIT_CAP may pass the oldest miss. A request of a throttled requester that must wait is none, and one that the phase does not serve
(R48) is none outside in-order mode (DEDUCED; log entry 132); `all` leaves both out of account. -/
def State.candidate (s : State) (all : Bool) (d : Dmc) (bank : Nat) : Option DmcReq :=
  let q := d.queue.filter fun r => r.bank == bank
  if (NMap.find? d.inOrder bank).isSome then q.head?.filter fun r => all || !s.throttled d r
  else
    let q := q.filter fun r => all || (decide (s.dmcClass r < 9) && !s.throttled d r)
    let best := q.foldl (fun acc r => min acc (s.dmcClass r)) 9
    let l := q.filter fun r => s.dmcClass r == best
    match l.find? d.hits, l.find? fun r => !d.hits r with
    | some h, some m =>
      if m.seq < h.seq && decide (s.get (Reg.DMC_SCHED.HIT_CAP (subOf bank / 2)) ≤ (NMap.find? d.passed m.seq).getD 0) then some m else some h
    | some h, none => some h
    | none, m => m

/-- The request that a subchannel issues next (R362): of the highest class among the candidates, the first bank at or after the
pointer. -/
def State.nextIssue (s : State) (all : Bool) (d : Dmc) (sub : Nat) : Option DmcReq :=
  let banks := ((d.queue.filter fun r => subOf r.bank == sub).map DmcReq.bank).eraseDups
  let cs := banks.filterMap (s.candidate all d)
  let best := cs.foldl (fun acc r => min acc (s.dmcClass r)) 9
  let from' := (NMap.find? d.pointer sub).getD 0
  let far (r : DmcReq) : Nat := (r.bank + 65536 - from') % 65536
  (cs.filter fun r => s.dmcClass r == best).foldl (fun (acc : Option DmcReq) r => match acc with
    | none => some r
    | some a => if far r < far a then some r else some a) none

/-! ## Admission to the bank queues (R359, R360, R364) -/

/-- A bank queue, its subchannel's pool and, for a write, its write data buffer have room (R359). -/
def Dmc.fits (d : Dmc) (r : DmcReq) : Bool :=
  let sub := d.queue.filter fun x => subOf x.bank == subOf r.bank
  decide (d.queue.countP (fun x => x.bank == r.bank) < 16) && decide (sub.length < 512) && (!r.write || decide (sub.countP DmcReq.write < 256))

/-- A request may leave its ingress FIFO: there is room, and no earlier one of its requester waits there that goes to its bank or names its
line (R360). -/
def Dmc.admissible (d : Dmc) (r : DmcReq) : Bool :=
  d.fits r && !d.fifo.any fun x => x.id == r.id && decide (x.seq < r.seq) && (x.bank == r.bank || x.line == r.line)

/-- A request enters its bank queue; a read that meets a write to its row starts in-order mode (R363). -/
def Dmc.enqueue (d : Dmc) (r : DmcReq) : Dmc :=
  let writes := d.queue.filter fun x => x.bank == r.bank && x.write
  let starts := !r.write && writes.any fun x => x.row == r.row
  { d with
    fifo := d.fifo.filter fun x => x.seq != r.seq
    queue := d.queue ++ [r]
    inOrder := if starts then NMap.insert d.inOrder r.bank writes.length else d.inOrder }

/-- Requests of a subchannel enter their bank queues while there is room, in the order of R48 and of their arrival (R364). The count bounds
them. -/
def State.admitAll (s : State) : Nat → Dmc → Nat → Dmc
  | 0, d, _ => d
  | n + 1, d, sub =>
    let l := d.fifo.filter fun r => subOf r.bank == sub && d.admissible r
    let best := l.foldl (fun acc r => min acc (s.dmcClass r)) 9
    match l.find? fun r => s.dmcClass r == best with
    | none => d
    | some r => State.admitAll s n (d.enqueue r) sub

/-! ## Issue -/

/-- The row of a bank after an access with a hint (R365, R366): a CLOSE precharge waits for queued hits. -/
def Dmc.rowAfter (d : Dmc) (r : DmcReq) (hint : Nat) : NMap OpenRow :=
  let more := d.queue.any fun x => x.seq != r.seq && x.bank == r.bank && x.row == r.row
  if hint == hintClose && !more then NMap.erase d.rows r.bank else NMap.insert d.rows r.bank ⟨r.row, hint, d.issued⟩

/-- The miss that a row hit passes (R361): the oldest of its class in its bank, where it is older. -/
def State.passes (s : State) (d : Dmc) (r : DmcReq) : Option DmcReq :=
  if !d.hits r || (NMap.find? d.inOrder r.bank).isSome then none
  else d.queue.find? fun x => x.bank == r.bank && decide (x.seq < r.seq) && s.dmcClass x == s.dmcClass r && !d.hits x

/-- A bank activates a row for a requester: one of its last 64 activates (R371), in its count over the rolling window, from which a
free number of older ones has gone (log entry 40), and in its rolling accumulated count. Where that has reached the maximum threshold, a
refresh management command precedes the activate and lowers it by the initial one (R370; log entry 119). -/
def Dmc.activate (d : Dmc) (r : DmcReq) : Dmc :=
  let n := (NMap.find? d.counts r.bank).getD 0
  let a := (NMap.find? d.raa r.bank).getD 0
  let rfm := decide (Config.raaMaximum ≤ a)
  let c := rankOfBank r.bank / 8
  { d with
    acts := NMap.insert d.acts r.bank ((r.id :: (NMap.find? d.acts r.bank).getD []).take 64)
    counts := NMap.insert d.counts r.bank (n - Config.leftWindow r.seq % (n + 1) + 1)
    raa := NMap.insert d.raa r.bank ((if rfm then a - Config.raaInitial else a) + 1)
    rfms := if rfm then NMap.insert d.rfms c ((NMap.find? d.rfms c).getD 0 + 1) else d.rfms }

/-- A request issues: its bank activates the row where it is not open, the pointer moves past the bank (R362), and in-order mode ends with
its last write (R363). -/
def State.issue (s : State) (d : Dmc) (r : DmcReq) : Dmc :=
  let left := (NMap.find? d.inOrder r.bank).getD 0 - (if r.write then 1 else 0)
  let t := if d.hits r then d else d.activate r
  { t with
    queue := d.queue.filter fun x => x.seq != r.seq
    issued := d.issued + 1
    rows := d.rowAfter r (s.hintOf r.id)
    passed := match s.passes d r with
      | some m => NMap.insert d.passed m.seq ((NMap.find? d.passed m.seq).getD 0 + 1)
      | none => NMap.erase d.passed r.seq
    pointer := NMap.insert d.pointer (subOf r.bank) (r.bank + 1)
    inOrder := if left == 0 then NMap.erase d.inOrder r.bank else NMap.insert d.inOrder r.bank left }

/-- A number of requests of a subchannel issue; each leaves room for others. -/
def State.issueMany (s : State) (all : Bool) : Nat → Dmc → Nat → Dmc
  | 0, d, _ => d
  | n + 1, d, sub => match s.nextIssue all d sub with
    | none => d
    | some r =>
      let d := s.issue d r
      State.issueMany s all n (s.admitAll d.fifo.length d sub) sub

/-- DMC_STAT.INORDER of a channel (R363). -/
def Dmc.ordered (d : Dmc) (c : Nat) : Bool := d.inOrder.any fun (e : Nat × Nat) => rankOfBank e.1 / 8 == c

/-! ## Arrival -/

/-- A request arrives (R358–R363): a free number of those queued on its subchannel has issued before. Its rank leaves power-down
(R375). -/
def State.arrive (s : State) (d : Dmc) (free : Nat) (r : DmcReq) : Dmc :=
  let sub := subOf r.bank
  let r := { r with seq := d.nextSeq }
  let d := s.issueMany false (free % (d.queue.countP (fun x => subOf x.bank == sub) + 1)) d sub
  let d := { d with fifo := d.fifo ++ [r], nextSeq := d.nextSeq + 1, down := d.down.filter (· != rankOfBank r.bank) }
  s.admitAll d.fifo.length d sub

/-- What the DMC shows of some channels once requests have arrived: in-order mode, and the refresh management commands that it has
issued (R363, R370). -/
def State.showBanks (s : State) (channels : List Nat) (d : Dmc) : State :=
  { s with dmc := d }.each channels fun t c =>
    (t.put (Reg.DMC_STAT.INORDER c) (ofBool (d.ordered c))).count (Reg.DMC_RD_CNT.RFM c)
      ((NMap.find? d.rfms c).getD 0 - (NMap.find? s.dmc.rfms c).getD 0)

/-- Requests to some banks arrive one after another. -/
def State.arriveAll (s : State) (l : List DmcReq) : State :=
  let d := l.zipIdx.foldl (fun d e => s.arrive d (Config.freeValue (s.freeCtr + e.2)) e.1) s.dmc
  { s with freeCtr := s.freeCtr + l.length }.showBanks ((l.map fun (r : DmcReq) => subOf r.bank / 2).eraseDups) d

/-- A requester's request to a line. -/
def State.lineReq (s : State) (id : Nat) (copy write : Bool) (line : Nat) : DmcReq :=
  let (bank, row) := s.bankOf (line * 64) write
  ⟨0, line, bank, row, id, copy, write⟩

/-- Requests to lines by a requester (R358). A channel in FAILED takes none (R393). A write to the unit being copied waits until the
watermark has passed it (R387). -/
def State.accessLines (s : State) (lines : List Nat) (id : Nat) (copy write : Bool) : State :=
  let lines := lines.filter fun l => !s.lineFailed l
  let late := if write then lines.filter fun l => s.inUnit (l * 64) else []
  State.arriveAll { s with dmc := { s.dmc with late := late.foldl insertNat s.dmc.late } } (lines.map (s.lineReq id copy write))

/-- A request to a line. -/
def State.access (s : State) (dpa id : Nat) (copy write : Bool) : State := s.accessLines [dpa / 64] id copy write

/-- Requests to the 64 lines of a page. -/
def State.accessPage (s : State) (dpa id : Nat) (copy write : Bool) : State :=
  s.accessLines ((List.range 64).map (dpa / 64 + ·)) id copy write

/-- Nothing is queued on a channel any more: every request of its two subchannels has issued. -/
def State.quiet (s : State) (c : Nat) : State :=
  let n := s.dmc.queue.length + s.dmc.fifo.length
  s.showBanks [c] (s.issueMany true n (s.issueMany true n s.dmc (c * 2)) (c * 2 + 1))

/-- Close open rows that satisfy a test of bank and entry. -/
def State.closeRows (s : State) (p : Nat → OpenRow → Bool) : State :=
  { s with dmc := { s.dmc with rows := s.dmc.rows.filter fun (e : Nat × OpenRow) => !p e.1 e.2 } }

/-! ## Refresh, and a real-time feed in panic (R227, R366–R369) -/

/-- A refresh of a physical rank is issued: it closes the rows of the rank, or of one bank of each group, and lowers the accumulated
activate counts there by the initial threshold (R370; log entry 119). -/
def State.issueRefresh (s : State) (c rank bank : Nat) : State :=
  let here (b : Nat) : Bool := rankOfBank b == c * 8 + rank && (s.get (Reg.DMC_REF.MODE c) == 0 || b % 4 == bank)
  let raa := s.dmc.raa.map fun (e : Nat × Nat) => if here e.1 then (e.1, e.2 - Config.raaInitial) else e
  { s with dmc := { s.dmc with raa } }.closeRows fun b _ => here b

/-- The refreshes that a channel has postponed. -/
def State.postponedOf (s : State) (c : Nat) : List (Nat × Nat) := s.dmc.postponed.filter fun e => e.1 / 8 == c

/-- A refresh is postponed (R227, R369). -/
def State.postpone (s : State) (c rank bank : Nat) : State :=
  { s with dmc := { s.dmc with postponed := s.dmc.postponed ++ [(c * 8 + rank, bank)] } }.count (Reg.DMC_REF.POSTPONED c) 1

/-- The postponed refreshes of a channel are made up (R227, R367). -/
def State.makeUp (s : State) (c : Nat) : State :=
  let l := s.postponedOf c
  ({ s with dmc := { s.dmc with postponed := s.dmc.postponed.filter fun e => e.1 / 8 != c } }.each l fun s e =>
    s.issueRefresh c (e.1 % 8) e.2).put (Reg.DMC_REF.POSTPONED c) 0

/-- DMC_STAT.PANIC of a channel, and in a save SAV_STAT.PANIC (R252, R367); where panic has ended, what was postponed is made up. -/
def State.showPanic (s : State) (c : Nat) (panic : Bool) : State :=
  let s := s.put (Reg.DMC_STAT.PANIC c) (ofBool panic)
  let s := if panic then s else s.makeUp c
  s.put Reg.SAV_STAT.PANIC (ofBool (s.saving && (List.range 8).any fun c => s.flag (Reg.DMC_STAT.PANIC c)))

/-- No feed is in panic any more: a save or a restore has ended (R227, R252, R367). -/
def State.endPanic (s : State) : State := s.each ((List.range 8).filter fun c => s.flag (Reg.DMC_STAT.PANIC c)) fun s c => s.showPanic c false

/-- The feed of an NFC channel is in panic in a save (R227). -/
def State.feedPanics (s : State) (n : Nat) : Bool :=
  (NMap.find? s.sav.feeds n).any fun f => decide (s.get Reg.SAV_CFG.PANIC_SLOTS ≤ f.empty)

/-- The feed of an NFC channel has so many empty slots now, and its requests go to some DMC channels; one that comes into panic is counted
(R227, R254; log entry 54). -/
def State.setFeed (s : State) (n empty : Nat) (dram : List Nat) : State :=
  let old := ((NMap.find? s.sav.feeds n).map Feed.dram).getD []
  let t := { s with sav := { s.sav with feeds := NMap.insert s.sav.feeds n ⟨empty, dram.foldl insertNat old⟩ } }
  if t.feedPanics n && !s.feedPanics n then { t with sav := { t.sav with panics := t.sav.panics + 1 } } else t

/-- A feed of a DMC channel's requests is in panic in a save (R227). -/
def State.savePanic (s : State) (c : Nat) : Bool :=
  s.sav.feeds.any fun (e : Nat × Feed) => e.2.dram.contains c && s.feedPanics e.1

/-- Every channel's panic is judged anew in a save (R227). -/
def State.judgePanic (s : State) : State :=
  s.each ((List.range 8).filter fun c => s.savePanic c != s.flag (Reg.DMC_STAT.PANIC c)) fun s c => s.showPanic c (s.savePanic c)

/-- A channel goes into self-refresh with nothing queued and its rows closed (R242, R376). -/
def State.selfRefresh (s : State) (c : Nat) : State :=
  ((s.quiet c).closeRows fun b _ => rankOfBank b / 8 == c).put (Reg.DMC_STAT.SELF_REFRESH c) 1

/-- The requester that issued the most of a bank's last 64 activates, the lowest among equals (R371). -/
def offenderOf (ids : List Nat) : Nat :=
  ((List.range 22).foldl (fun (acc : Nat × Nat) i => let n := ids.countP (· == i); if acc.2 < n then (i, n) else acc) (0, 0)).1

/-! ## The side table and its mask cache (R110–R112) -/

/-- The cache line of a page: the masks of 64 granules (R111). -/
def maskLine (page : Nat) : Nat := page / 1024

/-- The device physical address of a cache line in the side table, whose 2 bytes for each granule lie at the top of device memory,
above the Carafe (R26, R110; log entry 96). -/
def State.sideAddress (s : State) (line : Nat) : Nat := s.pop.dramGiB * 2 ^ 30 - 2 ^ 28 + line * 128

/-- The two lines of device memory that hold a cache line's masks, read or written back by Drip, or in a save by SAV (R112, R226,
R358). -/
def State.sideAccess (s : State) (line : Nat) (write : Bool) : State :=
  let id := if s.pstate == PState.SAVING then reqSav else reqDrip
  s.accessLines [s.sideAddress line / 64, s.sideAddress line / 64 + 1] id false write

/-- The masks of a page's granule are looked up and change: on a miss the line is read, and with 4,096 lines held another one,
which the manual does not name, is written back to make room (R111, R112). -/
def State.sideTable (s : State) (page : Nat) : State :=
  let line := maskLine page
  let c := s.drp.maskCache
  if c.contains line then s
  else
    let victim := c.getD (s.free % (c.length + 1)) (c.headD 0)
    let s := if c.length < 4096 then s else (s.tick.sideAccess victim true)
    let c := if c.length < 4096 then c else c.filter (· != victim)
    { s with drp := { s.drp with maskCache := line :: c } }.sideAccess line false

end Sys2Proof.Machine
end

