-- ==== Sys2Proof/Machine/Epochs.lean ====
section
/-! DEFINITION. Budget, arming and epoch operations that several commands share: the recomputation of R128, bands and
admission figures, arming and disarming, the boundary, abandonment, BEACON lock. -/

namespace Sys2Proof.Machine

/-! ## Budget and bands -/

/-- Arming mode CONSERVATIVE (R87). -/
def State.conservative (s : State) : Bool := s.get Reg.GLB_ARM.MODE == 1

/-- The figure in use is the voltage-table one, for which k_u is 1 (R127, R652). While MODE is 0 no mode is named: the model then
takes the voltage-table figure, unless t_F holds the one in use (R212), and leaves out the 64 GiB of CONSERVATIVE (DESIGN CHOICE; log
entry 65). -/
def State.voltageTable (s : State) : Bool := !s.drp.figureModel

/-- B_eff in pages. -/
def State.beff (s : State) : Nat := s.drp.beffGiB * pagesPerGiB

/-- The band of R132 for the present save set: 0 Free, 1 Paced, 2 Held; OVER_CAP makes it Held (R131). -/
def State.band (s : State) : Nat :=
  let n := s.drp.saveSet
  if s.flag Reg.DRP_BUDGET.OVER_CAP then 2
  else if n * 10 < s.beff * 8 then 0 else if n < s.beff then 1 else 2

/-- The depth of the bucket of R148 in bytes. -/
def State.wearDepth (s : State) : Int :=
  s.get Reg.DRP_WEAR_CFG.PEAK_MIN * 60 * ((256 : Int) - s.get Reg.DRP_WEAR_CFG.AVG_RATE) * 250000000

/-- Show the wear credit in GB, rounded toward minus infinity (DESIGN CHOICE; log entry 10), and the rate ceiling of R143; with a
die throttled the rate that the dies leave, a free value, bounds it too (log entry 6). -/
def State.showWear (s : State) : State :=
  let gb := s.drp.credit / 1000000000
  let s := s.put Reg.DRP_WEAR_CREDIT.CREDIT_GB (gb % 2 ^ 32).toNat
  let limit := if decide (0 < s.drp.credit) || s.flag Reg.DRP_BUDGET.OVER_CAP then 256 else s.get Reg.DRP_WEAR_CFG.AVG_RATE
  if s.flash.hot.isEmpty then s.put Reg.DRP_RATE.RATE_LIMIT limit else (s.put Reg.DRP_RATE.RATE_LIMIT (min limit s.free)).tick

/-- Set or clear OVER_CAP (R131): while it is set Drip ignores the wear governor, so the rate ceiling follows (R143). -/
def State.setOverCap (s : State) (v : Bool) : State := (s.put Reg.DRP_BUDGET.OVER_CAP (ofBool v)).showWear

/-- Bring the admission figures up to date with S (R131–R134, R139, R157): the band, the bucket on entry to Paced, what pages persisted
in Held still allow the writes that wait, MARGIN_USED and FILL_PCT, both rounded down (DESIGN CHOICE; log entry 10), the stall and OVER_CAP. Nothing moves before
tracking starts (R127). -/
def State.refresh (s : State) : State :=
  if !s.drp.tracking then s
  else
    let n := s.drp.saveSet
    let s := if s.flag Reg.DRP_BUDGET.OVER_CAP && decide (n * 4096 ≤ s.drp.csave) then s.setOverCap false else s
    let old := s.get Reg.DRP_ADM.BAND
    let b := s.band
    let d := if b == 1 && old == 0 then { s.drp with tokens := 256, tokenPart := 0 }
             else if b == 1 && old == 2 then { s.drp with tokens := 0, tokenPart := 0 } else s.drp
    let left := min d.heldCredit (s.hif.reqs.countP fun (r : HostReq) => r.stage == .admission)
    let d := if b == 2 then d else { d with heldCredit := if b == 0 then 0 else left }
    let stall := decide (s.drp.csave ≤ n * 4096)
    let began := stall && !s.flag Reg.DRP_ADM.STALL
    let s := { s with drp := d }.putAll [
      (Reg.DRP_ADM.BAND, b),
      (Reg.DRP_ADM.MARGIN_USED, min ((n - s.beff) / 4096) 512),
      (Reg.DRP_ADM.FILL_PCT, if s.beff == 0 then 0 else min (n * 100 / s.beff) 255),
      (Reg.DRP_ADM.STALL, ofBool stall)]
    if began then (s.count Reg.DRP_ADM_OVR_CNT.STALL_CNT 1).record Ev.ADMISSION_STALL wide [] else s

/-- Put a budget in force (R128, R155): B_eff in 16 GiB steps, C_save in bytes, the limiter. -/
def State.setBudget (s : State) (steps csave limiter : Nat) (under : Bool) : State :=
  let s := { s with drp := { s.drp with beffGiB := steps * 16, csave } }
  let s := s.putAll [
    (Reg.DRP_BUDGET.LIMITER, limiter), (Reg.DRP_BUDGET.UDERATE, ofBool under),
    (Reg.DRP_BUDGET.CAPACITY, min (csave / 2 ^ 30) 1023), (Reg.DRP_BUDGET.EFF_BUDGET, if s.drp.tracking then steps else 0)]
  let s :=
    if s.drp.tracking && decide (s.drp.csave < s.drp.saveSet * 4096) && !s.flag Reg.DRP_BUDGET.OVER_CAP then
      (s.setOverCap true).record Ev.BUDGET_OVER_CAP wide []
    else s
  s.refresh

/-- The budget while no figure is in use or the reserve is lost (R127). -/
def State.noFigureBudget (s : State) : State :=
  let steps := min 4 (s.get Reg.DRP_BUDGET.CFG_IN_FORCE)
  s.setBudget steps (steps * 16 * 2 ^ 30 + 8 * 2 ^ 30) 5 false

/-- The terms of R126 for the figure in use. -/
def State.terms (s : State) (f : Nat × Nat × Nat) : Terms :=
  termsOf f.1 f.2.1 (kuOf s.voltageTable f.2.2) (s.get Reg.DRP_MODEL_P.P_FULL * 1000) (s.get Reg.DRP_MODEL_P.P_BASE * 1000)
    (s.get Reg.DRP_MODEL_T.T_FIX) (s.get Reg.DRP_MODEL_T.T_MAX) (s.get Reg.SAV_CFG.GRACE_MS)
    (s.flash.cFlash * 4096)

/-- The first term whose own result equals B_eff, in the order CONSERVATIVE, CONFIG, FLASH, ENERGY, TIME (R128). -/
def limiterOf (conservative : Bool) (steps cfg : Nat) (t : Terms) : Nat :=
  if conservative && steps == 4 then 4
  else if steps == cfg then 0
  else if steps == stepsOf t.flash then 3
  else if steps == stepsOf t.energy then 2
  else 1

/-- The save rate ceiling of R212: the lesser of R_a, POP_RATE and a rate cap, rounded down (log entry 10); R_a takes no part
without a figure or at 0 or less. -/
def State.ceiling (s : State) (cap : Nat) : Nat :=
  let pop := s.get Reg.SAV_RATE.POP_RATE
  let (n, d) := s.drp.rateA
  let r := if s.drp.figure.isSome && decide (0 < n) then min (n / d) pop else pop
  if cap == 0 then r else min r cap

/-- Outside a save CEILING shows what a Foghorn now would fix (R253); from t_F it holds (R212). -/
def State.showCeiling (s : State) : State :=
  if s.flag Reg.PWR_STAT.FOGHORN then s else s.put Reg.SAV_RATE.CEILING (s.ceiling 0)

/-- Writes that wait for admission when PERSIST_ARMED goes to 0 are handled by POLICY (R89, R90; log entry 92): under HOLD
they wait on under it, otherwise they are unprotected. -/
def State.policyOnWaiters (s : State) : State :=
  if !(s.hif.reqs.any fun (r : HostReq) => r.stage == .admission) then s
  else
    let hold := s.get Reg.GLB_ARM.POLICY == 0
    let s := { s with hif := { s.hif with reqs := s.hif.reqs.map fun (r : HostReq) =>
      if r.stage != .admission then r else if hold then { r with stage := .hold } else { r with unprotected := true } } }
    if hold then s.put Reg.GLB_ARM.HELD 1 else s

/-- PERSIST_ARMED and MODE clear; ARMED becomes UNARMED (R89), but not while a timed shutdown holds the state (R36). -/
def State.disarm (s : State) : State :=
  let s := ((s.setReady Reg.GLB_READY.PERSIST_ARMED false).put Reg.GLB_ARM.MODE 0).policyOnWaiters
  if s.pstate == PState.ARMED && !s.pwr.underway then s.enter PState.UNARMED else s

/-- The term that lost the reserve, coded as LIMITER (RESERVE_LOST of R659): NO_FIGURE without a pack's figure, TIME at an R_a of 0,
otherwise the term with the lowest result of its own, in the order of R128. -/
def State.lossTerm (s : State) : Nat :=
  match s.drp.figure with
  | none => 5
  | some f =>
    let t := s.terms f
    if t.n == 0 then 1
    else
      let cfg := s.get Reg.DRP_BUDGET.CFG_IN_FORCE
      let least := min (stepsOf t.time) (min (stepsOf t.energy) (min (stepsOf t.flash) cfg))
      limiterOf s.conservative (if s.conservative then min least 4 else least) cfg t

/-- The reserve is lost (R130): the event with its term, and the device leaves ARMED (R36, R37, R89). -/
def State.loseReserve (s : State) (term : Nat) : State :=
  let s := s.record Ev.RESERVE_LOST wide [(1, term)]
  let s := { s with drp := { s.drp with lost := true } }
  let s := if s.ready Reg.GLB_READY.PERSIST_ARMED then s.disarm else s
  (s.setReady Reg.GLB_READY.RESERVE_OK false).noFigureBudget

/-- The Keeper recomputes C_save and B_eff (R126–R129), and the reserve may be lost (R130). C_save is the least of the terms of
R126 and so may exceed B_eff + 8 GiB, which R125 gives for it (DESIGN CHOICE; log entry 93). A reserve lost through RAIL15
(R591) stays lost while that rail is beyond its fault level. -/
def State.recompute (s : State) : State :=
  match s.drp.figure with
  | none => { s with drp := { s.drp with rateA := (0, 1) } }.noFigureBudget.showCeiling
  | some f =>
    let t := s.terms f
    let ku := kuOf s.voltageTable f.2.2
    let csave := min t.time (min t.energy t.flash)
    let cfg := s.get Reg.DRP_BUDGET.CFG_IN_FORCE
    let b := min (stepsOf csave) cfg
    let steps := if s.conservative then min b 4 else b
    let lost := decide (steps < 1) || t.n == 0 || (s.drp.lost && s.flag (Reg.PWR_RAIL_CTL.FAULT 15))
    let s := s.putAll [
      (Reg.DRP_RES_P.U_PERMIL, f.2.2), (Reg.DRP_RES_P.P_WC, f.1 * ku / 920000), (Reg.DRP_RES_P.P_MODEL, f.1 / 1000),
      (Reg.DRP_RES_E.E_WC, f.2.1 * ku / 920000)]
    let was := s.drp.lost
    let s := { s with drp := { s.drp with rateA := if t.d == 0 then (0, 1) else (400 * t.n, t.d), lost } }
    (if lost then (if was then s.noFigureBudget else s.loseReserve s.lossTerm)
      else s.setBudget steps csave (limiterOf s.conservative steps cfg t) (decide (ku < 920))).showCeiling

/-! ## Arming (R85–R91) -/

/-- The conditions of R85. -/
def State.mayArm (s : State) : Bool :=
  s.ready Reg.GLB_READY.RESERVE_OK && s.ready Reg.GLB_READY.IMAGE_INDEXED && s.get Reg.GLB_IMAGE.SOURCE != 3 &&
  !s.flag Reg.GLB_IMAGE.SELECT_OPEN && s.drp.tracking && decide (s.drp.saveSet ≤ s.beff) &&
  decide (s.beff ≤ s.flash.cFlash)

/-- The states in which arming acts (R36, R37), while no timed shutdown holds them. -/
def State.armable (s : State) : Bool :=
  (s.pstate == PState.RESTORING || s.pstate == PState.UNARMED) && !s.pwr.underway

/-! ## Epochs (R162–R174) -/

/-- Foghorn is asserted. -/
def State.fogged (s : State) : Bool := s.flag Reg.PWR_STAT.FOGHORN

/-- Bring the epoch registers up to date (R77, R201, R202). -/
def State.showEpochs (s : State) : State :=
  let d := s.drp
  let s := s.putPair Reg.GLB_OPEN_EPOCH_LO.LO Reg.GLB_OPEN_EPOCH_HI.HI d.openEpoch
  let s := s.putPair Reg.DRP_BND_SEAL_EPOCH_LO.LO Reg.DRP_BND_SEAL_EPOCH_HI.HI d.sealEpoch
  s.putAll [
    (Reg.DRP_BND_STAT.OPEN, ofBool (d.openEpoch != 0)), (Reg.DRP_BND_STAT.SEALING, ofBool (d.sealEpoch != 0)),
    (Reg.DRP_BND_STAT.DEFERRED, ofBool d.deferred), (Reg.DRP_BND_STAT.RACK, ofBool (d.openEpoch != 0 && d.openRack))]

/-- Take the shadow of a B-class field, where one waits (R16, R17). -/
def State.takeShadow (s : State) (f : Fld) : State :=
  match NMap.find? s.shadows f.key with
  | none => s
  | some v => { s with shadows := NMap.erase s.shadows f.key, regs := s.regs.set f v }

/-- BEACON lock ends (R190, R198). MISS_RUN counts misses while locked, so it reads 0 from then on, also after the second miss (DESIGN
CHOICE; log entry 99). -/
def State.unlock (s : State) : State :=
  let s := (s.setReady Reg.GLB_READY.BEACON_LOCK false).putAll [(Reg.DRP_BCN_STAT.LOCK, 0), (Reg.DRP_BCN_STAT.GOOD_RUN, 0), (Reg.DRP_BCN_STAT.MISS_RUN, 0)]
  { s with drp := { s.drp with bcnRef := 0, bcnAccepted := none, bcnFromFrame := false } }

/-- The DRP takes its B-class shadows (R196): the configured budget comes into force, a change of TIMING taken under lock
ends the lock (R198), leaving SOURCE stops the emission of frames (R194). -/
def State.takeShadows (s : State) : State :=
  let oldCfg := s.get Reg.DRP_BUDGET.CFG_IN_FORCE
  let oldTiming := s.get Reg.DRP_BND_CFG.TIMING
  let s := ((s.takeShadow Reg.DRP_CFG.BUDGET_CFG).takeShadow Reg.DRP_BND_CFG.TIMING).takeShadow Reg.DRP_BND_CFG.PERIOD_MS
  let s := s.put Reg.DRP_BUDGET.CFG_IN_FORCE (s.get Reg.DRP_CFG.BUDGET_CFG)
  let s :=
    if s.get Reg.DRP_BND_CFG.TIMING == oldTiming then s
    else
      let s := if s.ready Reg.GLB_READY.BEACON_LOCK then s.unlock
               else { s.put Reg.DRP_BCN_STAT.GOOD_RUN 0 with drp := { s.drp with bcnRef := 0 } }
      if s.get Reg.DRP_BND_CFG.TIMING == 2 then s
      else { s.put Reg.DRP_BCN_STAT.SENDING 0 with drp := { s.drp with bcnNext := 0 } }
  if s.get Reg.DRP_BUDGET.CFG_IN_FORCE == oldCfg then s else s.recompute

/-- Boundaries may fall: an epoch is open and Foghorn is not asserted (R168). -/
def State.epochsRun (s : State) : Bool := s.drp.openEpoch != 0 && !s.fogged

/-- The boundary instant (R163): DIRTY granules become FROZEN, so that D becomes F, the open epoch becomes the sealing epoch, epoch `n`
opens, shadows are taken, the seal record is queued, and pending barriers take the sealed number (R101). `rack` says that the
boundary is that of an accepted frame (R192). -/
def State.boundary (s : State) (n : Nat) (rack : Bool) : State :=
  let d := s.drp
  let sealed := d.openEpoch
  let grans := d.grans.map fun e => (e.1, { e.2 with st := GState.frozen, owed := 0, copied := 0 })
  let progs := d.progs.map fun p => if p.role == .opened then { p with role := .sealing } else p
  let s := { s with
    drp := { d with grans, progs, sealEpoch := sealed, sealRack := rack, openEpoch := n, openRack := rack,
                    maxUsed := max d.maxUsed n, sealStep := .sealQueued, sealInRestore := s.pstate == PState.RESTORING, deferred := false }
    flash := { s.flash with sealRecs := s.flash.openRecs, openRecs := [], sealOld := s.flash.openOld, openOld := [], sealSpoiled := s.flash.spoiled, boundaryLsn := s.flash.nextLsn, boundaryF := d.countD + d.countF }
    cmd := { s.cmd with barriers := s.cmd.barriers.map fun (b : Port × BitVec 32 × Option Nat) => if b.2.2 == none then (b.1, b.2.1, some sealed) else b } }
  s.takeShadows.showEpochs.refresh

/-- A boundary under local timing falls due (R100, R166): taken at once, or deferred while an epoch is sealing, and then counted once
(R203). -/
def State.boundaryDue (s : State) : State :=
  if s.drp.sealEpoch == 0 then s.boundary (s.drp.openEpoch + 1) false
  else
    let s := if s.drp.deferred then s else s.count Reg.DRP_BND_CNT.DEFER_CNT 1
    { s with drp := { s.drp with deferred := true } }.showEpochs

/-- The open epoch takes another number and its former number is skipped (R189, R190). -/
def State.renumber (s : State) (n : Nat) (rack : Bool) : State :=
  { s.count Reg.DRP_BND_CNT.SKIP_CNT 1 with
    drp := { s.drp with openEpoch := n, openRack := rack, maxUsed := max s.drp.maxUsed n } }.showEpochs

/-- Local timing governs: no BEACON lock (R166). -/
def State.localTiming (s : State) : Bool := !s.ready Reg.GLB_READY.BEACON_LOCK

/-- The sealing epoch stops sealing and a boundary deferred under local timing is taken (R166, R174). -/
def State.takeDeferred (s : State) : State :=
  if s.drp.deferred && s.epochsRun && s.localTiming then s.boundary (s.drp.openEpoch + 1) false else s

/-- The sealing epoch is abandoned (R119, R172–R174); `cause` is the LAST_END code. Barriers that waited for it stay
pending, and without lock a boundary falls due for them (R101). In a save its pages become pages of the cut (R218). -/
def State.abandonSeal (s : State) (cause : Nat) : State :=
  if s.drp.sealEpoch == 0 then s
  else
    let n := s.drp.sealEpoch
    let waits := s.cmd.barriers.any fun b => b.2.2 == some n
    let s := (s.put Reg.DRP_BND_STAT.LAST_END cause).count Reg.DRP_BND_CNT.ABANDON_CNT 1
    let s := { s with
      drp := { s.drp.abandonMasks with sealEpoch := 0, deferred := s.drp.deferred || (waits && s.localTiming) }
      flash := { s.flash with sealRecs := [], segIndex := [], segWords := [], segCopies := 0, abandoned := true,
                              sealSpoiled := [], sealOld := []
                              openOld := s.flash.openOld ++ s.flash.sealOld ++ s.flash.sealRecs.map Prod.snd
                              oldWords := s.flash.oldWords ++ s.flash.segWords.map fun (e : Nat × Nat × Nat) => e.2.2
                              openRecs := NMap.unionNew s.flash.sealRecs s.flash.openRecs }
      cmd := { s.cmd with barriers := s.cmd.barriers.map fun (b : Port × BitVec 32 × Option Nat) => if b.2.2 == some n then (b.1, b.2.1, none) else b } }
    let s := (s.put Reg.DRP_CAR_USED.SLOTS 0).record Ev.EPOCH_ABANDONED wide [(6, n)]
    s.showEpochs.refresh

/-- The sealing epoch is abandoned, and a boundary that is due is taken at once (R101, R166, R174). -/
def State.abandon (s : State) (cause : Nat) : State := (s.abandonSeal cause).takeDeferred

/-- No page of the sealing epoch remains to be persisted, and none of its programs is in flight. -/
def State.sealedClean (s : State) : Bool :=
  (s.drp.grans.all fun e => s.stillOwed e.1 e.2 == 0) && s.drp.inFlight .sealing == 0 && s.drp.inFlight .carafe == 0

/-- Step 3 of R169: once no granule is FROZEN or STAGED, the index segment is queued. -/
def State.advanceSeal (s : State) : State :=
  if s.drp.sealEpoch != 0 && s.drp.sealStep == .persisting && s.sealedClean then
    { s with drp := { s.drp with sealStep := .indexQueued } }
  else s

/-- The first epoch opens at the sequence start of R167, with the number of R71: the largest used plus 1, or under BEACON lock
the number that the frames expect, with the rack flag where an accepted frame carried it (R192). The boundary of a frame that has been
accepted and has not fallen yet is then this opening (R72; DEDUCED, log entry 111). -/
def State.openFirst (s : State) : State :=
  let lock := s.ready Reg.GLB_READY.BEACON_LOCK
  let n := if lock then s.drp.bcnExpected else s.drp.maxUsed + 1
  let s := { s with drp := { s.drp with
    openEpoch := n, openRack := lock && s.drp.bcnFromFrame, maxUsed := max s.drp.maxUsed n, bcnAccepted := none } }
  s.takeShadows.showEpochs

end Sys2Proof.Machine
end

