-- ==== Sys2Proof/Machine/HostPath.lean ====
section
/-! DEFINITION. The path of a CXL.mem request (R57, R90, R132–R139, R177–R180, R263–R267, R440): translation, HOLD,
admission, fault-in, copy-before-write, and completion. -/

namespace Sys2Proof.Machine

/-! ## Extents and restored pages -/

/-- Extents the side table and the Carafe take from the top of device memory (R26). -/
def State.reservedExtents (s : State) : Nat := 1 + 4 * s.get Reg.DRP_CAR_CFG.SIZE_GIB

/-- Extents of the fitted DRAM. -/
def State.extents (s : State) : Nat := 4 * s.pop.dramGiB

/-- Host-mappable extents (R26). -/
def State.mappable (s : State) : Nat := s.extents - s.reservedExtents

/-- The state code of a device extent (R436). -/
def State.extCode (s : State) (e : Nat) : Nat :=
  if s.extents ≤ e then 0
  else if s.mappable ≤ e then 1
  else match NMap.find? s.rgn.exts e with
    | none => 2
    | some x => match x.st with
      | .free => 2 | .mapped => 3 | .addPending => 4 | .releasePending => 5 | .held => 6 | .sanitizing => 7

/-- Pages in an extent of 256 MiB. -/
def pagesPerExtent : Nat := 65536

/-- The extent a page lies in. -/
def extentOf (page : Nat) : Nat := page / pagesPerExtent

/-- An extent is ready when all its pages are restored (R265). -/
def State.extReady (s : State) (e : Nat) : Bool := s.rse.covers (e * pagesPerExtent) ((e + 1) * pagesPerExtent)

/-- Add one page to a list of disjoint rising ranges. -/
def addPage : List (Nat × Nat) → Nat → List (Nat × Nat)
  | [], p => [(p, p + 1)]
  | (a, b) :: l, p =>
    if p + 1 < a then (p, p + 1) :: (a, b) :: l
    else if p + 1 = a then (p, b) :: l
    else if p < b then (a, b) :: l
    else if p = b then
      match l with
      | (c, d) :: r => if c = p + 1 then (a, d) :: r else (a, p + 1) :: (c, d) :: r
      | [] => [(a, p + 1)]
    else (a, b) :: addPage l p

/-- The device extent that an LD extent maps to with a live translation (R433, R440). -/
def State.mapsTo (s : State) (ld lxn : Nat) : Option Nat :=
  (List.find? (fun (e : Nat × Extent) =>
    (e.2.st == .mapped || e.2.st == .releasePending) && e.2.ld == ld && e.2.lxn == lxn) s.rgn.exts).map (·.1)

/-- Translate an LPA (R433, R440): the DPA, or the code of the translation fault. -/
def State.translate (s : State) (ld lpa : Nat) : Nat ⊕ Nat :=
  if !s.ldMem ld || !s.ldPresent ld then .inr 3
  else
    let lxn := lpa / 2 ^ 28
    if s.get (Reg.RGN_LD_CAP.STATIC ld) + s.get (Reg.RGN_LD_CAP.DC_MAX ld) ≤ lxn then .inr 2
    else match s.mapsTo ld lxn with
      | some e => .inl (e * 2 ^ 28 + lpa % 2 ^ 28)
      | none => .inr 1

/-- A translation fault (R441): counted, the first one latched, and recorded. -/
def State.translationFault (s : State) (h : Fin 4) (ld : Fin 16) (lpa kind : Nat) (write : Bool) : State :=
  let s := s.count (Reg.RGN_LD_FLT.FAULTS ld) 1
  let s :=
    if s.get Reg.RGN_FAULT.KIND == 0 then
      (s.putAll [(Reg.RGN_FAULT.KIND, kind), (Reg.RGN_FAULT.DIR, ofBool write), (Reg.RGN_FAULT.LD, ld), (Reg.RGN_FAULT.HEAD, h)]).putPair
        Reg.RGN_FAULT_ADDR_LO.LPA_LO Reg.RGN_FAULT_ADDR_HI.LPA_HI lpa
    else s
  s.recordFor Ev.TRANSLATION_FAULT ld [(1, kind), (1, ofBool write), (6, lpa)] (some ld)

/-! ## Requests -/

/-- Add a request to those that wait. -/
def State.wait (s : State) (r : HostReq) (stage : Stage) : State :=
  { s with hif := { s.hif with reqs := s.hif.reqs ++ [{ r with stage }] } }

/-- Remove a waiting request. -/
def State.unwait (s : State) (id : Nat) : State :=
  { s with hif := { s.hif with reqs := s.hif.reqs.filter fun (r : HostReq) => r.id != id } }

/-- The DevLoad a response reports (R455). -/
def State.devLoad (s : State) (ld : Nat) : Nat :=
  if s.flag Reg.DRP_ADM.STALL || (List.range 8).any (fun c => bitOf (s.get (Reg.DMC_RD_STAT.THROTTLED c)) ld) then 3
  else match s.get Reg.DRP_ADM.BAND with
    | 0 => if s.drp.saveSet * 2 < s.beff then 0 else 1
    | 1 => 2
    | _ => 3

/-- Whether a response left after the completion timeout that its head has declared (R463) is measured: a free value. -/
def State.overTime (s : State) (h : Nat) : State :=
  if s.get (Reg.HIF_HEAD_CTO.DECLARED h) == 0 then s else (s.count (Reg.HIF_HEAD_LAT.OVER_CNT h) (s.free % 2)).tick

/-- A response has left for a head (R455, R463, R466): its DevLoad, and the longest service time, which is measured. -/
def State.responded (s : State) (r : HostReq) : State :=
  ((s.overTime r.head).put (Reg.HIF_HEAD_STAT.DEVLOAD r.head) (s.devLoad r.ld)).raiseFree (Reg.HIF_HEAD_LAT.MAX_US r.head)

/-! ## GPF and the cut (R65, R98, R213, R215) -/

/-- A write that the HIF has accepted and that has not completed: it has passed admission (R213). -/
def HostReq.accepted (r : HostReq) : Bool :=
  r.write && (r.stage == .copy || r.stage == .direct || r.stage == .faultIn || r.stage == .faultInQueued || r.stage == .recovery ||
    r.stage == .unit)

/-- The cut discards a request that waits for admission, under HOLD, before MEM_PARTIAL or for a fault-in not issued. -/
def HostReq.discarded (r : HostReq) : Bool :=
  r.stage == .hold || r.stage == .memPartial || r.stage == .admission || r.stage == .faultInQueued

/-- The cut (R213, R215): CUTTING begins, the waiting writes are discarded, the open epoch is force-sealed as the cut image,
and the device is no longer armed, which changes MODE (R128). The feeds of a sweep are in panic no more (R367). -/
def State.cut (s : State) : State :=
  let gone := s.hif.reqs.filter fun (r : HostReq) => r.discarded && r.write
  let held := (gone.filter fun (r : HostReq) => r.stage == Stage.hold || r.stage == Stage.memPartial).length
  let waited := gone.length - held
  let s := s.enter PState.CUTTING
  let s := { s with
    hif := { s.hif with reqs := s.hif.reqs.filter fun (r : HostReq) => !r.discarded }
    sav := { s.sav with epoch := s.drp.openEpoch, sealing := s.drp.sealEpoch, cutD := s.drp.countD, cutF := s.drp.countF, cutC := s.drp.countC }
    drp := { s.drp with openEpoch := 0, deferred := false, bcnNext := 0 } }
  let s := s.putAll [
    (Reg.SAV_DISCARD.HELD, min held 0xFFFF), (Reg.SAV_DISCARD.ADMIT, min waited 0xFFFF), (Reg.SAV_STAT.PHASE, 2),
    (Reg.GLB_ARM.HELD, 0), (Reg.GLB_ARM.MODE, 0), (Reg.DRP_BCN_STAT.SENDING, 0)]
  let s := if gone.isEmpty then s else s.record Ev.CUT_DISCARD wide []
  (s.setReady Reg.GLB_READY.PERSIST_ARMED false).recompute.showEpochs.endPanic

/-- The cut falls once every head that had CXL.mem enabled at t_F has completed GPF phase 2 (R65). -/
def State.cutIfFlushed (s : State) : State :=
  if s.get Reg.SAV_STAT.PHASE == 1 && !s.pwr.underway && s.hif.atFog.all (fun h => s.flag (Reg.HIF_HEAD_STAT.GPF2_DONE h)) then s.cut else s

/-- A head's GPF phase 2 completes once the writes accepted before it have completed (R98). -/
def State.gpf2Check (s : State) (h : Fin 4) : State :=
  match NMap.find? s.hif.gpf2 h.val with
  | none => s
  | some ids =>
    if s.hif.reqs.any fun (r : HostReq) => ids.contains r.id then s
    else
      let s := { s with hif := { s.hif with gpf2 := NMap.erase s.hif.gpf2 h.val } }.emit (.gpfDone h 2)
      if s.fogged then (s.put (Reg.HIF_HEAD_STAT.GPF2_DONE h) 1).cutIfFlushed else s

/-- The completion of a write, or the answer of the Clear Poison command whose write it was (R107); one whose link is down is
dropped (R427). -/
def State.completeWrite (s : State) (r : HostReq) : State :=
  (if !s.headUp r.head then s
    else if r.clear then s.emit (.mailbox r.ld Cxl.success [])
    else (s.emit (.memWriteDone r.id r.ld)).responded r).gpf2Check r.head

/-- The data of a read, none with poison; a read whose link is down is dropped. -/
def State.completeRead (s : State) (r : HostReq) (data : Bytes) (poison : Bool) : State :=
  if s.headUp r.head then (s.emit (.memReadDone r.id r.ld (if poison then [] else data) poison)).responded r else s

/-- The write is of its whole line, not of part of it (R379): its data begin at the line and fill it. -/
def HostReq.whole (r : HostReq) : Bool := r.dpa % 64 == 0 && decide (64 ≤ r.data.length)

/-- Device memory with the bytes that a write stores in its line, from the byte that its address names. -/
def HostReq.bytes (r : HostReq) (dram : List Host.Cell) : List Host.Cell := dramWrite dram r.dpa (r.data.take (64 - r.dpa % 64))

/-- The line goes to device memory with its poison (R105, R107), or is discarded and poisoned on a channel in FAILED (R393), and the write
completes. A write of part of a poisoned line leaves it poisoned (R379). -/
def State.storeLine (s : State) (r : HostReq) : State :=
  let line := r.dpa / 64
  let bad := r.poison || s.lineFailed line || (!r.whole && s.poisoned line)
  let s := s.access r.dpa r.ld false true
  let s := if s.lineFailed line then s else { s with dram := r.bytes s.dram }
  let s := if bad then s.poisonLine line else s.cleanLine line
  let d := s.ldState r.ld
  let lpa := r.lpa / 64 * 64
  let list := if bad then insertNat d.poisonList lpa else d.poisonList.filter (· != lpa)
  let s :=
    if list == d.poisonList then s
    else if 16384 < list.length then
      (s.setLd r.ld { d with poisonOverflow := true }).recordFor Ev.POISON_LIST_OVERFLOW r.ld [] (some r.ld)
    else s.setLd r.ld { d with poisonList := list }
  s.completeWrite r

/-- A write to the unit that a migration is copying waits until the watermark has passed it (R387); any other goes to device memory. -/
def State.store (s : State) (r : HostReq) : State :=
  if s.inUnit r.dpa && !s.lineFailed (r.dpa / 64) then s.wait r .unit else s.storeLine r

/-- The writes that waited for a channel's unit being copied go on (R387). -/
def State.releaseUnit (s : State) (c : Nat) : State :=
  (s.hif.reqs.filter fun (r : HostReq) => r.stage == .unit && s.channelOf r.dpa == c).foldl (fun s r => (s.unwait r.id).storeLine r) s

/-- The DRP classifies a write (R111, R115, R121), and the extent's ZERO flag clears (R439). -/
def State.classifyPage (s : State) (page : Nat) : State :=
  let s := s.sideTable page
  let s := { s with drp := s.drp.classify page }
  match NMap.find? s.rgn.exts (extentOf page) with
  | some x => if x.zero then { s with rgn := { s.rgn with exts := NMap.insert s.rgn.exts (extentOf page) { x with zero := false } } } else s
  | none => s

/-- Carafe slots that may be taken: the size in force less the bitmap's share (R175, R266). -/
def State.slotLimit (s : State) : Nat :=
  s.get Reg.DRP_CAR_CFG.SIZE_GIB * pagesPerGiB - if s.rse.bitmap then 65536 else 0

/-- Slots in use, copies in progress included (R203). -/
def State.slotsUsed (s : State) : Nat := s.drp.slots.length + s.drp.copying.length

/-- The free slot that a copy takes (R177): the lowest, which the manual leaves open (DESIGN CHOICE; log entry 111). The count bounds
the search. -/
def State.freeSlot (s : State) : Nat :=
  ((List.range (s.drp.slotNo.length + 1)).find? fun n => !(s.drp.slotNo.any fun (e : Nat × Nat) => e.2 == n)).getD 0

/-- An admitted write to a restored page (R115, R177–R179): classified; performed at once, unless the page is owed and
not copied. Then it waits for the copy of the page, or, with no slot free, for its direct persist. -/
def State.carry (s : State) (r : HostReq) : State :=
  let page := r.dpa / 4096
  let owed := s.drp.owedUncopied page
  let s := s.classifyPage page
  let s :=
    if !owed then s.store r
    else if s.drp.copying.contains page then s.wait r .copy
    else if s.drp.directs.contains page then s.wait r .direct
    else if s.slotsUsed < s.slotLimit then
      let s := { s with drp := { s.drp with copying := s.drp.copying ++ [page], slotNo := NMap.insert s.drp.slotNo page s.freeSlot } }
      ((s.put Reg.DRP_CAR_USED.SLOTS s.slotsUsed).count Reg.DRP_CAR_COPY_CNT.COPIES 1).wait r .copy
    else
      let s := { s with drp := { s.drp with directs := s.drp.directs ++ [page] } }
      (s.count Reg.DRP_CAR_DIRECT_CNT.DIRECT 1).wait r .direct
  s.refresh

/-- The NFC channel of a flash address: bits 47:43 (R302). -/
def faChannel (fa : Nat) : Nat := bitsOf fa 43 5

/-- The record a page resolves to in the chosen image, if any (R282). -/
def State.restoreRecord (s : State) (page : Nat) : Option PageRec :=
  match NMap.find? s.rse.index page with
  | none => none
  | some lsn => NMap.find? s.flash.records lsn

/-- The key of an index codeword: TYPE × 2^24 + SUBJECT. -/
def wordKey (type subject : Nat) : Nat := type * 2 ^ 24 + subject

/-- The codewords that resolving a page in the chosen image reads: its EXTENT_MAP and MAP_PAGE (R334). The RSE keeps the ROOT ones in
Keeper SRAM; which of these two it holds in its cache the manual does not say, and the model reads both (DESIGN CHOICE; log entry
116). -/
def State.pageWords (s : State) (page : Nat) : List (Nat × Nat) :=
  [wordKey 7 (page / 65536), wordKey 8 (page / 512)].filterMap fun k => (NMap.find? s.rse.words k).map fun w => (k, w.2)

/-- The flash addresses that the restore of a page reads: its map codewords and its record. -/
def State.pageAddresses (s : State) (page : Nat) : List Nat :=
  (s.pageWords page).map Prod.snd ++ ((s.restoreRecord page).map PageRec.fa).toList

/-- A codeword that the restore of the page reads lies on an NFC channel in FAILED (R275, R280). -/
def State.channelFailed (s : State) (page : Nat) : Bool := (s.pageAddresses page).any fun fa => s.unitFailed (nfcUnit (faChannel fa))

/-- A request to a page that is not restored (R265, R269, R273, R275): it joins the page's fault-in or the sweep's read of it, or
issues a fault-in and promotes the extent; with the channel in FAILED or 2,048 fault-ins outstanding it waits for one. -/
def State.faultIn (s : State) (r : HostReq) : State :=
  let page := r.dpa / 4096
  if s.rse.faultIns.contains page || s.rse.sweeping == some page then s.wait r .faultIn
  else if s.channelFailed page then
    (s.wait r .faultInQueued).record Ev.RESTORE_CHANNEL_WAIT wide []
  else if 2048 ≤ s.rse.faultIns.length then s.wait r .faultInQueued
  else
    let e := extentOf page
    let p := if s.rse.promoted.contains e || decide (64 ≤ s.rse.promoted.length) then s.rse.promoted else s.rse.promoted ++ [e]
    let s := { s with rse := { s.rse with faultIns := s.rse.faultIns ++ [page], promoted := p } }
    ((s.count Reg.RSE_FI_CNT.FAULTINS 1).put Reg.RSE_STAT.PROMOTE_FULL (ofBool (decide (64 ≤ p.length)))).wait r .faultIn

/-- A page has a line in recovery (R382). -/
def State.pageRecovering (s : State) (page : Nat) : Bool := s.rse.recovering.any fun l => l / 64 == page

/-- A write that admission has passed: performed now, after the fault-in of its page (R267), or after the recovery of a line
of its page (R382). -/
def State.perform (s : State) (r : HostReq) : State :=
  let page := r.dpa / 4096
  if !s.pageRestored page then s.faultIn r
  else if s.pageRecovering page then s.wait r .recovery
  else s.carry r

/-- A write that is unprotected is counted (R90, R95). -/
def State.countUnprotected (s : State) (r : HostReq) : State :=
  if r.unprotected then (s.count Reg.GLB_UNPROT_CNT.UNPROT_WRITES 1).put Reg.GLB_ARM.UNPROT_SEEN 1 else s

/-- A new-page write is admitted (R138): counted for its logical device and performed. -/
def State.admitReq (s : State) (r : HostReq) : State :=
  ((s.countUnprotected r).count (Reg.DRP_LD_NEWPG.NEW_PAGES r.ld) 1).perform r

/-- Writes that wait for admission, oldest first. -/
def State.waiters (s : State) : List HostReq := s.hif.reqs.filter fun (r : HostReq) => r.stage == .admission

/-- The write waits behind one to the same page (R135). -/
def State.behind (s : State) (r : HostReq) : Bool :=
  s.waiters.any fun x => x.dpa / 4096 == r.dpa / 4096 && decide (x.id < r.id)

/-- Admission of a write at its classification (R132–R135, R139): one that is not a new-page write passes; a new-page
write waits in a stall and behind any that waits; otherwise it passes in Free, takes a token in Paced and a credit in Held. -/
def State.admission (s : State) (r : HostReq) : State :=
  if s.behind r then s.wait r .admission
  else if s.drp.marked (r.dpa / 4096) then (s.countUnprotected r).perform r
  else if s.flag Reg.DRP_ADM.STALL || !s.waiters.isEmpty then s.wait r .admission
  else if s.get Reg.DRP_ADM.BAND == 0 then s.admitReq r
  else if s.get Reg.DRP_ADM.BAND == 1 && decide (0 < s.drp.tokens) then
    { s with drp := { s.drp with tokens := s.drp.tokens - 1 } }.admitReq r
  else if s.get Reg.DRP_ADM.BAND == 2 && decide (0 < s.drp.heldCredit) then
    { s with drp := { s.drp with heldCredit := s.drp.heldCredit - 1 } }.admitReq r
  else s.wait r .admission

/-- A write after `GLB_READY.MEM_PARTIAL` (R90, R440): translated, held under HOLD, or taken to admission. -/
def State.serveWrite (s : State) (r : HostReq) : State :=
  match s.translate r.ld r.lpa with
  | .inr k => (s.translationFault r.head r.ld r.lpa k true).completeWrite r
  | .inl dpa =>
    let r := { r with dpa }
    if s.ready Reg.GLB_READY.PERSIST_ARMED then s.admission r
    else if s.get Reg.GLB_ARM.POLICY == 0 then (s.wait r .hold).put Reg.GLB_ARM.HELD 1
    else s.admission { r with unprotected := true }

/-- A write that was held under HOLD goes on. The DRP has not classified it, so that it is a translation fault where its extent has been
released meanwhile (R440, R447; DEDUCED, log entry 136). -/
def State.serveHeld (s : State) (r : HostReq) : State :=
  if s.mapsTo r.ld (r.lpa / 2 ^ 28) == some (r.dpa / 2 ^ 28) then s.admission r
  else (s.translationFault r.head r.ld r.lpa 1 true).completeWrite r

/-- Writes held under HOLD are released in the order of their arrival (R91). -/
def State.releaseHeld (s : State) (unprotected : Bool) : State :=
  let held := s.hif.reqs.filter fun (r : HostReq) => r.stage == .hold
  let s := { s with hif := { s.hif with reqs := s.hif.reqs.filter fun (r : HostReq) => r.stage != Stage.hold } }
  (s.each held fun s r => s.serveHeld { r with unprotected }).put Reg.GLB_ARM.HELD 0

/-- Writes that waited behind another to their page are judged again (R138). -/
def State.rejudge (s : State) (page : Nat) : State :=
  let again := s.waiters.filter fun r => r.dpa / 4096 == page
  let s := { s with hif := { s.hif with reqs := s.hif.reqs.filter fun (r : HostReq) => !(r.stage == Stage.admission && r.dpa / 4096 == page) } }
  s.each again fun s r => (s.countUnprotected r).perform r

/-- The waiting write whose turn it is (R135): the oldest of the next logical device that has one. -/
def State.nextWaiter (s : State) : Option HostReq :=
  (List.range 16).findSome? fun i =>
    (s.waiters.find? fun r => r.ld.val == (s.drp.turn + i) % 16 && !s.behind r)

/-- Admit a waiting write and judge again those behind it. -/
def State.admitWaiter (s : State) (r : HostReq) : State :=
  let s := { s.unwait r.id with drp := { s.drp with turn := (r.ld.val + 1) % 16 } }
  ((s.raiseFree Reg.DRP_ADM_MAXHOLD.MAX_HOLD_US).admitReq r).rejudge (r.dpa / 4096)

/-- In Free no write waits: every waiting write is admitted in turn (R132). The count bounds the repetition. -/
def State.drainFree : Nat → State → State
  | 0, s => s
  | n + 1, s =>
    if s.get Reg.DRP_ADM.BAND == 0 && !s.flag Reg.DRP_ADM.STALL then
      match s.nextWaiter with
      | some r => State.drainFree n (s.admitWaiter r)
      | none => s
    else s

/-- A page that the restore has reached is still to be written into the cut (R218, R225), or a page program is in flight. -/
def State.cutPagesLeft (s : State) : Bool :=
  !s.drp.progs.isEmpty ||
  s.drp.grans.any fun e => e.2.st != .frozen && (List.range 16).any fun i => bitOf e.2.mask i && s.pageRestored (e.1 * 16 + i)

/-- The earliest step of R218 that has not ended, as `Sav.step` numbers them (R219). -/
def State.saveStep (s : State) : Nat :=
  if !s.sav.opened then 1
  else if s.drp.sealEpoch != 0 then
    match s.drp.sealStep with
    | .sealQueued | .persisting => 2
    | .indexQueued => 3
    | .commitQueued => 4
  else if s.cutPagesLeft then 5
  else if !s.sav.mirrored then 6
  else if !s.sav.indexed then 7
  else 8

/-- A save goes on: its step and the phase that SAV_STAT shows (R219, R252). -/
def State.advanceSave (s : State) : State :=
  if s.pstate != PState.SAVING || s.pwr.underway then s
  else
    let n := s.saveStep
    { s.put Reg.SAV_STAT.PHASE (if n == 1 then 3 else if n ≤ 4 then 4 else n) with sav := { s.sav with step := n } }

/-- After S or the budget has changed: the band, the writes that wait in Free, the stall and the steps of R169 and R219. -/
def State.settle (s : State) : State :=
  let s := s.refresh
  (State.drainFree s.waiters.length s).advanceSeal.advanceSave

/-- Requests that wait at a stage for a page. -/
def State.atPage (s : State) (stage : Stage) (page : Nat) : List HostReq :=
  s.hif.reqs.filter fun (r : HostReq) => r.stage == stage && r.dpa / 4096 == page

/-- Take out the requests that wait at a stage for a page. -/
def State.clearStage (s : State) (stage : Stage) (page : Nat) : State :=
  { s with hif := { s.hif with reqs := s.hif.reqs.filter fun (r : HostReq) => !(r.stage == stage && r.dpa / 4096 == page) } }

end Sys2Proof.Machine
end

