-- ==== Sys2Proof/Machine/Dram.lean ====
section
/-! DEFINITION. DRAM errors as the other blocks meet them (R381–R385, R391): the address map, an uncorrectable
line and the retirement of its rank. -/

namespace Sys2Proof.Machine

/-- The logical device and LPA that map a DPA, if any (R433). -/
def State.ownerOf (s : State) (dpa : Nat) : Option (Fin 16 × Nat) :=
  match NMap.find? s.rgn.exts (dpa / 2 ^ 28) with
  | some x =>
    if (x.st == .mapped || x.st == .releasePending) && decide (x.ld < 16) then
      some (Fin.ofNat 16 x.ld, x.lxn * 2 ^ 28 + dpa % 2 ^ 28)
    else none
  | none => none

/-- Enter a line in the poison list of the logical device that maps it (R105, R454). -/
def State.listPoison (s : State) (line : Nat) : State :=
  match s.ownerOf (line * 64) with
  | none => s
  | some (ld, lpa) =>
    let d := s.ldState ld
    if d.poisonList.contains lpa then s
    else if 16384 ≤ d.poisonList.length then
      (s.setLd ld { d with poisonOverflow := true }).recordFor Ev.POISON_LIST_OVERFLOW ld [] (some ld)
    else s.setLd ld { d with poisonList := insertNat d.poisonList lpa }

/-- The page is persisted: no epoch role marks it, it is owed to no epoch and no program of it is in flight (R381). -/
def Drp.persisted (d : Drp) (page : Nat) : Bool :=
  !(d.progs.any fun p => p.page == page) &&
  match d.gran (granOf page) with
  | none => true
  | some g => !bitOf g.mask (bitIn page) && !bitOf g.owed (bitIn page)

/-- A logical rank is retired (R384, R385, R391): with the spare READY the Keeper writes the retirement into the DRAM
configuration record first; with none, NO_SPARE is recorded and the rank stays in service. A rank already retired or
being retired changes nothing (R388). Record 2 is the DRAM configuration record. Where no spare is in force, DMC_SPARE shows the rank and
the cause all the same (R384; log entry 120). -/
def State.retireRank (s : State) (c lrank reason : Nat) : State :=
  let writing (p : Nat → Bool) : Bool := s.cmd.writes.any fun w => match w.upd with
    | .retire ch r _ => ch == c && p r
    | _ => false
  let spare := s.get (Reg.DMC_SPARE.STATE c)
  let mine := writing (· == lrank) || (decide (2 ≤ spare) && s.get (Reg.DMC_SPARE.SRC_LRANK c) == lrank) ||
    s.dmc.unspared.contains (c * 8 + lrank)
  if mine then s
  else if spare == 1 && !writing fun _ => true then
    { s with cmd := { s.cmd with writes := s.cmd.writes ++ [⟨2, .retire c lrank reason, none⟩] } }
  else
    let s := { s with dmc := { s.dmc with unspared := insertNat s.dmc.unspared (c * 8 + lrank) } }
    (if spare == 0 then s.putAll [(Reg.DMC_SPARE.SRC_LRANK c, lrank), (Reg.DMC_SPARE.REASON c, reason)] else s).record Ev.NO_SPARE c []

/-- The contents of DMC_ECC_LOC (R398, R401). -/
def State.eccLoc (s : State) (c : Nat) : Nat :=
  s.get (Reg.DMC_ECC_LOC.KIND c) * 2 ^ 28 + s.get (Reg.DMC_ECC_LOC.PRANK c) * 2 ^ 24 + s.get (Reg.DMC_ECC_LOC.SC c) * 2 ^ 23 +
    s.get (Reg.DMC_ECC_LOC.BANK c) * 2 ^ 18 + s.get (Reg.DMC_ECC_LOC.DEVICE c) * 2 ^ 14

/-- DMC_ECC_LOC and DMC_ECC_CNT.UE of an uncorrectable error of a kind at a rank offset of a physical rank (R381, R398). The device that the
code blames, 0 to 9 or 0xF for unknown, is a free value. -/
def State.locate (s : State) (c kind prank o : Nat) : State :=
  let device := s.free % 11
  ((s.count (Reg.DMC_ECC_CNT.UE c) 1).putAll [
    (Reg.DMC_ECC_LOC.KIND c, kind), (Reg.DMC_ECC_LOC.PRANK c, prank), (Reg.DMC_ECC_LOC.SC c, bitsOf o 6 1),
    (Reg.DMC_ECC_LOC.BANK c, bitsOf o 9 3 * 4 + bitsOf o 12 2), (Reg.DMC_ECC_LOC.DEVICE c, if device == 10 then 15 else device)]).tick

/-- A fault of a DMC channel (R51–R53). One that enters FAILED issues no command any more, so that its queues empty, and no write waits for a
migration there (R388, R393). -/
def State.dmcFault (s : State) (c sev : Nat) : State :=
  let t := s.raiseFault (dmcUnit c) sev
  if !t.unitFailed (dmcUnit c) || s.unitFailed (dmcUnit c) then t
  else
    let on (r : DmcReq) : Bool := rankOfBank r.bank / 8 == c
    State.releaseUnit { t with dmc := { t.dmc with fifo := t.dmc.fifo.filter fun r => !on r, queue := t.dmc.queue.filter fun r => !on r } } c

/-- A line of host-mappable memory, which images hold; the others are of the Carafe and the side table (R26). -/
def State.imaged (s : State) (line : Nat) : Bool := decide (line < s.mappable * 2 ^ 22)

/-- A line is poisoned where no record holds its poison yet: in DRAM, in the poison list and in the indexes to come (R106, R108; DESIGN
CHOICE, log entry 104). -/
def State.spoilLine (s : State) (line : Nat) : State :=
  let s := (s.poisonLine line).listPoison line
  if s.imaged line then { s with flash := { s.flash with spoiled := insertNat s.flash.spoiled line } } else s

/-- The physical rank that serves a line is the spare (R388, R398). -/
def State.onSpare (s : State) (dpa : Nat) : Bool :=
  let c := s.channelOf dpa
  s.get (Reg.DMC_SPARE.STATE c) != 0 && s.prankOf dpa == s.get (Reg.DMC_SPARE.SPARE_PRANK c)

/-- An uncorrectable line is counted, located and recorded, and strikes its channel (R381). -/
def State.ueSeen (s : State) (line : Nat) : State :=
  let dpa := line * 64
  let c := s.channelOf dpa
  let s := s.locate c (if s.onSpare dpa then 3 else 1) (s.prankOf dpa) (s.rankOffset dpa)
  let s := s.putPair (Reg.DMC_ECC_ADDR_LO.DPA_LO c) (Reg.DMC_ECC_ADDR_HI.DPA_HI c) dpa
  (s.recordFor Ev.DRAM_UE c [(4, s.eccLoc c)] ((s.ownerOf dpa).map (·.1))).dmcFault c Ev.DRAM_UE.sev

/-- The rank of an uncorrectable line is retired (R384); the spare never is (R388). -/
def State.ueRetire (s : State) (line : Nat) : State :=
  if s.onSpare (line * 64) then s else s.retireRank (s.channelOf (line * 64)) (s.lrankOf (line * 64)) 1

/-- A line stays uncorrectable after the second read (R381): counted, located and recorded; recovered from flash where
its page is persisted and no save is running, otherwise poisoned; and its rank is retired. -/
def State.uncorrectable (s : State) (line : Nat) : State :=
  let s := s.ueSeen line
  let s :=
    if s.imaged line && s.drp.persisted (line / 64) && !s.saving then
      { s with rse := { s.rse with recovering := insertNat s.rse.recovering line } }
    else (s.spoilLine line).endFault (dmcUnit (s.channelOf (line * 64)))
  s.ueRetire line

/-- Lines found uncorrectable by one read. A line that holds poison already is none (R379), nor is one that is being recovered. -/
def State.uncorrectables (s : State) (lines : List Nat) : State :=
  s.each lines fun s l => if s.poisoned l || s.rse.recovering.contains l then s else s.uncorrectable l

/-- A correctable error (R378, R384): counted for the channel and for the logical rank; what a spare that is being filled or the scrub of
the spare finds counts for the channel alone. -/
def State.correctable (s : State) (c : Nat) (lrank : Option Nat) : State :=
  let s := s.count (Reg.DMC_ECC_CNT.CE c) 1
  match lrank with
  | none => s
  | some l =>
    let n := 0 :: (NMap.find? s.dmc.ce (c * 8 + l)).getD []
    let s := { s with dmc := { s.dmc with ce := NMap.insert s.dmc.ce (c * 8 + l) n } }
    let limit := s.get (Reg.DMC_ECC_CFG.CE_THR c)
    if limit != 0 && decide (limit ≤ n.length) then s.retireRank c l 3 else s

/-- A line is read with errors that the code corrects (R378); a channel in FAILED reads none. -/
def State.correctLine (s : State) (line : Nat) : State :=
  if s.poisoned line then s
  else s.correctable (s.channelOf (line * 64)) (if s.onSpare (line * 64) then none else some (s.lrankOf (line * 64)))

/-- What a read of lines has met (R378, R381). -/
def State.readErrors (s : State) (corrected uncorrectable : List Nat) : State := (s.each corrected State.correctLine).uncorrectables uncorrectable

/-- A retirement whose record is written begins (R385): from t_F until RESUMING it holds with nothing copied. -/
def State.startRetirement (s : State) (c lrank reason : Nat) : State :=
  let hold := s.flag Reg.PWR_STAT.FOGHORN && s.pstate != PState.RESUMING
  let s := s.putAll [
    (Reg.DMC_SPARE.STATE c, if hold then 3 else 2), (Reg.DMC_SPARE.SRC_LRANK c, lrank), (Reg.DMC_SPARE.REASON c, reason),
    (Reg.DMC_MIG_WM.WM_4K c, 0)]
  { s with dmc := { s.dmc with retired := s.dmc.retired ++ [(c, lrank, reason)] } }.record Ev.RANK_RETIRE c []

/-- The watermark advances by one unit, and the writes that waited for it go on (R386, R387). At the rank capacity the spare takes the
rank's place, once nothing is queued for the rank any more, which receives no further command (R390). -/
def State.advanceMigration (s : State) (c : Nat) : State :=
  let w := s.get (Reg.DMC_MIG_WM.WM_4K c) + 1
  let l := s.get (Reg.DMC_SPARE.SRC_LRANK c)
  let s := { s with dmc := { s.dmc with late := s.dmc.late.filter fun x => s.channelOf (x * 64) != c } }
  if w * 4096 < s.rankSize c then (s.put (Reg.DMC_MIG_WM.WM_4K c) w).releaseUnit c
  else
    let n := c * 8 + s.get (Reg.DMC_RANK_MAP.LR c l)
    let s := (s.quiet c).closeRows fun b _ => rankOfBank b == n
    let s := { s with dmc := { s.dmc with down := s.dmc.down.filter (· != n) } }
    let s := s.putAll [
      (Reg.DMC_MIG_WM.WM_4K c, w), (Reg.DMC_RANK_MAP.LR c l, s.get (Reg.DMC_SPARE.SPARE_PRANK c)), (Reg.DMC_SPARE.STATE c, 4)]
    let s := if s.get Reg.TRN_STAT.CH == c then s.put Reg.TRN_STAT.WAIT_MIG 0 else s
    (s.releaseUnit c).record Ev.MIGRATION_DONE c []

/-- At t_F the unit being copied completes and the migration holds (R50, R389). -/
def State.holdMigration (s : State) (c : Nat) : State :=
  if s.get (Reg.DMC_SPARE.STATE c) != 2 || s.unitFailed (dmcUnit c) then s
  else
    let s := s.advanceMigration c
    if s.get (Reg.DMC_SPARE.STATE c) == 2 then s.put (Reg.DMC_SPARE.STATE c) 3 else s

end Sys2Proof.Machine
end

