-- ==== Sys2Proof/Machine/FlashLog.lean ====
section
/-! DEFINITION. The flash as the other blocks use it (chapter 07): addresses, block states, the order of programs,
record numbers, references, and a boundary epoch that becomes durable (R169–R173). -/

namespace Sys2Proof.Machine

/-! ## Addresses and blocks (R302, R303, R313) -/

/-- BLOCK_ID of a flash address (R303). -/
def faBlock (fa : Nat) : Nat := bitsOf fa 37 11 * 65536 + bitsOf fa 19 16

/-- The page field of a flash address (R302). -/
def faPage (fa : Nat) : Nat := bitsOf fa 7 12

/-- The block number within its LUN; 0 is the label block (R301). -/
def blockNumber (b : Nat) : Nat := b % 65536

/-- The NFC channel of a block. -/
def blockChannel (b : Nat) : Nat := bitsOf b 22 5

/-- The slot of a flash address (R302). -/
def faSlot (fa : Nat) : Nat := bitsOf fa 0 5

/-- The LUN of a flash address and of a block: channel × 64 + volume × 4 + LUN (R302, R303). -/
def faLun (fa : Nat) : Nat := fa / 2 ^ 37
def blockLun (b : Nat) : Nat := b / 65536

/-- LUNs of a target, from their code (R348). -/
def lunsOf (code : Nat) : Nat := 2 ^ code

/-- Codeword slots of a page and of a block (R300). -/
def State.pageSlots (s : State) : Nat := s.get Reg.NFC_POP.PLANES * 4
def State.blockCodewords (s : State) : Nat := s.pageSlots * (s.get Reg.NFC_GEOM.PAGES_M1 + 1)

/-- The LUNs of a channel: TARGETS × LUNs of a target (R297, R299). -/
def State.channelLuns (s : State) : Nat := s.get Reg.NFC_POP.TGT_PER_CH * lunsOf (s.get Reg.NFC_POP.LUN_CODE)

/-- The LUNs of some channels (R297, R303). -/
def State.lunsIn (s : State) (channels : List Nat) : List Nat :=
  let luns := lunsOf (s.get Reg.NFC_POP.LUN_CODE)
  channels.flatMap fun c => (List.range s.channelLuns).map fun i => c * 64 + i / luns * 4 + i % luns

/-- A flash address names a slot of the fitted flash (R302). -/
def State.faValid (s : State) (fa : Nat) : Bool :=
  decide (fa < 2 ^ 48) && bitsOf fa 35 2 == 0 && bitsOf fa 5 2 == 0 && s.pop.flashChannels.contains (faChannel fa) &&
    decide (bitsOf fa 39 4 < s.get Reg.NFC_POP.TGT_PER_CH) && decide (bitsOf fa 37 2 < lunsOf (s.get Reg.NFC_POP.LUN_CODE)) &&
    decide (1 ≤ bitsOf fa 19 16) && decide (bitsOf fa 19 16 < s.get Reg.NFC_GEOM.BLOCKS) &&
    decide (faPage fa ≤ s.get Reg.NFC_GEOM.PAGES_M1) && decide (faSlot fa < s.pageSlots)

/-- The state of a block. The list leaves out those in the state that most blocks have; block 0 of a LUN is LABEL (R301, R313). -/
def State.block (s : State) (b : Nat) : Block :=
  match NMap.find? s.flash.blocks b with
  | some x => x
  | none => Block.blank (if blockNumber b == 0 then 9 else s.flash.blankSt)

/-- Change a block. -/
def State.setBlock (s : State) (b : Nat) (x : Block) : State :=
  { s with flash := { s.flash with blocks := NMap.insert s.flash.blocks b x } }

/-- The channel runs and is not in FAILED (R33, R299, R344). -/
def State.channelUp (s : State) (n : Nat) : Bool :=
  s.pop.flashChannels.contains n && s.flag (Reg.NFC_CH_CFG.ENABLE n) && s.flag (Reg.NFC_CH_STAT.UP n) && !s.unitFailed (nfcUnit n)

/-- A channel that does not run and will not be restarted: one that the Keeper has retired (R344), or that is not in use. -/
def State.channelRetired (s : State) (n : Nat) : Bool := !s.flag (Reg.NFC_CH_STAT.UP n) && !s.unitFailed (nfcUnit n)

/-- A program to a flash address is in order (R300, R304, R314). A page program carries the codewords of its page one after another, slot
0 first, and the model takes them one by one: the page that the write pointer has just left takes the next codeword of its program, and
no slot takes a second one (DEDUCED; log entry 112). -/
def State.inOrder (s : State) (fa : Nat) : Bool :=
  let x := s.block (faBlock fa)
  let p := faPage fa
  let k := faSlot fa
  (x.st == 6 && ((p == x.next && k == 0) || (p + 1 == x.next && k == x.slots && decide (k < s.pageSlots)))) ||
    ((x.st == 4 || x.st == 5) && p == 0 && k == 0)

/-- A program out of order is refused, counted and recorded (R314). -/
def State.refuseOrder (s : State) (fa : Nat) : State :=
  (s.count (Reg.NFC_CH_ORDER.ORDER_REJ (faChannel fa)) 1).record Ev.NFC_ORDER (faChannel fa) []

/-- An operation queued to a LUN suspends an erase there that has been issued (R316). -/
def State.suspendErase (s : State) (lun : Nat) : State :=
  let busy := s.flash.gc.any fun o => match o with
    | .erase b true => blockLun b == lun
    | _ => false
  if busy then s.count (Reg.NFC_CH_SUSP.SUSPENDS (lun / 64)) 1 else s

/-- A program in flight to a LUN is suspended for a demand fault-in there (R275, R316). -/
def State.suspendPrograms (s : State) (lun : Nat) : State :=
  if s.drp.progs.any fun p => faLun p.fa == lun then s.count (Reg.NFC_CH_SUSP.SUSPENDS (lun / 64)) 1 else s

/-- The block takes a codeword: it opens, or its write pointer or the count of its page moves, and it is FULL with the last codeword of
its last page (R304, R313, R314). -/
def State.openAt (s : State) (fa owner : Nat) : State :=
  let s := s.suspendErase (faLun fa)
  let b := faBlock fa
  let x := s.block b
  let next := max x.next (faPage fa + 1)
  let slots := faSlot fa + 1
  s.setBlock b { x with
    st := if s.get Reg.NFC_GEOM.PAGES_M1 < next && decide (s.pageSlots ≤ slots) then 7 else 6
    owner, next, slots, fromReserve := x.fromReserve || x.st == 5 }

/-- No further codeword goes into the page that the block is taking: its program is complete (R300). -/
def State.closePage (s : State) (b : Nat) : State :=
  let x := s.block b
  if x.st != 6 then s else s.setBlock b { x with st := if s.get Reg.NFC_GEOM.PAGES_M1 < x.next then 7 else 6, slots := s.pageSlots }

/-- A block that is OPEN has room (R314). -/
def State.room (s : State) (x : Block) : Bool := decide (x.next ≤ s.get Reg.NFC_GEOM.PAGES_M1) || decide (x.slots < s.pageSlots)

/-- The sweep's read of a page on a channel that has entered FAILED is given up, and the requests that joined it wait (R280). -/
def State.dropSweep (s : State) : State :=
  match s.rse.sweeping with
  | none => s
  | some p =>
    if !s.channelFailed p then s
    else { s with
      rse := { s.rse with sweeping := none }
      hif := { s.hif with reqs := s.hif.reqs.map fun (r : HostReq) =>
        if r.stage == .faultIn && r.dpa / 4096 == p then { r with stage := .faultInQueued } else r } }

/-- A channel has entered FAILED: the sweep skips the pages not restored whose records lie on it, and issued fault-ins of such pages
wait (R280, R295). -/
def State.sweepSkips (s : State) (n : Nat) : State :=
  let s := s.dropSweep
  let on (p : Nat) : Bool := (s.pageAddresses p).any fun fa => faChannel fa == n
  if (s.get Reg.RSE_STAT.PHASE == 4 && s.rse.index.any fun e => !s.pageRestored e.1 && on e.1) || s.rse.faultIns.any on then
    s.record Ev.RESTORE_CHANNEL_WAIT wide []
  else s

/-- Pages to be restored lie on a channel in FAILED (R280). -/
def State.skipsAny (s : State) : Bool := s.rse.index.any fun e => !s.pageRestored e.1 && s.channelFailed e.1

/-- NFC channels in FAILED, also those that the Keeper has retired (R344), shown during a save (R252). -/
def State.showFailedFc (s : State) : State :=
  if s.pstate == PState.SAVING then s.put Reg.SAV_STAT.FAILED_FC ((List.range 32).filter fun n => s.flag (Reg.NFC_CH_STAT.FAILED n)).length else s

/-- A fault strikes an NFC channel (R51–R53); where it enters FAILED it runs no more (R347), the sweep skips its pages and a save counts
it. -/
def State.nfcFault (s : State) (n sev : Nat) (brief : Bool) : State :=
  let t := s.strikeUnit (nfcUnit n) sev brief
  if t.unitFailed (nfcUnit n) && !s.unitFailed (nfcUnit n) then ((t.put (Reg.NFC_CH_STAT.UP n) 0).sweepSkips n).showFailedFc else t

/-- The most bits that the code corrects in a codeword (R307), and the most retry levels (R308). -/
def mostCorrected : Nat := 72
def mostRetries : Nat := 15

/-- A codeword has been read (R307, R308): the bits corrected, the retry levels it needed, and whether it stays
uncorrectable. -/
def State.flashRead (s : State) (fa corrected retries : Nat) (bad : Bool) : State :=
  let n := faChannel fa
  let corrected := min corrected mostCorrected
  let s := s.suspendErase (faLun fa)
  let s := if retries == 0 then s else s.count (Reg.NFC_CH_ERR.RETRY n) 1
  if bad then ((s.count (Reg.NFC_CH_ERR.UE n) 1).record Ev.FLASH_UE n []).nfcFault n Ev.FLASH_UE.sev true
  else
    let s := s.raise (Reg.NFC_CH_CORR.CORR_MAX n) corrected
    if corrected ≤ s.get Reg.NFC_ECC_THR.REFRESH_THR then s
    else ((s.count (Reg.NFC_CH_CORR.OVER_THR n) 1).setBlock (faBlock fa) { s.block (faBlock fa) with refresh := true }).record
      Ev.READ_REFRESH n []

/-- Several codewords have been read (R307, R308). -/
def State.flashReads (s : State) (l : List CodewordRead) : State :=
  s.each l fun s r => s.flashRead r.fa r.corrected (min r.retries mostRetries) r.bad

/-- TYPE of a ring record (R323). -/
def RingBody.type (b : RingBody) : Nat :=
  match b with
  | .saveOpen _ => 2
  | .seal _ => 3
  | .commit b => if b.cut then 5 else 4
  | .journal _ _ => 10

/-- SUBJECT of a ring record (R71, R323): the low 32 bits of its epoch number. -/
def RingBody.subject (b : RingBody) : Nat :=
  match b with
  | .seal b => b.epoch % 2 ^ 32
  | .commit b => b.number % 2 ^ 32
  | _ => 0

/-- The next log sequence number is issued (R306). -/
def State.newLsn (s : State) : State := { s with flash := { s.flash with nextLsn := s.flash.nextLsn + 1 } }

/-- A page record is on flash (R327), under the key in force. -/
def State.putRecord (s : State) (lsn page fa : Nat) (image : PageImage) : State :=
  { s with flash := { s.flash with records := NMap.insert s.flash.records lsn ⟨page, fa, image, s.get Reg.NFC_KEY.KEYGEN, false⟩ } }

/-- A codeword of the KEEPER is on flash (R304, R305). -/
def State.putCell (s : State) (fa : Nat) (w : KeeperWord) : State := { s with flash := { s.flash with cells := NMap.insert s.flash.cells fa w } }

/-! ## References (R337) -/

/-- An index names a record. -/
def indexNames (m : NMap Nat) (lsn : Nat) : Bool := m.any fun e => e.2 == lsn

/-- A relocation copy that no index has taken yet (R339) will enter one: the original is still what its page resolves to in the sealing
epoch, as long as that has no index segment, or in the open one. A copy whose page has been replaced stays unreferenced (R341). -/
def State.copyWanted (s : State) (orig : Nat) : Bool :=
  match NMap.find? s.flash.records orig with
  | none => false
  | some r =>
    let sealed := (NMap.find? s.flash.sealRecs r.page).orElse fun _ => NMap.find? s.flash.baseIndex r.page
    let now := (NMap.find? s.flash.openRecs r.page).orElse fun _ => sealed
    now == some orig || (s.drp.sealEpoch != 0 && s.flash.segIndex.isEmpty && sealed == some orig)

/-- A record is referenced: by a retained image, the image being restored, or an open or sealing epoch, also one abandoned since the last
durable epoch (R337). -/
def State.referenced (s : State) (lsn : Nat) : Bool :=
  (s.flash.images.any fun i => indexNames i.index lsn) || indexNames s.rse.index lsn || indexNames s.flash.baseIndex lsn ||
    indexNames s.flash.sealRecs lsn || indexNames s.flash.openRecs lsn || indexNames s.flash.segIndex lsn ||
    indexNames s.sav.recs lsn || s.flash.sealOld.contains lsn || s.flash.openOld.contains lsn ||
    s.flash.copies.any fun c => c.2 == lsn && s.copyWanted c.1

/-- Flash addresses of the index codewords that an image, the image being restored, the sealing epoch or one abandoned since the last
durable epoch reaches, and of the event mirror (R337). -/
def State.wordAddresses (s : State) : List Nat :=
  (((s.flash.images.flatMap fun i => i.words) ++ s.rse.words ++ s.flash.baseWords ++ s.flash.segWords ++ s.sav.words).map (fun e => e.2.2) ++
    s.flash.oldWords ++ s.flash.mirrorFas).eraseDups

/-- Blocks with an INTENT entry and no later DONE entry (R318), from ring records that begin with the newest. -/
def openIntents (ring : List RingRec) : List Nat :=
  ring.reverse.foldl (fun acc r => match r.body with
    | .journal _ entries => entries.foldl (fun acc e => if e.2 == 1 then insertNat acc e.1 else acc.filter (· != e.1)) acc
    | _ => acc) []

/-- The newest SAVE_OPEN record. -/
def newestOpen (ring : List RingRec) : Option RingRec := ring.find? fun r => match r.body with
  | .saveOpen _ => true
  | _ => false

/-- A ring record is still needed (R240, R250, R318, R337): an image names it, it belongs to the newest save, to the sealing epoch or
to one abandoned since the last durable epoch, or it holds an INTENT that is not done. -/
def State.ringLive (s : State) (r : RingRec) : Bool :=
  (s.flash.images.any fun i => i.commit == r.lsn || i.ref == r.lsn) ||
  match r.body with
  | .saveOpen _ => (newestOpen s.flash.ring).map RingRec.lsn == some r.lsn
  | .seal b => b.epoch == s.drp.sealEpoch || (s.flash.abandoned && s.flash.images.all fun i => decide (i.commit < r.lsn))
  | .commit b => b.cut && (newestOpen s.flash.ring).map RingRec.name == some b.ref
  | .journal _ entries => entries.any fun e => e.2 == 1 && (s.block e.1).st != 1 && (openIntents s.flash.ring).contains e.1

/-- Referenced codewords of a block (R337): page records, index codewords and copies of ring records. -/
def State.live (s : State) (b : Nat) : Nat :=
  (s.flash.records.filter fun r => faBlock r.2.fa == b && s.referenced r.1).length +
    (s.wordAddresses.filter fun fa => faBlock fa == b).length +
    (s.flash.ring.filter fun r => s.ringLive r && (faBlock r.fa == b || faBlock r.fb == b)).length

/-- A closed block in which nothing is referenced any more, and in which no program is in flight. -/
def State.blockEmpty (s : State) (b : Nat) (x : Block) : Bool :=
  (x.st == 7 || x.st == 8) && s.live b == 0 && !s.drp.progs.any fun p => faBlock p.fa == b

/-- The ring list is written when a ring block is released (R326). -/
def State.writeRingList (s : State) : State := s.writeLatest ⟨10, .ringList s.flash.ringBlocks, none⟩

/-- Blocks whose count has fallen to 0 are released, or retired where a program in them failed (R315, R337, R343), and have no owner any
more (R313); a ring block leaves the ring list, and its records with it (R326). -/
def State.releaseBlocks (s : State) : State :=
  let empty := s.flash.blocks.filter fun (e : Nat × Block) => s.blockEmpty e.1 e.2
  let gone := empty.map Prod.fst
  let blocks := s.flash.blocks.map fun (e : Nat × Block) =>
    if gone.contains e.1 then (e.1, { e.2 with st := if e.2.retire then 1 else 2, owner := 0 }) else e
  let left := s.flash.ringBlocks.filter fun b => !gone.contains b
  let ring := s.flash.ring.filter fun r => !(gone.contains (faBlock r.fa) && gone.contains (faBlock r.fb))
  let t := { s with flash := { s.flash with blocks, ringBlocks := left, ring } }
  let t := if left == s.flash.ringBlocks then t else t.writeRingList
  t.each (empty.filter fun e => e.2.retire) fun s e =>
    (s.count Reg.NFC_BAD_GROWN.BLOCKS 1).record Ev.BLOCK_RETIRED (blockChannel e.1) []

/-! ## The save reserve (R232, R320, R321) -/

/-- The data part of the save reserve in pages, of 409 GiB in full (log entry 16). -/
def reservePages : Nat := 409 * pagesPerGiB

/-- The retry allowance of 2 % (R232), in pages. -/
def retryAllowance : Nat := reservePages * 2 / 100

/-- A quotient rounded up. -/
def ceilDiv (a b : Nat) : Nat := if b == 0 then 0 else (a + b - 1) / b

/-- LUNs on the channels that take work, over which the reserve is spread (R320, R344). -/
def State.reserveLuns (s : State) : List Nat := s.lunsIn (s.pop.flashChannels.filter s.channelUp)

/-- Blocks of the record part on each LUN (R320): M × 17 / 4,096 rounded up to whole blocks. -/
def State.recordQuota (s : State) : Nat := ceilDiv (s.pop.dramGiB * 2 ^ 30 * 17) (4096 * 4096 * s.blockCodewords * s.reserveLuns.length)

/-- Blocks of the data part on each LUN (R320). -/
def State.dataQuota (s : State) : Nat := ceilDiv reservePages (s.blockCodewords * s.reserveLuns.length)

/-- The record part in codeword slots (R320). -/
def State.recordSlots (s : State) : Nat := s.recordQuota * s.reserveLuns.length * s.blockCodewords

/-- Pages of the data part for the programs of a save that repeat one that failed, and, without the allowance, for every other (R232). -/
def State.dataPages (s : State) (again : Bool) : Nat :=
  if again then reservePages - s.flash.refill
  else reservePages - retryAllowance - (s.flash.refill - min s.flash.repeated retryAllowance)

/-- RESERVE_GIB is what is left of the data part (R253). C_flash is what is left of the data part less its retry allowance of 2 %, from
which repeated programs are taken first (R232; log entry 16). -/
def State.showReserve (s : State) : State :=
  let pages := min (400 * pagesPerGiB) (s.dataPages false)
  { s with flash := { s.flash with cFlash := pages } }.putAll [
    (Reg.SAV_RSV.RESERVE_GIB, (reservePages - s.flash.refill) / pagesPerGiB),
    (Reg.SAV_RSV.C_FLASH_GIB, pages / pagesPerGiB)]

/-- The reserve has changed, and with C_flash the budget (R128). -/
def State.reserveChanged (s : State) : State :=
  let old := s.flash.cFlash
  let s := s.showReserve
  if s.flash.cFlash == old then s else s.recompute

/-- Pages of the data part have been used (R233): `again` of them by programs that repeat one that failed. -/
def State.useReserve (s : State) (pages again : Nat) : State :=
  { s with flash := { s.flash with refill := min reservePages (s.flash.refill + pages), repeated := s.flash.repeated + again } }.reserveChanged

/-- Slots of the record part have been used (R320). -/
def State.useRecords (s : State) (slots : Nat) : State :=
  { s with flash := { s.flash with recordShort := min s.recordSlots (s.flash.recordShort + slots) } }

/-- The first `n` ERASED blocks of a LUN, looked for from a place that a free value gives (log entry 5). -/
def State.erasedOf (s : State) (lun from' : Nat) : Nat → Nat → List Nat
  | 0, _ => []
  | _, 0 => []
  | fuel + 1, n + 1 =>
    let blocks := s.get Reg.NFC_GEOM.BLOCKS - 1
    let b := lun * 65536 + 1 + (from' + fuel) % blocks
    if (s.block b).st == 4 then b :: State.erasedOf s lun from' fuel n else State.erasedOf s lun from' fuel (n + 1)

/-- Blocks of a LUN in the reserve. -/
def State.reserveOf (s : State) (lun : Nat) : Nat := s.flash.blocks.countP fun (e : Nat × Block) => blockLun e.1 == lun && e.2.st == 5

/-- A LUN's share of the reserve is filled up from its ERASED blocks (R320, R321). -/
def State.fillReserve (s : State) (lun : Nat) : State :=
  let need := s.recordQuota + s.dataQuota - s.reserveOf lun
  if need == 0 then s
  else s.each (s.erasedOf lun (Config.reserveAt (s.evr.base / 2 ^ 32) lun) (s.get Reg.NFC_GEOM.BLOCKS - 1) need) fun s b => s.setBlock b (Block.blank 5)

/-- The Keeper refills the reserve from the ERASED pool, evenly over the LUNs of the channels that take work, and counts the record part
first (R320, R321, R344). What is left for the data part is what C_flash is derived from. -/
def State.keepReserve (s : State) : State :=
  let s := s.each s.reserveLuns State.fillReserve
  let slots := (s.reserveLuns.map s.reserveOf).sum * s.blockCodewords
  let data := min reservePages (slots - s.recordSlots)
  let refill := reservePages - data
  { s with flash := { s.flash with refill, repeated := min s.flash.repeated refill, recordShort := s.recordSlots - slots } }.reserveChanged

/-- Codewords that a block still takes. -/
def State.unwritten (s : State) (x : Block) : Nat :=
  s.blockCodewords - if x.next == 0 then 0 else (x.next - 1) * s.pageSlots + x.slots

/-- A block that is closed takes what is not written of it from the reserve, where it came from there (R232, R233, R320): a block that
holds records of the KEEPER from the record part, another from the data part. -/
def State.loseBlock (s : State) (x : Block) : State :=
  if x.fromReserve && x.owner == 4 then s.useRecords (s.unwritten x)
  else if x.st == 5 || x.fromReserve then { s with flash := { s.flash with refill := min reservePages (s.flash.refill + s.unwritten x) } }
  else s

/-- A program fails (R315, R347): counted, the block closes as FULL and is marked for retirement, which follows at once where nothing in
it is referenced, and the channel takes a fault until the repeated program passes (R52). -/
def State.programFailed (s : State) (fa : Nat) : State :=
  let b := faBlock fa
  let x := s.block b
  let s := (s.count (Reg.NFC_CH_ERR.PROG_FAIL (faChannel fa)) 1).loseBlock x
  ((s.setBlock b { x with st := 7, retire := true }).nfcFault (faChannel fa) 2 false).releaseBlocks

/-! ### What a save may program (R230–R234) -/

/-- A block of the reserve is left on a channel that takes work: one that holds nothing, or one that the save has opened for this owner
and that has room. -/
def State.reserveHas (s : State) (owner : Nat) : Bool :=
  s.flash.blocks.any fun (e : Nat × Block) =>
    s.channelUp (blockChannel e.1) && (e.2.st == 5 || (e.2.st == 6 && e.2.owner == owner && e.2.fromReserve && s.room e.2))

/-- The data part has room for a page of a save (R232): for one that repeats a failed program with the retry allowance, for another
without. -/
def State.dataLeft (s : State) (again : Bool) : Bool := decide (0 < s.dataPages again) && s.reserveHas 2

/-- The record part has room for a record of a save (R320). -/
def State.recordsLeft (s : State) : Bool := decide (s.flash.recordShort < s.recordSlots) && s.reserveHas 4

/-- SAV may program a page in a block: one of the reserve, or once the reserve is used up, with the allowance where the page may take that,
an ERASED one (R230, R232, R234; log entry 113). -/
def State.savBlock (s : State) (again : Bool) (x : Block) : Bool :=
  let left := s.dataLeft again
  (x.st == 5 && left) || (x.st == 4 && !left) || (x.st == 6 && x.owner == 2 && s.room x && x.fromReserve == left)

/-- SAV may program a page at a flash address (R230, R233, R234): its channel is up, and its block may take it. -/
def State.savTarget (s : State) (again : Bool) (fa : Nat) : Bool :=
  s.channelUp (faChannel fa) && s.faValid fa && s.savBlock again (s.block (faBlock fa))

/-- All blocks but LABEL ones of some channels. -/
def State.blocksIn (s : State) (channels : List Nat) : Nat := channels.length * s.channelLuns * (s.get Reg.NFC_GEOM.BLOCKS - 1)

/-- Blocks of some channels that the list leaves out. -/
def State.unlisted (s : State) (channels : List Nat) : Nat :=
  s.blocksIn channels - s.flash.blocks.countP fun (e : Nat × Block) => channels.contains (blockChannel e.1) && blockNumber e.1 != 0

/-- A page of a save has a place left (R234). -/
def State.pageSpace (s : State) (again : Bool) : Bool :=
  (s.flash.blocks.any fun (e : Nat × Block) => s.channelUp (blockChannel e.1) && s.savBlock again e.2) ||
    (s.savBlock again (Block.blank s.flash.blankSt) && decide (0 < s.unlisted (s.pop.flashChannels.filter s.channelUp)))

/-- The state of the blocks that hold nothing and that the Keeper may take for its records: those of the ERASED pool, and in a save of
the reserve, as long as its record part lasts (R230, R234, R320, R322). -/
def State.freshState (s : State) : Nat := if s.saving && s.recordsLeft then 5 else 4
def State.freshBlock (s : State) (x : Block) : Bool := x.st == s.freshState

/-- A block of the KEEPER that its records go on in: in a save one that the save has opened from the reserve, as long as the record part
lasts (R230, R234). -/
def State.openBlock (s : State) (x : Block) : Bool :=
  x.st == 6 && x.owner == 4 && decide (x.next ≤ s.get Reg.NFC_GEOM.PAGES_M1) && (!s.saving || x.fromReserve || !s.recordsLeft)

/-- The Keeper may program a ring record at a flash address: its channel is up and its block is an OPEN ring block or is free to
become one (R313, R326). -/
def State.ringTarget (s : State) (fa : Nat) : Bool :=
  let x := s.block (faBlock fa)
  s.channelUp (faChannel fa) && s.faValid fa && (s.freshBlock x || (s.openBlock x && s.flash.ringBlocks.contains (faBlock fa)))

/-- The Keeper may program an index codeword at a flash address: an OPEN block of the KEEPER that is no ring block, or a free one. -/
def State.indexTarget (s : State) (fa : Nat) : Bool :=
  let x := s.block (faBlock fa)
  s.channelUp (faChannel fa) && s.faValid fa && (s.freshBlock x || (s.openBlock x && !s.flash.ringBlocks.contains (faBlock fa)))

/-! ## Ring records (R325, R326) -/

/-- The channel of a ring record's second copy (R325): half the population further on, or the next one after it that takes work. The
rule passes over channels in FAILED; the model passes over those that are not in use, too (DESIGN CHOICE; log entry 114). -/
def State.secondChannel (s : State) (c : Nat) : Option Nat :=
  let p := s.pop.flashChannels.length
  ((List.range p).map fun i => (c + p / 2 + i) % p).find? fun x => x != c && s.channelUp x

/-- The ring list is written when ring blocks are added (R326), before a record goes there, so that a start finds every record that has
passed; a write of it that still waits takes the same content (DEDUCED; log entry 98). -/
def State.listRing (s : State) (l : List Nat) : State :=
  let t := s.journalSectors (s.targetSectors 10)
  let t := (if t.journalsFit then t else s).writeCopy 10 true
  { t with
    flash := { t.flash with ringBlocks := l, ringStored := l }
    cmd := { t.cmd with writes := t.cmd.writes.map fun (w : RecWrite) => if w.record == 10 then { w with upd := .ringList l } else w } }

/-- Blocks become ring blocks. -/
def State.addRingBlocks (s : State) (l : List Nat) : State :=
  let all := l.foldl insertNat s.flash.ringBlocks
  if all == s.flash.ringBlocks then s else s.listRing all

/-- A page of the KEEPER with `n` codewords has passed at slot 0 of it (R300, R320): the rest of the page stays unused, and in a save the
page is taken from the record part. -/
def State.keeperPage (s : State) (fa n : Nat) : State :=
  let s := (s.each ((List.range n).map (fa + ·)) fun s fa => s.openAt fa 4).closePage (faBlock fa)
  if (s.block (faBlock fa)).fromReserve then s.useRecords s.pageSlots else s

/-- A copy of a ring record passes (R325). -/
def State.ringCopy (s : State) (r : RingRec) (flags fa : Nat) : State :=
  (s.keeperPage fa 1).putCell fa ⟨r.lsn, r.body.subject, r.body.type, flags, r.keygen, .ring r.body⟩

/-- Both copies of a ring record have passed (R325): they carry one LSN, and their blocks are ring blocks. -/
def State.addRing (s : State) (fa fb : Nat) (body : RingBody) : State :=
  let r : RingRec := ⟨s.flash.nextLsn, fa, fb, fa, s.get Reg.NFC_KEY.KEYGEN, body⟩
  let s := (s.newLsn.ringCopy r 0 fa).ringCopy r 0 fb
  { s with flash := { s.flash with ring := r :: s.flash.ring } }.addRingBlocks [faBlock fa, faBlock fb]

/-- A program of the KEEPER or of SAV has failed: it is to be repeated on another block (R171, R233). -/
def State.keeperFailed (s : State) (fa : Nat) : State :=
  let s := s.programFailed fa
  { s with flash := { s.flash with failed := s.flash.failed ++ [faChannel fa] } }

/-- A program has passed, so that no failed one is still to be repeated: the faults of the channels end (R52). -/
def State.repeatPassed (s : State) : State :=
  { s with flash := { s.flash with failed := [] } }.each s.flash.failed fun s c => s.endFault (nfcUnit c)

/-! ### Where the Keeper places its records

The manual does not say which of the blocks that it may program the Keeper takes. The model takes the channels in turn, beginning with
the one that the next LSN gives, so that its programs spread over all of them (R230), on a channel an OPEN block of the KEEPER before any
other, and of the blocks that hold nothing one that a free value names (DESIGN CHOICE, log entry 107). -/

/-- The flash address of slot 0 of a page of a block (R302, R303). -/
def faAt (b page : Nat) : Nat := b / 65536 * 2 ^ 37 + blockNumber b * 2 ^ 19 + page * 128

/-- The `k`-th block of a channel that is no label block (R301, R303). -/
def State.blockOf (s : State) (c k : Nat) : Nat :=
  let perLun := s.get Reg.NFC_GEOM.BLOCKS - 1
  let luns := lunsOf (s.get Reg.NFC_POP.LUN_CODE)
  let lun := k / perLun
  (c * 64 + lun / luns * 4 + lun % luns) * 65536 + k % perLun + 1

/-- A block of the channel that holds nothing and that the Keeper may take. -/
def State.freshSpot (s : State) (c : Nat) : Option Nat :=
  let n := s.channelLuns * (s.get Reg.NFC_GEOM.BLOCKS - 1)
  let st := s.freshState
  (List.range n).findSome? fun i =>
    let b := s.blockOf c ((s.free + i) % n)
    if (s.block b).st == st then some (faAt b 0) else none

/-- The write pointer of an OPEN ring block, or of an OPEN index block, of the channel. -/
def State.openSpot (s : State) (ring : Bool) (c : Nat) : Option Nat :=
  s.flash.blocks.findSome? fun (e : Nat × Block) =>
    if blockChannel e.1 == c && s.openBlock e.2 && s.flash.ringBlocks.contains e.1 == ring then some (faAt e.1 e.2.next) else none

/-- Where a record of the KEEPER goes on a channel. -/
def State.keeperSpot (s : State) (ring : Bool) (c : Nat) : Option Nat := (s.openSpot ring c).orElse fun _ => s.freshSpot c

/-- The channels that take work, in the turn in which the Keeper takes them. -/
def State.channelTurn (s : State) : List Nat :=
  let l := s.pop.flashChannels
  let k := s.flash.nextLsn % max 1 l.length
  (l.drop k ++ l.take k).filter s.channelUp

/-- Where the two copies of a ring record go (R325), on channels that the rules allow. -/
def State.ringSpots (s : State) (allowed : Nat → Bool) : Option (Nat × Nat) :=
  (s.channelTurn.filter allowed).findSome? fun c =>
    match s.secondChannel c with
    | none => none
    | some d =>
      if !allowed d then none
      else match s.keeperSpot true c, s.keeperSpot true d with
        | some fa, some fb => some (fa, fb)
        | _, _ => none

/-- A ring record passes (R325): both copies, at `fa` and `fb`. Where the rules leave it no place nothing has passed. -/
def State.ringProgram (s : State) (allowed : Nat → Bool) (k : Nat → Nat → State → Res) : Res :=
  match s.ringSpots allowed with
  | none => s.idle
  | some (fa, fb) => k fa fb s.repeatPassed

/-! ## Index codewords (R323, R330–R333) -/

/-- TYPE and SUBJECT of a key. -/
def keyType (k : Nat) : Nat := k / 2 ^ 24
def keySubject (k : Nat) : Nat := k % 2 ^ 24

/-- The codewords that change with these ones (R332): a new MAP_PAGE needs a new EXTENT_MAP, and that a new ROOT. -/
def withParents (keys : List Nat) : List Nat :=
  let maps := (keys.filter fun k => keyType k == 8).eraseDups
  let exts := ((keys.filter fun k => keyType k == 7) ++ maps.map fun k => wordKey 7 (keySubject k / 128)).eraseDups
  let roots := ((keys.filter fun k => keyType k == 6) ++ exts.map fun k => wordKey 6 (keySubject k / 512)).eraseDups
  maps ++ exts ++ roots

/-- The index codewords that change with a list of pages (R332): the MAP_PAGE of each span, with its parents. -/
def indexKeys (pages : List Nat) : List Nat := withParents (pages.map fun p => wordKey 8 (p / 512))

/-- The codewords of an index: its parent's, with the new ones of a list of keys in their place (R332), whose LSNs begin with `lsn`. -/
def buildWords (parent : Words) (keys fas : List Nat) (lsn : Nat) : Words :=
  ((keys.zip fas).zipIdx.foldl (fun (m : Words) e => NMap.insert m e.1.1 (lsn + e.2, e.1.2)) parent)

/-- Where `n` index codewords go: page after page, each from slot 0 on (R304). The count bounds the pages. -/
def State.wordSpots : Nat → State → Nat → Option (List Nat)
  | _, _, 0 => some []
  | 0, _, _ + 1 => none
  | pages + 1, s, n + 1 =>
    match s.channelTurn.findSome? (s.keeperSpot false) with
    | none => none
    | some fa =>
      let k := min (n + 1) (max 1 s.pageSlots)
      let t := s.keeperPage fa k
      (State.wordSpots pages { t with flash := { t.flash with nextLsn := t.flash.nextLsn + k } } (n + 1 - k)).map ((List.range k).map (fa + ·) ++ ·)

/-- Index codewords of the KEEPER pass (R313, R314), at the addresses `fas`. -/
def State.indexProgram (s : State) (n : Nat) (k : List Nat → State → Res) : Res :=
  match State.wordSpots n s n with
  | none => s.idle
  | some fas => k fas s.repeatPassed

/-- The blocks of these codewords take them, page after page, and each has its LSN (R306). -/
def State.putCodewords (s : State) (fas : List Nat) : State :=
  let s := s.each (fas.filter fun fa => faSlot fa == 0) fun s fa => s.keeperPage fa (fas.countP fun x => x - faSlot x == fa)
  { s with flash := { s.flash with nextLsn := s.flash.nextLsn + fas.length } }

/-- FIRST_POISON: the lowest poisoned line (R327). -/
def firstPoison (mask : Nat) : Nat := ((List.range 64).find? (bitOf mask)).getD 0

/-- A map entry for a page that an index names with an LSN, 0 for a page without a record (R331). -/
def State.mapEntry (s : State) (lsn : Nat) : Nat :=
  if lsn == 0 then 2 ^ 54
  else match NMap.find? s.flash.records lsn with
    | none => 0
    | some r => r.fa % 2 ^ 48 + if r.image.poison == 0 then 0 else 2 ^ 54 + firstPoison r.image.poison * 2 ^ 48

/-- The entries of an index codeword that are not 0, by place (R330). -/
def State.entriesOf (s : State) (index : NMap Nat) (words : Words) (key : Nat) : NMap Nat :=
  let n := keySubject key
  let below (type size : Nat) : NMap Nat :=
    (words.filter fun e => keyType e.1 == type && keySubject e.1 / size == n).map fun e => (keySubject e.1 % size, e.2.2)
  if keyType key == 6 then below 7 512
  else if keyType key == 7 then below 8 128
  else (index.filter fun e => e.1 / 512 == n).map fun e => (e.1 % 512, s.mapEntry e.2)

/-- The new codewords of an index are on flash (R304, R305, R330), under the key in force. -/
def State.putWords (s : State) (index : NMap Nat) (words : Words) (keys : List Nat) : State :=
  s.each keys fun s k => match NMap.find? words k with
    | none => s
    | some (lsn, fa) => s.putCell fa ⟨lsn, keySubject k, keyType k, 0, s.get Reg.NFC_KEY.KEYGEN, .entries (s.entriesOf index words k)⟩

/-- A page of an epoch's records resolves to its newest record (R173, R333). -/
def newest (m : NMap Nat) (page lsn : Nat) : NMap Nat := NMap.insert m page (max lsn ((NMap.find? m page).getD 0))

/-- LSNs of records of an epoch, with the one that a new record of the page leaves behind (R337). -/
def withOld (m : NMap Nat) (page lsn : Nat) (old : List Nat) : List Nat :=
  match NMap.find? m page with
  | none => old
  | some l => if l == 0 then old else min l lsn :: old

/-! ## Pools (R348) and garbage collection at t_F (R50, R341) -/

/-- Blocks that satisfy a test. -/
def State.countBlocks (s : State) (p : Block → Bool) : Nat :=
  s.flash.blocks.countP (fun (e : Nat × Block) => blockNumber e.1 != 0 && p e.2) +
    if p (Block.blank s.flash.blankSt) then s.unlisted s.pop.flashChannels else 0

/-- Blocks in whole GiB (R348). -/
def State.blocksGiB (s : State) (p : Block → Bool) : Nat := s.countBlocks p * s.blockCodewords * 4096 / 2 ^ 30

/-- The ERASED pool in whole GiB (R348). -/
def State.erasedGiB (s : State) : Nat := s.blocksGiB fun x => x.st == 4

/-- Garbage collection stops: copies made before count as unreferenced, an erase stays suspended. -/
def State.stopGc (s : State) : State :=
  let moving := s.flash.gc.any fun o => match o with
    | .relocate _ _ => true
    | .erase _ _ => false
  let s := s.flash.gc.foldl (fun s o => match o with
    | .relocate _ _ => s
    | .erase b _ => s.suspendErase (blockLun b)) s
  let s := { s with flash := { s.flash with copies := [], gc := s.flash.gc.filter fun o => match o with
    | .relocate _ _ => false
    | .erase _ _ => true } }
  if moving then s.put Reg.NFC_GC_STAT.RESULT 0 else s

/-! ## Retained images (R73, R74, R76) -/

/-- Show how many images are retained. -/
def State.showRetained (s : State) : State :=
  s.putAll [
    (Reg.GLB_IMAGE.RETAINED, (s.flash.images.filter fun i => !i.cut).length),
    (Reg.GLB_IMAGE.CUT_RETAINED, ofBool (s.flash.images.any fun i => i.cut))]

/-- Keep the newest `n` boundary epochs of a list that begins with the newest; cut images stay. -/
def keepEpochs : Nat → List Image → List Image
  | _, [] => []
  | n, i :: l =>
    if i.cut then i :: keepEpochs n l
    else match n with
      | 0 => keepEpochs 0 l
      | n + 1 => i :: keepEpochs n l

/-- An index takes the copies of the records it still names (R333, R339). -/
def withCopies (copies : List (Nat × Nat)) (index : NMap Nat) : NMap Nat :=
  List.map (fun (e : Nat × Nat) => match copies.find? fun (c : Nat × Nat) => c.1 == e.2 with
    | some c => (e.1, c.2)
    | none => e) index

/-- The line is poisoned in what an index resolves its page to (R331). -/
def State.indexPoisons (s : State) (index : NMap Nat) (line : Nat) : Bool :=
  match NMap.find? index (line / 64) with
  | none => false
  | some lsn => lsn == 0 || match NMap.find? s.flash.records lsn with
    | none => false
    | some r => bitOf r.image.poison (line % 64)

/-- Pages with a poisoned line that an index would give as good: each is recorded as poisoned without a readable record (R108, R331;
DESIGN CHOICE, log entry 104). -/
def State.spoiledPages (s : State) (index : NMap Nat) (lines : List Nat) : List Nat :=
  ((lines.filter fun l => !s.indexPoisons index l).map (· / 64)).eraseDups

/-- An index with those pages recorded as poisoned. -/
def State.withSpoiled (s : State) (index : NMap Nat) (lines : List Nat) : NMap Nat :=
  (s.spoiledPages index lines).foldl (fun m p => NMap.insert m p 0) index

/-- What the records of the sealing epoch make of the index before it (R333). -/
def State.segmentRecords (s : State) : NMap Nat := NMap.unionNew s.flash.baseIndex s.flash.sealRecs

/-- Pages whose entry changes in the sealing epoch's index (R333): those of its records, those of the copies it takes, and those that it
records as poisoned. -/
def State.segmentPages (s : State) : List Nat :=
  let named := s.segmentRecords
  s.flash.sealRecs.map Prod.fst ++ (named.filter fun (e : Nat × Nat) => s.flash.copies.any fun c => c.1 == e.2).map Prod.fst ++
    s.spoiledPages named s.flash.sealSpoiled

/-- A codeword of the KEEPER lies in a block that is to be refreshed (R307, R342). -/
def State.toRefresh (s : State) (fa : Nat) : Bool := (s.block (faBlock fa)).refresh

/-- Codewords of the parent index that the Keeper moves with the next index, outside a save: those in blocks to be refreshed (R342;
DESIGN CHOICE, log entry 115). -/
def State.movedKeys (s : State) : List Nat :=
  if s.saving then [] else (s.flash.baseWords.filter fun e => s.toRefresh e.2.2).map Prod.fst

/-- The keys of the sealing epoch's index segment (R169, R332, R342). -/
def State.segmentKeys (s : State) : List Nat := withParents ((s.segmentPages.map fun p => wordKey 8 (p / 512)) ++ s.movedKeys)

/-- A ring record moves: both copies are programmed again with the LSN they had, as copies made by relocation (R306, R342). -/
def State.moveRecord (s : State) (r : RingRec) : State :=
  match s.ringSpots fun _ => true with
  | none => s
  | some (fa, fb) =>
    let s := (s.ringCopy r 64 fa).ringCopy r 64 fb
    { s with flash := { s.flash with ring := s.flash.ring.map fun (x : RingRec) => if x.lsn == r.lsn then { x with fa := fa, fb := fb } else x } }.addRingBlocks
      [faBlock fa, faBlock fb]

/-- The Keeper moves the ring records that are still needed out of blocks to be refreshed, with an index segment that is built outside a
save (R342; DESIGN CHOICE, log entry 115). -/
def State.moveRing (s : State) : State :=
  if s.saving then s
  else s.each (s.flash.ring.filter fun r => s.ringLive r && (s.toRefresh r.fa || s.toRefresh r.fb)) State.moveRecord

/-- The index segment of the sealing epoch has passed (R169, R332, R333, R342). -/
def State.putSegment (s : State) (fas : List Nat) : State :=
  let keys := s.segmentKeys
  let words := buildWords s.flash.baseWords keys fas s.flash.nextLsn
  let index := withCopies s.flash.copies (s.withSpoiled s.segmentRecords s.flash.sealSpoiled)
  let t := (s.putCodewords fas).putWords index words keys
  State.moveRing { t with flash := { t.flash with segIndex := index, segWords := words, segCopies := s.flash.copies.length } }

/-- Lines that an index records as poisoned (R328): those of its records, and every line of a page without a record. -/
def State.poisonedLines (s : State) (index : NMap Nat) : Nat :=
  (index.map fun e => if e.2 == 0 then 64 else match NMap.find? s.flash.records e.2 with
    | some r => popcount 64 r.image.poison
    | none => 0).sum

/-- The root codewords of an index (R328): their flash addresses by root. -/
def rootsOf (w : Words) : NMap Nat := (w.filter fun e => e.1 / 2 ^ 24 == 6).map fun e => (e.1 % 2 ^ 24, e.2.2)

/-- What a commit record says of every image (R328), with the fields that only a cut fills at 0. -/
def State.commitBody (s : State) (cut : Bool) (number ref : Nat) (rack inRestore : Bool) (index : NMap Nat) (words : Words) : CommitBody where
  cut
  number
  ref
  parent := s.flash.baseCommit
  high := s.flash.nextLsn - 1
  carafe := s.get Reg.DRP_CAR_CFG.SIZE_GIB
  reserved := s.reservedExtents
  fitted := s.extents
  rack
  inRestore
  poisoned := s.poisonedLines index
  saveMs := 0
  cutUs := 0
  sealDurable := false
  thermal := false
  dmcThrottle := false
  fromRestore := false
  pages := 0
  retries := 0
  panics := 0
  roots := rootsOf words

/-- The newest SEAL record of an epoch. -/
def State.sealRecord (s : State) (n : Nat) : Option RingRec := s.flash.ring.find? fun r => match r.body with
  | .seal b => b.epoch == n
  | _ => false

/-- The seal record of the sealing epoch passes (R169, R328). -/
def State.addSeal (s : State) (fa fb : Nat) : State :=
  s.addRing fa fb (.seal {
    epoch := s.drp.sealEpoch
    boundary := s.flash.boundaryLsn
    parent := s.flash.baseCommit
    f := s.flash.boundaryF
    rack := s.drp.sealRack
    inRestore := s.drp.sealInRestore
    afterAbandon := s.flash.abandoned })

/-- A durable boundary epoch joins the retained images; the releases of R73 and R74 follow. -/
def State.retainEpoch (s : State) (fa commit ref : Nat) : State :=
  let index := s.flash.segIndex
  let old := s.flash.images.filter fun i => !i.newer
  let image : Image := {
    cut := false
    number := s.drp.sealEpoch
    rack := s.drp.sealRack
    inRestore := s.drp.sealInRestore
    readable := true
    sealReadable := true
    newer := false
    index
    fitted := s.extents
    carafe := s.get Reg.DRP_CAR_CFG.SIZE_GIB
    reserved := s.reservedExtents
    words := s.flash.segWords
    commit
    ref }
  let s := { s with flash := { s.flash with
    images := keepEpochs 8 (image :: old), baseIndex := index, baseWords := s.flash.segWords, baseCommit := fa, sealRecs := [], sealSpoiled := [],
    sealOld := [], oldWords := [],
    segIndex := [], segWords := [], segCopies := 0, copies := s.flash.copies.drop s.flash.segCopies, abandoned := false,
    durableSince := true } }
  s.releaseBlocks.showRetained

/-- The commit record of the sealing epoch passes (R169), then steps 1 and 2 of R170: the epoch is durable. -/
def State.sealDurable (s : State) (fa fb : Nat) : State :=
  let n := s.drp.sealEpoch
  let ref := s.sealRecord n
  let commit := s.flash.nextLsn
  let s := s.addRing fa fb (.commit (s.commitBody false n ((ref.map RingRec.name).getD 0) s.drp.sealRack s.drp.sealInRestore
    s.flash.segIndex s.flash.segWords))
  let s := (s.putPair Reg.GLB_DUR_EPOCH_LO.LO Reg.GLB_DUR_EPOCH_HI.HI n).put Reg.DRP_BND_STAT.LAST_END 1
  let s := s.putFree Reg.DRP_BND_SEAL_TIME.LAST_MS
  let s := s.raise Reg.DRP_BND_SEAL_TIME.MAX_MS (s.get Reg.DRP_BND_SEAL_TIME.LAST_MS)
  let s := s.retainEpoch fa commit ((ref.map RingRec.lsn).getD 0)
  { s with drp := { s.drp with sealEpoch := 0, sealRack := false } }.showEpochs

/-- Step 3 of R170: the barriers that the epoch carries complete with its number (R99). -/
def State.completeBarriers (s : State) (n : Nat) : State :=
  let done := s.cmd.barriers.filter fun (b : Port × BitVec 32 × Option Nat) => b.2.2 == some n
  let s := { s with cmd := { s.cmd with barriers := s.cmd.barriers.filter fun (b : Port × BitVec 32 × Option Nat) => b.2.2 != some n } }
  s.each done fun s b => s.complete b.1 b.2.1 Status.done.code (leBytes 6 n)

/-- A sanitized extent whose fill belongs to an epoch up to `dur`. -/
def Extent.filled (x : Extent) (dur : Nat) : Bool :=
  x.st == .sanitizing && x.fillEpoch != 0 && decide (x.fillEpoch ≤ dur)

/-- Sanitized extents whose fill belongs to a durable epoch become FREE with ZERO set (R439, R450), and the region
record with them (R437). -/
def State.freeSanitized (s : State) : State :=
  let dur := s.pair Reg.GLB_DUR_EPOCH_LO.LO Reg.GLB_DUR_EPOCH_HI.HI
  let done := s.rgn.exts.filter fun (e : Nat × Extent) => e.2.filled dur
  let exts := s.rgn.exts.map fun (e : Nat × Extent) =>
    if e.2.filled dur then (e.1, { e.2 with st := .free, zero := true, fillEpoch := 0 }) else e
  if done.isEmpty then s
  else
    let l := done.map Prod.fst
    State.writeRegions { s with rgn := { s.rgn with exts } } (.dcFreed l)

end Sys2Proof.Machine
end

