-- ==== Sys2Proof/Machine/RegMap.lean ====
section
/-! DEFINITION. The register map as the bus sees it: for every register its place and, for every field, its access
type, visibility and change class, from the register tables of spec/01 to spec/19. -/

namespace Sys2Proof.Machine

/-- Access types (R10). -/
inductive Access where
  | ro | rw | rw1c | wo | rc
  deriving DecidableEq, Repr

/-- Visibility classes (R13). -/
inductive Vis where
  | k | f | h | a
  deriving DecidableEq, Repr

/-- Change classes (R16); `none` where the Change column has a dash. -/
inductive Chg where
  | none | live | boundary | idle
  deriving DecidableEq, Repr

/-- One field of a register: lowest bit, width, access, visibility, change class, and the values a write may set. -/
structure FieldDef where
  lo : Nat
  w : Nat
  acc : Access
  vis : Vis
  chg : Chg
  least : Nat
  most : Nat
  deriving DecidableEq, Repr

/-- One register, or an array of `count` registers `stride` bytes apart. -/
structure RegDef where
  base : Nat
  stride : Nat
  count : Nat
  fields : List FieldDef
  deriving DecidableEq, Repr

/-- A read-only field. -/
def FieldDef.ro (lo w : Nat) (v : Vis) : FieldDef := ⟨lo, w, .ro, v, .none, 0, 0⟩
/-- A field that clears on read. -/
def FieldDef.rc (lo w : Nat) (v : Vis) : FieldDef := ⟨lo, w, .rc, v, .none, 0, 0⟩
/-- A field whose ones clear by writing 1. -/
def FieldDef.w1c (lo w : Nat) (v : Vis) : FieldDef := ⟨lo, w, .rw1c, v, .none, 0, 0⟩
/-- A field that only acts when written. -/
def FieldDef.wo (lo w : Nat) (v : Vis) : FieldDef := ⟨lo, w, .wo, v, .none, 0, 0⟩
/-- A readable and writable field with the range of values that a write may set. -/
def FieldDef.rw (lo w : Nat) (v : Vis) (c : Chg) (least most : Nat) : FieldDef := ⟨lo, w, .rw, v, c, least, most⟩

open FieldDef

/-- The GLB registers. -/
def regMapGLB : List RegDef := [
  -- GLB_ID
  ⟨0x0, 0x0, 1, [ro 0 4 .a, ro 4 4 .a, ro 8 4 .a, ro 12 4 .a, ro 16 16 .a]⟩,
  -- GLB_STATE
  ⟨0x4, 0x0, 1, [ro 0 4 .a, ro 4 4 .a, ro 8 8 .a, ro 16 16 .a]⟩,
  -- GLB_READY
  ⟨0x8, 0x0, 1, [ro 0 1 .a, ro 1 1 .a, ro 2 1 .a, ro 3 1 .a, ro 4 1 .a, ro 5 1 .a, ro 6 1 .a, ro 7 1 .a, ro 8 1 .a, ro 9 1 .a, ro 10 1 .a, ro 11 1 .a, ro 12 1 .a, ro 13 19 .a]⟩,
  -- GLB_READY_CHG
  ⟨0xc, 0x0, 1, [w1c 0 1 .a, w1c 1 1 .a, w1c 2 1 .a, w1c 3 1 .a, w1c 4 1 .a, w1c 5 1 .a, w1c 6 1 .a, w1c 7 1 .a, w1c 8 1 .a, w1c 9 1 .a, w1c 10 1 .a, w1c 11 1 .a, w1c 12 1 .a, ro 13 19 .a]⟩,
  -- GLB_IMAGE
  ⟨0x10, 0x0, 1, [ro 0 4 .a, ro 4 1 .a, ro 5 1 .a, ro 6 1 .a, ro 7 1 .a, ro 8 1 .a, ro 9 7 .a, ro 16 4 .a, ro 20 4 .a, ro 24 8 .a]⟩,
  -- GLB_IMAGE_EPOCH_LO
  ⟨0x14, 0x0, 1, [ro 0 32 .a]⟩,
  -- GLB_IMAGE_EPOCH_HI
  ⟨0x18, 0x0, 1, [ro 0 16 .a, ro 16 16 .a]⟩,
  -- GLB_OPEN_EPOCH_LO
  ⟨0x1c, 0x0, 1, [ro 0 32 .a]⟩,
  -- GLB_OPEN_EPOCH_HI
  ⟨0x20, 0x0, 1, [ro 0 16 .a, ro 16 16 .a]⟩,
  -- GLB_DUR_EPOCH_LO
  ⟨0x24, 0x0, 1, [ro 0 32 .a]⟩,
  -- GLB_DUR_EPOCH_HI
  ⟨0x28, 0x0, 1, [ro 0 16 .a, ro 16 16 .a]⟩,
  -- GLB_ARM
  ⟨0x2c, 0x0, 1, [ro 0 2 .a, ro 2 2 .a, ro 4 1 .a, ro 5 1 .a, ro 6 1 .a, ro 7 1 .a, ro 8 24 .a]⟩,
  -- GLB_UNPROT_CNT
  ⟨0x30, 0x0, 1, [ro 0 32 .a]⟩]

/-- The EVR registers. -/
def regMapEVR : List RegDef := [
  -- EVR_STAT
  ⟨0x20000, 0x0, 1, [ro 0 9 .a, ro 9 8 .a, ro 17 12 .a, ro 29 2 .a, ro 31 1 .a]⟩,
  -- EVR_SEQ_LO
  ⟨0x20004, 0x0, 1, [ro 0 32 .a]⟩,
  -- EVR_SEQ_HI
  ⟨0x20008, 0x0, 1, [ro 0 16 .a, ro 16 16 .a]⟩,
  -- EVR_CUR_CTL
  ⟨0x2000c, 0x0, 1, [rw 0 2 .a .live 0 2, ro 2 6 .a, ro 8 1 .a, rw 9 1 .f .live 0 1, ro 10 18 .a, wo 28 4 .a]⟩,
  -- EVR_CUR_SEQ_LO
  ⟨0x20010, 0x0, 1, [rw 0 32 .a .live 0 4294967295]⟩,
  -- EVR_CUR_SEQ_HI
  ⟨0x20014, 0x0, 1, [rw 0 16 .a .live 0 65535, ro 16 16 .a]⟩,
  -- EVR_CUR_AVAIL
  ⟨0x20018, 0x0, 1, [ro 0 12 .a, ro 12 20 .a]⟩,
  -- EVR_CNT
  ⟨0x2001c, 0x0, 1, [rc 0 16 .a, rc 16 16 .a]⟩,
  -- EVR_ROUTE_SEL
  ⟨0x20020, 0x0, 1, [rw 0 9 .a .live 0 319, ro 9 23 .a]⟩,
  -- EVR_ROUTE
  ⟨0x20024, 0x0, 1, [ro 0 8 .a, ro 8 8 .a, ro 16 16 .a]⟩,
  -- EVR_WIN
  ⟨0x20100, 0x4, 64, [ro 0 32 .a]⟩]

/-- The PWR registers. -/
def regMapPWR : List RegDef := [
  -- PWR_CFG
  ⟨0x30000, 0x0, 1, [rw 0 1 .h .live 0 1, ro 1 3 .h, rw 4 2 .h .live 0 3, ro 6 2 .h, rw 8 8 .h .live 1 255, rw 16 8 .h .live 1 100, ro 24 8 .h]⟩,
  -- PWR_STAT
  ⟨0x30004, 0x0, 1, [ro 0 1 .a, ro 1 1 .a, ro 2 1 .a, ro 3 1 .a, ro 4 1 .a, ro 5 3 .a, ro 8 4 .a, ro 12 4 .a, ro 16 16 .a]⟩,
  -- PWR_VIN
  ⟨0x30008, 0x0, 1, [rw 0 14 .h .live 8000 11500, ro 14 2 .h, ro 16 16 .a]⟩,
  -- PWR_VSUP
  ⟨0x3000c, 0x0, 1, [ro 0 16 .a, ro 16 16 .a]⟩,
  -- PWR_RAIL_LATCH
  ⟨0x30010, 0x0, 1, [w1c 0 16 .h, w1c 16 16 .h]⟩,
  -- PWR_EVCNT
  ⟨0x30014, 0x0, 1, [rc 0 16 .a, rc 16 16 .a]⟩,
  -- PWR_LAN
  ⟨0x30018, 0x0, 1, [ro 0 4 .a, ro 4 4 .a, ro 8 8 .a, ro 16 4 .a, ro 20 1 .a, ro 21 1 .a, ro 22 1 .a, ro 23 1 .a, ro 24 4 .a, ro 28 4 .a]⟩,
  -- PWR_LAN_SHDN
  ⟨0x3001c, 0x0, 1, [ro 0 16 .a, ro 16 16 .a]⟩,
  -- PWR_RAIL_LVL
  ⟨0x30100, 0x8, 16, [rw 0 16 .k .live 0 65535, rw 16 16 .k .live 0 65535]⟩,
  -- PWR_RAIL_CTL
  ⟨0x30104, 0x8, 16, [ro 0 1 .a, ro 1 1 .a, ro 2 1 .a, ro 3 1 .a, ro 4 1 .a, ro 5 3 .a, ro 8 4 .a, rw 12 4 .k .live 0 15, ro 16 16 .a]⟩]

/-- The ADC registers. -/
def regMapADC : List RegDef := [
  -- ADC_STAT
  ⟨0x40000, 0x0, 1, [ro 0 2 .a, ro 2 1 .a, ro 3 1 .a, ro 4 12 .a, rc 16 16 .a]⟩,
  -- ADC_ROT0
  ⟨0x40004, 0x0, 1, [rw 0 32 .k .boundary 0 4294967295]⟩,
  -- ADC_ROT1
  ⟨0x40008, 0x0, 1, [rw 0 32 .k .boundary 0 4294967295]⟩,
  -- ADC_URG
  ⟨0x4000c, 0x0, 1, [wo 0 5 .f, wo 5 20 .f, wo 25 2 .f, wo 27 3 .f, wo 30 1 .f, wo 31 1 .f]⟩,
  -- ADC_URG_RES
  ⟨0x40010, 0x0, 1, [ro 0 12 .f, ro 12 4 .f, ro 16 2 .f, ro 18 4 .f, ro 22 5 .f, ro 27 1 .f, ro 28 1 .f, ro 29 1 .f, ro 30 1 .f, ro 31 1 .f]⟩,
  -- ADC_RESULT
  ⟨0x40014, 0x0, 1, [ro 0 12 .f, ro 12 4 .f, ro 16 2 .f, ro 18 4 .f, ro 22 5 .f, ro 27 1 .f, ro 28 1 .f, ro 29 1 .f, ro 30 1 .f, ro 31 1 .f]⟩,
  -- ADC_QSTAT
  ⟨0x40018, 0x0, 1, [ro 0 7 .f, ro 7 9 .f, rc 16 16 .f]⟩,
  -- ADC_ERR
  ⟨0x4001c, 0x0, 1, [rc 0 16 .f, rc 16 16 .a]⟩,
  -- ADC_SEQ
  ⟨0x40100, 0x4, 16, [rw 0 5 .k .boundary 0 31, rw 5 2 .k .boundary 0 2, ro 7 13 .k, rw 20 3 .k .boundary 0 7, rw 23 2 .k .boundary 0 2, rw 25 3 .k .boundary 0 7, rw 28 1 .k .boundary 0 1, rw 29 2 .k .boundary 0 2, rw 31 1 .k .boundary 0 1]⟩,
  -- ADC_LAST
  ⟨0x40200, 0x4, 32, [ro 0 12 .a, ro 12 4 .a, ro 16 2 .a, ro 18 4 .a, ro 22 5 .a, ro 27 1 .a, ro 28 1 .a, ro 29 1 .a, ro 30 1 .a, ro 31 1 .a]⟩]

/-- The RSV registers. -/
def regMapRSV : List RegDef := [
  -- RSV_CFG
  ⟨0x50000, 0x0, 1, [rw 0 1 .k .live 0 1, rw 1 1 .k .live 0 1, ro 2 14 .k, rw 16 11 .k .live 100 2000, ro 27 5 .k]⟩,
  -- RSV_STAT
  ⟨0x50004, 0x0, 1, [ro 0 1 .a, ro 1 1 .a, ro 2 1 .a, ro 3 1 .a, ro 4 1 .a, ro 5 1 .a, ro 6 10 .a, ro 16 1 .a, ro 17 1 .a, ro 18 2 .a, ro 20 2 .a, ro 22 3 .a, ro 25 3 .a, ro 28 4 .a]⟩,
  -- RSV_MEAS
  ⟨0x50008, 0x0, 1, [ro 0 16 .a, ro 16 16 .a]⟩,
  -- RSV_TEMP
  ⟨0x5000c, 0x0, 1, [ro 0 16 .a, ro 16 16 .a]⟩,
  -- RSV_QCNT
  ⟨0x50010, 0x0, 1, [ro 0 32 .f]⟩,
  -- RSV_REST
  ⟨0x50014, 0x0, 1, [ro 0 32 .a]⟩,
  -- RSV_REST_V
  ⟨0x50018, 0x0, 1, [ro 0 16 .a, ro 16 16 .a]⟩,
  -- RSV_UNC
  ⟨0x5001c, 0x0, 1, [ro 0 10 .a, ro 10 6 .a, ro 16 10 .a, ro 26 6 .a]⟩,
  -- RSV_VT_P
  ⟨0x50020, 0x0, 1, [ro 0 11 .a, ro 11 21 .a]⟩,
  -- RSV_VT_E
  ⟨0x50024, 0x0, 1, [ro 0 32 .a]⟩,
  -- RSV_LRN_CAP
  ⟨0x50028, 0x0, 1, [ro 0 16 .a, ro 16 16 .a]⟩,
  -- RSV_LRN_R
  ⟨0x5002c, 0x0, 1, [ro 0 16 .a, ro 16 16 .a]⟩,
  -- RSV_FIG
  ⟨0x50030, 0x0, 1, [ro 0 1 .f, ro 1 1 .f, ro 2 1 .f, ro 3 13 .f, ro 16 16 .f]⟩,
  -- RSV_FW_SOC
  ⟨0x50034, 0x0, 1, [rw 0 10 .f .live 0 1000, ro 10 22 .f]⟩,
  -- RSV_FW_CAP
  ⟨0x50038, 0x0, 1, [rw 0 16 .f .live 0 65535, rw 16 2 .f .live 0 3, ro 18 14 .f]⟩,
  -- RSV_FW_RINT
  ⟨0x5003c, 0x0, 1, [rw 0 16 .f .live 0 65535, ro 16 16 .f]⟩,
  -- RSV_LAN
  ⟨0x50040, 0x0, 1, [ro 0 16 .a, ro 16 15 .a, ro 31 1 .a]⟩,
  -- RSV_LAN_CLK
  ⟨0x50044, 0x0, 1, [ro 0 32 .a]⟩]

/-- The KST registers. -/
def regMapKST : List RegDef := [
  -- KST_STAT
  ⟨0x60000, 0x0, 1, [ro 0 1 .a, ro 1 1 .a, ro 2 1 .a, ro 3 6 .a, ro 9 1 .a, w1c 10 1 .h, ro 11 1 .a, ro 12 2 .a, ro 14 18 .a]⟩,
  -- KST_SLOT
  ⟨0x60004, 0x0, 1, [ro 0 1 .a, ro 1 7 .a, ro 8 8 .a, ro 16 2 .a, ro 18 14 .a]⟩,
  -- KST_VER_A
  ⟨0x60008, 0x0, 1, [ro 0 32 .a]⟩,
  -- KST_VER_B
  ⟨0x6000c, 0x0, 1, [ro 0 32 .a]⟩,
  -- KST_ARB
  ⟨0x60010, 0x0, 1, [ro 0 15 .a, ro 15 17 .a]⟩,
  -- KST_PROT
  ⟨0x60014, 0x0, 1, [ro 0 8 .a, ro 8 8 .a, ro 16 8 .a, ro 24 8 .a]⟩,
  -- KST_VMODE
  ⟨0x60018, 0x0, 1, [rw 0 8 .h .idle 0 255, ro 8 24 .h]⟩,
  -- KST_ECC
  ⟨0x6001c, 0x0, 1, [rw 0 2 .h .live 1 2, ro 2 30 .h]⟩,
  -- KST_ERR
  ⟨0x60020, 0x0, 1, [rc 0 8 .a, rc 8 8 .a, rc 16 8 .a, rc 24 8 .a]⟩,
  -- KST_JRNL
  ⟨0x60024, 0x0, 1, [ro 0 8 .a, ro 8 8 .a, ro 16 16 .a]⟩,
  -- KST_UPD
  ⟨0x60028, 0x0, 1, [ro 0 4 .a, ro 4 2 .a, ro 6 10 .a, ro 16 16 .a]⟩]

/-- The DMA registers. -/
def regMapDMA : List RegDef := [
  -- DMA_STAT
  ⟨0x70000, 0x0, 1, [ro 0 16 .f, ro 16 16 .f]⟩,
  -- DMA_DONE
  ⟨0x70004, 0x0, 1, [w1c 0 16 .f, ro 16 16 .f]⟩,
  -- DMA_SWREQ
  ⟨0x70008, 0x0, 1, [wo 0 32 .f]⟩,
  -- DMA_REQ_LVL
  ⟨0x7000c, 0x0, 1, [ro 0 32 .f]⟩,
  -- DMA_CH_CFG
  ⟨0x70100, 0x40, 16, [rw 0 2 .f .idle 0 3, ro 2 30 .f]⟩,
  -- DMA_CH_CTL
  ⟨0x70104, 0x40, 16, [wo 0 28 .f, wo 28 4 .f]⟩,
  -- DMA_CH_STAT
  ⟨0x70108, 0x40, 16, [ro 0 16 .f, ro 16 10 .f, ro 26 2 .f, ro 28 4 .f]⟩,
  -- DMA_CH_DESC
  ⟨0x7010c, 0x40, 16, [rw 0 32 .f .idle 0 4294967295]⟩,
  -- DMA_CH_SRC_LO
  ⟨0x70110, 0x40, 16, [ro 0 32 .f]⟩,
  -- DMA_CH_SRC_HI
  ⟨0x70114, 0x40, 16, [ro 0 12 .f, ro 12 20 .f]⟩,
  -- DMA_CH_DST_LO
  ⟨0x70118, 0x40, 16, [ro 0 32 .f]⟩,
  -- DMA_CH_DST_HI
  ⟨0x7011c, 0x40, 16, [ro 0 12 .f, ro 12 20 .f]⟩,
  -- DMA_CH_REMAIN
  ⟨0x70120, 0x40, 16, [ro 0 24 .f, ro 24 8 .f]⟩,
  -- DMA_CH_ERR_INFO
  ⟨0x70124, 0x40, 16, [ro 0 26 .f, ro 26 1 .f, ro 27 1 .f, ro 28 4 .f]⟩,
  -- DMA_CH_ERR_ADDR_LO
  ⟨0x70128, 0x40, 16, [ro 0 32 .f]⟩,
  -- DMA_CH_ERR_ADDR_HI
  ⟨0x7012c, 0x40, 16, [ro 0 12 .f, ro 12 20 .f]⟩]

/-- The TWI registers. -/
def regMapTWI : List RegDef := [
  -- TWI_CFG
  ⟨0x80000, 0x1000, 3, [ro 0 3 .a, rw 3 9 .k .live 0 500, rw 12 10 .k .live 50 1000, rw 22 10 .k .live 10 1000]⟩,
  -- TWI_STAT
  ⟨0x80004, 0x1000, 3, [ro 0 1 .a, ro 1 1 .a, ro 2 1 .a, ro 3 1 .a, ro 4 1 .a, ro 5 1 .a, ro 6 2 .a, ro 8 24 .a]⟩,
  -- TWI_ERR
  ⟨0x80008, 0x1000, 3, [rc 0 8 .a, rc 8 8 .a, rc 16 8 .a, rc 24 8 .a]⟩,
  -- TWI_XFER
  ⟨0x8000c, 0x1000, 3, [wo 0 6 .f, wo 6 2 .f, wo 8 6 .f, wo 14 10 .f, wo 24 7 .f, wo 31 1 .f]⟩,
  -- TWI_XSTAT
  ⟨0x80010, 0x1000, 3, [ro 0 6 .f, ro 6 2 .f, ro 8 6 .f, ro 14 14 .f, ro 28 4 .f]⟩,
  -- TWI_TXDATA
  ⟨0x80014, 0x1000, 3, [wo 0 8 .f, wo 8 24 .f]⟩,
  -- TWI_RXDATA
  ⟨0x80018, 0x1000, 3, [ro 0 8 .f, ro 8 1 .f, ro 9 23 .f]⟩]

/-- The NCH registers. -/
def regMapNCH : List RegDef := [
  -- NCH_CHAIN_STAT
  ⟨0x90000, 0x0, 1, [ro 0 1 .a, ro 1 1 .a, ro 2 3 .a, ro 5 3 .a, ro 8 24 .a]⟩,
  -- NCH_CHAIN_CNT
  ⟨0x90004, 0x0, 1, [rc 0 16 .a, rc 16 16 .a]⟩,
  -- NCH_CHAIN_ERR
  ⟨0x90008, 0x0, 1, [rc 0 8 .a, rc 8 8 .a, rc 16 8 .a, rc 24 8 .a]⟩,
  -- NCH_BCN_STAT
  ⟨0x90010, 0x0, 1, [rc 0 16 .a, ro 16 1 .a, ro 17 15 .a]⟩]

/-- The CLK registers. -/
def regMapCLK : List RegDef := [
  -- CLK_PLL_STAT
  ⟨0xa0000, 0x0, 1, [ro 0 9 .a, ro 9 9 .a, ro 18 6 .a, ro 24 1 .a, ro 25 7 .a]⟩,
  -- CLK_UNLOCK
  ⟨0xa0004, 0x0, 1, [rc 0 16 .a, ro 16 8 .a, ro 24 8 .a]⟩,
  -- CLK_DOM_STAT
  ⟨0xa0008, 0x0, 1, [ro 0 9 .a, ro 9 7 .a, ro 16 9 .a, ro 25 7 .a]⟩,
  -- CLK_DOM_REQ
  ⟨0xa000c, 0x0, 1, [wo 0 4 .k, wo 4 27 .k, wo 31 1 .k]⟩,
  -- CLK_DOM_CNT
  ⟨0xa0010, 0x0, 1, [rc 0 16 .f, rc 16 16 .f]⟩]

/-- The RGN registers. -/
def regMapRGN : List RegDef := [
  -- RGN_CFG
  ⟨0x100000, 0x0, 1, [rw 0 1 .k .live 0 1, ro 1 7 .k, rw 8 8 .k .live 1 255, ro 16 16 .k]⟩,
  -- RGN_STAT
  ⟨0x100004, 0x0, 1, [ro 0 16 .a, ro 16 16 .a]⟩,
  -- RGN_STAT2
  ⟨0x100008, 0x0, 1, [ro 0 16 .a, ro 16 16 .a]⟩,
  -- RGN_PEND
  ⟨0x10000c, 0x0, 1, [ro 0 16 .a, ro 16 16 .a]⟩,
  -- RGN_FAULT
  ⟨0x100010, 0x0, 1, [ro 0 18 .a, ro 18 2 .a, ro 20 4 .a, ro 24 3 .a, ro 27 1 .a, rc 28 4 .a]⟩,
  -- RGN_FAULT_ADDR_LO
  ⟨0x100014, 0x0, 1, [ro 0 32 .a]⟩,
  -- RGN_FAULT_ADDR_HI
  ⟨0x100018, 0x0, 1, [ro 0 16 .a, ro 16 16 .a]⟩,
  -- RGN_LD_CAP
  ⟨0x100100, 0x4, 16, [ro 0 15 .a, ro 15 15 .a, ro 30 1 .a, ro 31 1 .a]⟩,
  -- RGN_LD_USED
  ⟨0x100140, 0x4, 16, [ro 0 15 .a, ro 15 17 .a]⟩,
  -- RGN_LD_FLT
  ⟨0x100180, 0x4, 16, [rc 0 32 .h]⟩,
  -- RGN_EXT
  ⟨0x110000, 0x4, 32768, [ro 0 15 .a, ro 15 8 .a, ro 23 4 .a, ro 27 1 .a, ro 28 1 .a, ro 29 3 .a]⟩]

/-- The DMC registers. -/
def regMapDMC : List RegDef := [
  -- DMC_CFG
  ⟨0x200000, 0x10000, 8, [ro 0 8 .a, ro 8 8 .a, ro 16 4 .a, ro 20 2 .a, ro 22 2 .a, ro 24 4 .a, ro 28 2 .a, ro 30 2 .a]⟩,
  -- DMC_STAT
  ⟨0x200004, 0x10000, 8, [ro 0 1 .a, ro 1 1 .a, ro 2 1 .a, ro 3 1 .a, ro 4 1 .a, ro 5 1 .a, ro 6 1 .a, ro 7 25 .a]⟩,
  -- DMC_SCHED
  ⟨0x200008, 0x10000, 8, [rw 0 4 .k .live 0 15, ro 4 28 .k]⟩,
  -- DMC_PAGE
  ⟨0x20000c, 0x10000, 8, [rw 0 8 .k .live 2 255, ro 8 24 .k]⟩,
  -- DMC_PWR
  ⟨0x200010, 0x10000, 8, [rw 0 8 .k .live 0 255, ro 8 24 .k]⟩,
  -- DMC_REF
  ⟨0x200014, 0x10000, 8, [rw 0 1 .k .idle 0 1, ro 1 3 .a, ro 4 2 .a, ro 6 2 .a, ro 8 8 .a, ro 16 16 .a]⟩,
  -- DMC_RD_CFG
  ⟨0x200018, 0x10000, 8, [rw 0 12 .k .live 16 4095, ro 12 4 .k, rw 16 8 .k .live 1 255, rw 24 8 .k .live 1 255]⟩,
  -- DMC_RD_STAT
  ⟨0x20001c, 0x10000, 8, [ro 0 22 .a, ro 22 10 .a]⟩,
  -- DMC_RD_CNT
  ⟨0x200020, 0x10000, 8, [rc 0 16 .a, rc 16 16 .a]⟩,
  -- DMC_ECC_CFG
  ⟨0x200024, 0x10000, 8, [ro 0 16 .k, rw 16 16 .k .live 0 65535]⟩,
  -- DMC_ECC_CNT
  ⟨0x200028, 0x10000, 8, [rc 0 8 .a, rc 8 8 .a, rc 16 16 .a]⟩,
  -- DMC_ECC_LOC
  ⟨0x20002c, 0x10000, 8, [ro 0 14 .a, ro 14 4 .a, ro 18 5 .a, ro 23 1 .a, ro 24 4 .a, ro 28 4 .a]⟩,
  -- DMC_ECC_ADDR_LO
  ⟨0x200030, 0x10000, 8, [ro 0 32 .a]⟩,
  -- DMC_ECC_ADDR_HI
  ⟨0x200034, 0x10000, 8, [ro 0 16 .a, ro 16 16 .a]⟩,
  -- DMC_RANK_MAP
  ⟨0x200038, 0x10000, 8, [ro 0 4 .a, ro 4 4 .a, ro 8 4 .a, ro 12 4 .a, ro 16 4 .a, ro 20 4 .a, ro 24 4 .a, ro 28 4 .a]⟩,
  -- DMC_SPARE
  ⟨0x20003c, 0x10000, 8, [ro 0 16 .a, ro 16 4 .a, ro 20 4 .a, ro 24 4 .a, ro 28 4 .a]⟩,
  -- DMC_MIG_WM
  ⟨0x200040, 0x10000, 8, [ro 0 27 .a, ro 27 5 .a]⟩,
  -- DMC_SCRUB
  ⟨0x200044, 0x10000, 8, [ro 0 8 .a, ro 8 1 .a, ro 9 7 .a, rw 16 8 .k .live 0 255, ro 24 8 .k]⟩,
  -- DMC_MAP
  ⟨0x290000, 0x0, 1, [ro 0 6 .a, ro 6 6 .a, ro 12 4 .a, ro 16 4 .a, ro 20 1 .a, ro 21 1 .a, ro 22 2 .a, ro 24 1 .k, rw 25 1 .k .live 0 1, rw 26 2 .k .live 0 3, ro 28 4 .k]⟩,
  -- DMC_LD_PAGE
  ⟨0x290004, 0x0, 1, [rw 0 2 .k .live 0 2, rw 2 2 .k .live 0 2, rw 4 2 .k .live 0 2, rw 6 2 .k .live 0 2, rw 8 2 .k .live 0 2, rw 10 2 .k .live 0 2, rw 12 2 .k .live 0 2, rw 14 2 .k .live 0 2, rw 16 2 .k .live 0 2, rw 18 2 .k .live 0 2, rw 20 2 .k .live 0 2, rw 22 2 .k .live 0 2, rw 24 2 .k .live 0 2, rw 26 2 .k .live 0 2, rw 28 2 .k .live 0 2, rw 30 2 .k .live 0 2]⟩]

/-- The TRN registers. -/
def regMapTRN : List RegDef := [
  -- TRN_CFG
  ⟨0x280000, 0x0, 1, [rw 0 4 .f .live 0 15, ro 4 4 .f, rw 8 8 .f .live 1 63, ro 16 16 .f]⟩,
  -- TRN_CTL
  ⟨0x280004, 0x0, 1, [wo 0 3 .f, wo 3 25 .f, wo 28 4 .f]⟩,
  -- TRN_STAT
  ⟨0x280008, 0x0, 1, [ro 0 1 .a, ro 1 1 .a, ro 2 1 .a, w1c 3 1 .f, ro 4 8 .a, ro 12 3 .a, ro 15 1 .a, ro 16 3 .a, ro 19 1 .a, ro 20 4 .a, ro 24 4 .a, ro 28 4 .a]⟩,
  -- TRN_CH_SRC
  ⟨0x28000c, 0x0, 1, [ro 0 3 .a, ro 3 3 .a, ro 6 3 .a, ro 9 3 .a, ro 12 3 .a, ro 15 3 .a, ro 18 3 .a, ro 21 3 .a, ro 24 8 .a]⟩,
  -- TRN_SETS
  ⟨0x280010, 0x0, 1, [ro 0 4 .a, ro 4 4 .a, ro 8 4 .a, ro 12 4 .a, ro 16 4 .a, ro 20 4 .a, ro 24 5 .a, ro 29 3 .a]⟩,
  -- TRN_PAT
  ⟨0x280014, 0x0, 1, [rw 0 24 .f .live 0 16777215, rw 24 4 .f .live 0 3, ro 28 4 .f]⟩,
  -- TRN_EYE_SEL
  ⟨0x280018, 0x0, 1, [rw 0 7 .f .live 0 79, ro 7 25 .f]⟩,
  -- TRN_EYE
  ⟨0x28001c, 0x0, 1, [ro 0 16 .f, ro 16 16 .f]⟩,
  -- TRN_DLY_SEL
  ⟨0x280020, 0x0, 1, [ro 0 8 .f, rw 8 2 .f .live 0 3, rw 10 4 .f .live 0 9, ro 14 1 .f, rw 15 1 .f .live 0 1, rw 16 3 .f .live 0 7, ro 19 1 .f, rw 20 3 .f .live 0 7, ro 23 1 .f, rw 24 4 .f .live 0 15, ro 28 3 .f, rw 31 1 .f .live 0 1]⟩,
  -- TRN_DLY_DATA
  ⟨0x280024, 0x0, 1, [rw 0 16 .f .live 0 65535, ro 16 16 .f]⟩]

/-- The DRP registers, part 1. -/
def regMapDRP0 : List RegDef := [
  -- DRP_CFG
  ⟨0x300000, 0x0, 1, [rw 0 5 .k .boundary 1 24, ro 5 3 .k, rw 8 8 .k .live 0 100, ro 16 16 .k]⟩,
  -- DRP_BUDGET
  ⟨0x300004, 0x0, 1, [ro 0 5 .a, ro 5 5 .a, ro 10 4 .a, ro 14 10 .a, ro 24 1 .a, ro 25 1 .a, ro 26 3 .a, ro 29 3 .a]⟩,
  -- DRP_SS_DIRTY
  ⟨0x300008, 0x0, 1, [ro 0 32 .a]⟩,
  -- DRP_SS_FROZEN
  ⟨0x30000c, 0x0, 1, [ro 0 32 .a]⟩,
  -- DRP_SS_CARAFE
  ⟨0x300010, 0x0, 1, [ro 0 32 .a]⟩,
  -- DRP_SS_TOTAL
  ⟨0x300014, 0x0, 1, [ro 0 32 .a]⟩,
  -- DRP_ADM
  ⟨0x300018, 0x0, 1, [ro 0 2 .a, ro 2 1 .a, ro 3 1 .a, ro 4 8 .a, ro 12 10 .a, ro 22 10 .a]⟩,
  -- DRP_ADM_OVR_CNT
  ⟨0x30001c, 0x0, 1, [rc 0 16 .a, rc 16 16 .a]⟩,
  -- DRP_ADM_MAXHOLD
  ⟨0x300020, 0x0, 1, [rc 0 32 .a]⟩,
  -- DRP_RATE
  ⟨0x300024, 0x0, 1, [ro 0 12 .a, ro 12 12 .a, ro 24 8 .a]⟩,
  -- DRP_WEAR_CFG
  ⟨0x300028, 0x0, 1, [rw 0 8 .k .live 1 255, rw 8 8 .k .live 1 255, ro 16 16 .k]⟩,
  -- DRP_WEAR_CREDIT
  ⟨0x30002c, 0x0, 1, [ro 0 32 .a]⟩,
  -- DRP_MODEL_P
  ⟨0x300030, 0x0, 1, [rw 0 10 .k .live 0 1022, ro 10 6 .k, rw 16 10 .k .live 1 1023, ro 26 6 .k]⟩,
  -- DRP_MODEL_T
  ⟨0x300034, 0x0, 1, [rw 0 12 .k .live 100 4000, ro 12 4 .k, rw 16 13 .k .live 1000 8000, ro 29 3 .k]⟩,
  -- DRP_RES_P
  ⟨0x300038, 0x0, 1, [ro 0 11 .a, ro 11 11 .a, ro 22 10 .a]⟩,
  -- DRP_RES_E
  ⟨0x30003c, 0x0, 1, [ro 0 32 .a]⟩,
  -- DRP_TRK_ERR
  ⟨0x300040, 0x0, 1, [rc 0 8 .f, rc 8 8 .f, ro 16 16 .f]⟩,
  -- DRP_LD_NEWPG
  ⟨0x300100, 0x4, 16, [rc 0 32 .h]⟩,
  -- DRP_BND_CFG
  ⟨0x300200, 0x0, 1, [rw 0 10 .k .boundary 1 1000, ro 10 6 .k, rw 16 11 .k .live 200 1500, ro 27 1 .k, rw 28 2 .k .boundary 0 2, ro 30 2 .k]⟩,
  -- DRP_BND_STAT
  ⟨0x300204, 0x0, 1, [ro 0 1 .a, ro 1 1 .a, ro 2 1 .a, ro 3 1 .a, ro 4 3 .a, ro 7 25 .a]⟩]

/-- The DRP registers, part 2. -/
def regMapDRP1 : List RegDef := [
  -- DRP_BND_SEAL_EPOCH_LO
  ⟨0x300208, 0x0, 1, [ro 0 32 .a]⟩,
  -- DRP_BND_SEAL_EPOCH_HI
  ⟨0x30020c, 0x0, 1, [ro 0 16 .a, ro 16 16 .a]⟩,
  -- DRP_BND_CNT
  ⟨0x300210, 0x0, 1, [rc 0 8 .a, rc 8 8 .a, rc 16 16 .a]⟩,
  -- DRP_BND_SEAL_TIME
  ⟨0x300214, 0x0, 1, [ro 0 16 .a, rc 16 16 .a]⟩,
  -- DRP_CAR_CFG
  ⟨0x300220, 0x0, 1, [rw 0 8 .k .live 8 128, ro 8 8 .k, ro 16 8 .a, ro 24 8 .k]⟩,
  -- DRP_CAR_USED
  ⟨0x300224, 0x0, 1, [ro 0 32 .a]⟩,
  -- DRP_CAR_COPY_CNT
  ⟨0x300228, 0x0, 1, [rc 0 32 .a]⟩,
  -- DRP_CAR_DIRECT_CNT
  ⟨0x30022c, 0x0, 1, [rc 0 32 .a]⟩,
  -- DRP_CAR_MAXWAIT
  ⟨0x300230, 0x0, 1, [rc 0 32 .a]⟩,
  -- DRP_BCN_CFG
  ⟨0x300240, 0x0, 1, [rw 0 12 .k .live 3000 4095, ro 12 20 .k]⟩,
  -- DRP_BCN_STAT
  ⟨0x300244, 0x0, 1, [ro 0 1 .a, ro 1 3 .a, ro 4 2 .a, ro 6 1 .a, ro 7 25 .a]⟩,
  -- DRP_BCN_LAST_LO
  ⟨0x300248, 0x0, 1, [ro 0 32 .a]⟩,
  -- DRP_BCN_LAST_HI
  ⟨0x30024c, 0x0, 1, [ro 0 16 .a, ro 16 16 .a]⟩,
  -- DRP_BCN_START_LO
  ⟨0x300250, 0x0, 1, [rw 0 32 .k .live 0 4294967295]⟩,
  -- DRP_BCN_START_HI
  ⟨0x300254, 0x0, 1, [rw 0 16 .k .live 0 65535, ro 16 16 .k]⟩,
  -- DRP_BCN_ERR
  ⟨0x300258, 0x0, 1, [rc 0 8 .a, rc 8 8 .a, rc 16 8 .a, rc 24 8 .a]⟩]

/-- The SAV registers. -/
def regMapSAV : List RegDef := [
  -- SAV_CFG
  ⟨0x310000, 0x0, 1, [rw 0 6 .k .live 0 50, ro 6 10 .k, rw 16 2 .k .live 0 2, ro 18 2 .k, rw 20 4 .k .live 1 8, ro 24 8 .k]⟩,
  -- SAV_STAT
  ⟨0x310004, 0x0, 1, [ro 0 4 .a, ro 4 1 .a, ro 5 1 .a, ro 6 1 .a, ro 7 1 .a, ro 8 8 .a, ro 16 16 .a]⟩,
  -- SAV_FOG_SRC
  ⟨0x310008, 0x0, 1, [ro 0 3 .a, ro 3 1 .a, ro 4 4 .a, ro 8 24 .a]⟩,
  -- SAV_RATE
  ⟨0x31000c, 0x0, 1, [ro 0 12 .a, ro 12 12 .a, ro 24 8 .a]⟩,
  -- SAV_RSV
  ⟨0x310010, 0x0, 1, [ro 0 16 .a, ro 16 16 .a]⟩,
  -- SAV_PROGRESS
  ⟨0x310014, 0x0, 1, [ro 0 32 .a]⟩,
  -- SAV_DISCARD
  ⟨0x310018, 0x0, 1, [ro 0 16 .a, ro 16 16 .a]⟩,
  -- SAV_LAST_RESULT
  ⟨0x31001c, 0x0, 1, [ro 0 4 .a, ro 4 3 .a, ro 7 1 .a, ro 8 1 .a, ro 9 1 .a, ro 10 1 .a, ro 11 1 .a, ro 12 4 .a, ro 16 16 .a]⟩,
  -- SAV_LAST_TIME
  ⟨0x310020, 0x0, 1, [ro 0 16 .a, ro 16 16 .a]⟩,
  -- SAV_LAST_PAGES
  ⟨0x310024, 0x0, 1, [ro 0 32 .a]⟩,
  -- SAV_LAST_POISON
  ⟨0x310028, 0x0, 1, [ro 0 32 .a]⟩,
  -- SAV_LAST_RETRY
  ⟨0x31002c, 0x0, 1, [ro 0 16 .a, ro 16 16 .a]⟩,
  -- SAV_LAST_EPOCH_LO
  ⟨0x310030, 0x0, 1, [ro 0 32 .a]⟩,
  -- SAV_LAST_EPOCH_HI
  ⟨0x310034, 0x0, 1, [ro 0 16 .a, ro 16 16 .a]⟩]

/-- The RSE registers. -/
def regMapRSE : List RegDef := [
  -- RSE_CFG
  ⟨0x320000, 0x0, 1, [ro 0 4 .k, rw 4 3 .k .live 0 7, ro 7 5 .k, rw 12 4 .k .live 1 8, ro 16 16 .k]⟩,
  -- RSE_STAT
  ⟨0x320004, 0x0, 1, [ro 0 4 .a, ro 4 4 .a, ro 8 1 .a, ro 9 7 .a, ro 16 4 .a, ro 20 4 .a, ro 24 8 .a]⟩,
  -- RSE_LD_PRIO
  ⟨0x320008, 0x0, 1, [rw 0 2 .k .live 0 3, rw 2 2 .k .live 0 3, rw 4 2 .k .live 0 3, rw 6 2 .k .live 0 3, rw 8 2 .k .live 0 3, rw 10 2 .k .live 0 3, rw 12 2 .k .live 0 3, rw 14 2 .k .live 0 3, rw 16 2 .k .live 0 3, rw 18 2 .k .live 0 3, rw 20 2 .k .live 0 3, rw 22 2 .k .live 0 3, rw 24 2 .k .live 0 3, rw 26 2 .k .live 0 3, rw 28 2 .k .live 0 3, rw 30 2 .k .live 0 3]⟩,
  -- RSE_EXT_CNT
  ⟨0x32000c, 0x0, 1, [ro 0 16 .a, ro 16 16 .a]⟩,
  -- RSE_PAGES
  ⟨0x320010, 0x0, 1, [ro 0 32 .a]⟩,
  -- RSE_RATE
  ⟨0x320014, 0x0, 1, [ro 0 8 .a, ro 8 4 .a, ro 12 12 .a, ro 24 8 .a]⟩,
  -- RSE_TIME
  ⟨0x320018, 0x0, 1, [ro 0 16 .a, ro 16 16 .a]⟩,
  -- RSE_FI_CNT
  ⟨0x32001c, 0x0, 1, [rc 0 32 .a]⟩,
  -- RSE_FI_MAX
  ⟨0x320020, 0x0, 1, [rc 0 32 .a]⟩,
  -- RSE_ERR
  ⟨0x320024, 0x0, 1, [rc 0 16 .a, rc 16 16 .a]⟩,
  -- RSE_RDY_BMP
  ⟨0x321000, 0x4, 1024, [ro 0 32 .a]⟩]

/-- The NFC registers. -/
def regMapNFC : List RegDef := [
  -- NFC_CH_CFG
  ⟨0x400000, 0x2000, 32, [rw 0 1 .k .idle 0 1, ro 1 7 .k, rw 8 4 .k .idle 1 5, ro 12 20 .k]⟩,
  -- NFC_CH_STAT
  ⟨0x400004, 0x2000, 32, [ro 0 1 .a, ro 1 1 .a, ro 2 1 .a, ro 3 1 .a, ro 4 4 .a, ro 8 8 .a, ro 16 8 .a, ro 24 8 .a]⟩,
  -- NFC_CH_TEMP
  ⟨0x400008, 0x2000, 32, [ro 0 8 .a, ro 8 6 .a, ro 14 18 .a]⟩,
  -- NFC_CH_CORR
  ⟨0x40000c, 0x2000, 32, [rc 0 16 .a, rc 16 16 .a]⟩,
  -- NFC_CH_ERR
  ⟨0x400010, 0x2000, 32, [rc 0 8 .a, rc 8 8 .a, rc 16 8 .a, rc 24 8 .a]⟩,
  -- NFC_CH_SUSP
  ⟨0x400014, 0x2000, 32, [rc 0 32 .f]⟩,
  -- NFC_CH_ORDER
  ⟨0x400018, 0x2000, 32, [rc 0 16 .f, ro 16 16 .f]⟩,
  -- NFC_POP
  ⟨0x440000, 0x0, 1, [ro 0 6 .a, ro 6 2 .a, ro 8 5 .a, ro 13 5 .a, ro 18 2 .a, ro 20 4 .a, ro 24 8 .a]⟩,
  -- NFC_GEOM
  ⟨0x440004, 0x0, 1, [ro 0 12 .a, ro 12 4 .a, ro 16 16 .a]⟩,
  -- NFC_CAP
  ⟨0x440008, 0x0, 1, [ro 0 32 .a]⟩,
  -- NFC_ECC_THR
  ⟨0x44000c, 0x0, 1, [rw 0 7 .k .live 1 72, ro 7 9 .k, rw 16 8 .k .live 0 255, ro 24 8 .k]⟩,
  -- NFC_KEY
  ⟨0x440010, 0x0, 1, [ro 0 16 .a, ro 16 16 .a]⟩,
  -- NFC_BAD_FACTORY
  ⟨0x440014, 0x0, 1, [ro 0 32 .a]⟩,
  -- NFC_BAD_GROWN
  ⟨0x440018, 0x0, 1, [ro 0 32 .a]⟩,
  -- NFC_POOL
  ⟨0x44001c, 0x0, 1, [ro 0 16 .f, ro 16 16 .f]⟩,
  -- NFC_GC_REQ
  ⟨0x440030, 0x0, 1, [wo 0 27 .f, wo 27 3 .f, wo 30 2 .f]⟩,
  -- NFC_GC_STAT
  ⟨0x440034, 0x0, 1, [ro 0 27 .f, ro 27 1 .f, ro 28 4 .f]⟩,
  -- NFC_GC_INFO_SEL
  ⟨0x440038, 0x0, 1, [rw 0 27 .f .live 0 134217727, ro 27 5 .f]⟩,
  -- NFC_GC_INFO
  ⟨0x44003c, 0x0, 1, [ro 0 24 .f, ro 24 3 .f, ro 27 1 .f, ro 28 4 .f]⟩]

/-- The HIF registers. -/
def regMapHIF : List RegDef := [
  -- HIF_CFG
  ⟨0x500000, 0x0, 1, [ro 0 1 .a, ro 1 1 .a, ro 2 2 .a, ro 4 1 .a, ro 5 1 .a, ro 6 2 .a, ro 8 2 .a, ro 10 22 .a]⟩,
  -- HIF_LD_BIND
  ⟨0x500004, 0x0, 1, [ro 0 2 .a, ro 2 2 .a, ro 4 2 .a, ro 6 2 .a, ro 8 2 .a, ro 10 2 .a, ro 12 2 .a, ro 14 2 .a, ro 16 2 .a, ro 18 2 .a, ro 20 2 .a, ro 22 2 .a, ro 24 2 .a, ro 26 2 .a, ro 28 2 .a, ro 30 2 .a]⟩,
  -- HIF_LD_STAT
  ⟨0x500008, 0x0, 1, [ro 0 16 .a, ro 16 16 .a]⟩,
  -- HIF_LD_EVT
  ⟨0x50000c, 0x0, 1, [w1c 0 16 .h, ro 16 16 .a]⟩,
  -- HIF_HEAD_STAT
  ⟨0x500010, 0x4, 4, [ro 0 1 .a, ro 1 1 .a, ro 2 1 .a, ro 3 1 .a, ro 4 1 .a, ro 5 1 .a, ro 6 2 .a, ro 8 8 .a, ro 16 4 .a, ro 20 4 .a, ro 24 8 .a]⟩,
  -- HIF_HEAD_CTO
  ⟨0x500020, 0x4, 4, [rw 0 16 .a .live 0 65535, ro 16 1 .a, ro 17 15 .a]⟩,
  -- HIF_HEAD_LAT
  ⟨0x500030, 0x4, 4, [rc 0 16 .a, rc 16 16 .a]⟩]

/-- The CPX registers. -/
def regMapCPX : List RegDef := [
  -- CPX_FW_CFG
  ⟨0xe0000000, 0x0, 1, [rw 0 12 .k .live 100 4000, rw 12 2 .k .live 0 3, ro 14 2 .k, rw 16 8 .k .live 1 255, ro 24 8 .k]⟩,
  -- CPX_FW_STAT
  ⟨0xe0000004, 0x0, 1, [ro 0 3 .k, ro 3 5 .k, ro 8 3 .k, ro 11 3 .k, ro 14 2 .k, ro 16 16 .k]⟩,
  -- CPX_FW_VER
  ⟨0xe0000008, 0x0, 1, [ro 0 32 .k]⟩,
  -- CPX_FW_FLOOR
  ⟨0xe000000c, 0x0, 1, [ro 0 32 .k]⟩,
  -- CPX_WDT_KICK
  ⟨0xe0000010, 0x0, 1, [wo 0 32 .f]⟩,
  -- CPX_KP_STAT
  ⟨0xe0000014, 0x0, 1, [ro 0 1 .k, ro 1 15 .k, ro 16 8 .k, ro 24 8 .k]⟩,
  -- CPX_VIOL_CNT
  ⟨0xe0000020, 0x0, 1, [rc 0 32 .k]⟩,
  -- CPX_VIOL_INFO
  ⟨0xe0000024, 0x0, 1, [rc 0 1 .k, ro 1 15 .k, ro 16 5 .k, ro 21 5 .k, ro 26 2 .k, ro 28 4 .k]⟩,
  -- CPX_VIOL_ADDR_LO
  ⟨0xe0000028, 0x0, 1, [ro 0 32 .k]⟩,
  -- CPX_VIOL_ADDR_HI
  ⟨0xe000002c, 0x0, 1, [ro 0 12 .k, ro 12 20 .k]⟩,
  -- CPX_WIN_BASE
  ⟨0xe0000100, 0x10, 16, [rw 0 32 .k .live 0 4294967295]⟩,
  -- CPX_WIN_SIZE
  ⟨0xe0000104, 0x10, 16, [rw 0 32 .k .live 0 4294967295]⟩,
  -- CPX_WIN_ATTR
  ⟨0xe0000108, 0x10, 16, [rw 0 4 .k .live 0 15, rw 4 1 .k .live 0 1, ro 5 3 .k, rw 8 1 .k .live 0 1, rw 9 1 .k .live 0 1, rw 10 1 .k .live 0 1, ro 11 20 .k, rw 31 1 .k .live 0 1]⟩]

/-- Every register of the part. -/
def regMap : List RegDef :=
  regMapGLB ++ regMapEVR ++ regMapPWR ++ regMapADC ++ regMapRSV ++ regMapKST ++ regMapDMA ++ regMapTWI ++ regMapNCH ++ regMapCLK ++ regMapRGN ++ regMapDMC ++ regMapTRN ++ regMapDRP0 ++ regMapDRP1 ++ regMapSAV ++ regMapRSE ++ regMapNFC ++ regMapHIF ++ regMapCPX

end Sys2Proof.Machine
end

