-- ==== Sys2Proof/Machine/Bus.lean ====
section
/-! DEFINITION. A register access as the bus makes it (R8–R18): who is entitled to a field, the words that registers show,
reads with their captures and clears, and writes under access types and change classes. -/

namespace Sys2Proof.Machine

/-! ## Entitlement (R13, R14) -/

/-- The requester is in a visibility class. The BMC reaches H registers and the chain A registers (R513). -/
def State.entitled (s : State) (r : Req) (v : Vis) : Bool :=
  match r with
  | .keeper => true
  | .fw | .dma => v != .k
  | .head h => v == .a || (v == .h && s.owner == h.val)
  | .bmc => v == .a || v == .h
  | .chain => v == .a

/-- The register defined at an aligned offset, if any (R12). The CPX registers lie in private space (R544), which only the
Keeper and, through the fence, runtime firmware address. -/
def regAt (r : Req) (off : Nat) : Option RegDef :=
  if decide (0x10000000 ≤ off) && r != .keeper && r != .fw then none
  else regMap.find? fun d =>
    decide (d.base ≤ off) &&
      (if d.stride == 0 then off == d.base else (off - d.base) % d.stride == 0 && decide ((off - d.base) / d.stride < d.count))

/-- The fields of a register to which a requester is entitled. -/
def State.visible (s : State) (r : Req) (d : RegDef) : List FieldDef := d.fields.filter fun f => s.entitled r f.vis

/-! ## What registers show that no field of the file holds -/

/-- The 32 bytes of a record (R706). -/
def EvRecord.bytes (r : EvRecord) : Bytes :=
  leBytes 2 r.source ++ leBytes 1 r.severity ++ leBytes 1 r.code ++ leBytes 6 r.seq ++ leBytes 2 r.repeats ++
    leBytes 12 r.data ++ leBytes 4 r.timeMs ++ leBytes 4 0xA5C3

/-- Bytes as little-endian words. -/
def wordsOf : Nat → Bytes → List Nat
  | 0, _ => []
  | n + 1, b => leNat (b.take 4) :: wordsOf n (b.drop 4)

/-- The 64 words of the window (R723). -/
def Evr.window (e : Evr) (r : Req) : List Nat :=
  wordsOf 64 ((((e.ahead (e.cursor r)).take 8).map EvRecord.bytes).flatten)

/-- The place of a delay (R402, R422), packed as TRN_DLY_SEL packs it; components outside the kind's scope are 0. -/
def delayPlace (kind ch rank sc dev bit : Nat) : Nat :=
  let sc := if kind == 7 then 0 else sc
  let dev := if kind == 0 || kind == 1 || kind == 7 then 0 else dev
  let bit := if kind == 4 || kind == 5 then bit else 0
  kind * 2 ^ 24 + ch * 2 ^ 20 + rank * 2 ^ 16 + sc * 2 ^ 15 + dev * 2 ^ 10 + bit * 2 ^ 8

/-- The place that TRN_DLY_SEL names. -/
def State.selectedPlace (s : State) : Nat :=
  delayPlace (s.get Reg.TRN_DLY_SEL.KIND) (s.get Reg.TRN_DLY_SEL.CH) (s.get Reg.TRN_DLY_SEL.RANK) (s.get Reg.TRN_DLY_SEL.SC)
    (s.get Reg.TRN_DLY_SEL.DEV) (s.get Reg.TRN_DLY_SEL.BIT)

/-- A bank of the Keeper store is programming or erasing (R582). Store sectors from 1,024 on are those of bank 1. -/
def State.bankBusy (s : State) (bank : Nat) : Bool :=
  (s.kst.erases.any fun (e : KstErase) => e.begun && e.sector / 1024 == bank) ||
    (s.cmd.writes.any fun (w : RecWrite) => s.targetBank w.record == bank)

/-- A password group is locked (R564, R565). -/
def State.groupLocked (s : State) (g : Nat) : Bool :=
  (NMap.find? s.kst.passwords g).isSome && !s.kst.unlocked.contains g

/-- Eight flags for the integrator groups 8 to 15. -/
def groupMask (p : Nat → Bool) : Nat := (List.range 8).foldl (fun acc k => if p (8 + k) then setBitOf acc k else acc) 0

/-- Listed extents in one of some states. -/
def Rgn.count (g : Rgn) (p : Extent → Bool) : Nat := (g.exts.filter fun (e : Nat × Extent) => p e.2).length

/-- An extent with a live translation (R436). -/
def Extent.live (x : Extent) : Bool := x.st == .mapped || x.st == .releasePending

/-- Hardware request lines 0 to 7 of the DMA engine (R689, R726). -/
def State.hwLine (s : State) (k : Nat) : Bool :=
  if k == 0 then !s.adc.queue.isEmpty
  else if k == 7 then !(s.evr.ahead (s.evr.cursor .dma)).isEmpty
  else if 1 ≤ k && k ≤ 6 then
    let p := (k - 1) / 2
    if k % 2 == 1 then !((NMap.find? s.twi.rx p).getD []).isEmpty else decide (((NMap.find? s.twi.tx p).getD []).length < 32)
  else false

/-- An extent-table register (R468); the extent of an image that no logical device held shows LD 0. A FREE extent with no entry holds zeros once the image is known (R438, R439). -/
def State.extWord (s : State) (e : Nat) : Nat :=
  let st := s.extCode e * 2 ^ 29
  match NMap.find? s.rgn.exts e with
  | none => st + (if s.extCode e == 2 then ofBool (s.ready Reg.GLB_READY.IMAGE_INDEXED) * 2 ^ 28 else 0)
  | some x =>
    st + ofBool x.zero * 2 ^ 28 + ofBool x.stat * 2 ^ 27 + x.ld % 16 * 2 ^ 23 + (if x.live || x.st == .addPending then x.lxn else 0)

/-- Readiness of 32 extents (R294). -/
def State.readyWord (s : State) (n : Nat) : Nat :=
  maskOf 32 fun b => decide (32 * n + b < s.mappable) && s.extReady (32 * n + b)

/-- Words of the region manager and the restore engine. -/
def State.viewExtents (s : State) (off : Nat) : Option Nat :=
  let g := s.rgn
  if 0x110000 ≤ off && off < 0x130000 then some (s.extWord ((off - 0x110000) / 4))
  else if 0x321000 ≤ off && off < 0x322000 then some (s.readyWord ((off - 0x321000) / 4))
  else if (off == 0x100004 || off == 0x100008 || off == 0x10000C || (0x100140 ≤ off && off < 0x100180)) && !s.ready Reg.GLB_READY.IMAGE_INDEXED then some 0
  else if off == 0x100004 then
    some ((s.mappable - g.count (fun x => x.st != .free)) % 65536 * 65536 + g.count Extent.live)
  else if off == 0x100008 then some (g.count (fun x => x.st == .held) * 65536 + g.count (fun x => x.st == .sanitizing))
  else if off == 0x10000C then some (g.count (fun x => x.st == .addPending) * 65536 + g.count (fun x => x.st == .releasePending))
  else if 0x100140 ≤ off && off < 0x100180 then
    some (g.count fun x => x.live && !x.stat && x.ld == (off - 0x100140) / 4)
  else if off == 0x32000C then
    if !s.ready Reg.GLB_READY.KEEPER_UP then some 0
    else some (((List.range s.mappable).filter s.extReady).length % 65536 * 65536 + s.mappable % 65536)
  else none

/-- Words of the recorder's cursor bank (R722–R725, R729). -/
def State.viewRecorder (s : State) (r : Req) (off : Nat) : Option Nat :=
  let e := s.evr
  let c := e.cursor r
  if off == 0x20000 then
    some (e.first.length + e.sev.length * 2 ^ 9 + e.circ.length * 2 ^ 17 + s.get Reg.EVR_STAT.SEQ_WRAP * 2 ^ 31)
  else if off == 0x20004 then some (e.next % 2 ^ 32)
  else if off == 0x20008 then some (e.next / 2 ^ 32 % 65536)
  else if off == 0x2000C then some (c.area + ofBool c.lost * 2 ^ 8 + ofBool c.irqEn * 2 ^ 9)
  else if off == 0x20010 then some (c.staged % 2 ^ 32)
  else if off == 0x20014 then some (c.staged / 2 ^ 32 % 65536)
  else if off == 0x20018 then some (e.ahead c).length
  else if off == 0x20024 then
    match NMap.find? e.routes (s.get Reg.EVR_ROUTE_SEL.SOURCE) with
    | none => some 0
    | some (vector, mask) => some (vector + mask * 65536)
  else if 0x20100 ≤ off && off < 0x20200 then some ((e.window r).getD ((off - 0x20100) / 4) 0)
  else none

/-- Words of the flash block query, the delays and the eyes (R349, R422). -/
def State.viewSelected (s : State) (off : Nat) : Option Nat :=
  if off == 0x44003C then
    let b := s.get Reg.NFC_GC_INFO_SEL.BLOCK_ID
    let x := s.block b
    some (s.live b + x.owner * 2 ^ 24 + ofBool x.refresh * 2 ^ 27 + x.st * 2 ^ 28)
  else if off == 0x280024 then
    let bank := if s.flag Reg.TRN_DLY_SEL.BANK then s.trn.trial else s.trn.verified
    some ((NMap.find? bank s.selectedPlace).getD (if s.flag Reg.TRN_DLY_SEL.BANK then 0 else (Config.genericDelay s.selectedPlace).toNat))
  else if off == 0x28001C then
    match NMap.find? s.trn.eyes (s.get Reg.TRN_EYE_SEL.LANE) with
    | none => some 0
    | some (l, right) => some (l * 65536 + right)
  else if off == 0x40014 then some (s.adc.queue.headD 0)
  else none

/-- Words of the save set (R156), the DMA engine and the Keeper store's flags. -/
def State.viewCounts (s : State) (off : Nat) : Option Nat :=
  if off == 0x300008 then some s.drp.countD
  else if off == 0x30000C then some s.drp.countF
  else if off == 0x300010 then some s.drp.countC
  else if off == 0x300014 then some (min s.drp.saveSet 0xFFFFFFFF)
  else if off == 0x70000 then
    some (maskOf 16 (fun n => s.get (Reg.DMA_CH_STAT.STATE n) == 1) + 65536 * maskOf 16 (fun n => s.get (Reg.DMA_CH_STAT.STATE n) == 7))
  else if off == 0x7000C then some (maskOf 32 s.hwLine)
  else if off == 0x60014 then
    some (2 ^ 24 * groupMask (fun g => (NMap.find? s.kst.passwords g).isSome) + 2 ^ 16 * groupMask s.groupLocked +
      2 ^ 8 * groupMask fun g => decide (8 ≤ (NMap.find? s.kst.wrong g).getD 0))
  else none

/-- One field that another part of the state shows. -/
def State.viewField (s : State) (f : Fld) : Option Nat :=
  if f == Reg.ADC_QSTAT.LEVEL then some s.adc.queue.length
  else if f == Reg.ADC_STAT.URG_PEND_A then some (ofBool s.adc.a.urgent.isSome)
  else if f == Reg.ADC_STAT.URG_PEND_B then some (ofBool s.adc.b.urgent.isSome)
  else if f == Reg.NFC_POOL.ERASED_GIB then some (s.erasedGiB % 65536)
  else if f == Reg.NFC_POOL.RELEASED_GIB then some (s.blocksGiB (fun x => x.st == 2) % 65536)
  else if f == Reg.KST_STAT.BUSY0 then some (ofBool (s.bankBusy 0))
  else if f == Reg.KST_STAT.BUSY1 then some (ofBool (s.bankBusy 1))
  else if f == Reg.TWI_STAT.NOTIFY_PEND 0 then some (ofBool (s.twi.notify != 0))
  else if f == Reg.TWI_STAT.REPLY_RDY 0 then some (ofBool (!s.twi.reply.isEmpty))
  else if f == Reg.NCH_CHAIN_STAT.DN_QUEUE then some (s.chainQueued true)
  else if f == Reg.NCH_CHAIN_STAT.UP_QUEUE then some (s.chainQueued false)
  else
    let head := (List.range 4).find? fun h => f == Reg.HIF_HEAD_STAT.OWNER h
    let port := (List.range 3).find? fun p => f.off == 0x80010 + 0x1000 * p || f.off == 0x80018 + 0x1000 * p
    match head, port with
    | some h, _ => some (ofBool (s.owner == h))
    | none, some p =>
      let rx := (NMap.find? s.twi.rx p).getD []
      if f == Reg.TWI_XSTAT.RX_LEVEL p then some rx.length
      else if f == Reg.TWI_XSTAT.TX_LEVEL p then some ((NMap.find? s.twi.tx p).getD []).length
      else if f == Reg.TWI_RXDATA.VALID p then some (ofBool (!rx.isEmpty))
      else if f == Reg.TWI_RXDATA.DATA p then some ((rx.map BitVec.toNat).headD 0)
      else none
    | none, none => none

/-! ## Reads -/

/-- The present value of a field: a waiting shadow of a B-class field (R17), what another part shows, or the file. -/
def State.fieldNow (s : State) (f : Fld) : Nat :=
  match NMap.find? s.shadows f.key with
  | some v => v
  | none => (s.viewField f).getD (s.get f)

/-- The word a register holds now. -/
def State.wordNow (s : State) (r : Req) (off : Nat) (d : RegDef) : Nat :=
  match s.viewExtents off, s.viewRecorder r off, s.viewSelected off, s.viewCounts off with
  | some w, _, _, _ => w
  | none, some w, _, _ => w
  | none, none, some w, _ => w
  | none, none, none, some w => w
  | none, none, none, none =>
    (d.fields.map fun f => if f.acc == .wo then 0 else s.fieldNow ⟨off, f.lo, f.w⟩ % 2 ^ f.w * 2 ^ f.lo).sum

/-- The _LO registers of the pairs that are read as R78 states; the _HI register is the next word. -/
def loRegs : List Nat :=
  [0x14, 0x1C, 0x24, 0x20004, 0x20010, 0x100014, 0x300208, 0x300248, 0x300250, 0x310030, 0xE0000028] ++
    ((List.range 8).map fun c => 0x200030 + 0x10000 * c) ++
    (List.range 16).flatMap fun n => [0x70110 + 0x40 * n, 0x70118 + 0x40 * n, 0x70128 + 0x40 * n]

/-- The value captured for a requester's read of an offset (R78, R156, R723). -/
def State.captured (s : State) (r : Req) (off : Nat) : Option Nat :=
  if 0x20104 ≤ off && off < 0x20200 then
    (s.caps.find? fun (c : Capture) => c.req == r && c.off == 0x20100).map fun c => c.words.getD ((off - 0x20100) / 4) 0
  else (s.caps.find? fun (c : Capture) => c.req == r && c.off == off).bind fun c => c.words.head?

/-- Forget a requester's capture for an offset. -/
def State.dropCapture (s : State) (r : Req) (off : Nat) : State :=
  { s with caps := s.caps.filter fun (c : Capture) => !(c.req == r && c.off == off) }

/-- Capture words for a requester's later read of an offset. -/
def State.capture (s : State) (r : Req) (off : Nat) (words : List Nat) : State :=
  let s := s.dropCapture r off
  { s with caps := s.caps ++ [⟨r, off, words⟩] }

/-- The captures a read makes or uses up. -/
def State.readCaptures (s : State) (r : Req) (off : Nat) : State :=
  if off == 0x20100 then
    let last := ((s.evr.ahead (s.evr.cursor r)).take 8).getLast?
    s.capture r off (s.evr.window r ++ (last.map fun x => x.seq + 1).toList)
  else if 0x20104 ≤ off && off < 0x20200 then s
  else if off == 0x300008 then
    ((s.capture r 0x30000C [s.drp.countF]).capture r 0x300010 [s.drp.countC]).capture r 0x300014 [min s.drp.saveSet 0xFFFFFFFF]
  else
    let s := s.dropCapture r off
    if loRegs.contains off then
      match regAt r (off + 4) with
      | some d => s.capture r (off + 4) [s.wordNow r (off + 4) d]
      | none => s
    else s

/-- What a read removes besides RC fields (R674, R680, R753): the oldest result, VALID of the urgent result, the oldest
received byte. -/
def State.readEffects (s : State) (off : Nat) : State :=
  if off == 0x40014 then { s with adc := { s.adc with queue := s.adc.queue.drop 1 } }
  else if off == 0x40010 then s.put Reg.ADC_URG_RES.VALID 0
  else match (List.range 3).find? fun p => off == 0x80018 + 0x1000 * p with
    | some p => { s with twi := { s.twi with rx := NMap.insert s.twi.rx p (((NMap.find? s.twi.rx p).getD []).drop 1) } }
    | none => s

/-- Bits of a word that some fields cover. -/
def maskFields (fs : List FieldDef) (w : Nat) : Nat := (fs.map fun f => bitsOf w f.lo f.w * 2 ^ f.lo).sum

/-- The bytes of a word that a read of `size` bytes at an offset returns (R15). -/
def pickBytes (w off size : Nat) : Nat := w / 2 ^ (8 * (off % 4)) % 2 ^ (8 * size)

/-- A register read (R10, R12, R14, R15): the value, and the state after it. A read of fewer than 4 bytes clears every RC field of the
register that the requester may read, also one that none of its bytes holds (DESIGN CHOICE; log entry 105). -/
def State.busRead (s : State) (r : Req) (off size : Nat) : Nat × State :=
  let reg := off / 4 * 4
  match regAt r reg with
  | none => (0, s)
  | some d =>
    let fs := s.visible r d
    if fs.isEmpty then (0, s)
    else
      let w := (s.captured r reg).getD (s.wordNow r reg d)
      let s := s.readCaptures r reg
      let s := s.each fs fun s f => if f.acc == .rc then s.put ⟨reg, f.lo, f.w⟩ 0 else s
      (pickBytes (maskFields fs w) off size, s.readEffects reg)

/-! ## Writes -/

/-- The block that owns an I-class field is idle (R16, R347, R582, R699). The manual does not say when a DMC or NFC channel is: the model takes
one that is not up (DESIGN CHOICE; log entry 125). -/
def State.blockIdle (s : State) (off : Nat) : Bool :=
  if 0x70100 ≤ off && off < 0x70500 then
    let st := s.get (Reg.DMA_CH_STAT.STATE ((off - 0x70100) / 0x40))
    !(st == 1 || st == 2 || st == 3)
  else if 0x200000 ≤ off && off < 0x280000 then !s.flag (Reg.DMC_STAT.UP ((off - 0x200000) / 0x10000))
  else if 0x400000 ≤ off && off < 0x440000 then !s.flag (Reg.NFC_CH_STAT.UP ((off - 0x400000) / 0x2000))
  else true

/-- The unit in CODE of an event about a register: its block has no number of its own. -/
def State.locked (s : State) : State := s.record Ev.CFG_LOCKED wide []

/-- A write to one field under its access type, range and change class (R10, R16). A value outside a field's range is ignored and the field
keeps its value; of the fields of CPX_FW_CFG and EVR_ROUTE_SEL no rule says so (DESIGN CHOICE; log entry 105). -/
def State.writeField (s : State) (off : Nat) (f : FieldDef) (v : Nat) : State :=
  let fld : Fld := ⟨off, f.lo, f.w⟩
  match f.acc with
  | .rw1c => s.put fld ((List.range f.w).foldl (fun acc i => if bitOf v i then clearBitOf acc i else acc) (s.get fld))
  | .rw =>
    if v < f.least || f.most < v then s
    else match f.chg with
      | .boundary => { s with shadows := NMap.insert s.shadows fld.key v }
      | .idle => if s.blockIdle off then s.put fld v else s.locked
      | _ => s.put fld v
  | _ => s

/-- A write that would leave a pair of DRP_MODEL fields out of order is ignored in full (R153). -/
def State.pairRefused (s : State) (off v : Nat) : Bool :=
  let keep (f : Fld) (lo hi : Nat) : Nat :=
    let x := bitsOf v f.lo f.w
    if lo ≤ x && x ≤ hi then x else s.get f
  if off == 0x300030 then decide (keep Reg.DRP_MODEL_P.P_FULL 1 1023 ≤ keep Reg.DRP_MODEL_P.P_BASE 0 1022)
  else if off == 0x300034 then decide (keep Reg.DRP_MODEL_T.T_MAX 1000 8000 ≤ keep Reg.DRP_MODEL_T.T_FIX 100 4000)
  else false

/-- A denied or narrow write is recorded (R14, R15). -/
def State.accessDenied (s : State) : State := s.record Ev.ACCESS_DENIED wide []

/-- A write reaches the register file: each entitled field on its own. -/
def State.writeFields (s : State) (off v : Nat) (fs : List FieldDef) : State :=
  if s.pairRefused off v then s
  else s.each fs fun s f => s.writeField off f (bitsOf v f.lo f.w)

/-- What a write can do (R12, R14, R15): nothing at an undefined offset, a denial, or a write of some fields. -/
inductive WriteCheck where
  | ignored
  | denied
  | allowed (fs : List FieldDef)
  deriving DecidableEq, Repr

/-- Judge a write. -/
def State.checkWrite (s : State) (r : Req) (off size : Nat) : WriteCheck :=
  match regAt r (off / 4 * 4) with
  | none => .ignored
  | some d =>
    let fs := s.visible r d
    if size != 4 || off % 4 != 0 || fs.isEmpty then .denied else .allowed fs

end Sys2Proof.Machine
end

