-- ==== Sys2Proof/Machine/Cores.lean ====
section
/-! DEFINITION. The memory fence (R28–R30, R533–R536), the DMA channels as other blocks see them (R698–R703), the end of a
training session (R419) and the stop of the runtime firmware (R530–R532). -/

namespace Sys2Proof.Machine

open Host

/-! ## Fabric addresses (R533) -/

/-- Application SRAM: first address and size. -/
def sramBase : Nat := 0x10000000
def sramSize : Nat := 0xC00000

/-- The register space and the CPX private page. -/
def regBase : Nat := 0x40000000
def cpxBase : Nat := 0xE0000000

/-- Device memory. -/
def memBase : Nat := 0x80000000000

/-- The whole of `n` bytes from `a` lies in a range. -/
def within (a n base size : Nat) : Bool := decide (base ≤ a) && decide (a + n ≤ base + size)

/-- The requesters of the fence: an application core, or a DMA channel. -/
inductive Fencer where
  | core (k : Fin 4)
  | dma (ch : Nat)
  deriving DecidableEq, Repr

/-- A requester's number in CPX_VIOL_INFO (R545). -/
def Fencer.num : Fencer → Nat
  | .core k => k
  | .dma _ => 4

/-- The code of a kind of access (R545). -/
def kindCode : AccessKind → Nat
  | .read => 0
  | .write => 1
  | .execute => 2

/-- Window `n` covers an access whole, names its requester and grants its kind (R534). -/
def State.windowGrants (s : State) (n : Nat) (who : Fencer) (kind : AccessKind) (a len : Nat) : Bool :=
  s.flag (Reg.CPX_WIN_ATTR.EN n) &&
    within a len (s.get (Reg.CPX_WIN_BASE.BASE_4K n) * 4096) (s.get (Reg.CPX_WIN_SIZE.SIZE_4K n) * 4096) &&
    (match who with
      | .core k => bitOf (s.get (Reg.CPX_WIN_ATTR.AC n)) k
      | .dma _ => s.flag (Reg.CPX_WIN_ATTR.DMA n)) &&
    (match kind with
      | .read => s.flag (Reg.CPX_WIN_ATTR.R n)
      | .write => s.flag (Reg.CPX_WIN_ATTR.W n)
      | .execute => s.flag (Reg.CPX_WIN_ATTR.X n))

/-- What is denied whatever the windows grant (R29, R534). -/
def State.neverGranted (s : State) (kind : AccessKind) (a len : Nat) : Bool :=
  if memBase ≤ a then kind == .write || decide (s.mappable * 2 ^ 28 < a + len - memBase)
  else if within a len regBase 0x1000000 then
    match regAt .fw ((a - regBase) / 4 * 4) with
    | none => false
    | some d => (s.visible .fw d).isEmpty
  else if within a len cpxBase 0x1000 then !(within a len (cpxBase + 0x10) 4 && kind == .write)
  else false

/-- The fence grants an access (R28, R534). -/
def State.fenceGrants (s : State) (who : Fencer) (kind : AccessKind) (a len : Nat) : Bool :=
  (List.range 16).any (fun n => s.windowGrants n who kind a len) && !s.neverGranted kind a len

/-! ## DMA channels -/

/-- The state of a channel (R704). -/
def State.dmaState (s : State) (n : Nat) : Nat := s.get (Reg.DMA_CH_STAT.STATE n)

/-- A channel goes to HALTED with a cause (R698, R700, R701). -/
def State.dmaHalt (s : State) (n cause : Nat) : State :=
  { s.putAll [(Reg.DMA_CH_STAT.STATE n, 6), (Reg.DMA_CH_STAT.CAUSE n, cause)] with
    dma := { s.dma with jobs := NMap.erase s.dma.jobs n } }

/-- A channel goes to ERROR and records it (R702, R703, R705); its fault is active until the channel leaves ERROR (R51). -/
def State.dmaError (s : State) (n kind : Nat) (write desc : Bool) (addr : Option Nat) : State :=
  let s := s.putAll [
    (Reg.DMA_CH_STAT.STATE n, 7), (Reg.DMA_CH_STAT.CAUSE n, 0), (Reg.DMA_CH_ERR_INFO.KIND n, kind),
    (Reg.DMA_CH_ERR_INFO.DIR n, ofBool write), (Reg.DMA_CH_ERR_INFO.DESC_FETCH n, ofBool desc)]
  let s := match addr with
    | none => s
    | some a => s.putPair (Reg.DMA_CH_ERR_ADDR_LO.ADDR n) (Reg.DMA_CH_ERR_ADDR_HI.ADDR n) a
  let a := s.pair (Reg.DMA_CH_ERR_ADDR_LO.ADDR n) (Reg.DMA_CH_ERR_ADDR_HI.ADDR n)
  let s := { s with dma := { s.dma with jobs := NMap.erase s.dma.jobs n } }
  (s.record Ev.DMA_ERROR n [(1, kind), (1, ofBool write), (6, a)]).raiseFault (dmaUnit n) Ev.DMA_ERROR.sev

/-- At t_F every RUNNING or PAUSED channel enters FOG_PAUSED after its burst (R700). -/
def State.dmaFogPause (s : State) : State :=
  s.each (List.range 16) fun s n =>
    if s.dmaState n == 1 || s.dmaState n == 2 then s.put (Reg.DMA_CH_STAT.STATE n) 3 else s

/-- At a firmware stop for another cause every RUNNING or PAUSED channel halts with FW_STOP (R700). -/
def State.dmaFwStop (s : State) : State :=
  s.each (List.range 16) fun s n => if s.dmaState n == 1 || s.dmaState n == 2 then s.dmaHalt n 2 else s

/-! ## Runtime firmware -/

namespace FwCause
def crash : Nat := 1
def watchdog : Nat := 2
def reload : Nat := 3
def fence : Nat := 4
def foghorn : Nat := 5
end FwCause

/-- Runtime firmware runs, or its cores are released and not yet ready (R528). -/
def State.fwAlive (s : State) : Bool := s.ready Reg.GLB_READY.FW_RUN || s.cpx.released

/-- End the commands that the firmware was executing with ABORTED (R531). -/
def State.abortFwCommands (s : State) : State :=
  let l := s.cpx.executing
  State.each { s with cpx := { s.cpx with executing := [] } } l fun s e => s.complete e.1 e.2 Status.aborted.code []

/-- Every window but the code region closes (R531). -/
def State.closeWindows (s : State) : State := s.each (List.range 15) fun s n => s.put (Reg.CPX_WIN_ATTR.EN (n + 1)) 0

/-- The firmware stops (R31, R530, R531). -/
def State.stopFw (s : State) (cause : Nat) : State :=
  if !s.fwAlive then s
  else
    let s := { s.setReady Reg.GLB_READY.FW_RUN false with cpx := { s.cpx with released := false } }
    let s := (s.putAll [(Reg.CPX_FW_STAT.STATE, 4), (Reg.CPX_FW_STAT.LAST_CAUSE, cause), (Reg.CPX_FW_VER.VERSION, 0)]).count
      Reg.CPX_FW_STAT.STOPS 1
    let s := s.record Ev.FW_STOP wide [(1, cause)]
    let s := if cause == FwCause.foghorn then s else s.dmaFwStop
    (s.abandonSession (if cause == FwCause.foghorn then 4 else 5)).abortFwCommands.closeWindows

/-- A 4 KiB-aligned window (R535). -/
def State.openWindow (s : State) (n base size ac : Nat) (dma x w r : Bool) : State :=
  s.putAll [
    (Reg.CPX_WIN_BASE.BASE_4K n, base / 4096), (Reg.CPX_WIN_SIZE.SIZE_4K n, size / 4096), (Reg.CPX_WIN_ATTR.EN n, 1),
    (Reg.CPX_WIN_ATTR.X n, ofBool x), (Reg.CPX_WIN_ATTR.W n, ofBool w), (Reg.CPX_WIN_ATTR.R n, ofBool r),
    (Reg.CPX_WIN_ATTR.DMA n, ofBool dma), (Reg.CPX_WIN_ATTR.AC n, ac)]

/-- The Keeper opens the start windows, sets the number of the last accepted figure to 0 and releases the cores at ENTRY (R528,
R535, R646). -/
def State.releaseFw (s : State) : State :=
  let code := s.cpx.codeLen
  let s := s.openWindow 0 (sramBase + 4096) code 15 false true false true
  let s := s.openWindow 1 (sramBase + 4096 + code) (sramSize - 4096 - code) 15 true false true true
  let s := s.openWindow 2 regBase 0x1000000 15 true false true true
  let s := s.openWindow 3 cpxBase 4096 15 false false true false
  { s.putAll [(Reg.CPX_FW_STAT.STATE, 3), (Reg.CPX_FW_VER.VERSION, s.cpx.version), (Reg.RSV_FIG.SEQ_LO, 0)] with
    cpx := { s.cpx with released := true, denials := 0 }, rsv := { s.rsv with seq := 0 } }

/-- The code region in application SRAM still hashes, with the rest of the body as received, to BODY_HASH (R532). -/
def State.codeIntact (s : State) : Bool :=
  Config.sha384 (dramRead s.cpx.ram 4096 s.cpx.codeLen ++ s.cpx.rest) == s.cpx.hash

/-- After CRASH or WATCHDOG the same image restarts where fewer than RESTART_MAX restarts have taken place in the last hour and its
code is intact (R532). -/
def State.restartFw (s : State) : State :=
  if s.fogged || decide (s.get Reg.CPX_FW_CFG.RESTART_MAX ≤ s.get Reg.CPX_FW_STAT.RESTARTS) || !s.codeIntact then s
  else ({ s with cpx := { s.cpx with fwRestarts := 0 :: s.cpx.fwRestarts } }.count Reg.CPX_FW_STAT.RESTARTS 1).releaseFw

/-- A denial (R30, R530, R545): counted, the first one latched, recorded; more than FENCE_LIMIT in a second stop the
firmware. -/
def State.fenceDenied (s : State) (who : Fencer) (kind : AccessKind) (a : Nat) : State :=
  let s := s.count Reg.CPX_VIOL_CNT.DENIALS 1
  let ch := match who with
    | .core _ => 0
    | .dma c => c
  let s :=
    if s.flag Reg.CPX_VIOL_INFO.VALID then s
    else (s.putAll [
      (Reg.CPX_VIOL_INFO.VALID, 1), (Reg.CPX_VIOL_INFO.REQ, who.num), (Reg.CPX_VIOL_INFO.KIND, kindCode kind),
      (Reg.CPX_VIOL_INFO.DMA_CH, ch)]).putPair Reg.CPX_VIOL_ADDR_LO.ADDR_LO Reg.CPX_VIOL_ADDR_HI.ADDR_HI a
  let s := s.record Ev.FENCE_VIOLATION wide [(6, a), (1, kindCode kind), (1, who.num)]
  let s := { s with cpx := { s.cpx with denials := s.cpx.denials + 1 } }
  if s.get Reg.CPX_FW_CFG.FENCE_LIMIT < s.cpx.denials then s.stopFw FwCause.fence else s

/-! ## DMA descriptors (R684–R686, R703) -/

/-- The eight words of a descriptor at an SRAM address. -/
def State.descriptor (s : State) (a : Nat) : List Nat := wordsOf 8 (dramRead s.cpx.ram (a - sramBase) 32)

/-- Bytes of an element (R685). -/
def widthOf (ctrl : Nat) : Nat := 2 ^ bitsOf ctrl 25 2

/-- Bytes of a swap unit (R685). -/
def swapOf (ctrl : Nat) : Nat := 2 ^ bitsOf ctrl 29 2

/-- An address lies in the register space. -/
def inRegs (a : Nat) : Bool := decide (regBase ≤ a) && decide (a < regBase + 0x1000000)

/-- A descriptor is in error (R683, R686). -/
def badDescriptor (w : List Nat) : Bool :=
  let at' (i : Nat) : Nat := w.getD i 0
  let src := at' 0 + 2 ^ 32 * at' 1
  let dst := at' 2 + 2 ^ 32 * at' 3
  let n := at' 4
  let c := at' 5
  let width := widthOf c
  n == 0 || decide (2 ^ 24 ≤ n) || n % width != 0 || n % swapOf c != 0 || (bitOf c 28 && src % width != 0) ||
    (bitOf c 27 && dst % width != 0) || (inRegs src && (width != 4 || src % 4 != 0)) ||
    (inRegs dst && (width != 4 || dst % 4 != 0)) || decide (2 ^ 44 ≤ src) || decide (2 ^ 44 ≤ dst) || bitOf c 18 ||
    c % 4096 != 0 || at' 7 != 0 || at' 6 % 32 != 0

/-- Another channel in RUNNING or PAUSED uses a request line (R690). -/
def State.lineUsed (s : State) (n line : Nat) : Bool :=
  (List.range 16).any fun k => k != n && (s.dmaState k == 1 || s.dmaState k == 2) &&
    match NMap.find? s.dma.jobs k with
    | some j => bitOf j.ctrl 19 && bitsOf j.ctrl 12 6 == line
    | none => false

/-- A channel fetches the descriptor at an address (R684–R686, R690, R703) and is RUNNING with it. A descriptor lies in
application SRAM, 32-byte aligned. -/
def State.dmaFetch (s : State) (n a : Nat) (drain : Bool) : State :=
  let s := s.put (Reg.DMA_CH_DESC.ADDR n) a
  if !s.fenceGrants (.dma n) .read a 32 then
    (s.fenceDenied (.dma n) .read a).dmaError n 2 false true (some a)
  else if !within a 32 sramBase sramSize || a % 32 != 0 then s.dmaError n 4 false true (some a)
  else
    let w := s.descriptor a
    let c := w.getD 5 0
    if badDescriptor w then s.dmaError n 4 false true (some a)
    else if bitOf c 19 && s.lineUsed n (bitsOf c 12 6) then s.dmaError n 5 false false none
    else
      let s := s.putPair (Reg.DMA_CH_SRC_LO.SRC n) (Reg.DMA_CH_SRC_HI.SRC n) (w.getD 0 0 + 2 ^ 32 * w.getD 1 0)
      let s := s.putPair (Reg.DMA_CH_DST_LO.DST n) (Reg.DMA_CH_DST_HI.DST n) (w.getD 2 0 + 2 ^ 32 * w.getD 3 0)
      let s := s.putAll [(Reg.DMA_CH_REMAIN.BYTES n, w.getD 4 0), (Reg.DMA_CH_STAT.STATE n, 1), (Reg.DMA_CH_STAT.CAUSE n, 0)]
      { s with dma := { s.dma with jobs := NMap.insert s.dma.jobs n ⟨c, w.getD 6 0, drain⟩ } }

/-- A channel's current descriptor has moved all its bytes (R695, R698). -/
def State.dmaComplete (s : State) (n : Nat) (j : DmaJob) : State :=
  let s := s.count (Reg.DMA_CH_STAT.DESC_DONE n) 1
  let s := if bitOf j.ctrl 31 then (s.put Reg.DMA_DONE.DONE (setBitOf (s.get Reg.DMA_DONE.DONE) n)).emit (.appInterrupt n) else s
  let clear (s : State) (st : Nat) : State :=
    { s.put (Reg.DMA_CH_STAT.STATE n) st with dma := { s.dma with jobs := NMap.erase s.dma.jobs n } }
  if j.drain then clear s 5 else if j.next == 0 then clear s 4 else s.dmaFetch n j.next false

/-! ## Channel operations (R698) -/

/-- DMA_CHn_CTL.OP on a channel (R53, R698): one in FAILED takes no START. -/
def State.dmaOp (s : State) (n op : Nat) : State :=
  let st := s.dmaState n
  match op with
  | 1 =>
    if s.unitFailed (dmaUnit n) then s
    else if st == 0 || st == 4 || st == 5 || st == 6 || st == 7 then
      let s := if st == 7 then s.endFault (dmaUnit n) else s
      ({ s with dma := { s.dma with jobs := NMap.erase s.dma.jobs n } }.putAll [
        (Reg.DMA_CH_STAT.DESC_DONE n, 0), (Reg.DMA_CH_STAT.CAUSE n, 0), (Reg.DMA_CH_ERR_INFO.KIND n, 0),
        (Reg.DMA_CH_ERR_INFO.DIR n, 0), (Reg.DMA_CH_ERR_INFO.DESC_FETCH n, 0)]).dmaFetch n (s.get (Reg.DMA_CH_DESC.ADDR n)) false
    else s
  | 2 => if st == 1 then s.put (Reg.DMA_CH_STAT.STATE n) 2 else s
  | 3 =>
    if st == 2 then s.put (Reg.DMA_CH_STAT.STATE n) 1
    else if st == 3 then
      match NMap.find? s.dma.jobs n with
      | some j => { s.put (Reg.DMA_CH_STAT.STATE n) 1 with dma := { s.dma with jobs := NMap.insert s.dma.jobs n { j with drain := true } } }
      | none => s
    else s
  | 4 =>
    if st == 1 || st == 2 then
      match NMap.find? s.dma.jobs n with
      | some j => { s.put (Reg.DMA_CH_STAT.STATE n) 1 with dma := { s.dma with jobs := NMap.insert s.dma.jobs n { j with drain := true } } }
      | none => s
    else s
  | 5 => if st == 1 || st == 2 || st == 3 then s.dmaHalt n 1 else s
  | _ => s

/-- A write to a register of a requester that is not entitled is denied (R14). The chain has no write to registers (R512). -/
def State.guard (s : State) (req : Req) (v : Vis) (go : State → State) : Res :=
  if req == .chain then s.idle
  else if s.entitled req v then .next (go s) else .next s.accessDenied

/-- DMA_START (R698). -/
def execDmaStart (req : Req) (ch : Fin 16) (s : State) : Res := s.guard req .f fun s => s.dmaOp ch 1

/-- DMA_PAUSE (R698). -/
def execDmaPause (req : Req) (ch : Fin 16) (s : State) : Res := s.guard req .f fun s => s.dmaOp ch 2

/-- DMA_RESUME (R698). -/
def execDmaResume (req : Req) (ch : Fin 16) (s : State) : Res := s.guard req .f fun s => s.dmaOp ch 3

/-- DMA_DRAIN (R698). -/
def execDmaDrain (req : Req) (ch : Fin 16) (s : State) : Res := s.guard req .f fun s => s.dmaOp ch 4

/-- DMA_HALT (R698). -/
def execDmaHalt (req : Req) (ch : Fin 16) (s : State) : Res := s.guard req .f fun s => s.dmaOp ch 5

/-- Software request lines are set (R689). -/
def State.dmaRequest (s : State) (lines : Nat) : State := { s with dma := { s.dma with lines := s.dma.lines ||| lines } }

/-- DMA_SWREQ (R689). -/
def execDmaSwreq (req : Req) (lines : BitVec 32) (s : State) : Res := s.guard req .f fun s => s.dmaRequest lines.toNat

/-! ## Firmware events (R528–R532, R615) -/

/-- FW_READY_SIGNAL (R528, R529): FW_RUN, and the stored floor rises to the image's FLOOR. Record 9 holds the floor. -/
def execFwReadySignal (s : State) : Res :=
  if !s.cpx.released || s.ready Reg.GLB_READY.FW_RUN then s.idle
  else
    let s := { s with cpx := { s.cpx with released := false } }
    let s := s.setReady Reg.GLB_READY.FW_RUN true
    let s := s.record Ev.FW_START wide [(4, s.cpx.version)]
    if s.get Reg.CPX_FW_FLOOR.FLOOR < s.cpx.floor then
      let s := s.put Reg.CPX_FW_FLOOR.FLOOR s.cpx.floor
      .next { s with cmd := { s.cmd with writes := s.cmd.writes ++ [⟨9, .floor s.cpx.floor, none⟩] } }
    else .next s

/-- FW_READY_TIMEOUT (R528, R532): no ready signal 2 s after release. -/
def execFwReadyTimeout (s : State) : Res :=
  if s.cpx.released && !s.ready Reg.GLB_READY.FW_RUN then .next (s.stopFw FwCause.watchdog).restartFw else s.idle

/-- FW_WATCHDOG_EXPIRED (R530, R532). -/
def execFwWatchdogExpired (s : State) : Res :=
  if s.fwAlive then .next (s.stopFw FwCause.watchdog).restartFw else s.idle

/-- FW_CRASH (R530, R532). -/
def execFwCrash (s : State) : Res :=
  if s.fwAlive then .next (s.stopFw FwCause.crash).restartFw else s.idle

/-- CPX_WDT_KICK (R14, R545): a write of any value restarts the watchdog, whose time is no state of the model (log entry 82). -/
def execCpxWdtKick (req : Req) (_value : Word) (s : State) : Res := s.guard req .f id

end Sys2Proof.Machine
end

