-- ==== Sys2Proof/Machine/Drip.lean ====
section
/-! DEFINITION. The Drip engine, epoch boundaries, the Carafe and BEACON (chapters 03 and 04): the meanings of their
events. -/

namespace Sys2Proof.Machine

open Host

/-! ## What Drip takes next (R141) -/

/-- The lowest page of a granule whose bit is set in a mask, that the restore has reached, and that is neither being copied
nor taken by a direct persist. -/
def State.firstPage (s : State) (g mask : Nat) : Option Nat :=
  ((List.range 16).find? fun i => bitOf mask i && s.pageRestored (g * 16 + i) && !s.drp.copying.contains (g * 16 + i) &&
    !s.drp.directs.contains (g * 16 + i)).map (g * 16 + ·)

/-- The first granule, from the rotating pointer upward and then from the bottom, for which `f` names a page. -/
def Drp.scan (d : Drp) (f : Nat → Gran → Option Nat) : Option Nat :=
  let up := d.grans.filter fun e => decide (d.pointer ≤ e.1)
  let down := d.grans.filter fun e => decide (e.1 < d.pointer)
  (up ++ down).findSome? fun e => f e.1 e.2

/-- Class 1 of R141: owed pages that the Carafe holds. -/
def State.class1 (s : State) : Option Nat :=
  s.drp.scan fun g x => if x.st == .staged then s.firstPage g (x.owed &&& x.copied) else none

/-- Class 2 of R141: other owed pages and marked pages of FROZEN granules. -/
def State.class2 (s : State) : Option Nat :=
  s.drp.scan fun g x => match x.st with
    | .frozen => s.firstPage g x.mask
    | .staged => s.firstPage g (x.owed &&& (0xFFFF ^^^ x.copied))
    | .dirty => none

/-- Class 3 of R141: marked pages of the open epoch. -/
def State.class3 (s : State) : Option Nat :=
  s.drp.scan fun g x => if x.st == .frozen then none else s.firstPage g x.mask

/-- A page of class 1 or 2 remains, whether or not Drip may take it now (R141). -/
def Drp.owes (d : Drp) : Bool := d.grans.any fun e => match e.2.st with
  | .frozen => e.2.mask != 0
  | .staged => e.2.owed != 0
  | .dirty => false

/-- The condition of class 3 (R141). -/
def State.cleansEarly (s : State) : Bool :=
  (!s.drp.owes && decide (s.get Reg.DRP_CFG.EARLY_PCT * s.beff ≤ s.drp.saveSet * 100)) || s.get Reg.DRP_ADM.BAND != 0

/-- The next page, with the role its program has (R141, R169): classes 1 and 2 follow the seal record. -/
def State.nextPage (s : State) : Option (Nat × Role) :=
  let one := if s.drp.sealStep == .sealQueued then none else s.class1
  let two := if s.drp.sealStep == .sealQueued then none else s.class2
  match one, two with
  | some p, _ => some (p, .carafe)
  | none, some p => some (p, .sealing)
  | none, none => if s.cleansEarly then s.class3.map fun p => (p, .opened) else none

/-- Drip runs: tracking has started, and the device serves hosts (R50, R143, R213). -/
def State.dripRuns (s : State) : Bool :=
  s.drp.tracking && (s.pstate == PState.RESTORING || s.pstate == PState.UNARMED || s.pstate == PState.ARMED)

/-- Drip may program a flash address: it is one (R302), its channel is up, its LUN is not hot (R147), and its block is neither of the
reserve nor of another owner (R32, R313, R322). -/
def State.dripTarget (s : State) (fa : Nat) : Bool :=
  let x := s.block (faBlock fa)
  s.channelUp (faChannel fa) && s.faValid fa && !s.flash.hot.contains (faLun fa) && x.st != 5 && (x.st != 6 || x.owner == 1)

/-- Clear the bit of a page for the role in which Drip takes it (R118). -/
def Gran.take (x : Gran) (bit : Nat) : Role → Gran
  | .carafe => { x with owed := clearBitOf x.owed bit, copied := clearBitOf x.copied bit }
  | .sealing => if x.st == .frozen then { x with mask := clearBitOf x.mask bit } else { x with owed := clearBitOf x.owed bit }
  | _ => { x with mask := clearBitOf x.mask bit }

/-- Clear a page's bit in its granule. -/
def Drp.takePage (d : Drp) (page : Nat) (r : Role) : Drp :=
  match d.gran (granOf page) with
  | none => d
  | some x => d.setGran (granOf page) (x.take (bitIn page) r)

/-- A granule after one of its pages is persisted (R115): PERSISTED or DIRTY once nothing of it remains. -/
def Drp.settleGran (d : Drp) (g : Nat) : Drp :=
  let busy (r : Role) : Bool := d.progs.any fun p => granOf p.page == g && p.role == r
  match d.gran g with
  | none => d
  | some x => match x.st with
    | .dirty => if x.mask == 0 && !busy .opened then d.dropGran g else d
    | .frozen => if x.mask == 0 && !busy .sealing then d.dropGran g else d
    | .staged =>
      if x.owed == 0 && !busy .sealing && !busy .carafe then
        if x.mask == 0 && !busy .opened then d.dropGran g else d.setGran g ⟨.dirty, x.mask, 0, 0⟩
      else d

/-- The epoch whose record a program becomes (R142, R173). -/
def State.joinEpoch (s : State) (role : Role) (page lsn : Nat) : State :=
  match role with
  | .sealing | .carafe => { s with flash := { s.flash with
    sealRecs := newest s.flash.sealRecs page lsn, sealOld := withOld s.flash.sealRecs page lsn s.flash.sealOld } }
  | _ => { s with flash := { s.flash with
    openRecs := newest s.flash.openRecs page lsn, openOld := withOld s.flash.openRecs page lsn s.flash.openOld } }

/-! ## Wear and rates (R143, R148, R149, R159) -/

/-- The bucket fills at AVG_RATE for `us` µs, up to its depth (R148, R149). -/
def State.fillWear (s : State) (us : Nat) : State :=
  { s with drp := { s.drp with credit := min s.wearDepth (s.drp.credit + s.get Reg.DRP_WEAR_CFG.AVG_RATE * 250 * us), fillUs := s.drp.fillUs - us } }

/-- Time has passed since the bucket was last looked at: a free part of what is left of the ten minutes (log entry 7). -/
def State.wearTime (s : State) : State := (s.fillWear (s.free % (s.drp.fillUs + 1))).tick

/-- Charge bytes to the bucket: the credit stops at 0, or at minus the depth while OVER_CAP is set (R149, R151, R179). -/
def State.chargeWear (s : State) (bytes : Int) : State :=
  let s := s.wearTime
  let c := s.drp.credit
  let least := if s.flag Reg.DRP_BUDGET.OVER_CAP then -s.wearDepth else min c 0
  { s with drp := { s.drp with credit := max (c - bytes) least } }.showWear

/-- What a seal or commit record charges to the bucket (R151): the payload of both of its copies (R325). The manual gives no figure
(DESIGN CHOICE; log entry 94). -/
def recordBytes : Int := 8192

/-- K pages of tokens in 65,536ths, rounded down (R133; log entry 86): K is 1 + 5 × (1 − S / B_eff). -/
def State.kTokens (s : State) : Nat := if s.beff == 0 then 0 else 65536 * (6 * s.beff - 5 * s.drp.saveSet) / s.beff

/-- What a persisted page allows: a token refill of K in Paced (R133; log entry 86), one waiting write in Held (R134). In Held the
model keeps the allowance while no write waits, for a write that arrives before the band changes (DESIGN CHOICE; log entry 95). -/
def State.allowOne (s : State) : State :=
  match s.get Reg.DRP_ADM.BAND with
  | 1 =>
    let t := s.drp.tokenPart + s.kTokens
    let n := s.drp.tokens + t / 65536
    { s with drp := { s.drp with tokens := min n 256, tokenPart := if 256 ≤ n then 0 else t % 65536 } }
  | 2 => { s with drp := { s.drp with heldCredit := s.drp.heldCredit + 1 } }
  | _ => s

/-! ## Admission -/

/-- WAITING_WRITE_ADMITTED (R132–R135): the write whose turn it is enters as S falls in Held, or in Paced with what a page persisted in
Held has left it, or with a token. -/
def execWaitingWriteAdmitted (s : State) : Res :=
  match s.nextWaiter with
  | none => s.idle
  | some r =>
    if s.flag Reg.DRP_ADM.STALL then s.idle
    else if s.get Reg.DRP_ADM.BAND == 2 then
      if s.drp.heldCredit == 0 then s.idle
      else .next ({ s with drp := { s.drp with heldCredit := s.drp.heldCredit - 1 } }.admitWaiter r).settle
    else if s.get Reg.DRP_ADM.BAND == 1 then
      if s.drp.heldCredit != 0 then .next ({ s with drp := { s.drp with heldCredit := s.drp.heldCredit - 1 } }.admitWaiter r).settle
      else if s.drp.tokens == 0 then s.idle
      else .next ({ s with drp := { s.drp with tokens := s.drp.tokens - 1 } }.admitWaiter r).settle
    else .next (s.admitWaiter r).settle

/-- The oldest write that waits for admission. -/
def State.oldestWaiter (s : State) : Option HostReq :=
  s.waiters.foldl (fun (acc : Option HostReq) r => match acc with
    | none => some r
    | some a => if r.id < a.id then some r else some a) none

/-- ADMISSION_TIMEOUT (R136, R138): a write that has waited 2 ms enters, within the budget in Paced and as an overrun in Held. -/
def execAdmissionTimeout (s : State) : Res :=
  match s.oldestWaiter with
  | none => s.idle
  | some r =>
    if s.flag Reg.DRP_ADM.STALL then s.idle
    else
      let s := if s.get Reg.DRP_ADM.BAND == 2 then
          (s.count Reg.DRP_ADM_OVR_CNT.OVR_CNT 1).record Ev.ADMISSION_OVERRUN wide []
        else s
      .next (s.admitWaiter r).settle

/-! ## Reads of a page for a program -/

/-- The lines of a page among those that a read has found with errors. -/
def linesOf (page : Nat) (lines : List Nat) : List Nat := lines.filter fun l => l / 64 == page

/-- The address that a page's record is read from: the page's own, or its Carafe slot's (R178, R221). -/
def State.sourceOf (s : State) (page : Nat) (role : Role) : Nat := if role == .carafe then s.slotAddress page else page * 4096

/-- The contents of a page that a program takes, after its read (R105, R145, R224): from its Carafe slot, in which a line that
cannot be read is poisoned, or from DRAM, where the DMC has poisoned it. -/
def State.contents (s : State) (page : Nat) (role : Role) (uncorrectable : List Nat) : PageImage :=
  match role with
  | .carafe =>
    let failed := (List.range 64).filter fun i => s.lineFailed (s.slotAddress page / 64 + i)
    ((NMap.find? s.drp.slots page).getD (s.pageImage page)).poisonLines (linesOf page uncorrectable ++ failed)
  | _ => s.pageImage page

/-- The read itself, of the page or of its Carafe slot: the DMC handles the lines of device memory that it finds with errors (R145, R358,
R378, R381). -/
def State.readForProgram (s : State) (id page : Nat) (role : Role) (errors : LineErrors) : State :=
  let s := s.sideTable page
  let a := s.sourceOf page role
  let at' (l : List Nat) : List Nat := (linesOf page l).map fun l => a / 64 + l % 64
  (s.readErrors (at' errors.corrected) (at' errors.uncorrectable)).accessPage a id false false

/-! ## Carafe -/

/-- Perform waiting writes in turn: each waits until its turn comes (R98). -/
def State.performAll (s : State) (l : List HostReq) : State := s.each l fun s r => (s.unwait r.id).store r

/-- Perform the writes that wait at a stage for a page. -/
def State.performAt (s : State) (stage : Stage) (page : Nat) : State := s.performAll (s.atPage stage page)

/-- The logical device whose write caused the copy of a page: that of the oldest write that waits for it (R177). -/
def State.copyFor (s : State) (page : Nat) : Nat :=
  match s.atPage .copy page with
  | r :: _ => r.ld
  | [] => 0

/-- COPY_BEFORE_WRITE_DONE (R177, R178, R182, R358): the slot holds the page, read and written with the page hint of the logical device
whose write caused the copy, its copied bit is set, and the waiting writes are performed. -/
def execCopyBeforeWriteDone (page : Nat) (errors : LineErrors) (s : State) : Res :=
  if !s.drp.copying.contains page then s.idle
  else
    let s := s.readErrors (linesOf page errors.corrected) (linesOf page errors.uncorrectable)
    let image := s.pageImage page
    let ld := s.copyFor page
    let s := ((s.accessPage (page * 4096) ld true false).accessPage (s.slotAddress page) ld true true).cleanPage (s.slotAddress page / 4096)
    let d := { s.drp with copying := s.drp.copying.filter (· != page), slots := NMap.insert s.drp.slots page image }
    let d := match d.gran (granOf page) with
      | none => d
      | some x => d.setGran (granOf page) { x with copied := setBitOf x.copied (bitIn page) }
    let s := { s with drp := d }
    let s := (s.put Reg.DRP_CAR_USED.SLOTS s.slotsUsed).raiseFree Reg.DRP_CAR_MAXWAIT.MAX_WAIT_NS
    .next (s.performAt .copy page).settle

/-- DIRECT_PERSIST_DONE (R48, R179): the owed page has been read from DRAM, in the class of the copies, and persisted, and its waiting
writes are performed. -/
def execDirectPersistDone (page : Nat) (fa : Nat) (errors : LineErrors) (s : State) : Res :=
  if !s.drp.directs.contains page || !s.dripTarget fa then s.idle
  else if !s.inOrder fa then .next (s.refuseOrder fa)
  else
    let s := s.readErrors (linesOf page errors.corrected) (linesOf page errors.uncorrectable)
    let s := s.accessPage (page * 4096) reqDrip true false
    let lsn := s.flash.nextLsn
    let s := ((s.newLsn.putRecord lsn page fa (s.pageImage page)).openAt fa 1).joinEpoch .sealing page lsn
    let d := { s.drp with directs := s.drp.directs.filter (· != page) }
    let s := { s with drp := (d.takePage page .sealing).settleGran (granOf page) }
    let s := ((s.chargeWear 4096).allowOne).raiseFree Reg.DRP_CAR_MAXWAIT.MAX_WAIT_NS
    .next (s.performAt .direct page).settle

/-- Abandonment with copies and direct persists in progress (R180, R184): every waiting write is performed without a copy, and
its wait counts (R203). -/
def State.abandonCopies (s : State) (cause : Nat) : State :=
  let waiting := s.hif.reqs.filter fun (r : HostReq) => r.stage == Stage.copy || r.stage == Stage.direct
  let s := if waiting.isEmpty then s else s.raiseFree Reg.DRP_CAR_MAXWAIT.MAX_WAIT_NS
  (s.performAll waiting).abandonSeal cause

/-- The abandonment with the boundary that is then due (R101, R166, R174). -/
def State.abandonNow (s : State) (cause : Nat) : State := (s.abandonCopies cause).takeDeferred.settle

/-- CARAFE_WAIT_EXPIRED (R172, R180). -/
def execCarafeWaitExpired (s : State) : Res :=
  if s.drp.sealEpoch != 0 && s.hif.reqs.any (fun (r : HostReq) => r.stage == Stage.copy || r.stage == Stage.direct) then
    .next (s.abandonNow 3)
  else s.idle

/-! ## Errors of the tracking structures (R113) -/

/-- The unit number of the DRP (R22, R51). -/
def drpUnit : Nat := 5

/-- TRACK_UE: the sealing epoch is abandoned and the 32 granules of the word become DIRTY with every bit set; a boundary that is
due is taken only then, so that it freezes them. -/
def execTrackUe (word : Nat) (s : State) : Res :=
  if !s.drp.tracking || decide (s.pop.dramGiB * 512 ≤ word) then s.idle
  else
    let s := s.strike drpUnit Ev.TRACK_UE.sev
    let s := if s.drp.sealEpoch == 0 then s else s.abandonCopies 2
    let d := (List.range 32).foldl (fun d i => Drp.setGran d (word * 32 + i) ⟨.dirty, 0xFFFF, 0, 0⟩) s.drp
    let s := ({ s with drp := d }.count Reg.DRP_TRK_ERR.TRK_UE 1).record Ev.TRACK_UE wide []
    .next s.takeDeferred.settle

/-- A mask read as all ones, in the role its granule's state gives it. -/
def Drp.fillMask (d : Drp) (g : Nat) : Drp :=
  match d.gran g with
  | none => d
  | some x => d.setGran g { x with mask := 0xFFFF }

/-- MASK_UE: each mask of the line's 32 granules that is in use is set to all ones. -/
def execMaskUe (line : Nat) (s : State) : Res :=
  if !s.drp.tracking || decide (s.pop.dramGiB * 512 ≤ line) then s.idle
  else
    let s := s.strike drpUnit Ev.MASK_UE.sev
    let d := (List.range 32).foldl (fun d i => Drp.fillMask d (line * 32 + i)) s.drp
    .next (({ s with drp := d }.count Reg.DRP_TRK_ERR.MASK_UE 1).record Ev.MASK_UE wide []).settle

/-! ## Drip programs -/

/-- DRIP_PAGE_READ (R118, R141, R145, R147): Drip clears the bit of its next page, reads the page and issues its program,
as one step. -/
def execDripPageRead (fa : Nat) (errors : LineErrors) (s : State) : Res :=
  if !s.dripRuns || !s.dripTarget fa then s.idle
  else match s.nextPage with
    | none => s.idle
    | some (page, role) =>
      if !s.inOrder fa then .next (s.refuseOrder fa)
      else
        let s := s.readForProgram reqDrip page role errors
        let image := s.contents page role errors.uncorrectable
        let lsn := s.flash.nextLsn
        let d := s.drp.takePage page role
        let d := { d with progs := d.progs ++ [⟨page, role, lsn, fa, image, [], false⟩], pointer := granOf page }
        .next (({ s with drp := d }.newLsn).openAt fa 1)

/-- A Drip program passes (R117): the record joins its epoch and the page is persisted. -/
def State.dripPassed (s : State) (p : DripProg) (rest : List DripProg) : State :=
  let s := (s.putRecord p.lsn p.page p.fa p.image).joinEpoch p.role p.page p.lsn
  let d := { s.drp with progs := rest }
  let d := if p.role == .carafe then { d with slots := NMap.erase d.slots p.page, slotNo := NMap.erase d.slotNo p.page } else d
  let s := { s with drp := d.settleGran (granOf p.page) }
  let s := s.each p.failed fun s c => s.endFault (nfcUnit c)
  (s.put Reg.DRP_CAR_USED.SLOTS s.slotsUsed).putFree Reg.DRP_RATE.CLEAN_RATE

/-- A page has been written by the save in progress (R253, R254). -/
def State.savedPage (s : State) : State :=
  let s := { s with sav := { s.sav with pages := s.sav.pages + 1 } }
  (s.put Reg.SAV_PROGRESS.PAGES s.sav.pages).useReserve 1 0

/-- DRIP_PROGRAM_PASS (R117, R120, R122, R131, R134, R139, R151, R223): the page leaves the save set; where SAV has programmed it, it
counts for the save and not for the wear governor. -/
def execDripProgramPass (page : Nat) (s : State) : Res :=
  match takeFirst (fun p => p.page == page) s.drp.progs with
  | none => s.idle
  | some (p, rest) =>
    let s := s.dripPassed p rest
    .next (if p.bySav then s.savedPage else (s.chargeWear 4096).allowOne).settle

/-- WEAR_CREDIT_WRITE (R148, R150, R655): ten minutes have passed, so what they add to the bucket has been added (log entry 7), and
the credit is written into the learned values record (record 12). -/
def execWearCreditWrite (s : State) : Res :=
  if !s.ready Reg.GLB_READY.KEEPER_UP || s.saving then s.idle
  else
    let s := s.fillWear s.drp.fillUs
    .next { s with drp := { s.drp with fillUs := 600000000 } }.showWear.writeLearned

/-- BOUNDARY_DUE (R166, R168): PERIOD_MS has passed since the previous boundary, under local timing. -/
def execBoundaryDue (s : State) : Res :=
  if s.epochsRun && s.localTiming then .next s.boundaryDue.settle else s.idle

/-- SEAL_RECORD_PASSED (R151, R169, R171, R325, R328): both copies of the seal record have passed. Drip turns to the owed
pages; with none the index segment is queued. -/
def execSealRecordPassed (s : State) : Res :=
  if s.drp.sealEpoch != 0 && s.drp.sealStep == .sealQueued && !s.saving then
    s.ringProgram (fun _ => true) fun fa fb s =>
      let s := s.addSeal fa fb
      .next ({ s with drp := { s.drp with sealStep := .persisting } }.chargeWear recordBytes).advanceSeal
  else s.idle

/-- INDEX_SEGMENT_PASSED (R169, R332): its codewords have passed, and the commit record is queued. -/
def execIndexSegmentPassed (s : State) : Res :=
  if s.drp.sealEpoch != 0 && s.drp.sealStep == .indexQueued && !s.saving then
    s.indexProgram s.segmentKeys.length fun fas s =>
      let s := s.putSegment fas
      .next { s with drp := { s.drp with sealStep := .commitQueued } }
  else s.idle

/-- EPOCH_DURABLE (R151, R169, R170): the commit record passes; the register, the releases, the barriers, then a deferred boundary. -/
def execEpochDurable (s : State) : Res :=
  if s.drp.sealEpoch != 0 && s.drp.sealStep == .commitQueued && !s.saving then
    s.ringProgram (fun _ => true) fun fa fb s =>
      let n := s.drp.sealEpoch
      let s := (((s.sealDurable fa fb).chargeWear recordBytes).completeBarriers n).freeSanitized
      .next s.takeDeferred.settle
  else s.idle

/-! ## BEACON (R185–R198) -/

/-- A frame declares lock or is accepted: its boundary waits for DELAY (R186, R188, R189). -/
def State.acceptFrame (s : State) (n : Nat) : State :=
  { s.put Reg.DRP_BCN_STAT.MISS_RUN 0 with drp := { s.drp with bcnExpected := n, bcnFromFrame := true, bcnAccepted := some n } }

/-- The error count of a valid frame that does not count toward lock (R204): outside the window, which the last valid frame anchors (R187),
or out of order after a reference frame. The register table names
an expected number, which an unlocked sled does not have: the model takes the previous number plus 1 for it, so that an in-window
frame that carries this number, but no number above every one used, is counted in no field (DESIGN CHOICE; log entry 99). -/
def State.frameError (s : State) (n : Nat) (inWindow : Bool) : State :=
  if !inWindow then (if s.drp.bcnSeen then s.count Reg.DRP_BCN_ERR.WIN_ERR 1 else s)
  else if s.drp.bcnRef != 0 && n != s.drp.bcnRef + 1 then s.count Reg.DRP_BCN_ERR.SEQ_ERR 1
  else s

/-- A valid frame while the sled is not locked (R188). The numbers used are known once the images have been judged (R71). -/
def State.frameUnlocked (s : State) (n : Nat) (inWindow : Bool) : State :=
  let good := s.drp.bcnRef != 0 && inWindow && n == s.drp.bcnRef + 1 && s.ready Reg.GLB_READY.IMAGE_INDEXED && decide (s.drp.maxUsed < n)
  let s := if good then s else (s.frameError n inWindow).put Reg.DRP_BCN_STAT.GOOD_RUN 0
  let s := { s with drp := { s.drp with bcnSeen := true, bcnRef := n } }
  if !good then s
  else
    let run := s.get Reg.DRP_BCN_STAT.GOOD_RUN + 1
    let s := s.put Reg.DRP_BCN_STAT.GOOD_RUN run
    if run < 3 then s
    else
      let s := (s.put Reg.DRP_BCN_STAT.LOCK 1).setReady Reg.GLB_READY.BEACON_LOCK true
      { s with drp := { s.drp with deferred := false } }.showEpochs.acceptFrame n

/-- A valid frame while the sled is locked (R189). -/
def State.frameLocked (s : State) (n : Nat) (inWindow : Bool) : State :=
  if !inWindow then s.count Reg.DRP_BCN_ERR.WIN_ERR 1
  else if n == s.drp.bcnExpected + 1 then s.acceptFrame n
  else s.count Reg.DRP_BCN_ERR.SEQ_ERR 1

/-- A valid frame is judged (R188, R189, R204). Under LOCAL timing no lock is sought, and only the errors are counted. -/
def State.validFrame (s : State) (n : Nat) (inWindow : Bool) : State :=
  let s := s.putPair Reg.DRP_BCN_LAST_LO.NUM_LO Reg.DRP_BCN_LAST_HI.NUM_HI n
  if s.ready Reg.GLB_READY.BEACON_LOCK then s.frameLocked n inWindow
  else if s.get Reg.DRP_BND_CFG.TIMING == 0 then
    let s := s.frameError n inWindow
    { s with drp := { s.drp with bcnSeen := true, bcnRef := n } }
  else s.frameUnlocked n inWindow

/-- An edge on BEACON_IN shows in ACTIVITY (R754), which the evaluation of every second takes away where no further edge has come (DESIGN
CHOICE; log entry 143). -/
def State.beaconEdge (s : State) : State := { s.put Reg.NCH_BCN_STAT.ACTIVITY 1 with twi := { s.twi with edges := true } }

/-- The CRC of a frame with an epoch number (R185). -/
def frameCrc (n : Nat) : Nat := crc8 48 n

/-- BEACON_FRAME (R168, R185–R189, R750, R751): repeated toward BEACON_OUT unless the sled is the source. Once the BEACON port runs it
is judged until t_F. A frame with a code violation is counted in CODE_ERR also after t_F, when frames are ignored (DESIGN CHOICE; log
entry 99). -/
def execBeaconFrame (number : BitVec 48) (crc : BitVec 8) (valid : Bool) (inWindow : Bool) (s : State) : Res :=
  if !s.powered then s.idle
  else if s.get Reg.DRP_BND_CFG.TIMING == 2 then .next s.beaconEdge
  else
    let s := s.beaconEdge.emit (.beacon number.toNat crc.toNat valid)
    if !s.ready Reg.GLB_READY.SIDEBAND_UP then .next s
    else if !valid then .next (s.count Reg.NCH_BCN_STAT.CODE_ERR 1)
    else if s.fogged then .next s
    else if crc.toNat != frameCrc number.toNat then .next (s.count Reg.DRP_BCN_ERR.CRC_ERR 1)
    else .next (s.validFrame number.toNat inWindow)

/-- BEACON_WINDOW_MISS (R190): the open epoch takes the expected number; the second miss in a row ends the lock, and a
boundary under local timing falls due. -/
def execBeaconWindowMiss (s : State) : Res :=
  if !s.ready Reg.GLB_READY.BEACON_LOCK || s.fogged then s.idle
  else
    let n := s.drp.bcnExpected + 1
    let s := s.count Reg.DRP_BCN_ERR.MISS 1
    let s := if s.drp.openEpoch == 0 then s else s.renumber n false
    let s := { s with drp := { s.drp with bcnExpected := n, bcnFromFrame := false } }
    let run := s.get Reg.DRP_BCN_STAT.MISS_RUN + 1
    if run < 2 then .next (s.put Reg.DRP_BCN_STAT.MISS_RUN run)
    else
      let s := s.unlock.record Ev.BEACON_LOST wide []
      .next (if s.epochsRun then s.boundaryDue.settle else s)

/-- BEACON_SOURCE_FRAME (R193, R194): the source emits its next number until its cut, and receives its own frame. Its first number
needs the numbers used, which are known once the images have been judged (R71). -/
def execBeaconSourceFrame (s : State) : Res :=
  if s.get Reg.DRP_BND_CFG.TIMING != 2 || !s.ready Reg.GLB_READY.SIDEBAND_UP || !s.ready Reg.GLB_READY.IMAGE_INDEXED || s.saving ||
      s.pwr.noReturn then s.idle
  else
    let start := s.pair Reg.DRP_BCN_START_LO.START_LO Reg.DRP_BCN_START_HI.START_HI
    let n := if s.drp.bcnNext != 0 then s.drp.bcnNext else if s.drp.maxUsed < start then start else s.drp.maxUsed + 1
    let s := (s.put Reg.DRP_BCN_STAT.SENDING 1).emit (.beacon n (frameCrc n) true)
    let s := { s with drp := { s.drp with bcnNext := n + 1 } }
    .next (if s.fogged then s else s.validFrame n true)

/-- BEACON_ACCEPTED_BOUNDARY (R186, R189, R192): the boundary of an accepted frame falls, or the open epoch takes its
number while an epoch is sealing. -/
def execBeaconAcceptedBoundary (s : State) : Res :=
  match s.drp.bcnAccepted with
  | none => s.idle
  | some n =>
    let s := { s with drp := { s.drp with bcnAccepted := none } }
    if !s.epochsRun then .next s
    else if s.drp.sealEpoch == 0 then .next (s.boundary n true).settle
    else .next ((s.count Reg.DRP_BND_CNT.DEFER_CNT 1).renumber n true)

/-! ## Sanitize (R449, R450) -/

/-- SANITIZE_FILL_PAGE (R358, R449): the next page of a SANITIZING extent that is ready is filled with zeros, in Free. A page still
owed to the sealing epoch makes the fill wait (log entry 8). -/
def execSanitizeFillPage (ext : Nat) (s : State) : Res :=
  match NMap.find? s.rgn.exts ext with
  | none => s.idle
  | some x =>
    let page := ext * pagesPerExtent + x.fillNext
    if x.st != .sanitizing || x.fillEpoch != 0 || !s.dripRuns || !s.extReady ext || s.get Reg.DRP_ADM.BAND != 0 ||
        s.flag Reg.DRP_ADM.STALL || s.drp.openEpoch == 0 || s.drp.owedUncopied page then s.idle
    else
      let s := if s.drp.marked page || decide (16 ≤ x.ld) then s else s.count (Reg.DRP_LD_NEWPG.NEW_PAGES x.ld) 1
      let s := ((s.classifyPage page).accessPage (page * 4096) (if x.ld < 16 then x.ld else reqRse) false true).putPage page ⟨[], 0⟩
      let last := x.fillNext + 1 == pagesPerExtent
      let x := { x with fillNext := x.fillNext + 1, fillEpoch := if last then s.drp.openEpoch else 0, zero := false }
      .next { s with rgn := { s.rgn with exts := NMap.insert s.rgn.exts ext x } }.settle

end Sys2Proof.Machine
end

