-- ==== Sys2Proof/Machine/HostMem.lean ====
section
/-! DEFINITION. CXL.mem requests (R57, R67, R178, R214, R264, R265, R275, R381, R440): the meanings of HOST_WRITE and
HOST_READ. -/

namespace Sys2Proof.Machine

open Host

/-- A request can arrive from a head: its link is up, and the logical device is bound to it where it is present. -/
def State.reaches (s : State) (h : Fin 4) (ld : Fin 16) : Bool :=
  s.headUp h && (!s.ldPresent ld || s.ldHead ld == h.val)

/-- The next request, which takes a number in the order of arrival. It has arrived with a credit of the HIF, whose buffers the manual
does not count (R264; log entry 100). -/
def State.newReq (s : State) (h : Fin 4) (ld : Fin 16) (lpa : Nat) (write : Bool) (data : Bytes) (poison : Bool) : State × HostReq :=
  ({ s with hif := { s.hif with nextId := s.hif.nextId + 1 } },
    ⟨s.hif.nextId, h, ld, lpa, 0, write, data, poison, .admission, false, false⟩)

/-- HOST_WRITE: a write waits before MEM_PARTIAL (R264); after the cut it is not accepted (R66); otherwise it is
translated, held or admitted, classified and performed (R57, R90, R132, R440). -/
def execHostWrite (h : Fin 4) (ld : Fin 16) (lpa : Nat) (data : Bytes) (poison : Bool) (s : State) : Res :=
  if !s.reaches h ld || s.saving then s.idle
  else
    let (s, r) := s.newReq h ld lpa true data poison
    if !s.ready Reg.GLB_READY.MEM_PARTIAL then .next (s.wait r .memPartial)
    else .next (s.serveWrite r)

/-- The data of a restored page's line (R105, R107, R178). -/
def State.readLine (s : State) (r : HostReq) : State :=
  let line := r.dpa / 64
  (s.access r.dpa r.ld false false).completeRead r (dramRead s.dram (line * 64) 64) (s.poisoned line)

/-- What the read of a line meets (R378, R381). -/
def State.readFound (s : State) (line : Nat) (found : LineRead) : State :=
  match found with
  | .good => s
  | .corrected => s.correctLine line
  | .uncorrectable => s.uncorrectables [line]

/-- A read of a restored page (R178, R378, R381, R382): it waits for a line in recovery; a line that the read finds
uncorrectable is handled first. -/
def State.readRestored (s : State) (r : HostReq) (found : LineRead) : State :=
  let line := r.dpa / 64
  let s := s.readFound line found
  if s.pageRecovering (line / 64) then s.wait r .recovery else s.readLine r

/-- A read after MEM_PARTIAL. After the cut a read that needs a flash read receives no completion; it joins one issued before (R67,
R214). -/
def State.serveRead (s : State) (r : HostReq) (found : LineRead) : State :=
  match s.translate r.ld r.lpa with
  | .inr k => (s.translationFault r.head r.ld r.lpa k false).completeRead r [] true
  | .inl dpa =>
    let r := { r with dpa }
    if s.pageRestored (dpa / 4096) then s.readRestored r found
    else if s.saving then (if s.rse.faultIns.contains (dpa / 4096) then s.wait r .faultIn else s)
    else s.faultIn r

/-- HOST_READ: a read waits before MEM_PARTIAL (R264); otherwise it is translated and served from DRAM, or waits for the
fault-in of its page (R265). It is never held by the policy (R90). -/
def execHostRead (h : Fin 4) (ld : Fin 16) (lpa : Nat) (found : LineRead) (s : State) : Res :=
  if !s.reaches h ld then s.idle
  else
    let (s, r) := s.newReq h ld lpa false [] false
    if !s.ready Reg.GLB_READY.MEM_PARTIAL then
      if s.saving then .next s else .next (s.wait r .memPartial)
    else .next (s.serveRead r found)

end Sys2Proof.Machine
end

