-- ==== Sys2Proof/Machine/Reserve.lean ====
section
/-! DEFINITION. The reserve pack (chapter 15): detection, the charger, rests, the Keeper's figures, and the loss of the
reserve; with arming as it follows from them (R85–R91). -/

namespace Sys2Proof.Machine

open Host

/-! ## The reference pack's profile (R629): identity code 3, the one the Keeper image carries (log entry 9) -/

/-- A table interpolated linearly between its points and held at its ends. -/
def interp : List (Int × Int) → Rat → Rat
  | [], _ => 0
  | [(_, y)], _ => y
  | (x0, y0) :: (x1, y1) :: l, x =>
    if x ≤ x0 then y0
    else if x ≤ x1 then y0 + (y1 - y0 : Int) * (x - x0) / (x1 - x0 : Int)
    else interp ((x1, y1) :: l) x

/-- F_R by temperature in 0.1 °C. -/
def fR (t : Int) : Rat :=
  interp [(-200, 300), (0, 180), (100, 135), (250, 100), (450, 85), (600, 80)] t / 100

/-- E_TAB in joules by rested voltage in mV. -/
def eTab (mv : Rat) : Rat :=
  interp [(10000, 0), (12000, 3000), (12800, 12000), (13000, 30000), (13200, 75000), (13300, 100000), (13400, 108000),
    (13600, 112000)] mv

namespace Pack
def code : Nat := 3
def cRated : Nat := 2500
def vCv : Nat := 14400
def vOv : Nat := 14800
def vCut : Nat := 10000
def iPulse : Nat := 40
/-- I_CHG and I_PRE in mA. -/
def iChg : Nat := 1250
def iPre : Nat := 250
/-- R_BOL25 and R_EOL25 in 0.1 mΩ. -/
def rBol : Nat := 550
def rEol : Nat := 900
end Pack

/-! ## Figures (R643, R647, R652) -/

/-- T_K of R643 in 0.1 °C: the pack temperature less 2 °C. -/
def State.tK (s : State) : Int := s.rsv.tenthC - 20

/-- V_oc of R643 in mV. -/
def State.vOc (s : State) : Rat := s.rsv.mv - (max s.rsv.ma 0 : Int) * (90 * fR s.tK) / 1000

/-- Power at a resistance in mΩ and an efficiency in percent, in mW: the current is the lesser of I_PULSE and what V_CUT
allows. -/
def powerAt (eta : Nat) (voc r : Rat) : Rat :=
  let i := min (Pack.iPulse : Rat) ((voc - Pack.vCut) / r)
  if i ≤ 0 then 0 else (eta : Rat) / 100 * (voc - i * r) * i

/-- A number rounded down to a natural. -/
def natFloor (q : Rat) : Nat := q.floor.toNat

/-- P_vt in mW (R643), rounded down (log entry 10). -/
def State.pVt (s : State) : Nat := natFloor (powerAt 90 s.vOc (90 * fR s.tK))

/-- E_vt in mJ (R643), rounded down. -/
def State.eVt (s : State) : Nat := natFloor (720 * eTab s.vOc)

/-- The voltage-table figure is valid (R643): T_DSG is −20 to 60 °C. -/
def State.vtValid (s : State) : Bool :=
  s.flag Reg.RSV_STAT.PRESENT && decide (-200 ≤ s.rsv.tenthC) && decide (s.rsv.tenthC ≤ 600) &&
    decide (Pack.vCut ≤ s.rsv.mv) && !s.rsv.ovr

/-- u_K in permil from the rest clock (R639), rounded up (log entry 10). -/
def uKeeper (clockS : Nat) : Nat := min 1000 (30 + (4 * (clockS - 14 * 86400) + 86399) / 86400)

/-- R_k of R647 in mΩ. -/
def State.rK (s : State) : Rat :=
  max (s.get Reg.RSV_LRN_R.R_LRN25 : Rat) (max ((s.get Reg.RSV_LRN_R.R_STEP25 : Rat) * 8 / 10) Pack.rBol) / 10 * fR s.tK

/-- P_bound in mW and E_bound in mJ (R647). -/
def State.bounds (s : State) : Nat × Nat :=
  (natFloor (powerAt 93 s.vOc s.rK),
    natFloor (930 * min 1 ((s.get Reg.RSV_LRN_CAP.CAP_MAH : Rat) / Pack.cRated) * eTab s.vOc))

/-- The values used of a submitted figure (R647): mW, mJ, permil. -/
def State.usedOf (s : State) (f : Nat × Nat × Nat) : Nat × Nat × Nat :=
  let b := s.bounds
  (min (f.1 * 1000) b.1, min (f.2.1 * 1000) b.2, max f.2.2 (s.get Reg.RSV_UNC.U_KEEPER))

/-- The figure in use (R652): the accepted one in FULL mode, else the voltage-table one, valid or not (log entry 11). -/
def State.figureNow (s : State) : Nat × Nat × Nat :=
  let vt := (s.pVt, s.eVt, s.get Reg.RSV_UNC.U_KEEPER)
  match s.rsv.accepted with
  | some a => if s.get Reg.GLB_ARM.MODE == 2 then s.usedOf a else vt
  | none => vt

/-- The figure in use is loaded (R652). -/
def State.loadFigure (s : State) : State :=
  let f := s.figureNow
  let model := s.rsv.accepted.isSome && s.get Reg.GLB_ARM.MODE == 2
  { s with drp := { s.drp with figure := some f, figureModel := model } }.put Reg.RSV_UNC.U_USED f.2.2

/-! ## RESERVE_OK (R644) -/

/-- Bring VT_VALID and RESERVE_OK up to date (R643, R644); RAIL15 beyond its fault level takes RESERVE_OK away. -/
def State.showReserveOk (s : State) : State :=
  (s.put Reg.RSV_STAT.VT_VALID (ofBool s.vtValid)).setReady Reg.GLB_READY.RESERVE_OK (s.flag Reg.RSV_STAT.PRESENT && s.vtValid && s.flag Reg.RSV_STAT.DSG_ON &&
    !s.flag (Reg.PWR_RAIL_CTL.FAULT 15) && !s.drp.lost && s.drp.figure.isSome)

/-- A figure has been received (R128): recompute, which loses the reserve where R130 says so. -/
def State.takeFigure (s : State) : State := s.loadFigure.recompute.showReserveOk

/-! ## Charger (R631–R635) -/

/-- The charger starts: PRECHARGE below V_CUT, otherwise CC. -/
def State.startCharge (s : State) : State :=
  s.putAll [(Reg.RSV_STAT.CHG_STATE, if s.rsv.mv < Pack.vCut then 1 else 2), (Reg.RSV_STAT.CHARGING, 1)]

/-- The charge current in mA that the duty cycle of CHG_IREF sets, of 2,000 (R622, R631): I_PRE in PRECHARGE, the lesser of I_CHG and
CHG_LIMIT in CC and CV. CHG_EN is high while RSV_STAT.CHARGING reads 1, and DSG_EN while DSG_ON does. -/
def State.chargeMa (s : State) : Nat :=
  match s.get Reg.RSV_STAT.CHG_STATE with
  | 1 => Pack.iPre
  | 2 => min Pack.iChg (s.get Reg.RSV_CFG.CHG_LIMIT)
  | 3 => min Pack.iChg (s.get Reg.RSV_CFG.CHG_LIMIT)
  | _ => 0

/-- A condition of R635 holds. T_CHG is 0 to 45 °C, with 2 °C of hysteresis on the way back. -/
def State.pauses (s : State) : Bool :=
  let inside := if s.get Reg.RSV_STAT.CHG_STATE == 5 then decide (20 ≤ s.rsv.tenthC) && decide (s.rsv.tenthC ≤ 430)
    else decide (0 ≤ s.rsv.tenthC) && decide (s.rsv.tenthC ≤ 450)
  !inside || s.flag Reg.RSV_STAT.REST_ACTIVE || s.fogged || !s.flag Reg.PWR_STAT.VIN_VALID

/-- The charger is PAUSED and keeps the state it left. -/
def State.pauseCharge (s : State) : State :=
  let c := s.get Reg.RSV_STAT.CHG_STATE
  if c == 0 || c == 5 || c == 6 then s
  else { s.putAll [(Reg.RSV_STAT.CHG_STATE, 5), (Reg.RSV_STAT.CHARGING, 0)] with rsv := { s.rsv with pausedFrom := c } }

/-- The charger's next state (R631). From t_F the absence of the pack changes nothing (R626). -/
def State.stepCharger (s : State) : State :=
  if !s.flag Reg.RSV_CFG.CHARGE_EN || (!s.flag Reg.RSV_STAT.PRESENT && !s.fogged) then
    if s.get Reg.RSV_STAT.CHG_STATE == 6 && s.flag Reg.RSV_STAT.PRESENT then s
    else s.putAll [(Reg.RSV_STAT.CHG_STATE, 0), (Reg.RSV_STAT.CHARGING, 0), (Reg.RSV_STAT.FAULT_CAUSE, 0)]
  else if s.get Reg.RSV_STAT.CHG_STATE == 6 then s
  else if s.pauses then
    if s.get Reg.RSV_STAT.CHG_STATE == 0 && s.flag Reg.RSV_STAT.PRESENT then s.startCharge.pauseCharge else s.pauseCharge
  else match s.get Reg.RSV_STAT.CHG_STATE with
    | 0 => s.startCharge
    | 1 => if Pack.vCut ≤ s.rsv.mv then s.put Reg.RSV_STAT.CHG_STATE 2 else s
    | 2 => if Pack.vCv ≤ s.rsv.mv then s.put Reg.RSV_STAT.CHG_STATE 3 else s
    | 5 => s.putAll [(Reg.RSV_STAT.CHG_STATE, s.rsv.pausedFrom), (Reg.RSV_STAT.CHARGING, ofBool (decide (s.rsv.pausedFrom ≤ 3)))]
    | _ => s

/-! ## Rests and learned values (R640, R641, R654) -/

/-- A maintenance rest starts (R641). -/
def State.startRest (s : State) (origin : Option (Port × BitVec 32)) : State :=
  { s.put Reg.RSV_STAT.REST_ACTIVE 1 with rsv := { s.rsv with restOrigin := origin } }.pauseCharge

/-- A maintenance rest ends (R641, R642): 1 POINT, 2 TIMEOUT, 3 ABORTED. -/
def State.endRest (s : State) (how : Nat) : State :=
  if !s.flag Reg.RSV_STAT.REST_ACTIVE then s
  else
    let origin := s.rsv.restOrigin
    let s := (s.putAll [(Reg.RSV_STAT.REST_ACTIVE, 0), (Reg.RSV_STAT.REST_LAST, how)]).record Ev.REST_END wide [(1, how)]
    let hold := if how == 1 then s.rsv.restHold else 86400
    let s := { s with rsv := { s.rsv with restOrigin := none, restHold := hold } }
    s.completeFor origin (if how == 1 then .done else .aborted) []

/-- The defaults of R654 for a new pack. -/
def State.defaultLearned (s : State) : State :=
  let s := s.putAll [
    (Reg.RSV_LRN_CAP.CAP_MAH, 2000), (Reg.RSV_LRN_CAP.SAMPLES, 0), (Reg.RSV_LRN_R.R_LRN25, Pack.rEol),
    (Reg.RSV_LRN_R.R_STEP25, Pack.rEol), (Reg.RSV_REST.CLOCK_S, 14 * 86400), (Reg.RSV_STAT.NEW_PACK, 1),
    (Reg.RSV_LAN.PACK_GONE, 0)]
  let s := { s with rsv := { s.rsv with learnedCode := Pack.code, throughput := 0, newPack := false } }
  (s.record Ev.LEARN_DEFAULTED wide []).writeLearned

/-! ## Detection (R625–R628) -/

/-- PRESENT becomes 1. -/
def State.detectPack (s : State) : State :=
  let s := (s.putAll [(Reg.RSV_STAT.PRESENT, 1), (Reg.RSV_STAT.PROFILE, Pack.code)]).record Ev.PACK_DETECTED wide [(1, Pack.code)]
  if s.fogged then s
  else if s.rsv.newPack || s.flag Reg.RSV_LAN.PACK_GONE || s.rsv.learnedCode != Pack.code then s.defaultLearned else s

/-- What the absence of the pack does (R627, R130): the switch and the charger go low, a rest ends, the reserve is lost, and
the next pack is a new one. -/
def State.packGone (s : State) : State :=
  let s := s.putAll [(Reg.RSV_STAT.PROFILE, 0), (Reg.RSV_STAT.DSG_ON, 0), (Reg.RSV_STAT.CHARGING, 0), (Reg.RSV_STAT.CHG_STATE, 0),
    (Reg.RSV_STAT.FAULT_CAUSE, 0)]
  let s := { s with rsv := { s.rsv with newPack := true, lastCode := 0 }, drp := { s.drp with figure := none } }
  ((s.endRest 3).loseReserve 5).showReserveOk

/-- PRESENT becomes 0 (R51, R626, R627); during R626's window it is recorded only. -/
def State.losePack (s : State) : State :=
  let s := ((s.put Reg.RSV_STAT.PRESENT 0).record Ev.PACK_LOST wide []).strike rsvUnit Ev.PACK_LOST.sev
  if s.fogged then s else s.packGone

/-- A sample is good (R625). -/
def State.goodSample (s : State) (mv : Nat) (tenthC : Int) (idCode : Nat) : Bool :=
  idCode == Pack.code && (s.rsv.lastCode == 0 || s.rsv.lastCode == idCode) && decide (-400 ≤ tenthC) &&
    decide (tenthC ≤ 1000) && decide (Pack.vCut / 2 ≤ mv) && decide (mv ≤ Pack.vOv + 500)

/-- The measurements of a sample. -/
def State.takeSample (s : State) (mv : Nat) (ma tenthC : Int) : State :=
  let q := s.rsv.charge + ma * 10
  let s := { s with rsv := { s.rsv with mv, ma, tenthC, charge := q, throughput := s.rsv.throughput + ma.natAbs * 10 } }
  s.putAll [
    (Reg.RSV_MEAS.PACK_MV, mv), (Reg.RSV_MEAS.CUR, (ma / 10 % 65536).toNat), (Reg.RSV_TEMP.PACK_T, (tenthC % 65536).toNat),
    (Reg.RSV_QCNT.CHARGE_MC, (q / 1000 % 4294967296).toNat)]

/-- RSV_SAMPLE (R625–R627, R630, R631, R635): detection, the switches and the charger. -/
def execRsvSample (mv : Nat) (ma tenthC : Int) (idCode : Nat) (s : State) : Res :=
  if !s.ready Reg.GLB_READY.KEEPER_UP then s.idle
  else
    let ok := s.goodSample mv tenthC idCode
    let s := s.takeSample mv ma tenthC
    let r := s.rsv
    let here := s.flag Reg.RSV_STAT.PRESENT
    let s := { s with rsv := { r with
      good := if ok then min (r.good + 1) 5 else 0
      bad := if ok then 0 else min (r.bad + 1) 3
      lastCode := if ok then idCode else if here then r.lastCode else 0
      resting := r.resting && ok && decide (ma.natAbs ≤ 50) } }
    let s :=
      if !here && decide (5 ≤ s.rsv.good) then s.detectPack
      else if here && decide (3 ≤ s.rsv.bad) then s.losePack
      else s
    let s := if s.flag Reg.RSV_STAT.PRESENT && decide (Pack.vCut ≤ mv) then s.put Reg.RSV_STAT.DSG_ON 1 else s
    .next s.stepCharger.showReserveOk.settle

/-- A second passes over a list of the seconds since each event; those of `window` seconds and more leave it. -/
def aged (window : Nat) (l : List Nat) : List Nat := (l.map (· + 1)).filter (· < window)

/-- The windows of an hour and of 24 h (R384, R532, R541). -/
def State.ageWindows (s : State) : State :=
  let fw := aged 3600 s.cpx.fwRestarts
  let s := { s with
    cpx := { s.cpx with fwRestarts := fw, restarts := aged 3600 s.cpx.restarts }
    dmc := { s.dmc with ce := NMap.updateAll s.dmc.ce fun l => if (aged 86400 l).isEmpty then none else some (aged 86400 l) } }
  s.put Reg.CPX_FW_STAT.RESTARTS (min fw.length 3)

/-- A second passes (R640, R644, R653, R754): the rest clock, u_K, the values of the voltage tables, BEACON activity, and the count of denials. -/
def State.secondPasses (s : State) : State :=
  let s := s.count Reg.RSV_REST.CLOCK_S 1
  let s := s.put Reg.RSV_UNC.U_KEEPER (uKeeper (s.get Reg.RSV_REST.CLOCK_S))
  let s := s.putAll [
    (Reg.RSV_VT_P.P_VT, if s.flag Reg.RSV_STAT.PRESENT then s.pVt / 1000 else 0),
    (Reg.RSV_VT_E.E_VT, if s.flag Reg.RSV_STAT.PRESENT then s.eVt / 1000 else 0)]
  let s := s.put Reg.NCH_BCN_STAT.ACTIVITY (ofBool s.twi.edges)
  { s with rsv := { s.rsv with restHold := s.rsv.restHold - 1 }, twi := { s.twi with edges := false }, cpx := { s.cpx with denials := 0 } }.ageWindows

/-- A rest is asked for above 80 %, and begins where it is allowed. -/
def State.judgeRest (s : State) : State :=
  let u := if s.get Reg.GLB_ARM.MODE == 2 then s.get Reg.RSV_UNC.U_USED else s.get Reg.RSV_UNC.U_KEEPER
  let asks := decide (80 < u)
  let s := if asks && !s.flag Reg.RSV_STAT.REST_REQ then s.record Ev.REST_REQUESTED wide [] else s
  let s := s.put Reg.RSV_STAT.REST_REQ (ofBool asks)
  if asks && s.flag Reg.RSV_CFG.REST_ALLOWED && s.rsv.restHold == 0 && s.flag Reg.RSV_STAT.PRESENT &&
    !s.flag Reg.RSV_STAT.REST_ACTIVE && !s.fogged then s.startRest none else s

/-- KEEPER_RESERVE_EVAL (R128, R130, R639, R640, R643, R644, R648, R652): the evaluation of every second. -/
def execKeeperReserveEval (s : State) : Res :=
  if !s.ready Reg.GLB_READY.KEEPER_UP || s.cpx.restarting then s.idle
  else
    let s := s.secondPasses
    let s := (if s.fogged || !s.flag Reg.RSV_STAT.PRESENT then s.showReserveOk else s.takeFigure).judgeRest
    .next { s with rsv := { s.rsv with ovr := false } }.settle

/-- DSG_CUTOFF (R630): PACK_V has been below V_CUT for 1 ms. -/
def execDsgCutoff (s : State) : Res :=
  if s.flag Reg.RSV_STAT.DSG_ON then .next (s.put Reg.RSV_STAT.DSG_ON 0).showReserveOk else s.idle

/-- CHARGE_END (R632). -/
def execChargeEnd (s : State) : Res :=
  if s.get Reg.RSV_STAT.CHG_STATE == 3 then
    .next ((s.putAll [(Reg.RSV_STAT.CHG_STATE, 4), (Reg.RSV_STAT.CHARGING, 0)]).record Ev.CHG_DONE wide [])
  else s.idle

/-- RECHARGE_START (R633). -/
def execRechargeStart (s : State) : Res :=
  if s.get Reg.RSV_STAT.CHG_STATE == 4 && !s.pauses then .next s.startCharge else s.idle

/-- CHG_FAULT (R51, R634): 1 OVERVOLT, 2 OVERCURRENT, 3 TIMEOUT, 4 UNCONTROLLED; each where its condition can hold. -/
def execChgFault (cause : Fin 5) (s : State) : Res :=
  let charging := s.flag Reg.RSV_STAT.CHARGING
  let can := match cause.val with
    | 1 => s.flag Reg.RSV_STAT.PRESENT
    | 2 => charging
    | 3 => charging
    | 4 => !charging && s.flag Reg.RSV_STAT.PRESENT
    | _ => false
  if !can || s.get Reg.RSV_STAT.CHG_STATE == 6 then s.idle
  else
    let s := s.putAll [(Reg.RSV_STAT.CHG_STATE, 6), (Reg.RSV_STAT.CHARGING, 0), (Reg.RSV_STAT.FAULT_CAUSE, cause)]
    .next ((s.record Ev.CHG_FAULT wide [(1, cause)]).strike rsvUnit Ev.CHG_FAULT.sev)

/-- CHG_FAULT_RETRY (R634): OVERCURRENT and TIMEOUT are retried up to 3 times; a condition of R635 pauses the charger at once. -/
def execChgFaultRetry (s : State) : Res :=
  let c := s.get Reg.RSV_STAT.FAULT_CAUSE
  if s.get Reg.RSV_STAT.CHG_STATE == 6 && (c == 2 || c == 3) && decide (s.get Reg.RSV_STAT.FAULT_RETRIES < 3) then
    let s := ((s.count Reg.RSV_STAT.FAULT_RETRIES 1).put Reg.RSV_STAT.FAULT_CAUSE 0).startCharge
    .next (if s.pauses then s.pauseCharge else s)
  else s.idle

/-- REST_POINT (R636, R641, R655): the rested voltage and the rest clock; one event for each episode. -/
def execRestPoint (mv : Nat) (s : State) : Res :=
  let c := s.get Reg.RSV_STAT.CHG_STATE
  if c == 1 || c == 2 || c == 3 || !s.flag Reg.RSV_STAT.PRESENT then s.idle
  else
    let s := s.putAll [(Reg.RSV_REST_V.RESTED_MV, mv), (Reg.RSV_REST.CLOCK_S, 0)]
    let s := if s.rsv.resting then s else (s.record Ev.REST_POINT wide []).writeLearned
    .next ({ s with rsv := { s.rsv with resting := true } }.endRest 1)

/-- MAINTENANCE_REST_TIMEOUT (R641): 2 h without a rest point. -/
def execMaintenanceRestTimeout (s : State) : Res :=
  if s.flag Reg.RSV_STAT.REST_ACTIVE then .next (s.endRest 2) else s.idle

/-- STEP_RESISTANCE_SAMPLE (R649): R_STEP25 moves by one eighth of the difference, in whole 0.1 mΩ (log entry 10). -/
def execStepResistanceSample (r25 : Nat) (s : State) : Res :=
  if !s.flag Reg.RSV_STAT.PRESENT || s.flag Reg.RSV_STAT.REST_ACTIVE || s.fogged then s.idle
  else
    let r : Int := s.get Reg.RSV_LRN_R.R_STEP25
    .next (s.put Reg.RSV_LRN_R.R_STEP25 (r + ((r25 : Int) - r) / 8).toNat)

/-- The identity code of a PACK_ID result, if its ratio lies in a band (R624). -/
def idCodeOf (code : Nat) : Option Nat :=
  (List.range 16).find? fun k => decide (128 * (2 * k + 1) - 64 ≤ code) && decide (code ≤ 128 * (2 * k + 1) + 64)

/-- LANTERN_ADC_CYCLE (R628, R637, R638, R664, R678): once a minute while OFF, with ADC_BIAS18 driven for the conversions. A minute counts toward the rest when the mean
has not moved by a whole millivolt (log entry 12). -/
def execLanternAdcCycle (packId packNtc packV _vsup : BitVec 12) (s : State) : Res :=
  if s.powered then s.idle
  else
    let gone := match idCodeOf packId.toNat with
      | some k => k == 0 || k == 15
      | none => true
    let mv := packV.toNat * 18000 / 4096
    let s := if gone then s.put Reg.RSV_LAN.PACK_GONE 1 else s
    let s :=
      if mv == s.get Reg.RSV_LAN.LAST_MV && decide (packNtc.toNat ≠ 0) then s.count Reg.RSV_LAN.REST_MIN 1
      else s.put Reg.RSV_LAN.REST_MIN 0
    .next (((s.put Reg.RSV_LAN.LAST_MV mv).count Reg.RSV_LAN_CLK.OFF_MIN 1).emit (.bias18 2) |>.emit (.bias18 0))

/-! ## Arming (R85–R91) -/

/-- The Keeper's figures as arming would leave them: MODE FULL with an accepted model estimate, CONSERVATIVE without (R88), the figure
of that mode, which from t_F on holds (R212), and the budget recomputed (R128). -/
def State.trial (s : State) : State :=
  let s := s.put Reg.GLB_ARM.MODE (if s.rsv.accepted.isSome then 2 else 1)
  (if s.fogged then s else s.loadFigure).recompute

/-- UNARMED or RESUMING becomes ARMED, and the writes under HOLD are released (R87, R91). A write that arrived under ALLOW_UNPROTECTED and
still waits for admission keeps its mark, and counts as unprotected when it is admitted (R95; DESIGN CHOICE, log entry 126). -/
def State.nowArmed (s : State) : State :=
  let s := s.setReady Reg.GLB_READY.PERSIST_ARMED true
  let s := if s.pstate == PState.UNARMED || s.pstate == PState.RESUMING then s.enter PState.ARMED else s
  (s.releaseHeld false).settle

/-- The Keeper arms, where the conditions of R85 hold in the mode that it would arm in (R86–R88). -/
def State.tryArm (s : State) : Option State := if s.trial.mayArm then some s.trial.nowArmed else none

/-- ARMING (R86, R88, R91): the Keeper arms on its own. -/
def execArming (s : State) : Res :=
  if s.armable && !s.ready Reg.GLB_READY.PERSIST_ARMED && s.flag Reg.GLB_ARM.AUTO_ARM && !s.flag Reg.GLB_ARM.ARM_HOLD &&
      !s.cpx.restarting then
    match s.tryArm with
    | some t => .next t
    | none => s.idle
  else s.idle

end Sys2Proof.Machine
end

