-- ==== Sys2Proof/Machine/Links.lean ====
section
/-! DEFINITION. Links and CXL.mem enables as several blocks change them (R45, R427, R523), and the timed shutdown (R603,
R779) as they start it. -/

namespace Sys2Proof.Machine

/-! ## Links -/

/-- CXL.mem is enabled on a logical device of a head. The enable is kept over a link loss (log entry 14). -/
def State.headEnabled (s : State) (h : Nat) : Bool := allLds.any fun ld => s.ldPresent ld && s.ldHead ld == h && s.ldMem ld

/-- Bring MEM_EN of the heads and LINK0_UP and LINK1_UP up to date (R45, R427). -/
def State.showLinks (s : State) : State :=
  let s := s.each allHeads fun s h => s.put (Reg.HIF_HEAD_STAT.MEM_EN h) (ofBool (s.headEnabled h))
  let up (s : State) (a b : Nat) : Bool := s.headLive a || s.headLive b
  (s.setReady Reg.GLB_READY.LINK0_UP (s.ready Reg.GLB_READY.KEEPER_UP && up s 0 1)).setReady Reg.GLB_READY.LINK1_UP
    (s.ready Reg.GLB_READY.KEEPER_UP && up s 2 3)

/-- GLB_ARM.HELD says whether a write waits under HOLD (R94). -/
def State.showHeld (s : State) : State :=
  s.put Reg.GLB_ARM.HELD (ofBool (s.hif.reqs.any fun (r : HostReq) => r.stage == Stage.hold))

/-- A request that a link loss discards (R427). -/
def HostReq.lostWith (r : HostReq) (h : Nat) : Bool :=
  r.head.val == h && (r.stage == .admission || r.stage == .hold || r.stage == .memPartial)

/-- A head's link goes down (R427): its waiting requests are discarded; writes already admitted go on. -/
def State.linkDown (s : State) (h : Nat) : State :=
  if !s.headUp h then s
  else
    let s := s.putAll [
      (Reg.HIF_HEAD_STAT.UP h, 0), (Reg.HIF_HEAD_STAT.WIDTH h, 0), (Reg.HIF_HEAD_STAT.RATE h, 0), (Reg.HIF_HEAD_STAT.FLIT_LO h, 0)]
    let s := { s with hif := { s.hif with
      reqs := s.hif.reqs.filter fun (r : HostReq) => !r.lostWith h
      ready := s.hif.ready.filter (· != h)
      gpf2 := NMap.erase s.hif.gpf2 h
      degraded := s.hif.degraded.filter (· != h) } }
    (s.record Ev.LINK_DOWN h []).showHeld.showLinks

/-- Every link goes down. -/
def State.allLinksDown (s : State) : State := s.each allHeads fun s h => s.linkDown h

/-! ## Clocks and domains (R35, R614) -/

/-- PLLs stop. -/
def State.stopPll (s : State) (n : Nat) : State :=
  s.putAll [
    (Reg.CLK_PLL_STAT.RUNNING, clearBitOf (s.get Reg.CLK_PLL_STAT.RUNNING) n),
    (Reg.CLK_PLL_STAT.LOCKED, clearBitOf (s.get Reg.CLK_PLL_STAT.LOCKED) n)]

/-- A PLL starts; it is not yet locked. -/
def State.startPll (s : State) (n : Nat) : State :=
  if bitOf (s.get Reg.CLK_PLL_STAT.RUNNING) n then s
  else s.put Reg.CLK_PLL_STAT.RUNNING (setBitOf (s.get Reg.CLK_PLL_STAT.RUNNING) n)

/-- The PLL of a domain (R35, R614). -/
def domainPll (d : Nat) : Nat := if d == 8 then 8 else d

/-- A domain is powered (R614). -/
def State.domainOn (s : State) (d : Nat) : Bool := bitOf (s.get Reg.CLK_DOM_STAT.ON) d

/-- FCA_WP_N (half 0, FC0–FC15) or FCB_WP_N (half 1) is driven to a level, while the domain of its half is powered (R760). -/
def State.driveWp (s : State) (half : Nat) (level : Bool) : State :=
  if s.domainOn (4 + half) then s.emit (.pin 3 half level) else s

/-- Both halves of the flash are write-protected (R760). -/
def State.protectFlash (s : State) : State := (s.driveWp 0 false).driveWp 1 false

/-- The halves of the flash that are powered may be written (R760). -/
def State.enableFlash (s : State) : State := (s.driveWp 0 true).driveWp 1 true

/-- A domain powers down, and its PLL stops; a half of the flash is then write-protected (R760). -/
def State.domainOff (s : State) (d : Nat) : State :=
  let s := if d == 4 || d == 5 then s.driveWp (d - 4) false else s
  (s.putAll [
    (Reg.CLK_DOM_STAT.ON, clearBitOf (s.get Reg.CLK_DOM_STAT.ON) d),
    (Reg.CLK_DOM_STAT.CHANGING, clearBitOf (s.get Reg.CLK_DOM_STAT.CHANGING) d)]).stopPll (domainPll d)

/-- A domain begins to power up: it is powered once its PLL has locked (R35, R614). -/
def State.domainStart (s : State) (d : Nat) : State :=
  let s := s.startPll (domainPll d)
  if s.domainOn d then s
  else if bitOf (s.get Reg.CLK_PLL_STAT.LOCKED) (domainPll d) then s.put Reg.CLK_DOM_STAT.ON (setBitOf (s.get Reg.CLK_DOM_STAT.ON) d)
  else s.put Reg.CLK_DOM_STAT.CHANGING (setBitOf (s.get Reg.CLK_DOM_STAT.CHANGING) d)

/-- A domain is powered with its PLL locked. -/
def State.domainUp (s : State) (d : Nat) : State :=
  let s := s.startPll (domainPll d)
  s.putAll [
    (Reg.CLK_PLL_STAT.LOCKED, setBitOf (s.get Reg.CLK_PLL_STAT.LOCKED) (domainPll d)),
    (Reg.CLK_DOM_STAT.ON, setBitOf (s.get Reg.CLK_DOM_STAT.ON) d),
    (Reg.CLK_DOM_STAT.CHANGING, clearBitOf (s.get Reg.CLK_DOM_STAT.CHANGING) d)]

/-! ## Timed shutdown -/

/-! The values of LAST_OFF (R779). -/

namespace Off
def SAVED : Nat := 1
def SAVE_ABORT : Nat := 2
def NO_SAVE : Nat := 3
def RAIL_FAULT : Nat := 4
def PWRUP_FAIL : Nat := 5
def RESUME_TIMEOUT : Nat := 6
def OVER_TEMP : Nat := 7
end Off

/-- A timed shutdown is decided (R603, R714, R779): the cause that LAST_OFF will read, and whether the stay-off latch is
set at its end (R594). The first decision stands. A gathered first-area page starts its program. In a shutdown without Foghorn FIRST is
0x0 and SEEN starts empty (R208, log entry 118). -/
def State.shutdown (s : State) (cause : Nat) (stay : Bool) : State :=
  if s.pwr.underway || !s.powered then s
  else
    let s := if s.flag Reg.PWR_STAT.FOGHORN then s else s.putAll [(Reg.SAV_FOG_SRC.FIRST, 0), (Reg.SAV_FOG_SRC.SEEN, 0)]
    let s := s.put Reg.PWR_STAT.SEQ 3
    { s with
      evr := s.evr.programFirst
      pwr := { s.pwr with underway := true, noReturn := false, lastOff := cause, stay := s.pwr.stay || stay } }

end Sys2Proof.Machine
end

