-- ==== Sys2Proof/Machine/Save.lean ====
section
/-! DEFINITION. Foghorn, cut, save and resume (chapter 05). -/

namespace Sys2Proof.Machine

open Host

/-! ## Foghorn (R50, R205–R212, R487) -/

/-! The sources of R205. -/

namespace Fog
def VIN_LOSS : Nat := 1
def HOST_GPF : Nat := 2
def PBTN_OFF : Nat := 3
def COMMAND : Nat := 4
end Fog

/-- A command that goes on after t_F (R487): SEAL_BARRIER stays pending, CHAIN_SEND, KST_USER_ERASE and record writes
complete. -/
def State.survivesFoghorn (s : State) (e : ResultEntry) : Bool :=
  e.opcode == Opc.SEAL_BARRIER || e.opcode == Opc.CHAIN_SEND || e.opcode == Opc.KST_USER_ERASE ||
    s.cmd.writes.any fun (w : RecWrite) => w.origin == some (e.port, e.tag)

/-- Every other asynchronous command in progress ends with ABORTED (R487, R577); a dynamic capacity command goes with its
extents left as they are (R451). -/
def State.abortCommands (s : State) : State :=
  let l := s.cmd.results.filter fun e => e.status.isNone && !s.survivesFoghorn e
  let s := s.each l fun s e => s.complete e.port e.tag Status.aborted.code []
  let s := if s.kst.installing.isSome then (s.withoutMark.endUpdate Status.aborted).put Reg.KST_UPD.PHASE 0 else s
  { s with rgn := { s.rgn with ops := s.rgn.ops.map fun (o : DcOp) => { o with origin := none } } }

/-- FOGHORN_NOTICE to the heads with CXL.mem enabled, on vector 6 of their logical devices, and to the BMC (R210). -/
def State.sendNotices (s : State) (src : Nat) : State :=
  let data := [src, s.sav.grace, s.drp.openEpoch]
  let s := s.each allHeads fun s h => if s.headLive h then s.emit (.notice h 6 data) else s
  let s := s.each allLds fun s ld => if s.ldMem ld && s.headUp (s.ldHead ld) then s.signal ld 6 else s
  { s with twi := { s.twi with notify := s.twi.notify ||| 2 } }

/-- The sweep's read in flight at t_F goes on where a request has joined it, as a demand fault-in; otherwise it is given up with the
sweep (R50, R273). -/
def State.stopSweep (s : State) : State :=
  match s.rse.sweeping with
  | none => s
  | some p =>
    let joined := s.hif.reqs.any fun (r : HostReq) => r.stage == .faultIn && r.dpa / 4096 == p
    { s with rse := { s.rse with sweeping := none, faultIns := if joined then s.rse.faultIns ++ [p] else s.rse.faultIns } }

/-- The t_F actions of the blocks (R50): firmware and DMA stop, training is abandoned, the sweep or fill is suspended, a
rank migration holds, a maintenance rest ends, the charger pauses, an accepted model estimate ceases to be valid. Firmware that
waited for its PLL does not restart on its own (R247). RSE_STAT.PHASE becomes HALTED while the directory is being loaded, too (R277;
DEDUCED, log entry 130). -/
def State.atFoghorn (s : State) : State :=
  let s := ((s.stopFw FwCause.foghorn).dmaFogPause.abandonSession 4).abortCommands
  let s := { s with cpx := { s.cpx with relock := false } }
  let p := s.get Reg.RSE_STAT.PHASE
  let s := if p == 3 || p == 4 || p == 5 then s.stopSweep.put Reg.RSE_STAT.PHASE 7 else s
  let s := s.each (List.range 8) State.holdMigration
  let s := s.stopGc
  let s := (s.endRest 3).pauseCharge
  { s with rsv := { s.rsv with accepted := none } }.put Reg.RSV_STAT.FW_FIG 0

/-- The FOGHORN event of a source (R210, R255): the source, tGRACE and the number of the open epoch. -/
def State.recordFoghorn (s : State) (src : Nat) : State :=
  s.record Ev.FOGHORN wide [(1, src), (1, s.sav.grace), (6, s.drp.openEpoch)]

/-- The flash address of the latest durable commit record (R328): that of the newest retained image that this start could read. -/
def State.durableCommit (s : State) : Nat :=
  ((s.flash.images.find? fun i => i.readable).bind fun i => (s.flash.ring.find? fun r => r.lsn == i.commit).map RingRec.name).getD 0

/-- What the save engine samples at t_F (R206, R211, R212, R218, R225, R251, R328). -/
def State.savAtFoghorn (s : State) (src : Nat) (stay : Bool) (cap : Nat) : Sav :=
  { Sav.reset with
    mayResume := !stay && s.pstate != PState.RESTORING
    cap
    source := src
    gpfSrc := s.get Reg.SAV_CFG.GPF_SRC
    grace := s.get Reg.SAV_CFG.GRACE_MS
    durable := s.durableCommit
    fromRestore := s.pstate == PState.RESTORING }

/-- Foghorn asserts (R205, R209–R212, R601): t_F. The heads whose phase 2 the cut awaits have CXL.mem enabled, also those whose link is
down (R65). -/
def State.assertFoghorn (s : State) (src : Nat) (stay : Bool) (cap : Nat) : State :=
  let s := s.putAll [
    (Reg.PWR_STAT.FOGHORN, 1), (Reg.SAV_FOG_SRC.FIRST, src), (Reg.SAV_FOG_SRC.SEEN, 2 ^ (src - 1)),
    (Reg.SAV_RATE.CEILING, s.ceiling cap)]
  let s := { s.emit (.pin 1 0 false) with
    sav := s.savAtFoghorn src stay cap
    pwr := { s.pwr with stay := s.pwr.stay || stay }
    hif := { s.hif with atFog := (List.range 4).filter fun h => s.headMem h } }
  let s := s.put Reg.SAV_STAT.RESUME_OK (ofBool s.sav.mayResume)
  let s := s.each allHeads fun s h => s.putAll [(Reg.HIF_HEAD_STAT.GPF1_SEEN h, 0), (Reg.HIF_HEAD_STAT.GPF2_DONE h, 0)]
  let s := ((s.recordFoghorn src).atFoghorn).sendNotices src
  if s.pstate == PState.KEEPER_BOOT || s.pstate == PState.LOST then s.shutdown Off.NO_SAVE stay
  else
    let s := s.put Reg.SAV_STAT.PHASE 1
    if s.sav.grace == 0 then s.cut else s.cutIfFlushed

/-- The end of CUTTING, SAVING and SAVED without permission to resume: a shutdown that waited for VIN_MAIN starts (R243). -/
def State.withdrawResume (s : State) : State :=
  let s := { s with sav := { s.sav with mayResume := false }, pwr := { s.pwr with stay := true } }.put Reg.SAV_STAT.RESUME_OK 0
  if s.pstate == PState.SAVED then s.shutdown Off.SAVED true else s

/-- A Foghorn in RESUMING is latched (R248): the first source stands, and what later ones add to it, STAY_OFF and the sources seen. -/
def State.latchFoghorn (s : State) (src : Nat) (stay : Bool) (cap : Nat) : State :=
  let s := { s with pwr := { s.pwr with stay := s.pwr.stay || stay } }
  match s.sav.latched with
  | some (first, off, c, seen) => { s with sav := { s.sav with latched := some (first, off || stay, c, setBitOf seen (src - 1)) } }
  | none =>
    { s.put Reg.SAV_STAT.LATCHED 1 with sav := { s.sav with latched := some (src, stay, cap, setBitOf 0 (src - 1)) } }.record
      Ev.RESUME_LATCHED wide []

/-- A source is recorded in SEEN (R205, R208). -/
def State.seeSource (s : State) (src : Nat) : State := s.put Reg.SAV_FOG_SRC.SEEN (setBitOf (s.get Reg.SAV_FOG_SRC.SEEN) (src - 1))

/-- A Foghorn source arises (R205, R208, R209, R248, R598). After the first rail disable VIN_MAIN and PBTN have no effect (R605), and
any other source is recorded in SEEN. -/
def State.foghorn (s : State) (src : Nat) (stay : Bool) (cap : Nat) : State :=
  if !s.powered || (s.pwr.noReturn && (src == Fog.VIN_LOSS || src == Fog.PBTN_OFF)) then s
  else if s.pwr.underway && !s.fogged then s.seeSource src
  else if s.fogged then
    let s := (s.seeSource src).recordFoghorn src
    if s.pwr.noReturn then s
    else if s.pstate == PState.RESUMING then s.latchFoghorn src stay cap
    else if stay then s.withdrawResume else s
  else if s.get Reg.PWR_STAT.SEQ == 1 then
    (s.putAll [(Reg.PWR_STAT.FOGHORN, 1), (Reg.SAV_FOG_SRC.FIRST, src), (Reg.SAV_FOG_SRC.SEEN, 2 ^ (src - 1))]).emit
      (.pin 1 0 false) |>.shutdown Off.NO_SAVE stay
  else s.assertFoghorn src stay cap

/-! ## Rail faults during a save (R238, R239) -/

/-- The save is aborted where it stands, with the flash write-protected after a rail's abort (R760): LAST_OFF is SAVE_ABORT once the
save-open record has passed, NO_SAVE before. -/
def State.abortSave (s : State) (endCode rail : Nat) (ev : Source) (stay : Bool) : State :=
  let s := s.endPanic.putAll [
    (Reg.SAV_LAST_RESULT.END, endCode), (Reg.SAV_LAST_RESULT.ABORT_RAIL, rail), (Reg.SAV_STAT.PHASE, 0xA),
    (Reg.SAV_LAST_TIME.SAVE_MS, 0xFFFF)]
  let s := if endCode == 2 then s.protectFlash else s
  (s.record ev wide []).shutdown (if s.sav.opened then Off.SAVE_ABORT else Off.NO_SAVE) stay

/-! ## GPF (R98, R206, R456) -/

/-- SAV_CFG.GPF_SRC names a head: from t_F as it was sampled then (R251). -/
def State.gpfNamed (s : State) (h : Fin 4) : Bool :=
  let src := if s.fogged then s.sav.gpfSrc else s.get Reg.SAV_CFG.GPF_SRC
  src == 2 || (src == 1 && s.owner == h.val)

/-- GPF_PHASE1: answered at once; a named head raises Foghorn. -/
def execGpfPhase1 (h : Fin 4) (s : State) : Res :=
  if !s.headUp h then s.idle
  else
    let s := s.emit (.gpfDone h 1)
    let s := if s.gpfNamed h then s.foghorn Fog.HOST_GPF false 0 else s
    .next (if s.fogged then s.put (Reg.HIF_HEAD_STAT.GPF1_SEEN h) 1 else s)

/-- GPF_PHASE2: it completes once the writes accepted before it have completed; the last head places the cut (R65, R98). -/
def execGpfPhase2 (h : Fin 4) (s : State) : Res :=
  if !s.headUp h || (NMap.find? s.hif.gpf2 h.val).isSome then s.idle
  else
    let ids := (s.hif.reqs.filter fun (r : HostReq) => r.accepted && r.head == h).map fun (r : HostReq) => r.id
    .next ({ s with hif := { s.hif with gpf2 := NMap.insert s.hif.gpf2 h.val ids } }.gpf2Check h)

/-- GRACE_EXPIRED (R65): the cut. -/
def execGraceExpired (s : State) : Res :=
  if s.get Reg.SAV_STAT.PHASE == 1 && s.fogged && !s.pwr.underway then .next s.cut else s.idle

/-! ## The save (R216–R234) -/

/-- Every accepted write, copy, direct persist and issued fault-in has completed (R216). -/
def State.cutQuiet (s : State) : Bool :=
  !(s.hif.reqs.any fun (r : HostReq) => r.accepted) && s.drp.copying.isEmpty && s.drp.directs.isEmpty && s.rse.faultIns.isEmpty

/-- An owed page that the Carafe holds is still to be programmed. -/
def Drp.copiedLeft (d : Drp) : Bool := d.grans.any fun e => e.2.st == .staged && e.2.owed &&& e.2.copied != 0

/-- The next record of a page that SAV may program (R218, R221, R223, R225): as a page of the sealing epoch, those that the Carafe holds
first; then, where it is marked and the restore has reached it, as a page of the cut. -/
def State.savRole (s : State) (page : Nat) : Option Role :=
  match s.drp.gran (granOf page) with
  | none => none
  | some x =>
    let b := bitIn page
    let marked := bitOf x.mask b && s.pageRestored page
    match x.st with
    | .frozen => if marked && !s.drp.copiedLeft then some .sealing else none
    | .staged =>
      if bitOf x.owed b then
        if bitOf x.copied b then some .carafe else if s.drp.copiedLeft || !s.pageRestored page then none else some .sealing
      else if marked then some .opened else none
    | .dirty => if marked then some .opened else none

/-- The slot of a feed buffer that holds a page whose program is to be repeated (R233). -/
def State.heldPage (s : State) (page : Nat) : Option FeedSlot := s.sav.held.find? fun (f : FeedSlot) => f.page == page

/-- A page waits to be programmed by SAV, as the repetition of a program that failed or not (R218, R233). -/
def State.pageWaits (s : State) (again : Bool) : Bool :=
  s.drp.grans.any fun e => (List.range 16).any fun i => (s.savRole (e.1 * 16 + i)).isSome && (s.heldPage (e.1 * 16 + i)).isSome == again

/-- A page waits to be programmed, and nothing is left to program it on (R234): neither the reserve, with the allowance for a repetition, nor
an ERASED block. -/
def State.noSpace (s : State) : Bool := [false, true].any fun again => !s.pageSpace again && s.pageWaits again

/-- The save stops for want of space (R234). -/
def State.stopForSpace (s : State) : State := s.abortSave 3 0 Ev.SAVE_NO_SPACE false

/-- The save goes on, or stops for want of space (R219, R234). -/
def State.saveOn (s : State) : State :=
  let s := s.settle
  if s.noSpace then s.stopForSpace else s

/-- CUTTING_END (R216, R217, R225, R614): SAVING begins; the links and the application domain go down. -/
def execCuttingEnd (s : State) : Res :=
  if s.pstate != PState.CUTTING || s.pwr.underway || !s.cutQuiet then s.idle
  else
    let s := (s.enter PState.SAVING).putAll [(Reg.SAV_PROGRESS.PAGES, 0), (Reg.SAV_LAST_RESULT.END, 0)]
    let s := { s with sav := { s.sav with start := s.flash.nextLsn } }
    .next ((((s.allLinksDown).domainOff 6).domainOff 7).domainOff 1).showFailedFc.saveOn

/-- Lines of a page that SAV could not read (R224): those that its read finds uncorrectable, and those on a DMC channel in FAILED. -/
def State.unreadLines (s : State) (page : Nat) (role : Role) (uncorrectable : List Nat) : Nat :=
  ((List.range 64).filter fun i => uncorrectable.contains (page * 64 + i) || s.lineFailed (s.sourceOf page role / 64 + i)).length

/-- A page that SAV has programmed belongs to the sealing epoch or to the cut, whose index is then still to be built (R221, R223). -/
def State.joinSave (s : State) (role : Role) (page lsn : Nat) : State :=
  match role with
  | .opened => { s with sav := { s.sav with recs := newest s.sav.recs page lsn, indexed := false } }
  | _ => s.joinEpoch .sealing page lsn

/-- The feed buffer of a channel has a slot for a page (R227): one that holds it, or one of the eight that holds no other to be repeated. -/
def State.feedRoom (s : State) (channel page : Nat) : Bool :=
  (s.heldPage page).isSome || decide ((s.sav.held.countP fun (f : FeedSlot) => f.channel == channel) < 8)

/-- A page in a slot of a channel's feed buffer (R224, R227, R233): read now, unless the slot still holds it from a program that failed. -/
def State.feedPage (s : State) (channel page : Nat) (errors : LineErrors) (role : Role) : FeedSlot × State :=
  match s.heldPage page with
  | some f => (f, s)
  | none =>
    let s := s.readForProgram reqSav page role errors
    (⟨channel, page, s.contents page role errors.uncorrectable, s.unreadLines page role errors.uncorrectable⟩, s)

/-- A slot of a channel's feed buffer has emptied with the program of its page (R227): of the slots that were empty SAV has refilled a free
number meanwhile (log entry 54), and those whose pages are to be programmed again stay taken. The page's lines were read from some DMC
channels. Once no page waits no feed is in panic. -/
def State.feedEmptied (s : State) (n page : Nat) (role : Role) : State :=
  let old := ((NMap.find? s.sav.feeds n).map Feed.empty).getD 7
  let held := s.sav.held.countP fun (f : FeedSlot) => f.channel == n
  let empty := min (8 - held) (old + 1 - s.free % (old + 1))
  let lines := (List.range 64).map (s.sourceOf page role / 64 + ·)
  let s := s.tick.setFeed n empty ((lines.map fun l => s.channelOf (l * 64)).eraseDups)
  if s.pageWaits false || s.pageWaits true then s.judgePanic else s.endPanic

/-- SAV programs a page (R218, R221, R223, R224, R233): lines it could not read are poisoned in the record. -/
def State.savePage (s : State) (page fa : Nat) (errors : LineErrors) (role : Role) : State :=
  let (f, s) := s.feedPage (faChannel fa) page errors role
  let lsn := s.flash.nextLsn
  let s := ((s.newLsn.putRecord lsn page fa f.image).openAt fa 2).joinSave role page lsn
  let d := if role == .carafe then { s.drp with slots := NMap.erase s.drp.slots page, slotNo := NMap.erase s.drp.slotNo page } else s.drp
  let s := { s with
    drp := (d.takePage page role).settleGran (granOf page)
    sav := { s.sav with poison := s.sav.poison + f.bad, held := s.sav.held.filter fun (f : FeedSlot) => f.page != page } }
  ((s.put Reg.DRP_CAR_USED.SLOTS s.slotsUsed).feedEmptied (faChannel fa) page role).savedPage

/-- What the SAVE_OPEN record says (R218, R328). -/
def State.openBody (s : State) : OpenBody where
  cut := s.sav.epoch
  sealing := s.sav.sealing
  durable := s.sav.durable
  d := s.sav.cutD
  f := s.sav.cutF
  c := s.sav.cutC
  source := s.sav.source
  fromRestore := s.sav.fromRestore
  resumeOk := s.sav.mayResume
  start := s.sav.start

/-- The save-open record passes. The mirror on flash is from then on that of this save, or none until it has passed (R716). -/
def State.saveOpened (s : State) (fa fb : Nat) : State :=
  let lsn := s.flash.nextLsn
  let s := s.addRing fa fb (.saveOpen s.openBody)
  { s with
    sav := { s.sav with opened := true, openLsn := lsn, openFa := fa }
    evr := { s.evr with mirror := if s.sav.mirrored then s.evr.mirror else [] } }

/-- The seal record of the sealing epoch passes in the save: its boundary came so late that it had not passed before the cut. The commit
record names it (R328), so SAV programs it too (DEDUCED; log entry 101). -/
def State.sealRecordInSave (s : State) (fa fb : Nat) : State :=
  let s := s.addSeal fa fb
  { s with drp := { s.drp with sealStep := .persisting } }.chargeWear recordBytes

/-- The sealing epoch's commit record passes during the save (R151, R220): steps 1 and 2 of R170. -/
def State.sealInSave (s : State) (fa fb : Nat) : State :=
  let s := ((s.sealDurable fa fb).chargeWear recordBytes).record Ev.SEAL_IN_SAVE wide []
  { s with sav := { s.sav with sealDurable := true } }.put Reg.SAV_LAST_RESULT.SEAL_DURABLE 1

/-- The newest record of every page in the role of the cut (R221, R223, R225, R283). -/
def State.cutRecords (s : State) : NMap Nat := NMap.unionNew (NMap.unionNew s.flash.baseIndex s.flash.openRecs) s.sav.recs

/-- Pages whose entry changes in the cut index (R221, R223, R333): those with a record in the role of the cut, and those that it records
as poisoned. -/
def State.cutPages (s : State) : List Nat :=
  (NMap.unionNew s.flash.openRecs s.sav.recs).map Prod.fst ++ s.spoiledPages s.cutRecords s.flash.spoiled

/-- The index of the cut (R221, R223–R225, R283): the newest record of every page, and the lines that are poisoned since. -/
def State.cutIndex (s : State) : NMap Nat := s.withSpoiled s.cutRecords s.flash.spoiled

/-- The cut index has passed (R218, R332). -/
def State.cutIndexed (s : State) (fas : List Nat) : State :=
  let keys := indexKeys s.cutPages
  let words := buildWords s.flash.baseWords keys fas s.flash.nextLsn
  let s := (s.putCodewords fas).putWords s.cutIndex words keys
  { s with sav := { s.sav with words, indexed := true } }

/-- A part of the event mirror (R323, R716). -/
def State.mirrorPart (s : State) (part lsn : Nat) : KeeperWord :=
  ⟨lsn, part, 9, 0, s.get Reg.NFC_KEY.KEYGEN, .mirror ((s.evr.circ.drop (128 * part)).take 128)⟩

/-- The event mirror holds the circulating area (R716). -/
def State.mirrorSaved (s : State) (fas : List Nat) : State :=
  let lsn := s.flash.nextLsn
  let s := (s.putCodewords fas).each fas.zipIdx fun s e => s.putCell e.1 (s.mirrorPart e.2 (lsn + e.2))
  { s with
    evr := { s.evr with mirror := s.evr.circ }
    flash := { s.flash with mirrorFas := fas }
    sav := { s.sav with mirrored := true } }

/-- An item of the save is still to be programmed, and R219 allows it now. -/
def State.itemPending (s : State) (item : SaveItem) : Bool :=
  let sealing (step : SealStep) : Bool := s.drp.sealEpoch != 0 && s.drp.sealStep == step
  match item with
  | .openRecord => !s.sav.opened
  | .page page => (s.savRole page).isSome
  | .sealRecord => sealing .sealQueued
  | .sealIndex => sealing .indexQueued
  | .sealCommit => sealing .commitQueued
  | .mirror => !s.sav.mirrored
  | .cutIndex => s.saveStep == 7
  | .cutCommit => s.saveStep == 8

/-- A ring record of the save passes (R325); where nothing is left for it the save stops (R234). -/
def State.saveRing (s : State) (k : Nat → Nat → State → State) : Res :=
  match s.ringSpots fun _ => true with
  | none => .next s.stopForSpace
  | some (fa, fb) => .next (k fa fb s.repeatPassed).saveOn

/-- Index codewords of the save pass; where nothing is left for them the save stops (R234). -/
def State.saveIndex (s : State) (n : Nat) (k : List Nat → State → State) : Res :=
  match State.wordSpots n s n with
  | none => .next s.stopForSpace
  | some fas => .next (k fas s.repeatPassed).saveOn

/-- SAVE_PROGRAM_PASS (R151, R218–R225, R230, R233, R234): a program of the save passes, in an order that R219 allows; a page's record at
`fa`, with the lines that its read has found uncorrectable. -/
def execSaveProgramPass (item : SaveItem) (fa : Nat) (errors : LineErrors) (s : State) : Res :=
  if s.pstate != PState.SAVING || s.pwr.underway || !s.itemPending item then s.idle
  else match item with
    | .openRecord => s.saveRing fun fa fb s => s.saveOpened fa fb
    | .page page =>
      match s.savRole page with
      | none => s.idle
      | some role =>
        if !s.savTarget (s.heldPage page).isSome fa || !s.feedRoom (faChannel fa) page then s.idle
        else if !s.inOrder fa then .next (s.refuseOrder fa)
        else .next (s.repeatPassed.savePage page fa errors role).saveOn
    | .sealRecord => s.saveRing fun fa fb s => s.sealRecordInSave fa fb
    | .sealIndex => s.saveIndex s.segmentKeys.length fun fas s =>
        let s := s.putSegment fas
        { s with drp := { s.drp with sealStep := .commitQueued } }
    | .sealCommit => s.saveRing fun fa fb s => s.sealInSave fa fb
    | .mirror => s.saveIndex 16 fun fas s => s.mirrorSaved fas
    | .cutIndex => s.saveIndex (indexKeys s.cutPages).length fun fas s => s.cutIndexed fas
    | .cutCommit => s.idle

/-- SAV may have programmed this at a flash address. -/
def State.saveTarget (s : State) (item : SaveItem) (fa : Nat) : Bool :=
  match item with
  | .page page => s.savTarget (s.heldPage page).isSome fa && s.feedRoom (faChannel fa) page
  | .openRecord | .sealRecord | .sealCommit | .cutCommit => s.ringTarget fa
  | .sealIndex | .mirror | .cutIndex => s.indexTarget fa

/-- A program of the save has failed at an address (R232–R234, R236, R306, R315): its block is retired, the slot it took and its repetition
count against the data part of the reserve and its retry allowance, for a record, too (DESIGN CHOICE; log entry 133), and the fault stands until it has been repeated. The repetition takes the LSN that the
program would have had. -/
def State.saveFailed (s : State) (fa owner : Nat) : State :=
  let s := (s.openAt fa owner).keeperFailed fa
  ({ s with sav := { s.sav with retries := s.sav.retries + 1 } }.useReserve 1 1).showFailedFc.saveOn

/-- A slot of a channel's feed buffer stays taken by a page that is to be programmed again (R227, R233). -/
def State.feedHeld (s : State) (n : Nat) : State :=
  let held := s.sav.held.countP fun (f : FeedSlot) => f.channel == n
  match NMap.find? s.sav.feeds n with
  | none => s
  | some f => (s.setFeed n (min (8 - held) f.empty) []).judgePanic

/-- SAVE_PROGRAM_FAIL (R227, R232–R234, R236): the block is retired and the program is to be repeated; a page stays in its slot of the feed
buffer, and the same data are programmed again. -/
def execSaveProgramFail (item : SaveItem) (program : FailedProgram) (s : State) : Res :=
  let fa := program.fa
  if s.pstate != PState.SAVING || s.pwr.underway || !s.itemPending item || !s.saveTarget item fa then s.idle
  else if !s.inOrder fa then .next (s.refuseOrder fa)
  else match item with
    | .page page =>
      match s.savRole page with
      | none => s.idle
      | some role =>
        let (f, s) := s.feedPage (faChannel fa) page program.errors role
        let held := { f with channel := faChannel fa } :: s.sav.held.filter fun (x : FeedSlot) => x.page != page
        .next (State.saveFailed (State.feedHeld { s with sav := { s.sav with held } } (faChannel fa)) fa 2)
    | _ => .next (s.saveFailed fa 4)

/-- A record of the sealing epoch, or one of a save, is to be programmed next, and may be programmed at a flash address (R171, R236). -/
def State.recordTarget (s : State) (fa : Nat) : Bool :=
  if s.saving then
    s.pstate == PState.SAVING && !s.pwr.underway &&
      [SaveItem.openRecord, .sealRecord, .sealIndex, .sealCommit, .cutIndex, .cutCommit].any fun i => s.itemPending i && s.saveTarget i fa
  else s.drp.sealEpoch != 0 && match s.drp.sealStep with
    | .persisting => false
    | .indexQueued => s.indexTarget fa
    | _ => s.ringTarget fa

/-- RING_RECORD_PROGRAM_FAIL (R171, R236, R306, R315, R322): a seal, index or commit record is to be programmed again on another block, and the
epoch goes on; a save counts the repetition. -/
def execRingRecordProgramFail (fa : Nat) (s : State) : Res :=
  if !s.recordTarget fa then s.idle
  else if !s.inOrder fa then .next (s.refuseOrder fa)
  else if s.saving then .next (s.saveFailed fa 4)
  else .next (s.keeperFailed fa)

/-- DRIP_PROGRAM_FAIL (R144, R223, R230, R236, R238, R315): the same data are programmed again, at `fa`, from the buffer: by Drip, or
after the cut by SAV, unless the save has been aborted or nothing is left to program it on (R234). -/
def execDripProgramFail (page : Nat) (fa : Nat) (s : State) : Res :=
  match takeFirst (fun p => p.page == page) s.drp.progs with
  | none => s.idle
  | some (p, rest) =>
    let target := if s.saving then s.savTarget true fa && !s.pwr.underway else s.dripTarget fa
    if s.pstate == PState.SAVING && !s.pwr.underway && !(s.programFailed p.fa).pageSpace true then .next (s.programFailed p.fa).stopForSpace
    else if faBlock fa == faBlock p.fa || !target then s.idle
    else if !s.inOrder fa then .next (s.refuseOrder fa)
    else
      let sav := s.saving
      let s := s.programFailed p.fa
      let again := { p with fa, failed := p.failed ++ [faChannel p.fa], bySav := p.bySav || sav }
      let s := { s with drp := { s.drp with progs := again :: rest } }
      let s := if sav then { s with sav := { s.sav with retries := s.sav.retries + 1 } }.useReserve (if p.bySav then 1 else 0) 1 else s
      .next (s.openAt fa (if sav then 2 else 1))

/-- The SAV_LAST registers take the figures of the save (R242, R254); the times are measured. -/
def State.showLastSave (s : State) : State :=
  let s := s.putAll [
    (Reg.SAV_LAST_RESULT.END, 1), (Reg.SAV_LAST_RESULT.RESUMED, 0), (Reg.SAV_LAST_RESULT.ABORT_RAIL, 0),
    (Reg.SAV_LAST_RESULT.SEAL_DURABLE, ofBool s.sav.sealDurable), (Reg.SAV_LAST_RESULT.THERMAL, ofBool s.sav.thermal),
    (Reg.SAV_LAST_RESULT.DMC_THROTTLE, ofBool s.sav.dmcThrottle), (Reg.SAV_LAST_RESULT.FROM_RESTORE, ofBool s.sav.fromRestore),
    (Reg.SAV_LAST_PAGES.PAGES, s.sav.pages), (Reg.SAV_LAST_POISON.LINES, s.sav.poison),
    (Reg.SAV_LAST_RETRY.PROG_RETRY, min s.sav.retries 0xFFFF), (Reg.SAV_LAST_RETRY.PANIC_CNT, min s.sav.panics 0xFFFF)]
  let s := s.putPair Reg.SAV_LAST_EPOCH_LO.NUM_LO Reg.SAV_LAST_EPOCH_HI.NUM_HI s.sav.epoch
  (s.putFree Reg.SAV_LAST_TIME.SAVE_MS).putFree Reg.SAV_LAST_TIME.CUT_US

/-- What the CUT_COMMIT record says (R328): the fields that SAV_LAST reports are those of its registers. -/
def State.cutBody (s : State) : CommitBody :=
  { s.commitBody true s.sav.epoch s.sav.openFa false s.sav.fromRestore s.cutIndex s.sav.words with
    saveMs := s.get Reg.SAV_LAST_TIME.SAVE_MS
    cutUs := s.get Reg.SAV_LAST_TIME.CUT_US
    sealDurable := s.sav.sealDurable
    thermal := s.sav.thermal
    dmcThrottle := s.sav.dmcThrottle
    fromRestore := s.sav.fromRestore
    pages := s.sav.pages
    retries := min s.sav.retries 0xFFFF
    panics := min s.sav.panics 0xFFFF }

/-- The cut is the retained cut (R73) and the image that later epochs refer to (R328). -/
def State.retainCut (s : State) (fa commit : Nat) : State :=
  let index := s.cutIndex
  let img : Image := {
    cut := true
    number := s.sav.epoch
    rack := false
    inRestore := s.sav.fromRestore
    readable := true
    sealReadable := true
    newer := false
    index
    fitted := s.extents
    carafe := s.get Reg.DRP_CAR_CFG.SIZE_GIB
    reserved := s.reservedExtents
    words := s.sav.words
    commit
    ref := s.sav.openLsn }
  let images := img :: s.flash.images.filter fun i => !i.cut
  { s with flash := { s.flash with
    images, baseIndex := index, baseWords := s.sav.words, baseCommit := fa, openRecs := [], sealRecs := [], openOld := [], sealOld := [],
    oldWords := [],
    abandoned := false } }.releaseBlocks.showRetained

/-- The cut commit record passes (R151, R218). -/
def State.commitCut (s : State) (fa fb : Nat) : State :=
  let lsn := s.flash.nextLsn
  ((s.addRing fa fb (.commit s.cutBody)).retainCut fa lsn).chargeWear recordBytes

/-! ## Resume in place (R243–R248) -/

/-- GLB_IMAGE reports the cut kept in DRAM (R64, R246). -/
def State.reportResumed (s : State) : State :=
  (s.putAll [
    (Reg.GLB_IMAGE.SOURCE, 1), (Reg.GLB_IMAGE.REASON, 0), (Reg.GLB_IMAGE.RESUMED, 1), (Reg.GLB_IMAGE.OLDER, 0),
    (Reg.SAV_LAST_RESULT.RESUMED, 1)]).putPair Reg.GLB_IMAGE_EPOCH_LO.LO Reg.GLB_IMAGE_EPOCH_HI.HI s.sav.epoch

/-- A shadow that a power event finds is discarded, and the stored value applies (R197). -/
def State.dropShadow (s : State) (f : Fld) : State :=
  if (NMap.find? s.shadows f.key).isNone then s
  else { s with shadows := NMap.erase s.shadows f.key, regs := s.regs.set f (s.stored.get f) }

/-- Tracking restarts with every granule PERSISTED, and the first epoch opens (R197, R246 step 3). -/
def State.restartTracking (s : State) : State :=
  let d := s.drp
  let s := { s with drp := { d with
    grans := [], progs := [], slots := [], slotNo := [], copying := [], directs := [], tracking := true, tokens := 0, tokenPart := 0, heldCredit := 0,
    sealEpoch := 0, sealRack := false, deferred := false, bcnRef := 0, bcnAccepted := none } }
  let s := if s.ready Reg.GLB_READY.BEACON_LOCK then s.unlock else s.put Reg.DRP_BCN_STAT.GOOD_RUN 0
  let s := ((s.dropShadow Reg.DRP_CFG.BUDGET_CFG).dropShadow Reg.DRP_BND_CFG.TIMING).dropShadow Reg.DRP_BND_CFG.PERIOD_MS
  ((s.put Reg.DRP_CAR_USED.SLOTS 0).setOverCap false).openFirst

/-- The save is over: the blocks that it has opened from the reserve are blocks like any other. -/
def State.endReserve (s : State) : State :=
  { s with flash := { s.flash with blocks := s.flash.blocks.map fun (e : Nat × Block) => (e.1, { e.2 with fromReserve := false }) } }

/-- RESUMING begins (R246): steps 1 to 6, with the voltage-table figure and MODE CONSERVATIVE (R652, log entry 88); the flash
may be written again (log entry 87). The reserve is filled up again from the ERASED pool (R321). -/
def State.resume (s : State) : State :=
  let s := (s.enter PState.RESUMING).enableFlash
  let s := s.each (List.range 8) fun s c =>
    let s := s.put (Reg.DMC_STAT.SELF_REFRESH c) 0
    if s.get (Reg.DMC_SPARE.STATE c) == 3 then s.put (Reg.DMC_SPARE.STATE c) 2 else s
  let s := s.reportResumed.restartTracking.endReserve.keepReserve
  let s := { s with hif := { s.hif with resumed := (List.range 4).filter s.headEnabled } }
  let s := (if s.flag Reg.RSV_STAT.PRESENT then s.loadFigure else s).put Reg.GLB_ARM.MODE 1
  (s.recompute.domainStart 6).domainStart 7

/-- DEVICE_RESUMED to a head that has CXL.mem enabled once its link has retrained (R64). -/
def State.tellResumed (s : State) (h : Fin 4) : State :=
  if s.hif.resumed.contains h.val && s.headLive h then
    let s := { s with hif := { s.hif with resumed := s.hif.resumed.filter (· != h.val) } }.emit (.notice h 7 [])
    s.each allLds fun s ld => if s.ldMem ld && s.ldPresent ld && s.ldHead ld == h.val then s.signal ld 7 else s
  else s

/-- The barriers that a cut left without a completion lose their entries at the end of RESUMING (R101, R485). -/
def State.dropBarriers (s : State) : State :=
  { s with cmd := { s.cmd with
    barriers := []
    results := s.cmd.results.filter fun (e : ResultEntry) => !(e.opcode == Opc.SEAL_BARRIER && e.status.isNone) } }

/-- RESUMING ends in UNARMED. -/
def State.unarmed (s : State) : State := (s.put Reg.GLB_ARM.MODE 0).recompute.enter PState.UNARMED

/-- The state that RESUMING ends in (R36, R246 step 7): ARMED where R85 holds and ARM_HOLD is 0, otherwise UNARMED. R86 asks for an ARM
command where AUTO_ARM is 0, R36 and R246 do not: the model follows these (DESIGN CHOICE; log entry 128). -/
def State.armOrNot (s : State) : State :=
  if s.flag Reg.GLB_ARM.ARM_HOLD then s.unarmed
  else match s.tryArm with
    | some t => t
    | none => s.unarmed

/-- The device leaves RESUMING (R205, R208, R246 step 7, R248); a latched Foghorn then asserts anew, with the sources seen since.
SAV_FOG_SRC keeps what it recorded until the next assertion or the next shutdown without Foghorn (log entry 118). -/
def State.resumeExit (s : State) : State :=
  if s.pstate != PState.RESUMING || s.pwr.underway || s.cpx.restarting || !(List.range 4).any s.headUp then s
  else
    let latched := s.sav.latched
    let s := (s.putAll [
      (Reg.PWR_STAT.FOGHORN, 0), (Reg.SAV_STAT.LATCHED, 0), (Reg.SAV_STAT.RESUME_OK, 0), (Reg.SAV_STAT.PHASE, 0)]).emit (.pin 1 0 true)
    let s := if s.get Reg.RSE_STAT.PHASE == 7 && !s.ready Reg.GLB_READY.MEM_FULL then s.put Reg.RSE_STAT.PHASE 5 else s
    let s := { s.dropBarriers with sav := Sav.reset }
    let s := if s.flag Reg.RSV_STAT.PRESENT then s else s.packGone
    let s := s.armOrNot.record Ev.DEVICE_RESUMED wide []
    let s := s.showCeiling.each allHeads State.tellResumed
    match latched with
    | none => s
    | some (src, stay, cap, seen) => (s.assertFoghorn src stay cap).put Reg.SAV_FOG_SRC.SEEN seen

/-- What follows SAVED (R243): resume in place, wait for VIN_MAIN's 50 ms or for the end of a Keeper restart (R246, R540), or shut down. -/
def State.afterSaved (s : State) : State :=
  if !s.sav.mayResume || !s.flag Reg.PWR_STAT.VIN_VALID then s.shutdown Off.SAVED s.pwr.stay
  else if s.pwr.vinLong && !s.cpx.restarting then s.resume
  else s

/-- CUT_COMMIT_PASSED (R73, R150, R151, R242, R243, R325, R714, R760): both copies of the cut commit record have passed, after the cut
index: SAVED. -/
def execCutCommitPassed (s : State) : Res :=
  if s.pstate != PState.SAVING || s.pwr.underway || s.saveStep != 8 then s.idle
  else if (s.ringSpots fun _ => true).isNone then .next s.stopForSpace
  else s.ringProgram (fun _ => true) fun fa fb s =>
    let s := ((s.enter PState.SAVED).endPanic.put Reg.SAV_STAT.PHASE 9).showLastSave.commitCut fa fb
    let s := s.each (List.range 8) fun s c => if s.flag (Reg.DMC_STAT.UP c) then s.selfRefresh c else s
    let s := (s.record Ev.SAVE_COMMIT wide [])
    let s := { s with evr := s.evr.programFirst }.writeLearned
    .next s.protectFlash.afterSaved

/-- KEEPER_RESTART_END (R540, R541, R727): a failed check, or the third restart that counts, raises Foghorn with STAY_OFF. The Keeper's steps of
a resume in place, which have waited, follow. -/
def execKeeperRestartEnd (ok : Bool) (s : State) : Res :=
  if !s.cpx.restarting then s.idle
  else
    let lost := !ok || (!s.cpx.manual && decide (3 ≤ s.cpx.restarts.length))
    let s := State.recordDeferred { s with cpx := { s.cpx with restarting := false, manual := false } }
    let s := if lost then (s.record Ev.KEEPER_STATE_LOST wide []).foghorn Fog.COMMAND true 0 else s
    .next (if s.pstate == PState.SAVED && !s.pwr.underway then s.afterSaved else s.resumeExit)

/-- VIN_VALID_QUALIFIED (R243, R602): VIN_MAIN has been valid for 50 ms. -/
def execVinValidQualified (s : State) : Res :=
  if !s.flag Reg.PWR_STAT.VIN_VALID then s.idle
  else
    let s := { s with pwr := { s.pwr with vinLong := true } }
    .next (if s.pstate == PState.SAVED && !s.pwr.underway then s.afterSaved else s)

/-- RESUME_TIMEOUT (R248): no link has retrained 100 ms after a latched Foghorn. -/
def execResumeTimeout (s : State) : Res :=
  if s.pstate == PState.RESUMING && s.sav.latched.isSome && !s.pwr.underway then
    .next (s.shutdown Off.RESUME_TIMEOUT s.pwr.stay)
  else s.idle

/-! ## VIN_MAIN (R243, R600, R602) -/

/-- VIN_MAIN_FALL: below its warning level. A dip shorter than 20 µs is counted; either ends a wait of R243. -/
def execVinMainFall (shortDip : Bool) (s : State) : Res :=
  if !s.flag Reg.PWR_STAT.VIN_VALID then s.idle
  else
    let s := { s with pwr := { s.pwr with vinLong := false } }
    let s := if shortDip then s.count Reg.PWR_EVCNT.VIN_DIP 1 else s.put Reg.PWR_STAT.VIN_VALID 0
    .next (if s.pstate == PState.SAVED && !s.pwr.underway then s.shutdown Off.SAVED s.pwr.stay else s)

/-- VIN_LOSS_DETECTED: below the level for 20 µs. -/
def execVinLossDetected (s : State) : Res :=
  if s.flag Reg.PWR_STAT.VIN_VALID then s.idle else .next (s.foghorn Fog.VIN_LOSS false 0)

/-- VIN_MAIN_RETURN: valid, and the 50 ms qualification starts. -/
def execVinMainReturn (s : State) : Res :=
  if s.flag Reg.PWR_STAT.VIN_VALID then s.idle
  else .next ({ s with pwr := { s.pwr with vinLong := false } }.put Reg.PWR_STAT.VIN_VALID 1)

end Sys2Proof.Machine
end

