-- ==== Sys2Proof/Machine/Power.lean ====
section
/-! DEFINITION. Power supervision, sequencing and clocks (chapter 14): rails, the timed shutdown, power-on requests,
power-up, the button and manual reset, VSUP, PLLs and power domains. -/

namespace Sys2Proof.Machine

open Host

/-! ## Rails (R587–R591) -/

/-- The unit number of power supervision and the clocks (R22, R51). -/
def pwrUnit : Nat := 13

/-- The rail is used: its rank in force is not 15 and it has not been disabled under R599. -/
def State.railUsed (s : State) (n : Nat) : Bool := s.get (Reg.PWR_RAIL_CTL.RANK n) != 15 && !s.pwr.unused.contains n

/-- A rail is supervised from the end of its power-up step to the start of its shutdown step (R590). -/
def State.supervised (s : State) (n : Nat) : Bool :=
  s.railUsed n && s.flag (Reg.PWR_RAIL_CTL.EN n) && (s.get Reg.PWR_STAT.SEQ != 1 || s.flag (Reg.PWR_RAIL_CTL.PG n))

/-- A crossing of the fault level acts by persistence state (R591). `label` names the rail for R238, where a rail crossed. -/
def State.railAct (s : State) (critical reserve : Bool) (label : Nat) : State :=
  let p := s.pstate
  if s.pwr.underway then s
  else if s.get Reg.PWR_STAT.SEQ == 1 then s.shutdown Off.RAIL_FAULT false
  else if p == PState.CUTTING || p == PState.SAVING then
    if critical then s.abortSave 2 label Ev.SAVE_ABORT true else s
  else if p == PState.SAVED then
    if critical then { s with sav := { s.sav with mayResume := false } }.put Reg.SAV_STAT.RESUME_OK 0 |>.shutdown Off.SAVED true else s
  else if p == PState.KEEPER_BOOT || p == PState.LOST then
    if reserve then s.showReserveOk else s.shutdown (if s.fogged then Off.NO_SAVE else Off.RAIL_FAULT) true
  else if critical then s.shutdown (if s.fogged && p != PState.RESUMING then Off.NO_SAVE else Off.RAIL_FAULT) true
  else if reserve then s.loseReserve s.lossTerm
  else s.foghorn Fog.COMMAND true 0

/-- A rail is beyond its fault level (R590): its first crossing is latched, recorded and acted on. -/
def State.railFault (s : State) (n : Nat) : State :=
  if s.flag (Reg.PWR_RAIL_CTL.FAULT n) then s
  else
    let s := s.putAll [(Reg.PWR_RAIL_CTL.FAULT n, 1), (Reg.PWR_RAIL_LATCH.FAULT_SEEN, setBitOf (s.get Reg.PWR_RAIL_LATCH.FAULT_SEEN) n)]
    let s := (s.record Ev.RAIL_FAULT n [(1, n), (2, s.get (Reg.PWR_RAIL_CTL.SNS_MV n))]).strike pwrUnit Ev.RAIL_FAULT.sev
    s.railAct (rail n).critical (n == 15) n

/-- A rail is below its warning level (R590, R591). -/
def State.railWarn (s : State) (n : Nat) : State :=
  if s.flag (Reg.PWR_RAIL_CTL.WARN n) then s
  else
    let s := s.putAll [(Reg.PWR_RAIL_CTL.WARN n, 1), (Reg.PWR_RAIL_LATCH.WARN_SEEN, setBitOf (s.get Reg.PWR_RAIL_LATCH.WARN_SEEN) n)]
    s.record Ev.RAIL_WARN n [(1, n), (2, s.get (Reg.PWR_RAIL_CTL.SNS_MV n))]

/-- One more in a row, or none. -/
def runOf (hit : Bool) (n : Nat) : Nat := if hit then min (n + 1) 2 else 0

/-- A rail is within its fault level again; the reserve is judged anew for RAIL15 (R644). -/
def State.railWell (s : State) (n : Nat) : State :=
  let s := s.put (Reg.PWR_RAIL_CTL.FAULT n) 0
  if n == 15 && s.ready Reg.GLB_READY.KEEPER_UP && !s.fogged then s.recompute.showReserveOk else s

/-- A sample of the rail compare (R590, R676): two in a row cross a level; an over-range result is beyond the fault level.
A sample at or above the warning level shows that RAILn_PG is high again (log entry 20). -/
def State.railSample (s : State) (n mv : Nat) (ovr : Bool) : State :=
  let s := s.put (Reg.PWR_RAIL_CTL.SNS_MV n) mv
  if !s.supervised n then s
  else
    let (w, f, o) := (NMap.find? s.pwr.runs n).getD (0, 0, 0)
    let w := runOf (decide (mv < s.get (Reg.PWR_RAIL_LVL.WARN_MV n))) w
    let f := runOf (decide (mv < s.get (Reg.PWR_RAIL_LVL.FAULT_MV n))) f
    let o := runOf (decide ((rail n).nominal * 115 < mv * 100)) o
    let s := { s with pwr := { s.pwr with runs := NMap.insert s.pwr.runs n (w, f, o) } }
    let s := if w == 2 then s.railWarn n else if w == 0 then s.putAll [(Reg.PWR_RAIL_CTL.WARN n, 0), (Reg.PWR_RAIL_CTL.PG n, 1)] else s
    if f == 2 || o == 2 || ovr then s.railFault n
    else if f == 0 && o == 0 && s.flag (Reg.PWR_RAIL_CTL.PG n) && s.flag (Reg.PWR_RAIL_CTL.FAULT n) then s.railWell n
    else s

/-- RAIL_PG_LOW (R590, R591). -/
def execRailPgLow (n : Fin 16) (s : State) : Res :=
  if !s.supervised n then s.idle else .next ((s.put (Reg.PWR_RAIL_CTL.PG n) 0).railFault n)

/-! ## The end of a power cycle (R606, R779) -/

/-- Fields that lie in the Lantern domain, or that inputs drive: they keep their values while VSUP stays present. -/
def lanternKept : List Fld := [
  Reg.PWR_LAN.LAST_OFF, Reg.PWR_LAN.LAST_ON, Reg.PWR_LAN.STAY_OFF, Reg.PWR_LAN.LAN_RESET, Reg.PWR_LAN.IGNORED, Reg.PWR_LAN.AUTO_ON,
  Reg.PWR_LAN.FAIL_RAIL, Reg.PWR_LAN.SAVE_END, Reg.PWR_LAN.SAVE_RAIL, Reg.PWR_LAN_SHDN.STUCK, Reg.PWR_LAN_SHDN.EARLY,
  Reg.RSV_LAN.PACK_GONE, Reg.RSV_LAN.REST_MIN, Reg.RSV_LAN.LAST_MV, Reg.RSV_LAN_CLK.OFF_MIN,
  Reg.PWR_STAT.VIN_VALID, Reg.PWR_STAT.VSUP_LOW, Reg.PWR_VSUP.VSUP_MV, Reg.PWR_VIN.VIN_MV]

/-- Fields that the Keeper store keeps besides the configuration records: slots, versions, counter, key generation. -/
def storeKept : List Fld := [
  Reg.KST_SLOT.ACTIVE, Reg.KST_SLOT.CHECK, Reg.KST_SLOT.ATTEMPTS, Reg.KST_VER_A.VERSION, Reg.KST_VER_B.VERSION, Reg.KST_ARB.COUNTER,
  Reg.NFC_KEY.KEYGEN, Reg.NFC_BAD_FACTORY.BLOCKS, Reg.NFC_BAD_GROWN.BLOCKS]

/-- The registers of a device that is OFF: reset values, the configuration records, and what the Lantern domain and the
Keeper store keep. A rank takes its new value at the next power-up (R588). -/
def State.offRegs (s : State) : RegFile :=
  let r := RegFile.setAll [] (resetFields ++ shippedSeq)
  let r : RegFile := NMap.union r s.stored
  let r := (r.setAll ((lanternKept ++ storeKept).map fun f => (f, s.get f))).set Reg.CPX_FW_FLOOR.FLOOR s.kst.floor
  let r := (List.range 16).foldl (fun (r : RegFile) n =>
    ((r.set (Reg.PWR_RAIL_CTL.RANK n) (r.get (Reg.PWR_RAIL_CTL.RANK_NEXT n))).set (Reg.PWR_RAIL_CTL.EN n) 0).set (Reg.PWR_RAIL_CTL.PG n) 0) r
  r.setAll [(Reg.GLB_STATE.STATE, PState.OFF), (Reg.PWR_STAT.SEQ, 0), (Reg.CLK_PLL_STAT.RUNNING, 0), (Reg.CLK_PLL_STAT.LOCKED, 0),
    (Reg.CLK_DOM_STAT.ON, 0)]

/-- An entry of the region record at the next start (R450, R451): an extent that waits to be added takes its prior state,
one that waits to be released stays mapped, and a fill starts again. -/
def Extent.atStart (x : Extent) : Option Extent :=
  let x := match x.st with
    | .addPending => { x with st := x.prior, ld := x.priorLd }
    | .releasePending => { x with st := .mapped }
    | .sanitizing => { x with fillNext := 0, fillEpoch := 0 }
    | _ => x
  if x.st == .free then none else some x

/-- What flash and the Keeper store hold of the image log over a power cycle: records, retained images, ring and block states. A start
reads the ring blocks that the stored list names (R326), so a ring record in another block, and its image, are not found. -/
def Flash.atStart (f : Flash) : Flash :=
  let ring := f.ring.filter fun r => f.ringStored.contains (faBlock r.fa) || f.ringStored.contains (faBlock r.fb)
  { Flash.reset with
    records := f.records
    images := f.images.filter fun i => ring.any fun r => r.lsn == i.commit
    nextLsn := f.nextLsn
    ring
    ringBlocks := f.ringStored
    ringStored := f.ringStored
    journalSeq := f.journalSeq
    cells := f.cells
    mirrorFas := f.mirrorFas
    blocks := f.blocks
    blankSt := f.blankSt
    labels := f.labels
    refill := f.refill
    repeated := f.repeated
    recordShort := f.recordShort
    diag := f.diag }

/-- Power is gone: the state becomes OFF, and what no store keeps is lost, as are the records that were gathered for a page of the first
area (R714). -/
def State.coldReset (s : State) : State :=
  { State.reset with
    regs := s.offRegs
    stored := s.stored
    freeCtr := s.freeCtr
    out := s.protectFlash.out
    evr := { s.evr with
      first := s.evr.first.take s.evr.firstProgrammed, circ := [], sev := [], waiting := [], deferred := [], cursors := Cursor.banks, baseWritten := false
      base := if s.evr.baseWritten then s.evr.base else s.evr.base - 2 ^ 32 }
    kst := { s.kst with keyLost := false, unlocked := [], wrong := [], erases := [], checked := [], package := [], installing := none, installer := 0, relay := none }
    flash := s.flash.atStart
    pwr := { Pwr.reset with
      upFails := s.pwr.upFails, upFailed := s.pwr.upFailed, retryDue := s.pwr.retryDue, failLog := s.pwr.failLog
      shutdownLog := s.pwr.shutdownLog, vinLong := s.pwr.vinLong, vsupOut := s.pwr.vsupOut }
    rsv := { Rsv.reset with newPack := false }
    dmc := { Dmc.reset with retired := s.dmc.retired }
    rgn := { Rgn.reset with exts := NMap.updateAll s.rgn.record Extent.atStart, record := NMap.updateAll s.rgn.record Extent.atStart }
    pop := s.pop
    pending := s.pending }

/-- The last rank is off (R597, R606, R779): LAST_OFF and what goes with it are written, and the device is OFF. -/
def State.powerOff (s : State) : State :=
  let p := s.pwr
  let abort := p.lastOff == Off.SAVE_ABORT
  let failed := p.lastOff == Off.PWRUP_FAIL
  let out := failed && decide (s.get Reg.PWR_CFG.RETRIES < p.upFails)
  let s := s.putAll [
    (Reg.PWR_LAN.LAST_OFF, p.lastOff), (Reg.PWR_LAN.SAVE_END, if abort then s.get Reg.SAV_LAST_RESULT.END else 0),
    (Reg.PWR_LAN.SAVE_RAIL, if abort && s.get Reg.SAV_LAST_RESULT.END == 2 then s.get Reg.SAV_LAST_RESULT.ABORT_RAIL else 0),
    (Reg.PWR_LAN.STAY_OFF, ofBool (p.stay || out || s.flag Reg.PWR_LAN.STAY_OFF)), (Reg.PWR_LAN.LAN_RESET, 0),
    (Reg.RSV_LAN_CLK.OFF_MIN, 0), (Reg.RSV_LAN.REST_MIN, 0)]
  let s := { s with pwr := { p with retryDue := failed && !out, failLog := p.failLog || failed, shutdownLog := true } }
  ((s.emit (.pin 1 0 true)).enter PState.OFF).coldReset

/-- Rails whose enable is high. -/
def State.railsOn (s : State) : List Nat := (List.range 16).filter fun n => s.railUsed n && s.flag (Reg.PWR_RAIL_CTL.EN n)

/-- The highest rank among some rails. -/
def State.topRank (s : State) (l : List Nat) : Nat := l.foldl (fun acc n => max acc (s.get (Reg.PWR_RAIL_CTL.RANK n))) 0

/-- The off level of a rail in mV (R589): 10 % of its nominal voltage. -/
def offLevel (n : Nat) : Nat := (rail n).nominal / 10

/-- A rail is off (R589): its sensed voltage is below its off level. -/
def State.railOff (s : State) (n : Nat) : Bool := decide (s.get (Reg.PWR_RAIL_CTL.SNS_MV n) < offLevel n)

/-- The voltage that the ADC senses on a rail, where a list gives it. -/
def State.sense (s : State) (n : Nat) (l : List (Fin 16 × Nat)) : State :=
  match l.find? fun e => e.1.val == n with
  | some e => s.put (Reg.PWR_RAIL_CTL.SNS_MV n) (min e.2 0xFFFF)
  | none => s

/-- A rail's enable goes low; RAIL6 no longer drives ADC_BIAS18 (R664). -/
def State.disableRail (s : State) (n : Nat) : State :=
  let s := (s.putAll [(Reg.PWR_RAIL_CTL.EN n, 0), (Reg.PWR_RAIL_CTL.PG n, 0)]).emit (.pin 2 n false)
  if n == 6 then s.emit (.bias18 0) else s

/-- One rail's step of the timed shutdown (R603, R604): it is judged by the voltages sensed when its rank is disabled and at the end of the
wait. A rail that `before` does not name is not off at first, and one that `after` does not name is off in the end. -/
def State.railDown (s : State) (n : Nat) (before after : List (Fin 16 × Nat)) : State :=
  let t := s.sense n before
  let early := before.any (fun e => e.1.val == n) && t.railOff n
  let s := t.disableRail n
  let up := s.ready Reg.GLB_READY.KEEPER_UP
  let s := if early then
      let s := s.put Reg.PWR_LAN_SHDN.EARLY (setBitOf (s.get Reg.PWR_LAN_SHDN.EARLY) n)
      if up then s.record Ev.RAIL_EARLY n [] else s
    else s
  let s := (s.put (Reg.PWR_RAIL_CTL.SNS_MV n) 0).sense n after
  if !s.railOff n then
    let s := s.put Reg.PWR_LAN_SHDN.STUCK (setBitOf (s.get Reg.PWR_LAN_SHDN.STUCK) n)
    if up then s.record Ev.RAIL_STUCK n [] else s
  else s

/-- Record writes that have not started are dropped at the first rail disable (R568). The first in order has started, unless
VSUP holds it. -/
def State.dropWrites (s : State) : State :=
  let started := if s.flag Reg.KST_STAT.VSUP_HOLD then 0 else 1
  State.each { s with cmd := { s.cmd with writes := s.cmd.writes.take started } } (s.cmd.writes.drop started) fun s _ =>
    s.record Ev.KST_WRITE_DROPPED wide []

/-- TIMED_SHUTDOWN_STEP (R244, R603–R606): the highest enabled rank goes down; after the last the device is OFF. `before` and `after` give
the voltages in mV that are sensed on its rails when they are disabled and at the end of the wait. -/
def execTimedShutdownStep (before after : List (Fin 16 × Nat)) (s : State) : Res :=
  if !s.pwr.underway then s.idle
  else
    let s := if s.pwr.noReturn then s else s.putAll [(Reg.PWR_LAN_SHDN.EARLY, 0), (Reg.PWR_LAN_SHDN.STUCK, 0)]
    let s := if s.pwr.noReturn then s else s.dropWrites
    let s := { s with pwr := { s.pwr with noReturn := true } }
    let on := s.railsOn
    let top := s.topRank on
    let now := on.filter fun n => s.get (Reg.PWR_RAIL_CTL.RANK n) == top
    let s := s.put Reg.PWR_STAT.STEP_RANK top
    let s := s.each now fun s n => s.railDown n before after
    .next (if s.railsOn.isEmpty then s.powerOff else s)

/-! ## Power-on requests and power-up (R592–R598) -/

/-- The used rails of the lowest rank at or above one. -/
def State.nextRank (s : State) (from' : Nat) : List Nat :=
  let l := (List.range 16).filter fun n => s.railUsed n && decide (from' ≤ s.get (Reg.PWR_RAIL_CTL.RANK n))
  let low := l.foldl (fun acc n => min acc (s.get (Reg.PWR_RAIL_CTL.RANK n))) 15
  l.filter fun n => s.get (Reg.PWR_RAIL_CTL.RANK n) == low

/-- A rail's enable goes high; RAIL6 then drives ADC_BIAS18 (R664). -/
def State.enableRail (s : State) (n : Nat) : State :=
  let s := (s.put (Reg.PWR_RAIL_CTL.EN n) 1).emit (.pin 2 n true)
  if n == 6 then s.emit (.bias18 1) else s

/-- Rails are enabled together. -/
def State.enableRails (s : State) (l : List Nat) : State :=
  let rank := match l with
    | n :: _ => s.get (Reg.PWR_RAIL_CTL.RANK n)
    | [] => 0
  (s.each l State.enableRail).put Reg.PWR_STAT.STEP_RANK rank

/-- A rail none of whose channels is in use is disabled, and is treated as rank 15 until the power cycle ends (R599). -/
def State.dropRail (s : State) (n : Nat) : State :=
  if !s.railUsed n then s
  else
    let s := (s.disableRail n).put (Reg.PWR_RAIL_CTL.RANK n) 15
    { s with pwr := { s.pwr with unused := insertNat s.pwr.unused n } }

/-- A power-on request (R592–R594): honoured with VIN_MAIN valid and VSUP at 4.5 V; the power-up begins (R36, R596). -/
def State.powerOn (s : State) (source : Nat) : State :=
  let s := if source == 1 || source == 2 then s.put Reg.PWR_LAN.STAY_OFF 0 else s
  if !s.flag Reg.PWR_STAT.VIN_VALID || s.pwr.vsupOut then s.put Reg.PWR_LAN.IGNORED 1
  else
    let s := (s.enter PState.KEEPER_BOOT).putAll [
      (Reg.PWR_LAN.LAST_ON, source), (Reg.PWR_STAT.SEQ, 1), (Reg.GLB_STATE.PREV, 0), (Reg.GLB_STATE.CHANGES, 0)]
    let s := { s with pwr := { s.pwr with retryDue := false, upFails := if source == 4 then s.pwr.upFails else 0 } }
    s.enableRails (s.nextRank 0)

/-- The internal reset is released: t_P (R595, R596, R668). Inputs of rails that are not used leave rotation 0. -/
def State.released (s : State) : State :=
  let s := s.putAll [
    (Reg.PWR_STAT.SEQ, 2), (Reg.CLK_PLL_STAT.RUNNING, 1), (Reg.CLK_PLL_STAT.LOCKED, 1), (Reg.CLK_DOM_STAT.ON, 1),
    (Reg.PWR_LAN.AUTO_ON, s.get Reg.PWR_CFG.AUTO_ON),
    (Reg.ADC_ROT0.MASK, maskOf 16 fun n => s.railUsed n)]
  { s with pwr := { s.pwr with upFails := 0 } }

/-- POWERUP_RANK_STEP (R596): the rank's rails are good; the next rank is enabled, or the reset is released. -/
def execPowerupRankStep (s : State) : Res :=
  if s.get Reg.PWR_STAT.SEQ != 1 || s.pwr.underway then s.idle
  else
    let rank := s.get Reg.PWR_STAT.STEP_RANK
    let s := s.each (List.range 16) fun s n =>
      if s.railUsed n && s.flag (Reg.PWR_RAIL_CTL.EN n) then s.put (Reg.PWR_RAIL_CTL.PG n) 1 else s
    match s.nextRank (rank + 1) with
    | [] => .next s.released
    | l => .next (s.enableRails l)

/-- POWERUP_TIMEOUT (R597): a power-up failure. -/
def execPowerupTimeout (n : Fin 16) (s : State) : Res :=
  if s.get Reg.PWR_STAT.SEQ != 1 || s.pwr.underway || !s.flag (Reg.PWR_RAIL_CTL.EN n) || s.flag (Reg.PWR_RAIL_CTL.PG n) then s.idle
  else
    let s := { s.put Reg.PWR_LAN.FAIL_RAIL n with pwr := { s.pwr with upFails := s.pwr.upFails + 1 } }
    .next (s.shutdown Off.PWRUP_FAIL false)

/-- PBTN_PRESS (R592, R608): a power-on request when OFF; recorded otherwise. -/
def execPbtnPress (s : State) : Res :=
  if !s.powered then .next (s.powerOn 1)
  else if s.pwr.underway || s.get Reg.PWR_STAT.SEQ == 1 then s.idle
  else .next (s.record Ev.PBTN_PRESS wide [])

/-- PBTN_OFF (R205, R608): the source that allows no resume. -/
def execPbtnOff (s : State) : Res :=
  if !s.powered || (s.pwr.underway && s.pwr.noReturn) then s.idle else .next (s.foghorn Fog.PBTN_OFF true 0)

/-- WAKE_REQUEST (R592). -/
def execWakeRequest (s : State) : Res := if s.powered then s.idle else .next (s.powerOn 2)

/-- AUTO_POWER_ON (R592, R594): not while a retry is due (log entry 17). -/
def execAutoPowerOn (s : State) : Res :=
  if s.powered || !s.flag Reg.PWR_STAT.VIN_VALID || !s.flag Reg.PWR_LAN.AUTO_ON || s.flag Reg.PWR_LAN.STAY_OFF || s.pwr.retryDue then s.idle
  else .next (s.powerOn 3)

/-- POWERUP_RETRY (R597). -/
def execPowerupRetry (s : State) : Res :=
  if s.powered || !s.pwr.retryDue then s.idle
  else .next ({ s with pwr := { s.pwr with retryDue := false } }.powerOn 4)

/-! ## Manual reset (R610) -/

/-- TWI-D0 and TWI-D1 are reset and recover their buses (R610, R744): a transaction in progress ends, the FIFOs empty. -/
def State.resetTwiD (s : State) : State :=
  s.each [1, 2] fun s p =>
    let s := s.putAll [(Reg.TWI_STAT.BUSY p, 0), (Reg.TWI_STAT.RECOVERING p, 1), (Reg.TWI_XSTAT.RESULT p, 0)]
    { s with twi := { s.twi with rx := NMap.insert s.twi.rx p [], tx := NMap.insert s.twi.tx p [] } }

/-- MRST_N. -/
def execMrstN (s : State) : Res :=
  if !s.powered || s.pwr.noReturn then s.idle
  else if s.get Reg.PWR_STAT.SEQ == 1 || s.fogged then .next (s.count Reg.PWR_EVCNT.MRST_IGN 1)
  else if !s.ready Reg.GLB_READY.KEEPER_UP then .next { s with cpx := { s.cpx with rom := false } }
  else if s.cpx.restarting then s.idle
  else
    let s := (s.count Reg.CPX_KP_STAT.RESTARTS 1).record Ev.MANUAL_RESET wide []
    .next { s with cpx := { s.cpx with restarting := true, manual := true } }.resetTwiD

/-! ## VSUP (R586) -/

/-- VSUP_LEVEL_CROSSING. A level is cleared 100 mV above it. -/
def execVsupLevelCrossing (mv : Nat) (s : State) : Res :=
  let old := s.get Reg.PWR_VSUP.VSUP_MV
  let s := s.put Reg.PWR_VSUP.VSUP_MV (min mv 65535)
  let out := if mv < 4500 then true else if 4600 ≤ mv then false else s.pwr.vsupOut
  let s := { s with pwr := { s.pwr with vsupOut := out } }
  let low := if mv < 4300 then true else if 4400 ≤ mv then false else s.flag Reg.PWR_STAT.VSUP_LOW
  let began := low && !s.flag Reg.PWR_STAT.VSUP_LOW
  let s := s.putAll [(Reg.PWR_STAT.VSUP_LOW, ofBool low), (Reg.KST_STAT.VSUP_HOLD, ofBool (low && s.powered))]
  let s := if began && s.powered then s.record Ev.VSUP_LOW wide [] else s
  .next (if 18500 < mv && old ≤ 18500 && s.powered then s.record Ev.VSUP_HIGH wide [] else s)

/-- LANTERN_RESET (R586, R594, R595, R601, R628, R638): every enable goes low at once, the Lantern registers are lost, and FOGHORN_N is
released. -/
def execLanternReset (s : State) : Res :=
  let s := s.putAll [
    (Reg.PWR_LAN.LAST_OFF, 0), (Reg.PWR_LAN.LAST_ON, 0), (Reg.PWR_LAN.STAY_OFF, 0), (Reg.PWR_LAN.LAN_RESET, 1), (Reg.PWR_LAN.IGNORED, 0),
    (Reg.PWR_LAN.AUTO_ON, ofBool Config.autoOnStrap), (Reg.PWR_LAN.FAIL_RAIL, 0), (Reg.PWR_LAN.SAVE_END, 0), (Reg.PWR_LAN.SAVE_RAIL, 0),
    (Reg.PWR_LAN_SHDN.STUCK, 0), (Reg.PWR_LAN_SHDN.EARLY, 0), (Reg.RSV_LAN.PACK_GONE, 1), (Reg.RSV_LAN.REST_MIN, 0),
    (Reg.RSV_LAN.LAST_MV, 0), (Reg.RSV_LAN_CLK.OFF_MIN, 0)]
  let s := s.each ((List.range 16).filter fun n => s.flag (Reg.PWR_RAIL_CTL.EN n)) State.disableRail
  let s := { s with pwr := { s.pwr with retryDue := false, failLog := false, shutdownLog := false, upFails := 0, vsupOut := true } }
  let s := if s.fogged then s.emit (.pin 1 0 true) else s
  .next (s.enter PState.OFF).coldReset

/-! ## PLLs (R612, R613) -/

/-- Channels of a half of the flash enter FAILED (R344, R613). -/
def State.failChannels (s : State) (first : Nat) : State :=
  s.each ((List.range 16).map (first + ·)) fun s n =>
    if !s.pop.flashChannels.contains n then s
    else
      let c := (NMap.find? s.faults (nfcUnit n)).getD ⟨none, [], false⟩
      let s := { s with faults := NMap.insert s.faults (nfcUnit n) { c with failed := true } }
      ((s.putAll [(Reg.NFC_CH_STAT.FAILED n, 1), (Reg.NFC_CH_STAT.UP n, 0)]).sweepSkips n).showFailedFc

/-- Firmware that stopped with its PLL restarts when the PLL locks again (R532). -/
def State.awaitRelock (s : State) : State := { s with cpx := { s.cpx with relock := true } }

/-- A PLL loses lock (R51, R613): the fault is handled once it has locked again. A loss that counts as a rail's crossing names no rail: ABORT_RAIL is then a free value. -/
def State.loseLock (s : State) (n : Nat) : State :=
  if !bitOf (s.get Reg.CLK_PLL_STAT.LOCKED) n then s
  else
    let s := s.putAll [(Reg.CLK_PLL_STAT.LOCKED, clearBitOf (s.get Reg.CLK_PLL_STAT.LOCKED) n), (Reg.CLK_UNLOCK.LAST_PLL, n)]
    let s := ((s.count Reg.CLK_UNLOCK.COUNT 1).record Ev.PLL_UNLOCK n [(1, n)]).raiseFault pwrUnit Ev.PLL_UNLOCK.sev
    match n with
    | 0 => s.foghorn Fog.COMMAND true 0
    | 1 => if s.fwAlive then (s.stopFw FwCause.crash).awaitRelock else s
    | 2 | 3 | 8 => (s.tick).railAct true false (s.free % 16)
    | 4 => s.failChannels 0
    | 5 => s.failChannels 16
    | 6 => (s.linkDown 0).linkDown 1
    | _ => (s.linkDown 2).linkDown 3

/-- PLL_UNLOCK. -/
def execPllUnlock (pll : Fin 9) (s : State) : Res := if s.powered then .next (s.loseLock pll) else s.idle

/-- REF_LOST (R612): every 25 MHz PLL loses lock. -/
def execRefLost (s : State) : Res :=
  if !s.powered || s.flag Reg.CLK_PLL_STAT.REF_LOST then s.idle
  else .next (((s.put Reg.CLK_PLL_STAT.REF_LOST 1).record Ev.REF_LOST wide []).each [0, 1, 2, 3, 4, 5, 8] State.loseLock)

/-- PLL_LOCKED (R35, R532, R613): the blocks that wait leave reset; firmware that stopped with its PLL restarts. A lock of
a 25 MHz PLL shows that its reference is back. -/
def execPllLocked (pll : Fin 9) (s : State) : Res :=
  if !bitOf (s.get Reg.CLK_PLL_STAT.RUNNING) pll || bitOf (s.get Reg.CLK_PLL_STAT.LOCKED) pll then s.idle
  else
    let s := s.put Reg.CLK_PLL_STAT.LOCKED (setBitOf (s.get Reg.CLK_PLL_STAT.LOCKED) pll)
    let s := if pll.val != 6 && pll.val != 7 then s.put Reg.CLK_PLL_STAT.REF_LOST 0 else s
    let s := if bitOf (s.get Reg.CLK_DOM_STAT.CHANGING) pll && !s.domainOn pll then s.domainUp pll else s.endFault pwrUnit
    if pll.val == 1 && s.cpx.relock then .next { s with cpx := { s.cpx with relock := false } }.restartFw
    else .next s

/-! ## Domains (R614–R617) -/

/-- Fabric addresses of a domain's contents: the register windows of its blocks, and device memory for the DMC halves. -/
def inDomain (d a : Nat) : Bool :=
  let off := a - regBase
  let reg (lo hi : Nat) : Bool := inRegs a && decide (lo ≤ off) && decide (off < hi)
  match d with
  | 2 => reg 0x200000 0x240000 || decide (memBase ≤ a)
  | 3 => reg 0x240000 0x280000 || decide (memBase ≤ a)
  | 4 => reg 0x400000 0x420000
  | 5 => reg 0x420000 0x440000
  | _ => false

/-- DMA channels with a transfer in flight that run in a domain or address it (R616). -/
def State.affected (s : State) (d : Nat) : List Nat :=
  (List.range 16).filter fun n => s.dmaState n == 1 &&
    (d == 1 || inDomain d (s.pair (Reg.DMA_CH_SRC_LO.SRC n) (Reg.DMA_CH_SRC_HI.SRC n)) ||
      inDomain d (s.pair (Reg.DMA_CH_DST_LO.DST n) (Reg.DMA_CH_DST_HI.DST n)))

/-- A domain that has waited powers down once no affected channel runs (R616). How long it has waited is measured: a free value (R620). -/
def State.settleDomain (s : State) (d : Nat) : State :=
  if (s.affected d).isEmpty then (s.tick.raise Reg.CLK_DOM_CNT.WAIT_MAX_US (s.free % 1001)).domainOff d else s

/-- A domain is to power down (R616): it waits for the affected channels to pause. -/
def State.lowerDomain (s : State) (d : Nat) : State :=
  if !s.domainOn d || bitOf (s.get Reg.CLK_DOM_STAT.CHANGING) d then s
  else if (s.affected d).isEmpty then s.domainOff d
  else s.put Reg.CLK_DOM_STAT.CHANGING (setBitOf (s.get Reg.CLK_DOM_STAT.CHANGING) d)

/-- A domain that CLK_DOM_REQ may name (R620). -/
def domainNamed (d : Nat) : Bool := decide (1 ≤ d) && decide (d ≤ 7)

/-- DOMAIN_POWER_UP (R614, R620). -/
def execDomainPowerUp (req : Req) (domain : BitVec 4) (s : State) : Res :=
  s.guard req .k fun s => if domainNamed domain.toNat && !s.unitFailed pwrUnit then s.domainStart domain.toNat else s

/-- DOMAIN_POWER_DOWN (R616, R620). -/
def execDomainPowerDown (req : Req) (domain : BitVec 4) (s : State) : Res :=
  s.guard req .k fun s => if domainNamed domain.toNat && !s.unitFailed pwrUnit then s.lowerDomain domain.toNat else s

/-- DOMAIN_DMA_WAIT_TIMEOUT (R616, R701): the channels still running halt with DOMAIN_OFF, and the domain powers down. -/
def execDomainDmaWaitTimeout (domain : BitVec 4) (s : State) : Res :=
  let d := domain.toNat
  if !s.domainOn d || !bitOf (s.get Reg.CLK_DOM_STAT.CHANGING) d then s.idle
  else
    let s := s.each (s.affected d) fun s n =>
      ((s.dmaHalt n 3).count Reg.CLK_DOM_CNT.HALTS 1).record Ev.DOMAIN_HALT n []
    .next ((s.raise Reg.CLK_DOM_CNT.WAIT_MAX_US 1000).domainOff d)

/-- PD_APP_IDLE_TIMEOUT (R615). -/
def execPdAppIdleTimeout (s : State) : Res :=
  if s.fwAlive || !s.ready Reg.GLB_READY.KEEPER_UP then s.idle else .next (s.lowerDomain 1)

/-- DIE_OVER_TEMPERATURE (R764). -/
def execDieOverTemperature (s : State) : Res :=
  if s.get Reg.PWR_STAT.SEQ != 2 || s.pwr.underway then s.idle
  else if s.pstate == PState.KEEPER_BOOT || s.pstate == PState.LOST then .next (s.shutdown Off.OVER_TEMP true)
  else if s.saving then s.idle
  else .next (s.foghorn Fog.COMMAND true 0)

end Sys2Proof.Machine
end

