-- ==== Sys2Proof/Machine/Boot.lean ====
section
/-! DEFINITION. The start of the Keeper (R516–R521), of the recorder (R709–R716), of DRAM and flash (R299, R352, R405),
and the Keeper restart (R539–R542). -/

namespace Sys2Proof.Machine

open Host

/-! ## Slot choice (R516–R518, R573) -/

/-- The slot with a number: 0 A, 1 B. -/
def State.slot (s : State) (n : Nat) : Option KeeperSlot := if n == 0 then s.kst.slotA else s.kst.slotB

/-- A slot verifies (R517); the slot to be checked fails once its three attempt marks are used (R573). -/
def State.slotVerifies (s : State) (n : Nat) : Bool :=
  (match s.slot n with
    | some k => k.signed && decide (s.get Reg.KST_ARB.COUNTER ≤ k.rollback)
    | none => false) &&
  !(s.get Reg.KST_SLOT.CHECK == n && s.get Reg.KST_SLOT.ATTEMPTS == 3)

/-- The slots in the order of R518. -/
def State.slotOrder (s : State) : List Nat :=
  let active := s.get Reg.KST_SLOT.ACTIVE
  let check := s.get Reg.KST_SLOT.CHECK
  if check == 0xFF then [active, 1 - active] else check :: [active, 1 - active].filter (· != check)

/-- A write of the boot record (record 13). -/
def State.writeBoot (s : State) (upd : RecUpdate) : State :=
  { s with cmd := { s.cmd with writes := s.cmd.writes ++ [⟨13, upd, none⟩] } }

/-- A slot is rejected; the manual gives no coding of the failed check. -/
def State.rejectSlot (s : State) (n : Nat) : State := s.tick.record Ev.KEEPER_SLOT_REJECT n [(1, n), (1, s.free % 256)]

/-- The slot that boots, with the events of R518, raised when the Keeper image starts (R712). -/
def State.bootSlot (s : State) (n : Nat) (rejected : List Nat) : State :=
  let active := s.get Reg.KST_SLOT.ACTIVE
  let check := s.get Reg.KST_SLOT.CHECK
  let version := ((s.slot n).map (·.version)).getD 0
  let first := n != active || n == check || s.cpx.rom
  let s := if s.cpx.rom then s.record Ev.KEEPER_RECOVERY wide [] else s
  let s := s.each rejected State.rejectSlot
  let s := s.record Ev.KEEPER_BOOT_SLOT n [(1, n), (4, version)]
  let s := if n == check then s.count Reg.KST_SLOT.ATTEMPTS 1
           else if rejected.contains check then s.writeBoot (.checkSlot 0xFF) else s
  { s.put Reg.CPX_KP_STAT.SLOT n with kst := { s.kst with running := n, firstStart := first }, cpx := { s.cpx with rom := false } }

/-! ## The Keeper store (R552, R558–R561, R567, R580) -/

/-- A sector of the Keeper store is erased: the integrator area's bytes and programmed pages in it, and a slot it is part
of, are gone (R549, R551). -/
def State.eraseSector (s : State) (sector : Nat) : State :=
  let a := sector * 4096
  let inside (lo size : Nat) : Bool := decide (lo ≤ a) && decide (a < lo + size)
  let user (first : Nat) (s : State) : State := { s with kst := { s.kst with
    user := clearRange s.kst.user first 4096
    checked := insertNat s.kst.checked sector
    programmed := s.kst.programmed.filter fun p => p / 16 != first / 4096 } }
  if inside 0x300000 0x100000 then user (a - 0x300000) s
  else if inside 0x700000 0x100000 then user (a - 0x700000 + 0x100000) s
  else if inside 0x10000 0x180000 then { s.put Reg.KST_VER_A.VERSION 0 with kst := { s.kst with slotA := none } }
  else if inside 0x410000 0x180000 then { s.put Reg.KST_VER_B.VERSION 0 with kst := { s.kst with slotB := none } }
  else s

/-- Erases that the journals show as begun and not done are made again (R561). -/
def State.redoErases (s : State) : State :=
  s.each (openErases s.kst.j0 ++ openErases s.kst.j1) fun s x =>
    (((s.eraseSector x).count Reg.KST_JRNL.REDONE 1).record Ev.KST_ERASE_REDONE wide []).journalErase 2 x

/-- Neither copy of a record qualifies (R567). -/
def State.recordDefaulted (s : State) (rec : Nat) : Bool :=
  let (a, b) := s.kst.copiesOf rec
  !a.valid && !b.valid

/-! ## Crypto-erase (R312, R558, R561) -/

/-- The sector that holds the key of a generation: the two key sectors in turn (R551; DESIGN CHOICE, log entry 102). -/
def keySector (gen : Nat) : Nat := if gen % 2 == 0 then 0x001 else 0x401

/-- A scrub is recorded and not done (R312, R561). -/
def State.scrubOpen (s : State) : Bool :=
  let es := journalEntries s.kst.j0
  es.any fun (e : JrnlEntry) => e.kind == 3 && !es.any fun (d : JrnlEntry) => d.kind == 4 && decide (e.seq < d.seq)

/-- A new image key with the next generation (R310, R311). -/
def State.newKey (s : State) : State :=
  let gen := s.get Reg.NFC_KEY.KEYGEN + 1
  State.put { s with kst := { s.kst with keyGen := some gen, keyLost := false } } Reg.NFC_KEY.KEYGEN gen

/-- Every block but BAD and LABEL ones becomes RELEASED, also the ERASED and RESERVE ones; one in which a program has failed becomes BAD
(R312, R315). -/
def State.releaseAll (s : State) : State :=
  let bad := s.flash.blocks.filter fun (e : Nat × Block) => e.2.st == 1 || e.2.retire
  let s := s.each (bad.filter fun e => e.2.st != 1) fun s e =>
    (s.count Reg.NFC_BAD_GROWN.BLOCKS 1).record Ev.BLOCK_RETIRED (blockChannel e.1) []
  let s := if s.flash.gc.isEmpty then s else s.put Reg.NFC_GC_STAT.RESULT 0
  State.keepReserve { s with flash := { s.flash with
    blocks := bad.map fun e => (e.1, Block.blank 1), blankSt := 2, gc := [], ring := [], ringBlocks := [], mirrorFas := [] } }

/-- Steps 2 to 5 of R312: the new key, the erase of the sector that held the old one, every block but BAD and LABEL ones RELEASED, and
the scrub recorded as done. The codewords, and with them their tags, stay until the blocks are erased. -/
def State.finishScrub (s : State) : State :=
  let gen := s.get Reg.NFC_KEY.KEYGEN
  let s := s.newKey.journalSectors [keySector gen]
  (s.releaseAll.appendEntry 0 4 0).record Ev.KEY_SCRUB wide []

/-- Crypto-erase (R312): the scrub is recorded, and takes place. -/
def State.cryptoErase (s : State) : State := (s.appendEntry 0 3 0).finishScrub

/-- Neither copy of a record qualifies at this start (R567): its copies are not valid, and the shipped values are in use. The label areas
and the boot record are none of these. -/
def State.loseRecord (s : State) (rec : Nat) : State :=
  let s := { s with stored := shipRecord rec s.stored s.stored, regs := shipRecord rec s.stored s.regs }
  let k := s.kst
  let k := if rec == 12 then { k with spots := [] } else { k with copies := NMap.erase k.copies rec }
  match rec with
  | 0 => { s with kst := k, rgn := { s.rgn with exts := [], record := [] } }
  | 1 => { s with kst := { k with storedWait := 0 } }
  | 2 => { s with kst := { k with sets := k.sets.map fun (e : Nat × DelaySet) => (e.1, { e.2 with lastUse := 0 }) }, dmc := { s.dmc with retired := [] } }
  | 4 => { s with kst := { k with ldNext := [(0, ⟨0, 0, 0⟩)] } }
  | 8 => { s with kst := k, evr := { s.evr with routes := [] } }
  | 9 => State.put { s with kst := { k with floor := 0 } } Reg.CPX_FW_FLOOR.FLOOR 0
  | 10 => { s with kst := k, flash := { s.flash with ring := [], ringBlocks := [], ringStored := [], images := [] } }
  | 11 => { s with kst := { k with passwords := [] } }
  | _ => { s with kst := k }

/-- A record that is defaulted is written with the values in use (R567). -/
def State.defaultRecord (s : State) (rec : Nat) : State :=
  if !s.recordDefaulted rec then s
  else
    let s := s.record Ev.RECORD_DEFAULTED wide []
    if rec == 8 then s
    else
      let action := if rec == 10 then .ringList s.flash.ringBlocks else .other 0
      { s with cmd := { s.cmd with writes := s.cmd.writes ++ [⟨rec, action, none⟩] } }

/-- The records of R552, and the defaults of the learned values (R654). -/
def State.defaultRecords (s : State) : State :=
  let s := s.each (List.range 12) State.defaultRecord
  if s.recordDefaulted 12 then
    let gone := s.get Reg.RSV_LAN.PACK_GONE
    let fresh := s.rsv.newPack
    let s := s.defaultLearned.put Reg.RSV_LAN.PACK_GONE gone
    { s with rsv := { s.rsv with newPack := fresh } }
  else s

/-- The format of the newest valid copy of a record, where it is older than the running image's (R567, R580). -/
def State.olderFormat (s : State) (rec : Nat) : Option Nat :=
  let (a, b) := s.kst.copiesOf rec
  let c := if !a.valid || (b.valid && decide (a.seq < b.seq)) then b else a
  if c.valid && decide (c.fmt < s.kst.recfmt) then some c.fmt else none

/-- Records of an older format are migrated in Keeper SRAM (R580). A record's FORMAT is taken to be the RECFMT of the image that wrote it,
and RECORD_ID its place in R552 (DEDUCED; log entry 141). -/
def State.migrate (s : State) : State :=
  let old := (List.range 13).filterMap fun rec => (s.olderFormat rec).map fun f => (rec, f)
  if old.isEmpty then s
  else (s.put Reg.KST_STAT.MIG 1).each old fun s e => s.record Ev.RECORD_MIGRATED wide [(4, e.1), (2, e.2), (2, s.kst.recfmt)]

/-! ## The recorder (R709–R716) -/

/-- Sources marked * in R719. -/
def privilegedSources : List Nat :=
  [1, 2, 3, 4, 32, 33, 35, 36, 37, 81, 82, 84, 103, 104, 208, 209, 210, 211, 212, 213, 214, 215, 216]

/-- The highest sequence number in the first area and the readable parts of the event mirror (R710). -/
def Evr.highest (e : Evr) (mirror : List EvRecord) : Nat := ((e.first ++ mirror).map EvRecord.seq).foldl max 0

/-- The areas and the base at a cold start (R709–R711, R716): the readable parts of the mirror are reloaded, the severity area rebuilt from them,
and the new base written into the event routing record before any record is placed. -/
def State.startRecorder (s : State) (keyOk : Bool) (lost : List Nat) : State :=
  let e := s.evr
  let circ := if keyOk then (e.mirror.zipIdx.filter fun r => !lost.contains (r.2 / 128)).map Prod.fst else []
  let stored := if s.recordDefaulted 8 then e.highest circ / 2 ^ 32 * 2 ^ 32 else e.base
  let wrap := decide (0xFFFF00000000 < stored + 2 ^ 32)
  let base := if wrap then 0xFFFF00000000 else stored + 2 ^ 32
  let waiting := e.waiting.mapIdx fun i (r : EvRecord) => { r with seq := base + i }
  let e := { e with circ := circ, sev := [], base := base, next := base + e.waiting.length, baseWritten := false, waiting := waiting }
  let e := (circ.filter fun r => privilegedSources.contains r.source).foldl (fun e r => (e.toSev r).1) e
  let s := { s with evr := e, cmd := { s.cmd with writes := s.cmd.writes ++ [(⟨8, RecUpdate.base base, none⟩ : RecWrite)] } }
  s.put Reg.EVR_STAT.SEQ_WRAP (ofBool wrap)

/-- The whole word of a register, for the data of an event. -/
def State.regWord (s : State) (off : Nat) : Nat :=
  match regAt .keeper off with
  | some d => s.wordNow .keeper off d
  | none => 0

/-- What the power-up leaves to record (R606, R621). -/
def State.logPower (s : State) : State :=
  let s := if s.pwr.shutdownLog then s.record Ev.SHUTDOWN_LOG wide [(4, s.regWord 0x30018), (4, s.regWord 0x3001C)] else s
  let s := if s.pwr.failLog then s.record Ev.PWRUP_FAIL wide [(1, s.get Reg.PWR_LAN.FAIL_RAIL)] else s
  { s with pwr := { s.pwr with shutdownLog := false, failLog := false } }

/-- The learned values record in force, loaded at a start (R150, R653, R655): NEW_PACK stays until a capacity sample has been
accepted (R654). A sled with no stored credit starts with a full bucket, and a stored credit above the depth is cut to it (R149). -/
def State.loadLearned (s : State) : State :=
  match (if s.recordDefaulted 12 then none else s.kst.learned) with
  | none => { s with drp := { s.drp with credit := s.wearDepth } }
  | some l =>
    let s := s.putAll [
      (Reg.RSV_LRN_CAP.CAP_MAH, l.capMah), (Reg.RSV_LRN_CAP.SAMPLES, l.samples), (Reg.RSV_LRN_R.R_LRN25, l.rLrn),
      (Reg.RSV_LRN_R.R_STEP25, l.rStep), (Reg.RSV_REST.CLOCK_S, 60 * l.clockMin), (Reg.RSV_REST_V.RESTED_MV, l.restedMv),
      (Reg.RSV_STAT.NEW_PACK, ofBool (l.samples == 0))]
    { s with
      drp := { s.drp with credit := min (l.credit * 1000000000) s.wearDepth }
      rsv := { s.rsv with learnedCode := l.code, throughput := l.throughput } }

/-- The start-up rest point and the rest clock (R637, R638): the stored value and the time OFF, or after a Lantern reset the
greater of the stored value and 14 days. -/
def State.startRestClock (s : State) : State :=
  let clock := s.get Reg.RSV_REST.CLOCK_S
  let s := s.put Reg.RSV_REST.CLOCK_S (if s.flag Reg.PWR_LAN.LAN_RESET then max clock (14 * 86400)
    else min (clock + 60 * s.get Reg.RSV_LAN_CLK.OFF_MIN) 0xFFFFFFFF)
  if decide (30 ≤ s.get Reg.RSV_LAN.REST_MIN) && !s.flag Reg.RSV_LAN.PACK_GONE then
    ((s.putAll [(Reg.RSV_REST_V.RESTED_MV, s.get Reg.RSV_LAN.LAST_MV), (Reg.RSV_REST.CLOCK_S, 0)]).record Ev.REST_POINT wide []).writeLearned
  else s

/-! ## DRAM (R352–R356, R389, R397–R408; log entry 4) -/

/-- The agreeing set among the channels that are left: all eight, CH0–CH3 or CH4–CH7 (R352): first channel and count. -/
def agreeing (out : List Nat) : Option (Nat × Nat) :=
  let ok (a n : Nat) : Bool := (List.range n).all fun k => !out.contains (a + k)
  if ok 0 8 then some (0, 8) else if ok 0 4 then some (0, 4) else if ok 4 4 then some (4, 4) else none

/-! ### The fitted population (R351, R353; log entry 4) -/

/-- The module type, as DMC_CFG.MODULE codes it: RDIMM or MRDIMM (R351, R397). -/
def fittedModule : Nat := 1 + Config.dramGeometry 0 % 2

/-- The slowest bin allowed, and the fastest: inside the range of the module type, up to the lowest maximum rate of the modules (R351,
R404). -/
def minBin : Nat := if fittedModule == 2 then 2 else 0
def maxBin : Nat := minBin + Config.dramGeometry 1 % (if fittedModule == 2 then 4 else 3)

/-- The physical ranks of a channel, their size as DMC_CFG.RANK_SIZE codes it, and the stack height as DMC_CFG.STACK does: a rank of
2^(35 + size) bytes has devices of 16, 32 or 64 Gbit in stacks of 1, 2, 4 or 8 (R351, R357). -/
def fittedRanks : Nat := 1 + Config.dramGeometry 2 % 8
def fittedSize : Nat := Config.dramGeometry 3 % 4
def fittedStack : Nat := (fittedSize - 2) + Config.dramGeometry 4 % (min fittedSize 3 - (fittedSize - 2) + 1)

/-- Logical ranks in use (R353): without the spare, and up to 1 TiB. -/
def ranksUsed (spare : Bool) : Nat := min (fittedRanks - (if spare then 1 else 0)) (32 / 2 ^ fittedSize)

/-- The addressable capacity of a channel in units of 32 GiB (R353, R400). -/
def channelCap (spare : Bool) : Nat := ranksUsed spare * 2 ^ fittedSize

/-- The data rate of a bin, in 100 MT/s (R404). -/
def binRate (b : Nat) : Nat := [48, 56, 64, 72, 80, 88].getD b 0

/-- A slot's set matches the population (R403). -/
def DelaySet.matching (d : DelaySet) : Bool := d.signature == Config.populationSignature

/-- Slots whose sets match (R403). -/
def State.matchSets (s : State) : List (Nat × DelaySet) := s.kst.sets.filter fun (e : Nat × DelaySet) => e.2.matching

/-- The sources of a candidate bin, in order (R405): the code of TRN_CH_SRC and the slot used. -/
def State.binSources (s : State) (b : Nat) : List (Nat × Option Nat) :=
  let l := s.matchSets
  let stored := List.find? (fun (e : Nat × DelaySet) => e.2.bin == b) l
  let derived := [1, 2, 3, 4, 5].findSome? fun d => List.find? (fun (e : Nat × DelaySet) => e.2.bin + d == b || e.2.bin == b + d) l
  (stored.toList.map fun e => (1, some e.1)) ++ (derived.toList.map fun e => (2, some e.1)) ++ (if b == minBin then [(3, none)] else [])

/-- The source that a channel accepts at a bin (R405, R406): the first that is not refused there. -/
def State.binSource (s : State) (refused : List SourceRefused) (c b : Nat) : Option (Nat × Option Nat) :=
  (s.binSources b).find? fun e => !refused.any fun x => x.ch.val == c && x.bin.val == b && x.source.val == e.1

/-- The channel of a delay's place (R422). -/
def placeChannel (place : Nat) : Nat := bitsOf place 20 3

/-- The delays that a channel runs on (R402, R405): those of its source that lie on it. The generic set lists none. -/
def State.sourceDelays (s : State) (c : Nat) (slot : Option Nat) : List DelayEntry :=
  (((slot.bind fun k => NMap.find? s.kst.sets k).map DelaySet.entries).getD []).filter fun e => placeChannel e.place == c

/-- The next last-use count of the delay-set slots (R571). -/
def nextUse (l : List (Nat × DelaySet)) : Nat := (l.map fun (e : Nat × DelaySet) => e.2.lastUse).foldl max 0 + 1

/-- The set whose values are in use has the highest last-use count (R416, R571; log entry 90). -/
def useSet (l : List (Nat × DelaySet)) (slot : Nat) : List (Nat × DelaySet) :=
  l.map fun (e : Nat × DelaySet) => if slot == e.1 then (e.1, { e.2 with lastUse := nextUse l }) else e

/-- The DRAM configuration record takes the use of delay-set slots (R552, R571). -/
def State.noteUse (s : State) (slots : List Nat) : State :=
  if slots.isEmpty then s else { s with cmd := { s.cmd with writes := s.cmd.writes ++ [⟨2, .setsUsed slots, none⟩] } }

/-- The candidate bins of R405, in order. -/
def State.candidateBins (s : State) : List Nat :=
  let next := s.get Reg.TRN_CFG.NEXT_BIN
  let lower := [4, 3, 2, 1].filter fun b =>
    decide (b < next) && decide (minBin < b) && decide (b ≤ maxBin) && s.matchSets.any fun e => e.2.bin == b
  (if minBin ≤ next ∧ next ≤ maxBin then [next] else []) ++ lower ++ [minBin]

/-- Show the delay-set slots (R403, R422). -/
def State.showSets (s : State) : State :=
  (s.each (List.range 5) fun s k => s.put (Reg.TRN_SETS.SLOT k) (match NMap.find? s.kst.sets k with
    | some d => 8 + d.bin
    | none => 0)).put Reg.TRN_SETS.MATCH (maskOf 5 fun k => s.matchSets.any fun e => e.1 == k)

/-- The rank map of a channel (R353, R389, R399): a logical rank in use is served by the physical rank of its number, or by the spare where it
has been retired; the others are unused. -/
def State.mapRanks (s : State) (used : Nat) (retired : Option Nat) (c : Nat) : State :=
  s.each (List.range 8) fun s r =>
    s.put (Reg.DMC_RANK_MAP.LR c r) (if used ≤ r then 0xF else if retired == some r then fittedRanks - 1 else r)

/-- One channel comes up (R353, R389, R397, R399): its highest rank is the spare where sparing is in force, and serves a logical rank that
has been retired. -/
def State.dmcUp (s : State) (bin src c : Nat) : State :=
  let spare := s.flag Reg.DMC_MAP.SPARE
  let out := List.find? (fun (r : Nat × Nat × Nat) => spare && r.1 == c) s.dmc.retired
  let s := s.putAll [
    (Reg.DMC_CFG.MODULE c, fittedModule), (Reg.DMC_CFG.RANKS c, fittedRanks), (Reg.DMC_CFG.RANK_SIZE c, fittedSize),
    (Reg.DMC_CFG.STACK c, fittedStack), (Reg.DMC_CFG.RATE c, binRate bin),
    (Reg.DMC_STAT.UP c, 1), (Reg.DMC_STAT.FIXED_DELAYS c, 1), (Reg.TRN_CH_SRC.SRC c, src),
    (Reg.DMC_SPARE.STATE c, if out.isSome then 4 else ofBool spare), (Reg.DMC_SPARE.SPARE_PRANK c, if spare then fittedRanks - 1 else 0),
    (Reg.DMC_SPARE.SRC_LRANK c, (out.map (·.2.1)).getD 0), (Reg.DMC_SPARE.REASON c, (out.map (·.2.2)).getD 0)]
  s.mapRanks (ranksUsed spare) (out.map (·.2.1)) c

/-- The rails of DRAM channels that are out of use (R599): RAIL10 feeds CH0–CH3 and RAIL11 CH4–CH7 (DEDUCED from their names; log
entry 103). -/
def State.dropDramRails (s : State) (a n : Nat) : State :=
  let s := if a == 0 && n != 0 then s else s.dropRail 10
  if a + n == 8 then s else s.dropRail 11

/-- DRAM bring-up (R352, R405–R408, R599). `disagree` names the channels whose modules differ, `refused` the sources that fail their
verification. The slot in use is that of the lowest channel with one (DEDUCED, log entry 135). Channels without a rank besides the spare
have no addressable capacity, which is outside R351: no set agrees (DEDUCED; log entry 4). -/
def State.bringUpDram (s : State) (disagree : List Nat) (refused : List SourceRefused) : State :=
  let s := s.showSets.each (List.range 8) (State.mapRanks · 0 none)
  let s := if disagree.isEmpty then s else s.record Ev.DRAM_POP_MISMATCH wide []
  let cap := channelCap (s.flag Reg.DMC_MAP.SPARE)
  match (if cap == 0 then none else agreeing disagree) with
  | none => { s with pop := { s.pop with dramGiB := 0 } }.dropDramRails 0 0
  | some (a, n) =>
    let set := (List.range n).map (a + ·)
    let found := s.candidateBins.find? fun b => set.all fun c => (s.binSource refused c b).isSome
    let bin := found.getD minBin
    let fail := set.filter fun c => (s.binSource refused c bin).isNone
    let s := s.each fail fun s c => s.record Ev.TRN_NO_SET c []
    match agreeing (disagree ++ fail) with
    | none => { s with pop := { s.pop with dramGiB := 0 } }.dropDramRails 0 0
    | some (a, n) =>
      let s := s.dropDramRails a n
      let sources := ((List.range n).map (a + ·)).map fun c => (c, (s.binSource refused c bin).getD (3, none))
      let slots := (sources.filterMap fun e => e.2.2).eraseDups
      let entries := sources.flatMap fun e => s.sourceDelays e.1 e.2.2
      let s := { s with
        pop := { s.pop with dramGiB := n * cap * 32 }
        trn := { s.trn with verified := entries.foldl (fun m (e : DelayEntry) => NMap.insert m e.place e.value) [] } }
      let s := s.putAll [
        (Reg.DMC_MAP.CHANNELS, n), (Reg.DMC_MAP.BASE, a), (Reg.DMC_MAP.CH_CAP, cap), (Reg.TRN_STAT.BIN, bin),
        (Reg.TRN_SETS.IN_USE, slots.headD 0xF)]
      let s := if a == 0 then s.domainUp 2 else s
      let s := if a + n == 8 then s.domainUp 3 else s
      let s := s.each sources fun s e => s.dmcUp bin e.2.1 e.1
      (s.noteUse slots).record Ev.TRN_BRINGUP wide [(1, bin), (4, s.regWord 0x28000C)]

/-! ## Flash (R299, R313, R318, R320, R348; log entry 4) -/

/-- A block as a start finds it: one with an INTENT and no DONE is to be erased again before it is used (R318) unless it is BAD, another
whose erase had not begun is RELEASED, and relocation out of a block starts afresh. -/
def Block.atStart (open' : List Nat) (e : Nat × Block) : Nat × Block :=
  if e.2.st != 1 && open'.contains e.1 then (e.1, Block.blank 3)
  else if e.2.st == 3 then (e.1, Block.blank 2)
  else (e.1, { e.2 with st := if e.2.st == 8 then 7 else e.2.st, fromReserve := false })

/-! The population that is fitted, within R299. -/

def fittedPlanes : Nat := [2, 4, 6].getD (Config.flashGeometry 0 % 3) 2
def fittedLunCode : Nat := Config.flashGeometry 1 % 3
def fittedTargets : Nat := 1 + Config.flashGeometry 2 % 16
def fittedBlocks : Nat := 256 + Config.flashGeometry 3 % 65280
def fittedPages : Nat := 64 + Config.flashGeometry 4 % 4033
def fittedChannels : Nat := [32, 16, 8].getD (Config.flashGeometry 5 % 3) 32

/-- Factory-bad blocks of a LUN (R343). -/
def State.markedBad (s : State) (lun : Nat) : List Nat :=
  ((Config.factoryBad lun).eraseDups.filter fun b => decide (0 < b) && decide (b < s.get Reg.NFC_GEOM.BLOCKS)).map (lun * 65536 + ·)

/-- A LUN without a label gets one at its first start in this device, and its factory-bad blocks become BAD (R301, R306, R343). -/
def State.labelLun (s : State) (lun : Nat) : State :=
  if (NMap.find? s.flash.labels lun).isSome then s
  else
    let label : LunLabel := ⟨Config.uniqueId, lun / 64, lun / 4 % 16, lun % 4, Config.labelVersion⟩
    let s := { s.newLsn with flash := { s.newLsn.flash with labels := NMap.insert s.flash.labels lun label } }
    s.each (s.markedBad lun) fun s b => s.setBlock b (Block.blank 1)

/-- NFC_BAD_FACTORY and NFC_BAD_GROWN count the BAD blocks, and NFC_CAP what is usable: all blocks but LABEL, BAD and ring ones (R301, R343,
R348). -/
def State.showCapacity (s : State) : State :=
  let marked := ((s.lunsIn s.pop.flashChannels).map fun l => (s.markedBad l).length).sum
  let bad := s.countBlocks fun x => x.st == 1
  s.putAll [
    (Reg.NFC_BAD_FACTORY.BLOCKS, marked), (Reg.NFC_BAD_GROWN.BLOCKS, bad - marked),
    (Reg.NFC_CAP.CAP_GIB, (s.blocksIn s.pop.flashChannels - bad - s.flash.ringBlocks.length) * s.blockCodewords * 4096 / 2 ^ 30)]

/-- The rate that the fitted population sustains (R235), which the device measures: a free value, of at least 100 GB/s at full
population. -/
def State.measureRate (s : State) : State :=
  let v := if s.pop.flashChannels.length == 32 then 400 + s.free else s.free
  s.tick.put Reg.SAV_RATE.POP_RATE (min v 4095)

/-- Flash comes up: geometry, channels, labels, block states with interrupted erases to be made again (R318), and the reserve, refilled from
the ERASED pool (R321). A population that is not supported leaves every channel down. -/
def State.bringUpFlash (s : State) (mismatch : Bool) : State :=
  let s := { s with pop := { s.pop with flashChannels := List.range fittedChannels } }.putAll [
    (Reg.NFC_POP.PLANES, fittedPlanes), (Reg.NFC_POP.LUN_CODE, fittedLunCode), (Reg.NFC_POP.TGT_PER_CH, fittedTargets),
    (Reg.NFC_POP.CHANNELS, fittedChannels), (Reg.NFC_GEOM.BLOCKS, fittedBlocks), (Reg.NFC_GEOM.PAGES_M1, fittedPages - 1),
    (Reg.NFC_KEY.KEYGEN, s.kst.keyGen.getD (s.get Reg.NFC_KEY.KEYGEN))]
  if mismatch then s.record Ev.FLASH_POP_MISMATCH wide []
  else
    let s := s.domainUp 4
    let s := (if s.pop.flashChannels.any fun n => decide (16 ≤ n) then s.domainUp 5 else s).enableFlash
    let s := s.each s.pop.flashChannels fun s n => s.putAll [
      (Reg.NFC_CH_STAT.UP n, s.get (Reg.NFC_CH_CFG.ENABLE n)), (Reg.NFC_CH_STAT.TRAINED n, 1), (Reg.NFC_CH_STAT.TARGETS n, fittedTargets),
      (Reg.NFC_CH_STAT.LUNS n, s.channelLuns)]
    let s := s.each (s.lunsIn (s.pop.flashChannels.filter s.channelUp)) State.labelLun
    let redo := (openIntents s.flash.ring).filter fun b => (s.block b).st != 1
    let s := { s with flash := { s.flash with
      blocks := s.flash.blocks.map (Block.atStart redo)
      gc := redo.map fun b => .erase b true } }
    let s := s.each redo fun s b => s.record Ev.ERASE_REDONE (blockChannel b) []
    (s.showCapacity.keepReserve.measureRate).showCeiling

/-! ## KEEPER_UP -/

/-- Values of the configuration records that a cold start puts in force (R356, R425, R428, R430). -/
def State.loadNext (s : State) : State :=
  let s := s.putAll [
    (Reg.DMC_MAP.GRAIN, s.get Reg.DMC_MAP.NEXT_GRAIN), (Reg.DMC_MAP.SPARE, s.get Reg.DMC_MAP.NEXT_SPARE),
    (Reg.HIF_CFG.BIFUR0, s.get Reg.HIF_CFG.NEXT_BIFUR0), (Reg.HIF_CFG.BIFUR1, s.get Reg.HIF_CFG.NEXT_BIFUR1),
    (Reg.DRP_BUDGET.CFG_IN_FORCE, s.get Reg.DRP_CFG.BUDGET_CFG),
    (Reg.HIF_LD_STAT.PRESENT, maskOf 16 fun n => (NMap.find? s.kst.ldNext n).isSome)]
  s.each s.kst.ldNext fun s (e : Nat × LdNext) => s.putAll [
    (Reg.HIF_LD_BIND.HEAD e.1, e.2.head), (Reg.RGN_LD_CAP.STATIC e.1, e.2.stat), (Reg.RGN_LD_CAP.DC_MAX e.1, e.2.dcMax)]

/-- The Keeper image runs (R516, R256): the blocks start, KEEPER_UP is set and the images are judged. -/
def State.keeperUp (s : State) (disagree : List Nat) (refused : List SourceRefused) (mismatch : Bool) (lost records : List Nat) : State :=
  let s := s.each records State.loseRecord
  let s := { s with kst := { s.kst with selectWait := s.kst.storedWait }, rgn := { s.rgn with defaulted := s.recordDefaulted 0 } }
  let s := s.redoErases.loadNext.loadLearned
  let s := (s.startRecorder (s.kst.keyGen.isSome && !mismatch) lost).logPower
  let s := (s.bootSlot (((s.slotOrder.find? s.slotVerifies)).getD 0) (s.slotOrder.takeWhile fun n => !s.slotVerifies n)).defaultRecords.migrate
  let s := ((((s.domainUp 1).domainUp 6).domainUp 7).domainUp 8).putAll [
    (Reg.KST_VER_A.VERSION, (s.kst.slotA.map (·.version)).getD 0), (Reg.KST_VER_B.VERSION, (s.kst.slotB.map (·.version)).getD 0),
    (Reg.RSE_STAT.PHASE, 1)]
  let s := ((s.bringUpDram disagree refused).bringUpFlash mismatch).startRestClock
  let s := if s.scrubOpen then s.finishScrub else s
  let s := if s.recordDefaulted 4 then
      State.put { s with kst := { s.kst with ldNext := [(0, ⟨0, s.mappable, 0⟩)] } } (Reg.RGN_LD_CAP.STATIC 0) s.mappable
    else s
  (s.setReady Reg.GLB_READY.KEEPER_UP true).recompute.showWear

/-- KEEPER_BOOT_START (R516–R520, R716): a slot verifies and the Keeper starts; with none the ROM enters recovery. -/
def execKeeperBootStart (disagree : List (Fin 8)) (refused : List SourceRefused) (flash : FlashFound) (s : State) : Res :=
  if s.pstate != PState.KEEPER_BOOT || s.get Reg.PWR_STAT.SEQ != 2 || s.ready Reg.GLB_READY.KEEPER_UP || s.pwr.underway then s.idle
  else if s.slotOrder.any s.slotVerifies then .next (s.keeperUp (disagree.map (·.val)) refused flash.mismatch (flash.lostParts.map (·.val))
    (flash.lostRecords.map (·.val)))
  else .next { s with cpx := { s.cpx with rom := true } }

/-! ## Sideband and the boot commands (R524) -/

/-- SIDEBAND_UP: the ports run, but for one that a stuck bus has disabled. -/
def execSidebandUp (s : State) : Res :=
  if s.ready Reg.GLB_READY.KEEPER_UP && !s.pwr.noReturn then
    let s := s.putAll ((List.range 3).map fun p => (Reg.TWI_STAT.UP p, ofBool (!s.flag (Reg.TWI_STAT.DISABLED p))))
    .next (s.setReady Reg.GLB_READY.SIDEBAND_UP true)
  else s.idle

/-- CMD_BOOT_SET: while the Requires entry of R45 holds. -/
def execCmdBootSet (s : State) : Res :=
  if s.ready Reg.GLB_READY.KEEPER_UP && (s.ready Reg.GLB_READY.SIDEBAND_UP || !s.hif.ready.isEmpty) && !s.pwr.noReturn then
    .next (s.setReady Reg.GLB_READY.CMD_BOOT true)
  else s.idle

/-! ## Keeper restart (R539) -/

/-- KEEPER_LOCKSTEP (R51, R539): both cores restart. Whether the row stands for a mismatch, which LOCKSTEP counts, or for an uncorrectable
word of Keeper SRAM is a free value (log entry 139). -/
def execKeeperLockstep (s : State) : Res :=
  if !s.ready Reg.GLB_READY.KEEPER_UP || s.cpx.restarting || s.pwr.noReturn then s.idle
  else
    let s := ((s.tick.count Reg.CPX_KP_STAT.LOCKSTEP (s.free % 2)).count Reg.CPX_KP_STAT.RESTARTS 1).record Ev.KEEPER_LOCKSTEP wide []
    let s := s.strike cpxUnit Ev.KEEPER_LOCKSTEP.sev
    .next { s with cpx := { s.cpx with restarting := true, manual := false, restarts := 0 :: s.cpx.restarts } }

end Sys2Proof.Machine
end

