-- ==== Sys2Proof/Machine/Restore.lean ====
section
/-! DEFINITION. Judging of the images, the select window, restore, zero fill, demand fault-in and LOST (chapter 06), and the
region table at a start (R438). -/

namespace Sys2Proof.Machine

open Host

/-! ## The region table at a start (R438, R439) -/

/-- The numbers below `n` that are no key of a rising map. -/
def absentKeys {α : Type} (n : Nat) (m : NMap α) : List Nat :=
  ((List.range n).foldl (fun (acc : List Nat × NMap α) e => match acc.2 with
    | [] => (e :: acc.1, [])
    | k :: rest => if k.1 == e then (acc.1, rest) else (e :: acc.1, k :: rest)) ([], m)).1.reverse

/-- Two rising maps with keys below `n`, put together; the first wins. -/
def mergeBelow {α : Type} (n : Nat) (a b : NMap α) : NMap α :=
  ((List.range n).foldl (fun (acc : NMap α × NMap α × NMap α) e =>
    let (out, x, y) := acc
    let headIs (m : NMap α) : Bool := match m with
      | k :: _ => k.1 == e
      | [] => false
    let out := match x, y with
      | k :: _, _ => if k.1 == e then k :: out else match y with
        | j :: _ => if j.1 == e then j :: out else out
        | [] => out
      | [], j :: _ => if j.1 == e then j :: out else out
      | [], [] => out
    (out, if headIs x then x.drop 1 else x, if headIs y then y.drop 1 else y)) ([], a, b)).1.reverse

/-- A fresh static mapping of an LD extent. -/
def staticExtent (ld lxn : Nat) : Extent := ⟨.mapped, true, true, ld, lxn, .free, 0, false, 0, 0⟩

/-- Extents in which an index names a page. -/
def touched (index : NMap Nat) : List Nat := (index.map fun e => extentOf e.1).eraseDups

/-- A logical device receives FREE extents until it holds STATIC mapped static extents (R438 step 4). -/
def State.fillStatic (s : State) (ld : Nat) : State :=
  let n := s.get (Reg.RGN_LD_CAP.STATIC ld)
  if n == 0 then s
  else
    let held := (s.rgn.exts.filter fun (e : Nat × Extent) => e.2.live && e.2.stat && e.2.ld == ld).map fun e => e.2.lxn
    let need := if held.isEmpty then List.range n else (List.range n).filter fun l => !held.contains l
    let fresh := ((absentKeys s.mappable s.rgn.exts).zip need).map fun p => (p.1, staticExtent ld p.2)
    { s with rgn := { s.rgn with exts := mergeBelow s.mappable s.rgn.exts fresh } }

/-- The region table is rebuilt from its record for the chosen image (R438); ZERO follows the image (R439). Where the
record was defaulted no extent becomes SANITIZING: extents that are not zero are HELD for LD0 (R567). -/
def State.rebuildRegions (s : State) (index : NMap Nat) : State :=
  let full := touched index
  let kept := s.rgn.record.filter fun (e : Nat × Extent) => decide (e.1 < s.mappable) && e.2.st != .free
  let kept := kept.map fun (e : Nat × Extent) => (e.1, { e.2 with
    zero := !full.contains e.1
    st := if e.2.live && e.2.stat && decide (s.get (Reg.RGN_LD_CAP.STATIC e.2.ld) ≤ e.2.lxn) then ExtState.held else e.2.st })
  let full := full.filter fun e => decide (e < s.mappable) && (NMap.find? kept e).isNone
  let fresh := full.foldl (fun (m : NMap Extent) e =>
    NMap.insert m e ⟨if s.rgn.defaulted then .held else .sanitizing, false, false, if s.rgn.defaulted then 0 else 16, 0, .free, 0, true, 0, 0⟩) kept
  (List.range 16).foldl State.fillStatic { s with rgn := { s.rgn with exts := fresh } }

/-- The poisoned lines of a page's contents (R106). -/
def poisonedOf (page : Nat) (p : PageImage) : List Nat := ((List.range 64).filter fun i => bitOf p.poison i).map (page * 64 + ·)

/-- Nothing but poison: what a page reads as that an index records as poisoned without a record (R331, R334). -/
def allPoison : PageImage := ⟨[], 2 ^ 64 - 1⟩

/-- The lines that an index entry records as poisoned (R278, R331). -/
def State.entryPoison (s : State) (e : Nat × Nat) : List Nat :=
  if e.2 == 0 then poisonedOf e.1 allPoison
  else match NMap.find? s.flash.records e.2 with
    | some r => poisonedOf e.1 r.image
    | none => []

/-- The poison lists hold the poisoned lines of an image, by the logical devices that map them (R106, R278). -/
def State.rebuildPoison (s : State) (index : NMap Nat) : State :=
  let s := s.each (List.range 16) fun s n =>
    if (s.ldState n).poisonList.isEmpty then s else s.setLd n { s.ldState n with poisonList := [], poisonOverflow := false }
  s.each index fun s (e : Nat × Nat) => s.each (s.entryPoison e) State.listPoison

/-! ## Judging (R63, R71, R240, R256–R260, R311, R335, R336) -/

/-- An image is on flash (R62): the ring holds a SAVE_OPEN, SEAL or commit record. -/
def Flash.onFlash (f : Flash) : Bool := f.ring.any fun r => match r.body with
  | .journal _ _ => false
  | _ => true

/-- A codeword can be read at this start: it decodes, its LUN is one of this device, and its channel runs (R301, R308, R344). `bad` holds the flash addresses of
the codewords that do not decode, or, of a ring record, whose CRC does not match. -/
def State.wordReadable (s : State) (bad : List Nat) (fa : Nat) : Bool :=
  !bad.contains fa && !s.flash.foreign.contains (faLun fa) && s.channelUp (faChannel fa)

/-- A codeword of an index carries the TYPE and SUBJECT that its place in the index expects, and the generation of the key in force
(R311, R334, R335). -/
def State.wordMatches (s : State) (key fa : Nat) : Bool :=
  match NMap.find? s.flash.cells fa with
  | none => false
  | some w => w.type == keyType key && w.subject == keySubject key && w.keygen == s.get Reg.NFC_KEY.KEYGEN

/-- Either copy of a ring record decodes and its CRC matches (R325). -/
def State.ringDecodes (s : State) (bad : List Nat) (r : RingRec) : Bool := s.wordReadable bad r.fa || s.wordReadable bad r.fb

/-- The ring records that the Keeper reads at this start, newest first (R71, R311): with the key, those under its generation. -/
def State.readRing (s : State) (key : Bool) (bad : List Nat) : List RingRec :=
  if key then s.flash.ring.filter fun r => s.ringDecodes bad r && r.keygen == s.get Reg.NFC_KEY.KEYGEN else []

/-- The commit, SEAL and SAVE_OPEN records and the index of an image can be read (R335). -/
def State.mediaReadable (s : State) (key : Bool) (bad : List Nat) (x : Image) : Bool :=
  let ring := s.readRing key bad
  (ring.any fun r => r.lsn == x.commit) && (ring.any fun r => r.lsn == x.ref) && x.words.all fun e => s.wordReadable bad e.2.2 && s.wordMatches e.1 e.2.2

/-- An image fits the DRAM of this start (R257, R336): its fitted extents are there, and it holds no page in an extent that the Carafe
and the side table of its save would reserve now. -/
def State.imageFits (s : State) (x : Image) : Bool :=
  decide (x.fitted ≤ s.extents) && x.index.all fun e => decide (extentOf e.1 < s.extents - x.reserved)

/-- Judge one image. -/
def State.judge (s : State) (key : Bool) (bad : List Nat) (x : Image) : Image :=
  { x with
    readable := s.mediaReadable key bad x && s.imageFits x
    sealReadable := (s.readRing key bad).any fun r => r.lsn == x.ref
    newer := false }

/-- The epoch numbers in the payload of a ring record (R328). -/
def RingBody.numbers (b : RingBody) : List Nat :=
  match b with
  | .saveOpen b => [b.cut, b.sealing]
  | .seal b => [b.epoch]
  | .commit b => [b.number]
  | .journal _ _ => []

/-- The largest epoch number in any record that the Keeper read at this start (R71): from the payloads, or without the key from the
tags. -/
def State.largestRead (s : State) (key : Bool) (bad : List Nat) : Nat :=
  (if key then (s.readRing key bad).flatMap fun r => r.body.numbers
   else (s.flash.ring.filter (s.ringDecodes bad)).map fun r => r.body.subject).foldl max 0

/-- The newest save whose save-open record the Keeper has read (R240, R250). Commit records that the save itself has written do not
count against it; they carry the number of the epoch that was sealing at its cut. -/
def newestSave (all read : List RingRec) : Option SaveRec :=
  read.findSome? fun o => match o.body with
    | .saveOpen b =>
      let mine (r : RingRec) : Option CommitBody := match r.body with
        | .commit c => if c.cut && c.ref == o.name then some c else none
        | _ => none
      some {
        lsn := o.lsn
        opened := b
        written := all.any fun r => (mine r).isSome
        commit := read.findSome? mine
        current := read.all fun r => match r.body with
          | .commit c => c.cut || decide (r.lsn < o.lsn) || c.number == b.sealing
          | _ => true }
    | _ => none

/-- The row of R62 and the image it calls for: SOURCE, REASON, OLDER and the image. -/
def decideImage (onFlash : Bool) (save : Option SaveRec) (images : List Image) : Nat × Nat × Bool × Option Image :=
  if !onFlash then (0, 0, false, none)
  else
    let save := save.filter fun v => v.current
    let cut := images.find? fun i => i.cut && i.readable
    let reason := match save with
      | none => 2
      | some v => if v.written then 3 else 1
    let wanted := match save, cut with
      | some v, some c => v.written && c.ref == v.lsn
      | _, _ => false
    if wanted then (1, 0, false, cut)
    else
      let epochs := images.filter fun i => !i.cut
      match epochs.find? fun i => i.readable with
      | some e => (2, reason, epochs.head? != some e, some e)
      | none => match cut with
        | some c => (1, reason, true, some c)
        | none => (3, reason, false, none)

/-- The Carafe takes NEXT_GIB where it covers no page of a readable image; otherwise the size of the newest such image stays
(R260). -/
def State.sizeCarafe (s : State) : State :=
  let next := s.put Reg.DRP_CAR_CFG.SIZE_GIB (s.get Reg.DRP_CAR_CFG.NEXT_GIB)
  let good := s.flash.images.filter fun i => i.readable
  let fits := good.all fun i => i.index.all fun e => decide (extentOf e.1 < next.mappable)
  match fits, good with
  | false, i :: _ => (s.put Reg.DRP_CAR_CFG.SIZE_GIB i.carafe).record Ev.CARAFE_SIZE_KEPT wide []
  | _, _ => next

/-- The figures of SAV_LAST that only the commit record of a save holds: free values where that record was written and cannot be read, a
save that R240 counts as committed (DEDUCED; log entry 109). -/
def State.lastSaveUnread (s : State) : State :=
  State.each (s.put Reg.SAV_LAST_RESULT.END 1) [Reg.SAV_LAST_RESULT.SEAL_DURABLE, Reg.SAV_LAST_RESULT.THERMAL,
    Reg.SAV_LAST_RESULT.DMC_THROTTLE, Reg.SAV_LAST_TIME.SAVE_MS, Reg.SAV_LAST_TIME.CUT_US, Reg.SAV_LAST_PAGES.PAGES, Reg.SAV_LAST_POISON.LINES,
    Reg.SAV_LAST_RETRY.PROG_RETRY, Reg.SAV_LAST_RETRY.PANIC_CNT] State.putFree

/-- The SAV_LAST registers after a cold start (R250). -/
def State.loadLastSave (s : State) (save : Option SaveRec) : State :=
  match save with
  | none => s
  | some v =>
    let aborted := s.get Reg.PWR_LAN.LAST_OFF == Off.SAVE_ABORT
    let s := s.putPair Reg.SAV_LAST_EPOCH_LO.NUM_LO Reg.SAV_LAST_EPOCH_HI.NUM_HI v.opened.cut
    let s := s.put Reg.SAV_LAST_RESULT.FROM_RESTORE (ofBool v.opened.fromRestore)
    match v.commit with
    | some c => s.putAll [
      (Reg.SAV_LAST_RESULT.END, 1), (Reg.SAV_LAST_RESULT.SEAL_DURABLE, ofBool c.sealDurable), (Reg.SAV_LAST_RESULT.THERMAL, ofBool c.thermal),
      (Reg.SAV_LAST_RESULT.DMC_THROTTLE, ofBool c.dmcThrottle), (Reg.SAV_LAST_TIME.SAVE_MS, c.saveMs), (Reg.SAV_LAST_TIME.CUT_US, c.cutUs),
      (Reg.SAV_LAST_PAGES.PAGES, c.pages), (Reg.SAV_LAST_POISON.LINES, min c.poisoned 0xFFFFFFFF), (Reg.SAV_LAST_RETRY.PROG_RETRY, c.retries),
      (Reg.SAV_LAST_RETRY.PANIC_CNT, c.panics)]
    | none =>
      if v.written then s.lastSaveUnread
      else s.putAll [
        (Reg.SAV_LAST_TIME.SAVE_MS, 0xFFFF), (Reg.SAV_LAST_RESULT.END, if aborted then s.get Reg.PWR_LAN.SAVE_END else 4),
        (Reg.SAV_LAST_RESULT.ABORT_RAIL, if aborted then s.get Reg.PWR_LAN.SAVE_RAIL else 0)]

/-- GLB_IMAGE_EPOCH. -/
def State.setImageEpoch (s : State) (n : Nat) : State := s.putPair Reg.GLB_IMAGE_EPOCH_LO.LO Reg.GLB_IMAGE_EPOCH_HI.HI n

/-- The image to restore is chosen: its index, and the images newer than it (R74, R283). -/
def State.chooseImage (s : State) (img : Image) : State :=
  let before := s.flash.images.takeWhile fun i => !(i.cut == img.cut && i.number == img.number)
  let images := s.flash.images.mapIdx fun i (x : Image) => { x with newer := decide (i < before.length) }
  let commit := ((s.flash.ring.find? fun r => r.lsn == img.commit).map RingRec.name).getD 0
  let s := { s with
    flash := { s.flash with images, baseIndex := img.index, baseWords := img.words, baseCommit := commit }
    rse := { s.rse with index := img.index, words := img.words } }
  (s.setImageEpoch img.number).rebuildRegions img.index |>.rebuildPoison img.index

/-! ## Entry to service (R123, R259, R261, R266, R274) -/

/-- Tracking starts with every granule PERSISTED (R123). -/
def State.startTracking (s : State) : State :=
  { s with drp := { s.drp with tracking := true, grans := [], progs := [] } }.showWear.recompute

/-- The table of this start is the one in force, and the region record takes it where it has changed (R437). -/
def State.keepRegions (s : State) : State :=
  let bare (m : NMap Extent) := m.map fun (e : Nat × Extent) => (e.1, { e.2 with zero := false })
  if bare s.rgn.exts == bare s.rgn.record then s else s.writeRegions .nothing

/-- The zero fill starts in UNARMED, and the first epoch opens (R167, R259, R266, R274). -/
def State.startFill (s : State) : State :=
  let s := { s with rse := { s.rse with index := [], words := [], bitmap := true } }
  ((s.rebuildRegions []).keepRegions.enter PState.UNARMED).openFirst.put Reg.RSE_STAT.PHASE 5

/-- The RESTORE_SELECT window closes: RESTORING (R261, R262). -/
def State.closeWindow (s : State) : State :=
  let s := { s with rse := { s.rse with bitmap := true } }.keepRegions
  ((s.enter PState.RESTORING).putAll [(Reg.GLB_IMAGE.SELECT_OPEN, 0), (Reg.RSE_STAT.PHASE, 3)]).openFirst

/-- The commit of a slot's first start (R579): migrated records, the anti-rollback counter, then the boot record. -/
def State.commitSlot (s : State) : State :=
  if !s.kst.firstStart || s.get Reg.CPX_KP_STAT.RESTARTS != 0 || s.fogged then s
  else
    let s := if s.get Reg.KST_STAT.MIG == 1 then
        { s with cmd := { s.cmd with writes := s.cmd.writes ++ (List.range 12).map fun r => (⟨r, .other 1, none⟩ : RecWrite) } }
      else s
    let rb := ((s.slot s.kst.running).map (·.rollback)).getD 0
    (s.raise Reg.KST_ARB.COUNTER rb).writeBoot (.bootCommit s.kst.running)

/-- The image key at a start (R311): generated where none can be read and no image is on flash. Each start tries the key afresh
(R286). -/
def State.startKey (s : State) (key onFlash : Bool) : State :=
  if key then s
  else if onFlash then { s with kst := { s.kst with keyLost := true } }
  else s.newKey

/-- A flash or DRAM population that keeps IMAGE_INDEXED at 0 (R299, R352). -/
def State.populated (s : State) : Bool :=
  s.get Reg.DMC_MAP.CHANNELS != 0 && s.pop.flashChannels.any fun n => s.flag (Reg.NFC_CH_STAT.UP n)

/-- The key is read and held (R311). -/
def State.keyRead (s : State) (keyOk : Bool) : Bool := keyOk && s.kst.keyGen.isSome

/-- The reads of codewords that the Keeper makes at a start: ring and index codewords (R307, R308, R326, R335). -/
def State.startReads (s : State) (reads : List CodewordRead) : List CodewordRead :=
  reads.filter fun r => (NMap.find? s.flash.cells r.fa).isSome && s.channelUp (faChannel r.fa)

/-- The next LSN after a start (R306): the highest of any ring record that the Keeper has found, plus 2^32. -/
def State.startLsn (s : State) (bad : List Nat) : Nat :=
  let found := s.flash.ring.filter (s.ringDecodes bad)
  if found.isEmpty then s.flash.nextLsn else (found.map RingRec.lsn).foldl max 0 + 2 ^ 32

/-- The Keeper rebuilds the states of blocks from the ring records, the indexes and the erase journal (R313): a block with codewords of
which none is referenced is RELEASED, or BAD where a program in it has failed, and no page program of the last power cycle goes on. What an
image that cannot be read names stays referenced as long as it is retained (DEDUCED; log entry 134). -/
def State.rebuildBlocks (s : State) : State :=
  let blocks := s.flash.blocks.map fun (e : Nat × Block) => if e.2.st == 6 && s.live e.1 == 0 then (e.1, { e.2 with st := 7 }) else e
  let s := { s with flash := { s.flash with blocks } }
  (s.each (blocks.map Prod.fst) State.closePage).releaseBlocks

/-- The images on flash are judged (R256–R259), and so are LUNs of another device; the highest numbers used are known (R167, R306), and the
states of blocks (R313). -/
def State.judgeAll (s : State) (key : Bool) (reads : List CodewordRead) (unreadable foreign : List Nat) : State :=
  let onFlash := s.flash.onFlash
  let s := (s.startKey key onFlash).flashReads (s.startReads reads)
  let s := if onFlash then State.each { s with flash := { s.flash with foreign } } foreign fun s l => s.record Ev.LUN_FOREIGN (l / 64) [] else s
  State.rebuildBlocks { s with
    flash := { s.flash with images := s.flash.images.map (s.judge key unreadable), nextLsn := s.startLsn unreadable }
    drp := { s.drp with maxUsed := s.largestRead key unreadable } }

/-- What the registers report of the images, and the image chosen (R62, R77, R250, R460). -/
def State.reportImages (s : State) (save : Option SaveRec) (source reason : Nat) (older : Bool) (img : Option Image) : State :=
  let images := s.flash.images
  let s := s.sizeCarafe.loadLastSave save
  let durable := ((images.find? fun i => !i.cut).map (·.number)).getD 0
  let s := (s.putPair Reg.GLB_DUR_EPOCH_LO.LO Reg.GLB_DUR_EPOCH_HI.HI durable).showRetained.putAll [
    (Reg.GLB_IMAGE.SOURCE, source), (Reg.GLB_IMAGE.REASON, reason), (Reg.GLB_IMAGE.OLDER, ofBool older),
    (Reg.RSE_STAT.JUDGED, (images.filter fun i => i.readable).length)]
  let s := (if source == 2 || source == 3 || older then { s with kst := { s.kst with dirtyShutdowns := s.kst.dirtyShutdowns + 1 } } else s).putFree
    Reg.RSE_TIME.INDEX_MS
  match img with
  | some i => s.chooseImage i
  | none => s

/-- IMAGE_INDEXED is announced, a slot's first start commits, and tracking starts (R71, R80, R123, R579). -/
def State.announceImage (s : State) (source reason : Nat) (older : Bool) : State :=
  let s := (s.setReady Reg.GLB_READY.IMAGE_INDEXED true).record Ev.IMAGE_JUDGED wide
    [(1, source), (1, reason), (1, s.get Reg.RSE_STAT.JUDGED)]
  (if older then s.record Ev.IMAGE_OLDER wide [] else s).commitSlot.startTracking

/-- Entry to service: the zero fill with no image, LOST with none that can be read, or the RESTORE_SELECT window (R259, R261,
R284). `capacity` says that an image is unreadable only because it does not fit (R257, R290). -/
def State.serveImage (s : State) (source : Nat) (capacity : Bool) : State :=
  if source == 0 then s.startFill
  else if source == 3 then
    let cause := if capacity then 2 else 1
    ((s.putAll [(Reg.RSE_STAT.LOST_CAUSE, cause), (Reg.RSE_STAT.PHASE, 8)]).enter PState.LOST).record Ev.IMAGE_LOST wide [(1, cause)]
  else
    let s := s.putAll [(Reg.GLB_IMAGE.SELECT_OPEN, 1), (Reg.RSE_STAT.PHASE, 2)]
    if s.kst.selectWait == 0 then s.closeWindow else s

/-- IMAGE_INDEXED (R62, R71, R79, R80, R109, R123, R240, R250, R256–R260, R278, R284, R311, R335): judging ends. `keyOk` says whether the
image key could be read, `reads` holds what the reads of the ring records and index codewords have shown (R307, R308), `badCrc` the flash
addresses of ring records whose CRC does not match (R325), and `foreign` the LUNs whose label names another device (R301). -/
def execImageIndexed (keyOk : Bool) (reads : List CodewordRead) (badCrc foreign : List Nat) (s : State) : Res :=
  if !s.ready Reg.GLB_READY.KEEPER_UP || s.get Reg.RSE_STAT.PHASE != 1 || s.fogged || s.pwr.underway || s.cpx.restarting || !s.populated then
    s.idle
  else
    let key := s.keyRead keyOk
    let bad := ((reads.filter CodewordRead.bad).map CodewordRead.fa) ++ badCrc
    let s := s.judgeAll key reads bad foreign
    let save := newestSave s.flash.ring (s.readRing key bad)
    let (source, reason, older, img) := decideImage s.flash.onFlash save s.flash.images
    let capacity := s.flash.images.any fun i => s.mediaReadable key bad i && !s.imageFits i
    .next (((s.reportImages save source reason older img).announceImage source reason older).serveImage source capacity)

/-- SELECT_WAIT_EXPIRED (R80, R81): a wait of 0xFFFF never ends. -/
def execSelectWaitExpired (s : State) : Res :=
  if s.flag Reg.GLB_IMAGE.SELECT_OPEN && s.kst.selectWait != 0xFFFF && !s.fogged && !s.pwr.underway && !s.cpx.restarting then
    .next s.closeWindow
  else s.idle

/-! ## Restored pages (R263–R275) -/

/-- Requests that waited before MEM_PARTIAL are served in the order of their arrival (R264). -/
def State.serveEarly (s : State) : State :=
  let l := s.hif.reqs.filter fun (r : HostReq) => r.stage == .memPartial
  let s := { s with hif := { s.hif with reqs := s.hif.reqs.filter fun (r : HostReq) => r.stage != Stage.memPartial } }
  s.each l fun s r => if r.write then s.serveWrite r else s.serveRead r .good

/-- An extent filled with zeros takes ZERO where nothing has been written to it (R439). -/
def State.zeroFilled (s : State) (e : Nat) : State :=
  match NMap.find? s.rgn.exts e with
  | none => s
  | some x =>
    let written := (s.drp.grans.any fun g => g.1 / 4096 == e) || (touched (NMap.union s.flash.baseIndex s.flash.openRecs)).contains e
    if written then s else { s with rgn := { s.rgn with exts := NMap.insert s.rgn.exts e { x with zero := true } } }

/-- Every host-mappable extent is ready: MEM_FULL, and RESTORING ends (R36, R266, R272). -/
def State.memFull (s : State) : State :=
  if s.ready Reg.GLB_READY.MEM_FULL || !s.rse.covers 0 (s.mappable * pagesPerExtent) then s
  else
    let s := { s with rse := { s.rse with bitmap := false, sweeping := none } }
    let s := ((s.putFree Reg.RSE_TIME.TO_FULL_S).put Reg.RSE_STAT.PHASE 6).setReady Reg.GLB_READY.MEM_FULL true
    let s := s.endPanic.record Ev.RESTORE_DONE wide []
    if s.pstate == PState.RESTORING && !s.pwr.underway then s.enter (if s.ready Reg.GLB_READY.PERSIST_ARMED then PState.ARMED else PState.UNARMED) else s

/-- A page is in DRAM and its bitmap bit is set; an extent may become ready (R263, R265). -/
def State.pageDone (s : State) (page : Nat) : State :=
  let fill := s.get Reg.GLB_IMAGE.SOURCE == 0
  let e := extentOf page
  let s := { s with rse := { s.rse with restored := addPage s.rse.restored page } }.count Reg.RSE_PAGES.RESTORED 1
  if s.extReady e && decide (e < s.mappable) then
    let s := if fill then s.zeroFilled e else s
    let s := { s with rse := { s.rse with promoted := s.rse.promoted.filter (· != e) } }
    let s := s.put Reg.RSE_STAT.PROMOTE_FULL (ofBool (decide (64 ≤ s.rse.promoted.length)))
    let first := !s.ready Reg.GLB_READY.MEM_PARTIAL
    let s := { s.setReady Reg.GLB_READY.MEM_PARTIAL true with hif := { s.hif with memActive := true } }
    let s := s.memFull
    if first then s.serveEarly else s
  else s

/-- A page put into DRAM with its poison, which enters the poison list (R106, R278). -/
def State.putRestored (s : State) (page : Nat) (p : PageImage) : State :=
  (s.putPage page p).each (poisonedOf page p) State.listPoison

/-- The page stays poisoned in the images to come (R106, R279): the index of the open epoch, or after the cut that of the cut, takes an
entry without a record (R331). -/
def State.recordUnread (s : State) (page : Nat) : State :=
  if (NMap.find? s.flash.openRecs page).isSome then s
  else { s with flash := { s.flash with openRecs := NMap.insert s.flash.openRecs page 0 } }

/-- A page whose record cannot be read: 64 poisoned lines (R51, R275, R279, R280). -/
def State.restoreUnread (s : State) (page : Nat) : State :=
  let s := s.count Reg.RSE_ERR.UE_PAGES 1
  let s := (s.recordFor Ev.RESTORE_UE wide [] ((s.ownerOf (page * 4096)).map (·.1))).strike rseUnit Ev.RESTORE_UE.sev
  ((s.putRestored page allPoison).recordUnread page).pageDone page

/-- The reads of map codewords that the restore of a page has made (R307, R308, R334). -/
def State.mapReads (s : State) (page : Nat) (maps : List CodewordRead) : List CodewordRead :=
  maps.filter fun r => (s.pageWords page).any fun w => w.2 == r.fa

/-- A codeword cannot be read any more: its channel has been retired or is not in use, or its LUN is of another device (R301, R344). -/
def State.gone (s : State) (fa : Nat) : Bool := s.channelRetired (faChannel fa) || s.flash.foreign.contains (faLun fa)

/-- The page cannot be resolved: a map codeword on its way cannot be read, or carries another tag than the walk expects (R334). -/
def State.pathLost (s : State) (page : Nat) (maps : List CodewordRead) : Bool :=
  (s.pageWords page).any fun w => s.gone w.2 || !s.wordMatches w.1 w.2 || maps.any fun r => r.fa == w.2 && r.bad

/-- The read levels that a restore read has climbed (R275, R276, R308): none for a page that needs no read, and at most `limit`. -/
def State.restoreRetries (s : State) (page retries limit : Nat) : Nat := if (s.restoreRecord page).isNone then 0 else min retries limit

/-- A restored page's contents: its record, zeros, or 64 poisoned lines where the record cannot be read or the index has none
(R275, R279, R331, R334). `fault` marks a demand fault-in, for which programs in flight are suspended on the LUNs that it reads (R316); `maps`
holds what the reads of map codewords have shown. -/
def State.restorePage (s : State) (page : Nat) (fault uncorrectable : Bool) (retries corrected : Nat) (maps : List CodewordRead) : State :=
  let s := (s.count Reg.RSE_ERR.RETRIES retries).accessPage (page * 4096) reqRse fault true
  let s := if fault then s.each (((s.pageAddresses page).map faLun).eraseDups) State.suspendPrograms else s
  let lost := s.pathLost page maps
  let s := s.flashReads (s.mapReads page maps)
  if lost then s.restoreUnread page
  else match NMap.find? s.rse.index page with
  | none => (s.putPage page ⟨[], 0⟩).pageDone page
  | some 0 => (s.putRestored page allPoison).pageDone page
  | some lsn =>
    match NMap.find? s.flash.records lsn with
    | none => s.restoreUnread page
    | some r =>
      let bad := uncorrectable || s.gone r.fa
      let s := s.flashRead r.fa corrected retries bad
      if bad then s.restoreUnread page else (s.putRestored page r.image).pageDone page

/-- The requests that waited for a page go on, in the order of their arrival (R98, R267, R275): each waits until its turn comes. -/
def State.releasePage (s : State) (page : Nat) : State :=
  let l := s.hif.reqs.filter fun (r : HostReq) => (r.stage == .faultIn || r.stage == .faultInQueued) && r.dpa / 4096 == page
  let s := { s with rse := { s.rse with faultIns := s.rse.faultIns.filter (· != page) } }
  s.each l fun s r => let s := s.unwait r.id; if r.write then s.carry r else s.readRestored r .good

/-- A fault-in has ended: a request that waited for a free one is issued (R275). -/
def State.issueQueued (s : State) : State :=
  let ok (r : HostReq) : Bool := r.stage == .faultInQueued && !s.channelFailed (r.dpa / 4096)
  match s.hif.reqs.find? ok with
  | some r => if s.saving then s else (s.unwait r.id).faultIn r
  | none => s

/-! ## The sweep (R269, R280) -/

/-- The first page at or after `p` and before `b` that is not restored and not to be skipped. -/
def State.nextIn (s : State) : Nat → Nat → Nat → Option Nat
  | 0, _, _ => none
  | n + 1, p, b =>
    if b ≤ p then none
    else match s.rse.restored.find? fun i => decide (i.1 ≤ p) && decide (p < i.2) with
      | some i => State.nextIn s n i.2 b
      | none => if s.channelFailed p || s.rse.faultIns.contains p then State.nextIn s n (p + 1) b else some p

/-- The next page of an extent. -/
def State.nextOf (s : State) (e : Nat) : Option Nat :=
  s.nextIn (s.rse.restored.length + s.rse.faultIns.length + pagesPerExtent + 1) (e * pagesPerExtent) ((e + 1) * pagesPerExtent)

/-- The extents in the order of R269. -/
def State.sweepOrder (s : State) : List Nat :=
  let mapped := s.rgn.exts.filter fun (e : Nat × Extent) => e.2.live
  let prios := (List.range 16).map fun n => s.get (Reg.RSE_LD_PRIO.PRIO n)
  let prio (p : Nat) : List Nat := (mapped.filter fun e => prios.getD e.2.ld 0 == p).map (·.1)
  s.rse.promoted ++ prio 3 ++ prio 2 ++ prio 1 ++ prio 0 ++ absentKeys s.mappable mapped

/-- The page the sweep or the fill takes next. The order of R269 is taken anew for every page, so that a promotion or a new priority comes
before the rest of the extent in hand (DESIGN CHOICE; log entry 129). -/
def State.sweepPage (s : State) : Option Nat := (s.sweepOrder.filter fun e => decide (e < s.mappable)).findSome? s.nextOf

/-- The sweep issues the read of its next page, unless one is in flight, which requests to the page join from then on (R273). -/
def State.issueSweep (s : State) : State :=
  if s.get Reg.RSE_STAT.PHASE == 4 && !s.fogged && s.rse.sweeping.isNone then { s with rse := { s.rse with sweeping := s.sweepPage } } else s

/-- The codewords of the extent directory are read (R262, R307, R308, R330): the ROOT and EXTENT_MAP ones of the chosen image. What their
reads show are free values (log entry 116). -/
def State.readDirectory (s : State) : State :=
  s.each (s.rse.words.filter fun e => keyType e.1 != 8) fun s e =>
    s.tick.tick.tick.flashRead e.2.2 (s.free % 73) (s.tick.free % (mostRetries + 1)) (s.tick.tick.free % 2 == 1)

/-- DIRECTORY_LOADED (R262, R280, R295, R307): the sweep starts. It skips the pages on a channel that has entered FAILED before. -/
def execDirectoryLoaded (s : State) : Res :=
  if s.pstate == PState.RESTORING && s.get Reg.RSE_STAT.PHASE == 3 && !s.fogged then
    let s := s.readDirectory.put Reg.RSE_STAT.PHASE 4
    let s := if s.skipsAny then s.record Ev.RESTORE_CHANNEL_WAIT wide [] else s
    .next s.issueSweep
  else s.idle

/-- The rates of the last 100 ms are measured (R292): free values. -/
def State.showRates (s : State) : State :=
  ((s.putFree Reg.RSE_RATE.SWEEP_RATE).put Reg.RSE_RATE.FI_PCT (Config.freeValue (s.freeCtr + 1) % 101)).tick

/-- SWEEP_PAGE_DONE (R270–R273, R279, R308): the page whose read is in flight is restored, and the next read is issued. The sweep climbs
the full ladder, of at most 15 levels. -/
def execSweepPageDone (uncorrectable : Bool) (retries : Nat) (shown : PageShown) (s : State) : Res :=
  if s.get Reg.RSE_STAT.PHASE != 4 || s.fogged then s.idle
  else match s.rse.sweeping.orElse fun _ => s.sweepPage with
    | none => s.idle
    | some page =>
      let s := { s with rse := { s.rse with sweeping := none } }
      .next ((s.restorePage page false uncorrectable (s.restoreRetries page retries mostRetries) shown.corrected
        shown.maps).releasePage page).issueQueued.issueSweep.showRates

/-- ZERO_FILL_PAGE (R274): the fill's next page. -/
def execZeroFillPage (s : State) : Res :=
  if s.get Reg.RSE_STAT.PHASE != 5 || s.fogged then s.idle
  else match s.sweepPage with
    | none => s.idle
    | some page => .next ((s.restorePage page false false 0 0 []).releasePage page).issueQueued

/-- FAULT_IN_DONE (R271, R275–R277, R280): the page is restored and its waiting requests go on. It climbs at most FI_RETRY levels; while
the channel of its record is in FAILED it waits. -/
def execFaultInDone (page : Nat) (uncorrectable : Bool) (retries : Nat) (shown : PageShown) (s : State) : Res :=
  if !s.rse.faultIns.contains page || s.channelFailed page || s.pstate == PState.SAVING || s.pstate == PState.SAVED then s.idle
  else
    let retries := s.restoreRetries page retries (s.get Reg.RSE_CFG.FI_RETRY)
    let s := (s.restorePage page true uncorrectable retries shown.corrected shown.maps).raiseFree Reg.RSE_FI_MAX.MAX_NS
    .next (s.releasePage page).issueQueued.showRates.settle

/-! ## Recovery of DRAM lines (R382) -/

/-- The newest entry of a page: among those pending for the next index, in the latest index, in the restored one. -/
def State.newestEntry (s : State) (page : Nat) : Option Nat :=
  let at' (m : NMap Nat) : Option Nat := NMap.find? m page
  (at' s.flash.openRecs).orElse fun _ => (at' s.flash.sealRecs).orElse fun _ => (at' s.flash.baseIndex).orElse fun _ => at' s.rse.index

/-- The newest record of a page. -/
def State.newestRecord (s : State) (page : Nat) : Option PageRec := (s.newestEntry page).bind fun l => NMap.find? s.flash.records l

/-- What the newest entry of a page gives for its lines (R331, R382): the page's record, zeros where no index names the page, or poison
where its entry names no record or the record cannot be read. -/
def State.recovered (s : State) (page : Nat) (uncorrectable : Bool) : PageImage :=
  match s.newestEntry page, s.newestRecord page with
  | none, _ => ⟨[], 0⟩
  | some _, none => allPoison
  | some _, some r => if uncorrectable || s.gone r.fa then allPoison else r.image

/-- The newest record of a page lies on an NFC channel in FAILED, for which its recovery waits as a demand fault-in does (R275, R382). -/
def State.recordWaits (s : State) (page : Nat) : Bool := (s.newestRecord page).any fun r => s.unitFailed (nfcUnit (faChannel r.fa))

/-- A line of device memory takes what a page's contents hold for it. -/
def State.putLine (s : State) (line : Nat) (p : PageImage) : State :=
  let lo := line % 64 * 64
  let cells := p.cells.filter fun c => decide (lo ≤ c.1) && decide (c.1 < lo + 64)
  { s with dram := cells.foldl (fun m c => dramPut m (line / 64 * 4096 + c.1) c.2) (clearRange s.dram (line * 64) 64) }

/-- One line is rewritten from a page's contents (R358, R382); on a DMC channel in FAILED it is recorded as poisoned (R393). Lines that
have no good data are poisoned; the others count as recovered, and their channel's fault has been handled. -/
def State.rewriteLine (s : State) (line : Nat) (p : PageImage) : State :=
  let c := s.channelOf (line * 64)
  let s := s.access (line * 64) reqRse true true
  let s :=
    if bitOf p.poison (line % 64) || s.lineFailed line then s.spoilLine line
    else ((s.putLine line p).cleanLine line).count (Reg.DMC_ECC_CNT.RECOVERED c) 1
  s.endFault (dmcUnit c)

/-- DRAM_RECOVERY_DONE (R308, R382): the uncorrectable lines are rewritten from the page's record, read as for a demand fault-in, or
poisoned, and the requests that waited go on. -/
def execDramRecoveryDone (page : Nat) (uncorrectable : Bool) (retries corrected : Nat) (s : State) : Res :=
  let lines := s.rse.recovering.filter fun l => l / 64 == page
  if lines.isEmpty || s.recordWaits page || (s.pstate == PState.SAVING || s.pstate == PState.SAVED) then s.idle
  else
    let image := s.recovered page uncorrectable
    let s := match s.newestRecord page with
      | some r =>
        if s.gone r.fa then s else s.flashRead r.fa corrected (min retries (s.get Reg.RSE_CFG.FI_RETRY)) uncorrectable
      | none => s
    let s := { s with rse := { s.rse with recovering := s.rse.recovering.filter fun l => l / 64 != page } }
    let s := s.each lines fun s l => s.rewriteLine l image
    .next ((s.atPage .recovery page).foldl (fun s r => let s := s.unwait r.id; if r.write then s.carry r else s.readLine r) s).settle

/-! ## RESTORE_SELECT, LOSS_ACCEPT (R82, R285, R312) -/

/-- The effects of an accepted LOSS_ACCEPT, in their order (R285). It names neither GLB_DUR_EPOCH nor LOST_CAUSE, which keep what they show
(DESIGN CHOICE; log entry 127). -/
def State.acceptLoss (s : State) (scrub : Bool) : State :=
  let erase := scrub || s.kst.keyLost || s.kst.keyGen.isNone
  let s := { s with
    flash := { s.flash with
      images := [], baseIndex := [], baseWords := [], baseCommit := 0, sealRecs := [], openRecs := [], segIndex := [], segWords := []
      sealOld := [], openOld := [], oldWords := [], mirrorFas := [], ring := [], ringBlocks := []
      blocks := s.flash.blocks.map fun (e : Nat × Block) => if e.2.st == 6 && e.2.owner == 4 then (e.1, { e.2 with st := 7 }) else e }
    rse := { s.rse with index := [], words := [] }
    evr := { s.evr with mirror := [] } }
  let s := (if erase then s.cryptoErase else s).releaseBlocks.writeRingList
  let s := ((s.putAll [
    (Reg.GLB_IMAGE.SOURCE, 0), (Reg.GLB_IMAGE.REASON, 0), (Reg.GLB_IMAGE.OLDER, 0), (Reg.GLB_IMAGE.RESUMED, 0)]).setImageEpoch 0).showRetained
  let s := (s.put Reg.DRP_CAR_CFG.SIZE_GIB (s.get Reg.DRP_CAR_CFG.NEXT_GIB)).record Ev.LOSS_ACCEPTED wide [(1, ofBool scrub)]
  s.startFill

end Sys2Proof.Machine
end

