-- ==== Sys2Proof/Machine/Hif.lean ====
section
/-! DEFINITION. Links, CXL.mem enables and resets (R424–R428, R522–R525), the dynamic capacity flow (R442–R447) and the
standard CXL mailbox commands (R452–R461). Return codes and payload layouts of CXL 3.1 are not the manual's (log entry 18). -/

namespace Sys2Proof.Machine

open Host

/-! ## Links -/

/-- The widest width both sides support within a lane budget (R426). -/
def trainedWidth (budget width : Nat) : Nat := ([16, 8, 4, 2, 1].find? fun w => decide (w ≤ min budget width)).getD 0

/-- The code of a width (R466). -/
def widthCode (w : Nat) : Nat := if w == 4 then 1 else if w == 8 then 2 else if w == 16 then 3 else if w == 2 then 4 else 5

/-- The code of a rate in GT/s (R466). -/
def rateCode (gts : Nat) : Nat := if gts < 32 then 1 else if gts < 64 then 2 else 3

/-- The port of a head is split into two links (R424). -/
def State.split (s : State) (h : Nat) : Bool := if h < 2 then s.flag Reg.HIF_CFG.BIFUR0 else s.flag Reg.HIF_CFG.BIFUR1

/-- The head exists under the bifurcation in force (R424). -/
def State.headExists (s : State) (h : Nat) : Bool := h % 2 == 0 || s.split h

/-- LINK_UP (R64, R246, R426, R427): the head trains; a narrow, slow or 68B link carries CXL.io only. -/
def execLinkUp (h : Fin 4) (width gts : Nat) (flit256 : Bool) (s : State) : Res :=
  let w := trainedWidth (if s.split h then 8 else 16) width
  if !s.ready Reg.GLB_READY.KEEPER_UP || s.headUp h || !s.headExists h || w == 0 || s.pwr.underway || !s.domainOn (6 + h / 2) ||
      s.pstate == PState.SAVING || s.pstate == PState.SAVED then s.idle
  else
    let low := decide (w < 4) || decide (gts < 32) || !flit256
    let s := s.putAll [
      (Reg.HIF_HEAD_STAT.UP h, 1), (Reg.HIF_HEAD_STAT.WIDTH h, widthCode w), (Reg.HIF_HEAD_STAT.RATE h, rateCode gts)]
    let s := if flit256 then s.putFree (Reg.HIF_HEAD_STAT.FLIT_LO h) else s
    let s := s.record Ev.LINK_UP h []
    let s :=
      if low then
        let en := maskOf 16 fun n => s.ldMem n && !(s.ldPresent n && s.ldHead n == h.val)
        ({ s.put Reg.HIF_LD_STAT.MEM_EN en with hif := { s.hif with degraded := s.hif.degraded ++ [h.val] } }).record Ev.LINK_DEGRADED h []
      else s
    .next (s.showLinks.tellResumed h).resumeExit

/-- LINK_DOWN (R427). -/
def execLinkDown (h : Fin 4) (s : State) : Res := .next (s.linkDown h)

/-- CONFIG_SPACE_READY (R522). -/
def execConfigSpaceReady (h : Fin 4) (s : State) : Res :=
  if s.headUp h && !s.hif.ready.contains h.val then .next { s with hif := { s.hif with ready := insertNat s.hif.ready h } } else s.idle

/-- CXL_MEM_ENABLE (R45, R426, R428, R523): a host sets or clears CXL.mem enable of a present logical device. -/
def execCxlMemEnable (ld : Fin 16) (on : Bool) (s : State) : Res :=
  let h := s.ldHead ld
  if !s.ldPresent ld || !s.headUp h || !s.hif.ready.contains h || s.hif.degraded.contains h then s.idle
  else
    let m := s.get Reg.HIF_LD_STAT.MEM_EN
    .next (s.put Reg.HIF_LD_STAT.MEM_EN (if on then setBitOf m ld else clearBitOf m ld)).showLinks

/-- PORT_RESET (R525): a link loss of the port's heads, whatever the reset. -/
def execPortReset (port : Fin 2) (kind : PortReset) (s : State) : Res :=
  match kind with
  | .conventional | .hot | .linkDisable | .perst => .next ((s.linkDown (2 * port)).linkDown (2 * port + 1))

/-- FUNCTION_LEVEL_RESET (R525): waiting requests of the device are discarded; its mailbox command goes on without a reply. -/
def execFunctionLevelReset (ld : Fin 16) (s : State) : Res :=
  if !s.ldPresent ld then s.idle
  else
    let gone (r : HostReq) : Bool := r.ld == ld && (r.stage == Stage.hold || r.stage == Stage.memPartial)
    .next { s with
      hif := { s.hif with reqs := s.hif.reqs.filter fun (r : HostReq) => !gone r }
      cmd := { s.cmd with results := s.cmd.results.map fun (e : ResultEntry) =>
        if e.port == Port.mailbox ld && e.status.isNone then { e with replied := true } else e } }.showHeld

/-- HIF_HEAD_CTO_WRITE (R463): the declared timeout; below 4 ms SHORT reads 1 and CTO_SHORT is recorded. -/
def execHifHeadCtoWrite (req : Req) (h : Fin 4) (value : Word) (s : State) : Res :=
  s.guard req .a fun s =>
    let d := value.toNat % 65536
    let short := d != 0 && decide (d < 40)
    let s := s.putAll [(Reg.HIF_HEAD_CTO.DECLARED h, d), (Reg.HIF_HEAD_CTO.SHORT h, ofBool short)]
    if short then s.record Ev.CTO_SHORT h [] else s

/-! ## Dynamic capacity (R442–R447) -/

/-- Change an extent in the table. -/
def State.setExt (s : State) (e : Nat) (x : Extent) : State := { s with rgn := { s.rgn with exts := NMap.insert s.rgn.exts e x } }

/-- The entry of an extent; a FREE extent needs none. -/
def State.ext (s : State) (e : Nat) : Extent :=
  (NMap.find? s.rgn.exts e).getD ⟨.free, s.ready Reg.GLB_READY.IMAGE_INDEXED, false, 0, 0, .free, 0, false, 0, 0⟩

/-- An extent may be named by an add (R442 step 1). -/
def State.mayAdd (s : State) (ld : Nat) (reassign : Bool) (e : Nat) : Bool :=
  let x := s.ext e
  decide (e < s.mappable) && (x.st == .free || (x.st == .held && (x.ld == ld || reassign)))

/-- Free LXNs of a logical device's dynamic region, lowest first (R442 step 3). -/
def State.freeLxns (s : State) (ld : Nat) : List Nat :=
  let base := s.get (Reg.RGN_LD_CAP.STATIC ld)
  let used := (s.rgn.exts.filter fun (e : Nat × Extent) => (e.2.live || e.2.st == .addPending) && e.2.ld == ld).map fun e => e.2.lxn
  ((List.range (s.get (Reg.RGN_LD_CAP.DC_MAX ld))).map (base + ·)).filter fun l => !used.contains l

/-- FREE extents in the order of R442 step 2: those with ZERO set first, each part rising. -/
def State.freeExtents (s : State) : List Nat :=
  let free := (List.range s.mappable).filter fun e => (s.ext e).st == .free
  free.filter (fun e => (s.ext e).zero) ++ free.filter fun e => !(s.ext e).zero

/-- An Add Capacity (`true`) or Release Capacity record in the Dynamic Capacity event log (R442, R446): the LPAs of its extents. -/
def State.dcLog (s : State) (ld : Fin 16) (add : Bool) (lpas : List Nat) : State :=
  s.cxlLog 4 ⟨if add then 512 else 513, 1, ld, 0, 0, leNat (lpas.flatMap fun a => leBytes 6 a), 0⟩ [ld]

/-- Extents become ADD_PENDING (R442 step 3). -/
def State.offer (s : State) (ld : Fin 16) (exts : List Nat) (origin : Option (Port × BitVec 32)) : State :=
  let pairs := exts.zip (s.freeLxns ld)
  let s := s.each pairs fun s (p : Nat × Nat) =>
    let x := s.ext p.1
    s.setExt p.1 { x with st := .addPending, stat := false, prior := x.st, priorLd := x.ld, ld := ld, lxn := p.2 }
  { s.writeRegions (.dcOffered ld exts) with rgn := { s.rgn with ops := s.rgn.ops ++ [⟨ld, true, exts, [], false, origin, false⟩] } }

/-- The region record holds the extents of an add (R442 step 4): the command is answered with ACCEPTED, where it has not been before, and
the extents are offered. -/
def State.dcOffered (s : State) (ld : Nat) (exts : List Nat) : State :=
  match s.rgn.ops.find? fun (o : DcOp) => o.ld == ld && o.add && !o.offered && o.extents == exts with
  | none => s
  | some o =>
    let s := { s with rgn := { s.rgn with ops := s.rgn.ops.map fun (x : DcOp) => if x == o then { x with offered := true } else x } }
    let s := match o.origin with
      | some (p, t) => s.acceptLate p t
      | none => s
    s.dcLog (Fin.ofNat 16 ld) true (exts.map fun e => (s.ext e).lxn * 2 ^ 28)

/-- Extents become RELEASE_PENDING and their release is asked for (R446). -/
def State.askRelease (s : State) (ld : Fin 16) (exts : List Nat) (sanitize force : Bool) (origin : Option (Port × BitVec 32)) : State :=
  let s := s.each exts fun s e => s.setExt e { s.ext e with st := .releasePending, sanitize }
  let s := (s.writeRegions .nothing).dcLog ld false (exts.map fun e => (s.ext e).lxn * 2 ^ 28)
  { s with rgn := { s.rgn with ops := s.rgn.ops ++ [⟨ld, false, exts, [], force, origin, true⟩] } }

/-- An extent offered and not taken returns to its prior state (R443). -/
def State.withdraw (s : State) (e : Nat) : State :=
  let x := s.ext e
  s.setExt e { x with st := x.prior, ld := x.priorLd }

/-- The poisoned lines of an extent that is mapped enter the poison list (R106, R278): those in DRAM, and those that the image being
restored records in pages still to be restored. -/
def State.listExtentPoison (s : State) (e : Nat) : State :=
  let left := s.rse.index.filter fun (x : Nat × Nat) => extentOf x.1 == e && !s.pageRestored x.1
  s.each ((s.poison.filter fun l => l * 64 / 2 ^ 28 == e) ++ left.flatMap s.entryPoison) State.listPoison

/-- A translation is removed (R447, R451): the extent is HELD with the releasing device as its home, or SANITIZING. -/
def State.releaseExtent (s : State) (e : Nat) (sanitize : Bool) : State :=
  let x := s.ext e
  let d := s.ldState x.ld
  let s := s.setLd x.ld { d with poisonList := d.poisonList.filter fun a => a / 2 ^ 28 != x.lxn }
  s.setExt e { x with st := if sanitize then .sanitizing else .held, sanitize, fillNext := 0, fillEpoch := 0 }

/-- Remove a pending operation. -/
def State.dropOp (s : State) (o : DcOp) : State := { s with rgn := { s.rgn with ops := s.rgn.ops.erase o } }

/-- A list of extents as a command's result gives it. -/
def extentList (l : List Nat) : Bytes := leBytes 2 l.length ++ l.flatMap fun e => leBytes 2 e

/-- Accepted extents are live (R443): the event, and the completion of the command. -/
def State.dcMapped (s : State) (ld : Nat) (exts : List Nat) : State :=
  let s := s.each exts fun s e => (s.setExt e { s.ext e with st := .mapped }).listExtentPoison e
  let s := s.recordFor Ev.DC_ADD ld [(1, ld), (2, exts.length)] (some (Fin.ofNat 16 ld))
  match s.rgn.ops.find? fun (o : DcOp) => o.ld == ld && o.add && o.answered == exts with
  | some o => (s.dropOp o).completeFor o.origin .done (extentList exts)
  | none => s

/-- A release that the host has made is in the region record: a device-started release whose extents have all been released
completes (R446). -/
def State.dcReleased (s : State) (ld : Nat) : State :=
  let ended := s.rgn.ops.filter fun (o : DcOp) => o.ld == ld && !o.add && o.extents.all o.answered.contains
  s.each ended fun s o => (s.dropOp o).completeFor o.origin .done (extentList o.answered)

/-- The region record takes the end of a dynamic capacity command, which then completes (R437, R443, R446). -/
def State.endDc (s : State) (o : DcOp) (status : Status) (exts : List Nat) : State := s.writeRegions (.dcEnded o.origin status.code exts)

/-- DC_WAIT_EXPIRED (R443, R446): extents that the host has not answered for return, stay MAPPED, or are removed with FORCE. -/
def execDcWaitExpired (ld : Fin 16) (s : State) : Res :=
  match s.rgn.ops.find? fun (o : DcOp) => o.ld == ld.val && o.offered && (!o.add || o.answered.isEmpty) with
  | none => s.idle
  | some o =>
    if s.saving then s.idle
    else
      let left := o.extents.filter fun e => !o.answered.contains e
      let s := s.dropOp o
      if o.add then .next ((s.each left State.withdraw).endDc o .done [])
      else if o.force then
        let s := s.each left fun s e => s.releaseExtent e (s.ext e).sanitize
        let s := s.recordFor Ev.DC_RELEASE ld [(1, ld), (2, left.length)] (some ld)
        .next (s.endDc o .done o.extents)
      else
        let s := s.each left fun s e => s.setExt e { s.ext e with st := .mapped }
        .next (s.endDc o (if left.isEmpty then .done else .aborted) o.answered)

/-! ## Standard CXL commands (R452–R461, R523) -/

/-- A standard command reaches the mailbox of a present logical device whose link is up, with Mailbox Interface Ready (R523). -/
def State.mailboxUp (s : State) (ld : Fin 16) : Bool :=
  s.portUp (.mailbox ld) && s.ready Reg.GLB_READY.CMD_BOOT

/-- Answer a standard command. -/
def State.answer (s : State) (ld : Fin 16) (code : Nat) (payload : Bytes) : Res :=
  if s.mailboxUp ld then .next (s.emit (.mailbox ld code payload)) else s.idle

/-- Identify Memory Device (R433, R434, R454, R459, R570): capacity, volatile capacity, label area, poison list, log size. -/
def execIdentifyMemoryDevice (ld : Fin 16) (s : State) : Res :=
  s.answer ld Cxl.success (leBytes 8 (s.get (Reg.RGN_LD_CAP.STATIC ld) * 2 ^ 28) ++ leBytes 8 0 ++ leBytes 4 16384 ++
    leBytes 4 16384 ++ leBytes 2 64 ++ leBytes 16 Config.vendorUuid.toNat)

/-- Get Supported Logs (R452): the command effects log. -/
def execGetSupportedLogs (ld : Fin 16) (s : State) : Res :=
  s.answer ld Cxl.success (leBytes 2 1 ++ leBytes 16 Config.celUuid.toNat ++ leBytes 4 Config.celBytes.length)

/-- Get Log (R452). -/
def execGetLog (ld : Fin 16) (uuid : BitVec 128) (offset length : Nat) (s : State) : Res :=
  if uuid == Config.celUuid && decide (offset + length ≤ Config.celBytes.length) then
    s.answer ld Cxl.success ((Config.celBytes.drop offset).take length)
  else s.answer ld Cxl.invalidInput []

/-- The label area of a logical device: 16 KiB, zeros where nothing has been written (R567, R570). -/
def State.labels (s : State) (ld : Nat) : Bytes := (NMap.find? s.kst.labels ld).getD (zeros 16384)

/-- Get LSA (R452, R567). -/
def execGetLsa (ld : Fin 16) (offset length : Nat) (s : State) : Res :=
  if offset + length ≤ 16384 then s.answer ld Cxl.success (((s.labels ld).drop offset).take length)
  else s.answer ld Cxl.invalidInput []

/-- Set LSA (R570): the whole body is written, as record 16 + n; the answer comes when the write completes. -/
def execSetLsa (ld : Fin 16) (offset : Nat) (data : Bytes) (s : State) : Res :=
  if 16384 < offset + data.length then s.answer ld Cxl.invalidInput []
  else if s.cmd.writes.any fun (w : RecWrite) => w.record == 16 + ld.val then s.answer ld Cxl.busy []
  else if !s.mailboxUp ld then s.idle
  else
    let old := s.labels ld
    let body := old.take offset ++ data ++ old.drop (offset + data.length)
    .next { s with cmd := { s.cmd with writes := s.cmd.writes ++ [⟨16 + ld.val, .labels ld body, none⟩] } }

/-- The share of the reserve's capacity that is lost (R461, R651), in percent. -/
def State.capacityLost (s : State) : Nat :=
  if s.flag Reg.RSV_STAT.PRESENT then (2500 - s.get Reg.RSV_LRN_CAP.CAP_MAH) * 100 / 2500 else 0

/-- Get Health Info (R460, R461): media status, life used, the die temperature in °C and the dirty shutdown count. The wear of the flash
population, in percent, is measured: a free value. -/
def execGetHealthInfo (ld : Fin 16) (s : State) : Res :=
  if s.mailboxUp ld then
    let life := max (s.free % 256) s.capacityLost
    let s := s.tick
    let die := s.dieTenthC
    .next (s.tick.emit (.mailbox ld Cxl.success (leBytes 1 (ofBool !s.ready Reg.GLB_READY.MEM_PARTIAL) ++ leBytes 1 life ++
      leBytes 2 (signed 16 (die / 10)) ++ leBytes 4 s.kst.dirtyShutdowns)))
  else s.idle

/-- Get Alert Configuration (R452). -/
def execGetAlertConfiguration (ld : Fin 16) (s : State) : Res := s.answer ld Cxl.success (s.ldState ld).alert

/-- Set Alert Configuration (R452). -/
def execSetAlertConfiguration (ld : Fin 16) (settings : Bytes) (s : State) : Res :=
  if s.mailboxUp ld then
    .next ((s.setLd ld { s.ldState ld with alert := settings }).emit (.mailbox ld Cxl.success []))
  else s.idle

/-- Get Shutdown State (R460). -/
def execGetShutdownState (ld : Fin 16) (s : State) : Res :=
  s.answer ld Cxl.success (leBytes 1 (ofBool (bitOf s.kst.shutdown ld)))

/-- Set Shutdown State (R460): stored; the count is not changed. -/
def execSetShutdownState (ld : Fin 16) (dirty : Bool) (s : State) : Res :=
  if s.mailboxUp ld then
    let v := if dirty then setBitOf s.kst.shutdown ld else clearBitOf s.kst.shutdown ld
    .next (State.emit { s with kst := { s.kst with shutdown := v } } (.mailbox ld Cxl.success []))
  else s.idle

/-- Get Poison List (R454): the overflow indication and the entries of a range. -/
def execGetPoisonList (ld : Fin 16) (start length : Nat) (s : State) : Res :=
  let d := s.ldState ld
  let l := d.poisonList.filter fun a => decide (start ≤ a) && decide (a < start + length)
  s.answer ld Cxl.success (leBytes 1 (ofBool d.poisonOverflow) ++ leBytes 2 l.length ++ l.flatMap fun a => leBytes 8 a)

/-- A write that a mailbox command makes takes the path of a host write, and the command is answered when the write completes (R66,
R107). An LPA that maps nothing is an invalid input (log entry 19). -/
def State.mailboxWrite (s : State) (ld : Fin 16) (lpa : Nat) (data : Bytes) (poison : Bool) : Res :=
  let h : Fin 4 := Fin.ofNat 4 (s.ldHead ld)
  if !s.mailboxUp ld then s.idle
  else if s.saving then s.answer ld Cxl.busy []
  else match s.translate ld lpa with
    | .inr _ => s.answer ld Cxl.invalidInput []
    | .inl _ =>
      let (s, r) := s.newReq h ld lpa true data poison
      let r := { r with clear := true }
      .next (if s.ready Reg.GLB_READY.MEM_PARTIAL then s.serveWrite r else s.wait r .memPartial)

/-- Clear Poison (R107): a write of the whole line. -/
def execClearPoison (ld : Fin 16) (lpa : Nat) (data : Bytes) (s : State) : Res := s.mailboxWrite ld lpa data false

/-- Inject Poison (R452), only while INJECT_EN is 1: the line's data are written with poison (log entry 19). -/
def execInjectPoison (ld : Fin 16) (lpa : Nat) (s : State) : Res :=
  if !s.flag Reg.RGN_CFG.INJECT_EN then s.answer ld Cxl.unsupported []
  else match s.translate ld lpa with
    | .inr _ => s.answer ld Cxl.invalidInput []
    | .inl dpa => s.mailboxWrite ld lpa (dramRead s.dram (dpa / 64 * 64) 64) true

/-- The lines of device memory that a Scan Media reads: those of its range that are mapped and restored. -/
def State.scanLines (s : State) (ld lpa length : Nat) : List Nat :=
  ((List.range ((lpa + length + 63) / 64 - lpa / 64)).map (lpa / 64 + ·)).filterMap fun l =>
    match s.mapsTo ld (l * 64 / 2 ^ 28) with
    | some e =>
      let line := e * 2 ^ 22 + l % 2 ^ 22
      if s.pageRestored (line / 64) then some line else none
    | none => none

/-- Scan Media (R453, R454): the range is read with the patrol scrub's requester, uncorrectable lines of the range are handled, and the poison list takes the range's lines. The
line numbers named are DPA lines. It ends with vector 0. -/
def execScanMedia (ld : Fin 16) (lpa length : Nat) (uncorrectable : List Nat) (s : State) : Res :=
  if !s.mailboxUp ld then s.idle
  else
    let inside (s : State) (line : Nat) : Bool := match s.ownerOf (line * 64) with
      | some (o, a) => o == ld && decide (lpa ≤ a) && decide (a < lpa + length) && s.pageRestored (line / 64)
      | none => false
    let s := s.accessLines (s.scanLines ld lpa length) reqScrub false false
    let s := s.uncorrectables (uncorrectable.filter fun l => inside s l)
    let found := s.poison.filter fun l => inside s l
    let d := s.ldState ld
    let s := (s.setLd ld { d with poisonOverflow := false }).each found State.listPoison
    let res := (s.ldState ld).poisonList.filter fun a => decide (lpa ≤ a) && decide (a < lpa + length)
    let s := s.setLd ld { s.ldState ld with scan := some (lpa, length, res) }
    .next ((s.emit (.mailbox ld Cxl.background [])).signal ld 0)

/-- Get Scan Media Results (R453). -/
def execGetScanMediaResults (ld : Fin 16) (s : State) : Res :=
  match (s.ldState ld).scan with
  | none => s.answer ld Cxl.success []
  | some (a, n, l) => s.answer ld Cxl.success (leBytes 8 a ++ leBytes 8 n ++ leBytes 2 l.length ++ l.flatMap fun x => leBytes 8 x)

/-- A CXL event record (R459): the UUID that makes it a DRAM Event Record or a vendor-specific one, handle, timestamp 0, and its
vendor-specific area, with the Event Recorder number first. -/
def LogRecord.bytes (r : LogRecord) : Bytes :=
  let dram := r.source == Ev.DRAM_UE.num
  leBytes 16 (if dram then Config.dramEventUuid else Config.vendorUuid).toNat ++ leBytes 2 r.handle ++ leBytes 8 0 ++
    (leBytes 6 r.seq ++ leBytes 2 r.source ++ leBytes 12 r.data)

/-- Get Event Records (R459): the overflow flag, the records lost and the records. -/
def execGetEventRecords (ld : Fin 16) (log : Fin 5) (s : State) : Res :=
  let d := s.ldState ld
  let l := d.logs.filter fun (r : LogRecord) => r.log == log.val
  s.answer ld Cxl.success (leBytes 1 (ofBool (bitOf d.logOverflow log)) ++ leBytes 2 ((NMap.find? d.logLost log.val).getD 0) ++ leBytes 2 l.length ++
    l.flatMap LogRecord.bytes)

/-- Clear Event Records (R459, R717): the whole log with its overflow flag, or the records named by handle. -/
def execClearEventRecords (ld : Fin 16) (log : Fin 5) (all : Bool) (handles : List (BitVec 16)) (s : State) : Res :=
  let d := s.ldState ld
  let mine (r : LogRecord) : Bool := r.log == log.val
  let named (r : LogRecord) : Bool := mine r && handles.any fun h => h.toNat == r.handle
  if !s.mailboxUp ld then s.idle
  else if all then
    let d := { d with logs := d.logs.filter fun (r : LogRecord) => !mine r, logOverflow := clearBitOf d.logOverflow log }
    .next ((s.setLd ld { d with logLost := NMap.erase d.logLost log.val }).emit (.mailbox ld Cxl.success []))
  else if handles.all fun h => d.logs.any fun (r : LogRecord) => mine r && h.toNat == r.handle then
    .next ((s.setLd ld { d with logs := d.logs.filter fun (r : LogRecord) => !named r }).emit (.mailbox ld Cxl.success []))
  else s.answer ld Cxl.invalidInput []

/-- The only event interrupt policy (R457): MSI-X on vectors 1 to 5. -/
def eventPolicy : Bytes := [0x11, 0x21, 0x31, 0x41, 0x51]

/-- Get Event Interrupt Policy (R457). -/
def execGetEventInterruptPolicy (ld : Fin 16) (s : State) : Res := s.answer ld Cxl.success eventPolicy

/-- Set Event Interrupt Policy (R457). -/
def execSetEventInterruptPolicy (ld : Fin 16) (policy : Bytes) (s : State) : Res :=
  s.answer ld (if policy == eventPolicy then Cxl.success else Cxl.invalidInput) []

/-- Get Dynamic Capacity Configuration (R434, R442): region 0, its base, length and block size. -/
def execGetDynamicCapacityConfig (ld : Fin 16) (s : State) : Res :=
  s.answer ld Cxl.success (leBytes 1 1 ++ leBytes 8 (s.get (Reg.RGN_LD_CAP.STATIC ld) * 2 ^ 28) ++
    leBytes 8 (s.get (Reg.RGN_LD_CAP.DC_MAX ld) * 2 ^ 28) ++ leBytes 8 (2 ^ 28))

/-- Get Dynamic Capacity Extent List (R436): the LPAs of the mapped extents of region 0. -/
def execGetDynamicCapacityExtentList (ld : Fin 16) (s : State) : Res :=
  let l := s.rgn.exts.filter fun (e : Nat × Extent) => e.2.live && !e.2.stat && e.2.ld == ld.val
  s.answer ld Cxl.success (leBytes 4 l.length ++ l.flatMap fun e => leBytes 8 (e.2.lxn * 2 ^ 28))

/-- Add Dynamic Capacity Response (R443): accepted extents go into the region record, the others return. -/
def execAddDynamicCapacityResponse (ld : Fin 16) (accepted : List Nat) (s : State) : Res :=
  if !s.mailboxUp ld then s.idle
  else match s.rgn.ops.find? fun (o : DcOp) => o.ld == ld.val && o.add && o.offered && o.answered.isEmpty with
    | none => s.answer ld Cxl.invalidInput []
    | some o =>
      let take := o.extents.filter fun e => accepted.contains ((s.ext e).lxn * 2 ^ 28)
      let s := s.each (o.extents.filter fun e => !take.contains e) State.withdraw
      if take.isEmpty then
        .next (((s.dropOp o).endDc o .done []).emit (.mailbox ld Cxl.success []))
      else
        let s := { s with rgn := { s.rgn with ops := s.rgn.ops.map fun (x : DcOp) => if x == o then { x with answered := take } else x } }
        .next ((s.writeRegions (.dcMapped ld take)).emit (.mailbox ld Cxl.success []))

/-- Release Dynamic Capacity (R268, R445–R447, R451): the translations go at once; the answer follows the record write. -/
def execReleaseDynamicCapacity (ld : Fin 16) (lpas : List Nat) (s : State) : Res :=
  let found := lpas.map fun a =>
    (List.find? (fun (e : Nat × Extent) => e.2.live && !e.2.stat && e.2.ld == ld.val && e.2.lxn == a / 2 ^ 28) s.rgn.exts).map (·.1)
  let exts := found.filterMap id
  if !s.mailboxUp ld then s.idle
  else if found.any Option.isNone then s.answer ld Cxl.invalidInput []
  else if s.saving || exts.any fun e => !s.extReady e then s.answer ld Cxl.busy []
  else
    let s := s.each exts fun s e =>
      let x := s.ext e
      s.releaseExtent e (if x.st == .releasePending then x.sanitize else s.flag (Reg.RGN_LD_CAP.REL_SANITIZE ld))
    let s := s.recordFor Ev.DC_RELEASE ld [(1, ld), (2, exts.length)] (some ld)
    let s := { s with rgn := { s.rgn with ops := s.rgn.ops.map fun (o : DcOp) =>
      if o.ld == ld.val && !o.add then { o with answered := o.answered ++ (exts.filter o.extents.contains) } else o } }
    .next (s.writeRegions (.dcReleased ld exts))

/-- A standard command that R452 does not list. -/
def execUnsupportedCxlCommand (ld : Fin 16) (_opcode : BitVec 16) (s : State) : Res := s.answer ld Cxl.unsupported []

end Sys2Proof.Machine
end

