-- ==== Sys2Proof/Machine/Flash.lean ====
section
/-! DEFINITION. Garbage collection, erases and die temperatures (chapter 07), and the restart of a failed unit (R53, R344). -/

namespace Sys2Proof.Machine

open Host

/-! ## Requests of runtime firmware (R338–R340, R349) -/

/-- The request's result and block, in NFC_GC_STAT: 1 BUSY, 2 DONE, 3 REFUSED_STATE. -/
def State.gcResult (s : State) (result block : Nat) : State :=
  s.putAll [(Reg.NFC_GC_STAT.RESULT, result), (Reg.NFC_GC_STAT.BLOCK_ID, block)]

/-- The referenced page records of a block, by their keys. -/
def State.livePages (s : State) (b : Nat) : List Nat :=
  (s.flash.records.filter fun (r : Nat × PageRec) => faBlock r.2.fa == b && s.referenced r.1).map (·.1)

/-- A relocation has copied everything that is still referenced (R339). -/
def State.relocated (s : State) (b : Nat) : State :=
  let s := { s with flash := { s.flash with gc := s.flash.gc.filter fun o => match o with
    | .relocate x _ => x != b
    | .erase _ _ => true } }
  (s.gcResult 2 b).releaseBlocks

/-- RELOCATE is allowed on a FULL block of DRIP, GC or SAV with the device in UNARMED or ARMED (R338). -/
def State.mayRelocate (s : State) (b : Nat) : Bool :=
  let x := s.block b
  x.st == 7 && (x.owner == 1 || x.owner == 2 || x.owner == 3) && s.ready Reg.GLB_READY.MEM_FULL &&
    (s.pstate == PState.UNARMED || s.pstate == PState.ARMED) && !s.fogged

/-- A request of NFC_GC_REQ, which only running firmware makes (R32): RELOCATE (1) or ERASE (2). -/
def State.gcRequest (s : State) (op b : Nat) : State :=
  if s.get Reg.NFC_GC_STAT.RESULT == 1 || !s.ready Reg.GLB_READY.FW_RUN then s
  else if op == 1 then
    if !s.mayRelocate b then s.gcResult 3 b
    else
      let l := s.livePages b
      let s := (s.setBlock b { s.block b with st := 8 }).gcResult 1 b
      let s := { s with flash := { s.flash with gc := s.flash.gc ++ [.relocate b l] } }
      if l.isEmpty then s.relocated b else s
  else if op == 2 then
    if (s.block b).st != 2 || s.fogged then s.gcResult 3 b
    else
      let s := (s.setBlock b (Block.blank 3)).gcResult 1 b
      { s with flash := { s.flash with gc := s.flash.gc ++ [.erase b false] } }
  else s

/-- RELOCATE (R338, R339, R349). -/
def execRelocate (req : Req) (block : BitVec 27) (s : State) : Res := s.guard req .f fun s => s.gcRequest 1 block.toNat

/-- ERASE (R338, R340, R349). -/
def execErase (req : Req) (block : BitVec 27) (s : State) : Res := s.guard req .f fun s => s.gcRequest 2 block.toNat

/-- The relocation in progress of a block, with the records still to copy. -/
def State.relocation (s : State) (b : Nat) : Option (List Nat) := s.flash.gc.findSome? fun o => match o with
  | .relocate x l => if x == b then some l else none
  | .erase _ _ => none

/-- The key of a copy: that of its original, raised by 2^60, so that no number of R306 meets it. -/
def copyKey (lsn : Nat) : Nat := lsn + 2 ^ 60

/-- One record is read for its copy (R308, R339), and copied where it can be read: the same ciphertext and tag at another address but for the
mark RELOC, known to the Keeper for the next durable epoch. A record that cannot be read stays where it is. -/
def State.copyRecord (s : State) (b lsn fa corrected retries : Nat) (bad : Bool) (rest : List Nat) : State :=
  match NMap.find? s.flash.records lsn with
  | none => s
  | some r =>
    let bad := bad || s.gone r.fa
    let s := s.flashRead r.fa corrected (min retries mostRetries) bad
    let gc := s.flash.gc.map fun o => match o with
      | .relocate x l => if x == b then .relocate x rest else .relocate x l
      | .erase x p => .erase x p
    let s := { s with flash := { s.flash with gc } }
    if bad then s
    else { s with flash := { s.flash with
      copies := s.flash.copies ++ [(lsn, copyKey lsn)]
      records := NMap.insert s.flash.records (copyKey lsn) { r with fa, reloc := true } } }.openAt fa 3

/-- GC may program a copy at a flash address: it is one, its channel is up, and its block holds nothing and is no block of the reserve, or
is an OPEN one that GC owns (R302, R313, R322, R339). -/
def State.gcTarget (s : State) (fa : Nat) : Bool :=
  let x := s.block (faBlock fa)
  s.channelUp (faChannel fa) && s.faValid fa && x.st != 5 && (x.st != 6 || x.owner == 3)

/-- RELOCATION_COPY_DONE (R32, R308, R339, R341, R344), while firmware runs: the next referenced record is copied to `fa`, in a block that GC
owns, while both channels take work. A record that is referenced no more is passed over. -/
def execRelocationCopyDone (block : BitVec 27) (fa : Nat) (read : CopyRead) (s : State) : Res :=
  let b := block.toNat
  match (if s.ready Reg.GLB_READY.FW_RUN then s.relocation b else none) with
  | none => s.idle
  | some l =>
    match l.dropWhile fun n => !s.referenced n with
    | [] => .next (s.relocated b)
    | n :: rest =>
      if !s.channelUp (blockChannel b) || !s.gcTarget fa then s.idle
      else if !s.inOrder fa then .next (s.refuseOrder fa)
      else
        let s := s.copyRecord b n fa read.corrected read.retries read.bad rest
        .next (if rest.isEmpty then s.relocated b else s)

/-! ## Erases (R316–R321, R343) -/

/-- An erase of the block is in progress; the flag says that its INTENT record has passed. -/
def State.erasing (s : State) (b : Nat) : Option Bool := s.flash.gc.findSome? fun o => match o with
  | .erase x p => if x == b then some p else none
  | .relocate _ _ => none

/-- The erase of a block is no longer in progress, and the request is DONE. The manual names no result for an erase that ends with its
block BAD: the model takes DONE for it, too (DESIGN CHOICE; log entry 117). -/
def State.eraseOver (s : State) (b : Nat) : State :=
  { s with flash := { s.flash with gc := s.flash.gc.filter fun o => match o with
    | .erase x _ => x != b
    | .relocate _ _ => true } }.gcResult 2 b

/-- Erases run (R50, R246, R261, R311): an epoch is open, so that the device may write to flash, and after t_F not before RESUMING. -/
def State.erasesRun (s : State) : Bool := s.drp.openEpoch != 0 && (!s.fogged || s.pstate == PState.RESUMING) && !s.pwr.underway

/-- An erase journal record with one entry passes (R317, R325, R329). -/
def State.journalBlock (s : State) (b kind fa fb : Nat) : State :=
  let s := s.addRing fa fb (.journal s.flash.journalSeq [(b, kind)])
  { s with flash := { s.flash with journalSeq := s.flash.journalSeq + 1 } }

/-- A journal record with an entry for a block passes (R317, R329), on channels that the rules allow. After a crypto-erase, which leaves
no ring block and no ERASED block to take one (R312), erases go on without it until there is a place (DESIGN CHOICE; log entry 124). -/
def State.eraseJournal (s : State) (b kind : Nat) (allowed : Nat → Bool) (k : State → Res) : Res :=
  match s.ringSpots allowed with
  | none => if s.flash.ringBlocks.isEmpty then k s else s.idle
  | some (fa, fb) => k (s.repeatPassed.journalBlock b kind fa fb)

/-- ERASE_INTENT_PASSED (R317, R318, R329, R344): both copies of a journal record with the INTENT entry have passed, on channels other
than the block's own. The erase is issued, and the block counts as holding no record. -/
def execEraseIntentPassed (block : BitVec 27) (s : State) : Res :=
  let b := block.toNat
  if s.erasing b != some false || !s.erasesRun || !s.channelUp (blockChannel b) then s.idle
  else s.eraseJournal b 1 (· != blockChannel b) fun s =>
    let gc := s.flash.gc.map fun o => match o with
      | .erase x p => .erase x (p || x == b)
      | .relocate x l => .relocate x l
    let records := s.flash.records.filter fun (r : Nat × PageRec) => faBlock r.2.fa != b
    .next { s with flash := { s.flash with
      gc, records, cells := s.flash.cells.filter fun (e : Nat × KeeperWord) => faBlock e.1 != b
      diag := s.flash.diag.filter fun d => faBlock d.fa != b } }

/-- An erased block joins the ERASED pool, from which the reserve is filled up where it is short, its record part first (R321, R340). -/
def State.placeErased (s : State) (b : Nat) : State := (s.setBlock b (Block.blank 4)).keepReserve.settle

/-- The erase has not failed, and the block passes the blank check: no codeword that it reads has more bits that read 0 than BLANK_THR
(R319). -/
def State.blankEnough (s : State) : EraseEnd → Bool
  | .failed => false
  | .ended zeros => decide (zeros ≤ s.get Reg.NFC_ECC_THR.BLANK_THR)

/-- A block is retired in service (R343). -/
def State.retireBlock (s : State) (b : Nat) : State :=
  ((s.setBlock b (Block.blank 1)).count Reg.NFC_BAD_GROWN.BLOCKS 1).record Ev.BLOCK_RETIRED (blockChannel b) []

/-- ERASE_DONE (R317, R319, R329, R340, R343): an erase that fails retires its block. Where its blank check passes, both copies of a
journal record with the DONE entry pass, and the block is placed; otherwise it is erased again, and after three erases it becomes BAD. -/
def execEraseDone (block : BitVec 27) (result : EraseEnd) (s : State) : Res :=
  let b := block.toNat
  if s.erasing b != some true || !s.erasesRun || !s.channelUp (blockChannel b) then s.idle
  else if s.blankEnough result then
    s.eraseJournal b 2 (fun _ => true) fun s => .next ((s.placeErased b).eraseOver b)
  else
    let x := s.block b
    let s := (s.count (Reg.NFC_CH_ERR.ERASE_FAIL (blockChannel b)) 1).nfcFault (blockChannel b) Ev.ERASE_REDONE.sev true
    if result != .failed && decide (x.fails + 1 < 3) then
      .next ((s.setBlock b { x with fails := x.fails + 1 }).record Ev.ERASE_REDONE (blockChannel b) [])
    else .next ((s.retireBlock b).eraseOver b)

/-! ## Die temperatures (R147, R237, R345) -/

/-- A list of LUNs after one reading: it enters at `hi` and leaves at `lo`. -/
def throttleAt (hi lo : Int) (l : List Nat) (lun : Nat) (t : Int) : List Nat :=
  if hi ≤ t then insertNat l lun else if t ≤ lo then l.filter (· != lun) else l

/-- The hottest reading: the first of the highest. -/
def hottest (temps : List (Fin 64 × Int)) : Option (Fin 64 × Int) :=
  temps.foldl (fun (acc : Option (Fin 64 × Int)) x => match acc with
    | none => some x
    | some a => if a.2 < x.2 then some x else some a) none

/-- A reading at or above 100 °C during a save throttles the die (R237). -/
def State.scorch (s : State) (lun : Nat) (t : Int) : State :=
  let was := s.flash.scorched.contains lun
  let l := if s.pstate == PState.SAVING then throttleAt 100 95 s.flash.scorched lun t else []
  let s := { s with flash := { s.flash with scorched := l } }
  let s := s.put Reg.SAV_STAT.THROTTLE (ofBool (!l.isEmpty))
  if l.contains lun && !was then
    ({ s with sav := { s.sav with thermal := true } }.put Reg.SAV_LAST_RESULT.THERMAL 1).record Ev.SAVE_THERMAL wide []
  else s

/-- FLASH_TEMP_POLL (R147, R237, R345): the readings of a channel's LUNs. -/
def execFlashTempPoll (ch : Fin 32) (temps : List (Fin 64 × Int)) (s : State) : Res :=
  if !s.flag (Reg.NFC_CH_STAT.UP ch) then s.idle
  else match hottest temps with
    | none => s.idle
    | some (lun, t) =>
      let s := s.putAll [(Reg.NFC_CH_TEMP.HOT_LUN ch, lun), (Reg.NFC_CH_TEMP.MAX_TEMP ch, (t % 256).toNat)]
      let s := s.each temps fun s x =>
        let n := ch.val * 64 + x.1.val
        { s with flash := { s.flash with hot := throttleAt 85 80 s.flash.hot n x.2 } }.scorch n x.2
      let mine (l : List Nat) : Bool := l.any fun n => n / 64 == ch.val
      .next (s.put (Reg.NFC_CH_STAT.THROTTLED ch) (ofBool (mine s.flash.hot || mine s.flash.scorched))).showWear

/-! ## Units in FAILED (R53, R280, R344, R393) -/

/-- Every fault-in that waits only for a free place is issued. -/
def State.issueAll (s : State) : State :=
  s.each s.hif.reqs fun s _ => s.issueQueued

/-- FAILED_UNIT_RESTART (R53, R320, R344, R393): the Keeper restarts a unit in FAILED, or retires an NFC channel, whose records are
then unreadable, and rebuilds the reserve on the channels that take work. A DMC channel restarts only at a cold start. -/
def execFailedUnitRestart (unit : Nat) (retire : Bool) (s : State) : Res :=
  if !s.unitFailed unit || unit / 256 == 1 then s.idle
  else
    let s := { s with faults := NMap.erase s.faults unit }
    if unit / 256 == 2 then
      let n := unit % 256
      let s := if retire then s else s.putAll [(Reg.NFC_CH_STAT.FAILED n, 0), (Reg.NFC_CH_STAT.UP n, 1)]
      let s := if s.saving then s else s.keepReserve.settle
      .next (s.showFailedFc.issueAll).issueSweep
    else .next s

end Sys2Proof.Machine
end

