-- ==== Sys2Proof/Machine/Dmc.lean ====
section
/-! DEFINITION. The DRAM controller's own events (chapter 08): alerts, migration, refresh, row disturb, power-down, scrub. -/

namespace Sys2Proof.Machine

open Host

/-- The channel is in service: up and not in FAILED. -/
def State.dmcRuns (s : State) (c : Nat) : Bool := s.flag (Reg.DMC_STAT.UP c) && !s.unitFailed (dmcUnit c)

/-- The DPA of a channel address (R355). -/
def State.dpaOf (s : State) (c a : Nat) : Nat :=
  let g := grainBits (s.get Reg.DMC_MAP.GRAIN)
  a / 2 ^ g * 2 ^ (g + s.chanBits) + (c - s.get Reg.DMC_MAP.BASE) * 2 ^ g + a % 2 ^ g

/-! ## Alerts (R380, R383, R384, R387) -/

/-- An uncorrectable command error: the lines of the window that cannot be confirmed are poisoned, and the rank is retired. The manual does
not say what subchannel, bank and device DMC_ECC_LOC then names: free values (DESIGN CHOICE; log entry 122). -/
def State.commandError (s : State) (c lrank : Nat) (lost : List Nat) : State :=
  let s := s.tick.locate c 2 (s.get (Reg.DMC_RANK_MAP.LR c lrank)) s.free
  let s := (s.record Ev.DRAM_CMD_ERROR c []).dmcFault c Ev.DRAM_CMD_ERROR.sev
  let mine := lost.filter fun l => s.channelOf (l * 64) == c && s.lrankOf (l * 64) == lrank
  let s := s.each mine State.spoilLine
  (s.endFault (dmcUnit c)).retireRank c lrank 2

/-- DRAM_ALERT: up to 3 replays repair it; a parity alert that persists after the third is an uncorrectable command error. -/
def execDramAlert (ch : Fin 8) (replays : Nat) (rank : Fin 8) (lost : List Nat) (s : State) : Res :=
  if !s.dmcRuns ch || decide (replays ≤ 3) || s.get (Reg.DMC_RANK_MAP.LR ch rank) == 0xF then s.idle
  else .next (s.commandError ch rank lost)

/-! ## Migration (R386–R390) -/

/-- The lines of the unit at the watermark (R386). -/
def State.unitLines (s : State) (c : Nat) : List Nat :=
  let a := s.get (Reg.DMC_SPARE.SRC_LRANK c) * s.rankSize c + s.get (Reg.DMC_MIG_WM.WM_4K c) * 4096
  (List.range 64).map fun i => s.dpaOf c (a + i * 64) / 64

/-- A line of the retiring rank is uncorrectable whose new contents already wait for the spare (R381, R387): the error is handled, and the
write replaces the line. -/
def State.lateError (s : State) (line : Nat) : State :=
  ((s.ueSeen line).endFault (dmcUnit (s.channelOf (line * 64)))).ueRetire line

/-- MIGRATION_UNIT_DONE (R358, R382, R386, R387): the unit at the watermark has been read from the retiring rank and is on the spare. It waits
for a line in recovery. -/
def execMigrationUnitDone (ch : Fin 8) (errors : LineErrors) (s : State) : Res :=
  let lines := s.unitLines ch
  if !s.dmcRuns ch || s.get (Reg.DMC_SPARE.STATE ch) != 2 || (lines.any fun l => s.pageRecovering (l / 64)) then s.idle
  else
    let own (l : List Nat) : List Nat := l.filter lines.contains
    let late (l : Nat) : Bool := s.dmc.late.contains l
    let t := (s.accessLines lines reqMigration false false).each ((own errors.uncorrectable).filter late) State.lateError
    let t := t.readErrors (own errors.corrected) ((own errors.uncorrectable).filter fun l => !late l)
    .next ((t.advanceMigration ch).accessLines lines reqMigration false true).settle

/-! ## Refresh (R366–R370) -/

/-- The physical rank is fitted, and not one that a spare has replaced, which receives no further command (R390). -/
def State.rankLives (s : State) (c rank : Nat) : Bool :=
  decide (rank < s.get (Reg.DMC_CFG.RANKS c)) &&
    !(s.get (Reg.DMC_SPARE.STATE c) == 4 && s.get (Reg.DMC_SPARE.SRC_LRANK c) == rank && s.get (Reg.DMC_SPARE.SPARE_PRANK c) != rank)

/-- A feed of a channel's requests is in panic (R227, R271, R367). `feeds` gives, for feeds that the requests serve, the slots that are empty
in a save and full in a restore. -/
def State.realTimePanic (s : State) (c : Nat) (feeds : List (Fin 32 × Fin 9)) : Bool :=
  if s.pstate == PState.RESTORING then feeds.any fun f => decide (s.get Reg.RSE_CFG.PANIC_SLOTS ≤ f.2.val)
  else (s.pstate == PState.CUTTING || s.pstate == PState.SAVING) && s.savePanic c

/-- In a save, slots of these feeds have been refilled until so many are empty (R227). -/
def State.refilled (s : State) (c : Nat) (feeds : List (Fin 32 × Fin 9)) : State :=
  if s.pstate != PState.SAVING then s
  else s.each feeds fun s f =>
    s.setFeed f.1 (min f.2 (((NMap.find? s.sav.feeds f.1.val).map Feed.empty).getD 8)) [c]

/-- REFRESH_DUE (R227, R271, R367–R369): under panic the refresh of a physical rank is postponed within the standard's limit; otherwise it is
issued. -/
def execRefreshDue (ch : Fin 8) (rank : Fin 8) (bank : Fin 4) (feeds : List (Fin 32 × Fin 9)) (s : State) : Res :=
  if !s.flag (Reg.DMC_STAT.UP ch) || s.flag (Reg.DMC_STAT.SELF_REFRESH ch) || !s.rankLives ch rank then s.idle
  else
    let s := s.refilled ch feeds
    let panic := s.realTimePanic ch feeds
    let s := s.showPanic ch panic
    if panic && decide ((s.postponedOf ch).countP (fun e => e.1 % 8 == rank.val) < Config.refreshLimit) then .next (s.postpone ch rank bank)
    else .next (s.issueRefresh ch rank bank)

/-- MR4_POLL (R368): the refresh rate that the channel's devices ask for. -/
def execMr4Poll (ch : Fin 8) (above1x : Bool) (s : State) : Res :=
  if !s.dmcRuns ch || s.flag (Reg.DMC_STAT.SELF_REFRESH ch) then s.idle
  else .next (s.put (Reg.DMC_REF.RATE_X ch) (ofBool above1x))

/-! ## Row disturb (R228, R371–R374) -/

/-- A new throttle (R374); of SAV during a save, it acts under R228. -/
def State.throttle (s : State) (c id rank bank : Nat) : State :=
  let s := (s.put (Reg.DMC_RD_STAT.THROTTLED c) (setBitOf (s.get (Reg.DMC_RD_STAT.THROTTLED c)) id)).put (Reg.DMC_STAT.THROTTLE c) 1
  let s := (s.count (Reg.DMC_RD_CNT.THROTTLES c) 1).record Ev.ROW_DISTURB_THROTTLE c [(1, id), (1, rank), (1, bank)]
  if id == 17 && s.saving then
    ({ s with sav := { s.sav with dmcThrottle := true } }.put Reg.SAV_LAST_RESULT.DMC_THROTTLE 1).record Ev.SAVE_DMC_THROTTLE wide []
  else s

/-- The bank in which a requester is the offender (R371): in one of the chips and subchannels its count has reached ACT_THR, and the
requester issued the most of the last 64 activates. -/
def State.offence (s : State) (c id rank bank : Nat) : Option Nat :=
  (List.find? (fun (e : Nat × List Nat) => rankOfBank e.1 == c * 8 + rank && e.1 % 32 == bank && !e.2.isEmpty && offenderOf e.2 == id &&
    decide (s.get (Reg.DMC_RD_CFG.ACT_THR c) ≤ (NMap.find? s.dmc.counts e.1).getD 0)) s.dmc.acts).map Prod.fst

/-- ROW_DISTURB_THROTTLE (R371, R373): a refresh management command to the bank, and the offender throttled; a throttle that it already has is
extended. -/
def execRowDisturbThrottle (ch : Fin 8) (id : Fin 22) (rank : Fin 8) (bank : Fin 32) (s : State) : Res :=
  if !s.dmcRuns ch || s.flag (Reg.DMC_STAT.SELF_REFRESH ch) then s.idle
  else match s.offence ch id rank bank with
    | none => s.idle
    | some b =>
      let raa := NMap.insert s.dmc.raa b ((NMap.find? s.dmc.raa b).getD 0 - Config.raaInitial)
      let s := { s with dmc := { s.dmc with starts := NMap.insert s.dmc.starts (ch * 32 + id) b, raa } }.count (Reg.DMC_RD_CNT.RFM ch) 1
      .next (if bitOf (s.get (Reg.DMC_RD_STAT.THROTTLED ch)) id then s else s.throttle ch id rank bank)

/-- The count of the bank that started a throttle has fallen below half of ACT_THR (R373): a free value. -/
def State.countFallen (s : State) (c id : Nat) : State :=
  match NMap.find? s.dmc.starts (c * 32 + id) with
  | none => s
  | some b =>
    let n := (NMap.find? s.dmc.counts b).getD 0
    State.tick { s with dmc := { s.dmc with
      counts := NMap.insert s.dmc.counts b (min n (s.free % ((s.get (Reg.DMC_RD_CFG.ACT_THR c) + 1) / 2)))
      starts := NMap.erase s.dmc.starts (c * 32 + id) } }

/-- THROTTLE_END (R373). -/
def execThrottleEnd (ch : Fin 8) (id : Fin 22) (s : State) : Res :=
  let m := clearBitOf (s.get (Reg.DMC_RD_STAT.THROTTLED ch)) id
  .next (((s.countFallen ch id).put (Reg.DMC_RD_STAT.THROTTLED ch) m).put (Reg.DMC_STAT.THROTTLE ch) (ofBool (m != 0)))

/-! ## Power-down and row closing (R365, R375) -/

/-- POWER_DOWN_TIMER: with no request of it queued, the physical rank closes its rows and enters precharge power-down, except under R367, in training, and
while it takes part in a migration copy. -/
def execPowerDownTimer (ch : Fin 8) (rank : Fin 8) (s : State) : Res :=
  let copying := s.get (Reg.DMC_SPARE.STATE ch) == 2 && (s.get (Reg.DMC_SPARE.SPARE_PRANK ch) == rank.val ||
    s.get (Reg.DMC_RANK_MAP.LR ch (s.get (Reg.DMC_SPARE.SRC_LRANK ch))) == rank.val)
  let training := s.flag Reg.TRN_STAT.ACTIVE && s.get Reg.TRN_STAT.CH == ch.val
  if !s.dmcRuns ch || s.flag (Reg.DMC_STAT.SELF_REFRESH ch) || s.get (Reg.DMC_PWR.PD_TIMER ch) == 0 ||
      s.flag (Reg.DMC_STAT.PANIC ch) || copying || training || !s.rankLives ch rank then s.idle
  else
    let n := ch.val * 8 + rank.val
    let s := (s.quiet ch).closeRows fun b _ => rankOfBank b == n
    .next { s with dmc := { s.dmc with down := insertNat s.dmc.down n } }

/-- The TIMED row of a channel that has been idle longest (R365); one that a queued request hits is not closed (R366). -/
def Dmc.idleRow (d : Dmc) (c : Nat) : Option Nat :=
  let l := d.rows.filter fun (e : Nat × OpenRow) => rankOfBank e.1 / 8 == c && e.2.hint == hintTimed &&
    !d.queue.any fun r => r.bank == e.1 && r.row == e.2.row
  (l.foldl (fun (acc : Option (Nat × OpenRow)) e => match acc with
    | none => some e
    | some a => if e.2.last < a.2.last then some e else acc) none).map Prod.fst

/-- TIMED_ROW_CLOSE (R365, R366): a TIMED row has been idle for IDLE_NS and is closed. -/
def execTimedRowClose (ch : Fin 8) (s : State) : Res :=
  match s.dmc.idleRow ch with
  | none => s.idle
  | some bank => if !s.dmcRuns ch then s.idle else .next (s.closeRows fun b _ => b == bank)

/-! ## Patrol scrub (R378, R381, R384, R394, R395) -/

/-- Logical ranks in service. -/
def State.ranksOf (s : State) (c : Nat) : List Nat := (List.range 8).filter fun l => s.get (Reg.DMC_RANK_MAP.LR c l) != 0xF

/-- The spare holds no device memory and is read by the scrub as well. -/
def State.idleSpare (s : State) (c : Nat) : Bool :=
  s.get (Reg.DMC_SPARE.STATE c) != 0 && s.get (Reg.DMC_SPARE.STATE c) != 4

/-- Lines of a scrub pass. -/
def State.scrubLines (s : State) (c : Nat) : Nat :=
  ((s.ranksOf c).length + (if s.idleSpare c then 1 else 0)) * (s.rankSize c / 64)

/-- An uncorrectable error in the spare where it holds no device memory (R381, R388): counted, located and recorded; its contents matter to
nothing, so that the fault has been handled. -/
def State.spareError (s : State) (c o : Nat) : State :=
  let s := s.locate c 3 (s.get (Reg.DMC_SPARE.SPARE_PRANK c)) o
  ((s.record Ev.DRAM_UE c [(4, s.eccLoc c)]).dmcFault c Ev.DRAM_UE.sev).endFault (dmcUnit c)

/-- A read of the spare where it holds no device memory (R358). -/
def State.accessSpare (s : State) (c o : Nat) : State :=
  let (bank, row) := s.bankAt c (s.get (Reg.DMC_SPARE.SPARE_PRANK c)) o
  s.arriveAll [⟨0, 2 ^ 48 + c * 2 ^ 40 + o / 64, bank, row, reqScrub, false, false⟩]

/-- The scrub stops from t_F until RESUMING (R226, R395). -/
def State.scrubRuns (s : State) (c : Nat) : Bool :=
  s.dmcRuns c && s.get (Reg.DMC_SCRUB.SCRUB_H c) != 0 && (!s.fogged || s.pstate == PState.RESUMING)

/-- The line of device memory that the `n`-th read of a pass finds (R394): of a logical rank, or on a spare that holds what has been copied to
it (R387); none on the rest of the spare. -/
def State.scrubLine (s : State) (c n : Nat) : Option Nat :=
  let per := s.rankSize c / 64
  match (s.ranksOf c)[n / per]? with
  | some l => some (s.dpaOf c (l * s.rankSize c + n % per * 64) / 64)
  | none =>
    if s.get (Reg.DMC_SPARE.STATE c) != 1 && decide (n % per * 64 < s.get (Reg.DMC_MIG_WM.WM_4K c) * 4096) then
      some (s.dpaOf c (s.get (Reg.DMC_SPARE.SRC_LRANK c) * s.rankSize c + n % per * 64) / 64)
    else none

/-- PATROL_SCRUB_READ: the pass reads its next line, in the order of the logical ranks with the spare last. It waits for a page with a line
in recovery (R382). -/
def execPatrolScrubRead (ch : Fin 8) (correctable uncorrectable : Bool) (s : State) : Res :=
  let n := (NMap.find? s.dmc.scrub ch).getD 0
  let total := s.scrubLines ch
  let line := s.scrubLine ch n
  if !s.scrubRuns ch || decide (total ≤ n) || (line.any fun l => s.pageRecovering (l / 64)) then s.idle
  else
    let s := { s with dmc := { s.dmc with scrub := NMap.insert s.dmc.scrub ch (n + 1) } }
    let s := s.put (Reg.DMC_SCRUB.PASS_PCT ch) ((n + 1) * 100 / total)
    match line with
    | some l =>
      let s := s.access (l * 64) reqScrub false false
      .next (s.readErrors (if correctable then [l] else []) (if uncorrectable then [l] else []))
    | none =>
      let o := n % (s.rankSize ch / 64) * 64
      let s := s.accessSpare ch o
      let s := if correctable then s.correctable ch none else s
      .next (if uncorrectable then s.spareError ch o else s)

/-- SCRUB_PERIOD_END (R395): the next pass starts; one that has not completed is late. -/
def execScrubPeriodEnd (ch : Fin 8) (s : State) : Res :=
  if !s.scrubRuns ch then s.idle
  else
    let late := decide ((NMap.find? s.dmc.scrub ch).getD 0 < s.scrubLines ch)
    let s := { s with dmc := { s.dmc with scrub := NMap.insert s.dmc.scrub ch 0 } }
    let s := (s.put (Reg.DMC_SCRUB.PASS_PCT ch) 0).put (Reg.DMC_SCRUB.LATE ch) (ofBool late)
    .next (if late then s.record Ev.SCRUB_LATE ch [] else s)

end Sys2Proof.Machine
end

