-- ==== Sys2Proof/Machine/Trn.lean ====
section
/-! DEFINITION. Training sessions, the delay sets and the speed of the next start (chapter 09). -/

namespace Sys2Proof.Machine

open Host

/-- A request is refused (R409, R416, R418). -/
def State.trnReject (s : State) : State := s.put Reg.TRN_STAT.REQ_REJECT 1

/-! ## Sessions (R409–R415, R419) -/

/-- Why a START is refused (R268, R409); `none` where it is accepted. -/
def State.trainRefusal (s : State) (c : Nat) : Option Status :=
  if s.saving || s.fogged then some .busySaving
  else if !s.ready Reg.GLB_READY.MEM_FULL then some .busyRestoring
  else if s.flag Reg.TRN_STAT.ACTIVE then some .busyTraining
  else if !s.dmcRuns c then some .badField
  else none

/-- START on a channel, while firmware runs (R32): a session with the first rank at its first step, and an empty trial bank. -/
def State.trnStart (s : State) (c : Nat) : State :=
  if (s.trainRefusal c).isSome || !s.ready Reg.GLB_READY.FW_RUN then s.trnReject
  else
    let s := { s with trn := { s.trn with trial := [], eyes := [] } }
    s.putAll [
      (Reg.TRN_STAT.ACTIVE, 1), (Reg.TRN_STAT.GATHER, 1), (Reg.TRN_STAT.CH, c), (Reg.TRN_STAT.RANK, ((s.ranksOf c).headD 0)),
      (Reg.TRN_STAT.STEP, 1), (Reg.TRN_STAT.WAIT_MIG, 0)]

/-- TRN_START (R409). -/
def execTrnStart (req : Req) (ch : Fin 8) (s : State) : Res := s.guard req .f fun s => s.trnStart ch

/-- The rank under training takes part in a migration that has not ended (R412). -/
def State.trainBlocked (s : State) (c : Nat) : Bool :=
  let st := s.get (Reg.DMC_SPARE.STATE c)
  (st == 2 || st == 3) && s.get (Reg.DMC_SPARE.SRC_LRANK c) == s.get Reg.TRN_STAT.RANK

/-- The next step of a session (R411): CS_CA, WLEVEL, READ, WRITE, VERIFY on each rank in rising order. The last rank stays
in VERIFY. -/
def State.nextStep (s : State) (c : Nat) : State :=
  let st := s.get Reg.TRN_STAT.STEP
  if st < 5 then s.put Reg.TRN_STAT.STEP (st + 1)
  else match (s.ranksOf c).find? fun l => decide (s.get Reg.TRN_STAT.RANK < l) with
    | some l => s.putAll [(Reg.TRN_STAT.RANK, l), (Reg.TRN_STAT.STEP, 1)]
    | none => s

/-- The activates of a slice that borrows a row (R370, R411, R412): at most 512, in one bank of the rank on each subchannel, in the bank's
count and its rolling accumulated count, which refresh management commands keep at its maximum, and charged to no requester. Their number
and the bank are free values. -/
def State.sliceActivates (s : State) (n : Nat) : State :=
  let k := s.free % 513
  let s := s.tick
  let bank := s.free % (32 * 2 ^ s.get (Reg.DMC_CFG.STACK (n / 8)))
  s.tick.each [0, 1] fun s sc =>
    let b := ((n * 8 + bank / 32) * 2 + sc) * 32 + bank % 32
    let a := (NMap.find? s.dmc.raa b).getD 0 + k
    let m := (a - Config.raaMaximum + (Config.raaInitial - 1)) / Config.raaInitial
    State.count { s with dmc := { s.dmc with
      counts := NMap.insert s.dmc.counts b ((NMap.find? s.dmc.counts b).getD 0 + k)
      raa := NMap.insert s.dmc.raa b (a - m * Config.raaInitial) } } (Reg.DMC_RD_CNT.RFM (n / 8)) m

/-- TRAINING_SLICE (R410–R412): the rank is woken, activates are counted in the steps that borrow a row, uncorrectable lines of the
borrowed row are handled, the trial bank and the eyes take what the slice found, and a step that is complete gives way to the next. No
slice starts on a rank in migration. -/
def execTrainingSlice (delays : List (Nat × BitVec 16)) (eyes : List (Nat × Nat)) (uncorrectable : List Nat) (complete : Bool)
    (s : State) : Res :=
  let c := s.get Reg.TRN_STAT.CH
  if !s.flag Reg.TRN_STAT.ACTIVE then s.idle
  else if s.trainBlocked c then .next (s.put Reg.TRN_STAT.WAIT_MIG 1)
  else
    let n := c * 8 + s.get (Reg.DMC_RANK_MAP.LR c (s.get Reg.TRN_STAT.RANK))
    let mine := uncorrectable.filter fun l => s.channelOf (l * 64) == c && s.lrankOf (l * 64) == s.get Reg.TRN_STAT.RANK
    let s := (s.put Reg.TRN_STAT.WAIT_MIG 0).uncorrectables mine
    let s := if 4 ≤ s.get Reg.TRN_STAT.STEP then s.sliceActivates n else s
    let own := delays.filter fun d => placeChannel d.1 == c
    let trial := own.foldl (fun m d => NMap.insert m d.1 d.2.toNat) s.trn.trial
    let eyes := (eyes.filter fun e => decide (e.1 < 80)).foldl
      (fun m e => NMap.insert m e.1 (bitsOf e.2 16 16, bitsOf e.2 0 16)) s.trn.eyes
    let s := { s with
      trn := { s.trn with trial, eyes }
      dmc := { s.dmc with down := s.dmc.down.filter (· != n) } }
    .next (if complete && s.flag Reg.TRN_STAT.ACTIVE then s.nextStep c else s)

/-- Channels in service (R415). -/
def State.inService (s : State) : List Nat := (List.range 8).filter fun c => s.flag (Reg.DMC_STAT.UP c)

/-- COMMIT (R40, R414, R415): a trial bank that verifies becomes the verified bank; firmware runs, as TRAINED requires. -/
def State.trnCommit (s : State) (verified : Bool) : State :=
  let c := s.get Reg.TRN_STAT.CH
  if !s.flag Reg.TRN_STAT.ACTIVE || !s.ready Reg.GLB_READY.FW_RUN then s
  else if verified then
    let s := { s with trn := { s.trn with verified := NMap.union s.trn.verified s.trn.trial } }
    let s := (s.putAll [(Reg.TRN_CH_SRC.SRC c, 4), (Reg.DMC_STAT.FIXED_DELAYS c, 0)]).endSession 1
    if s.inService.all fun c => s.get (Reg.TRN_CH_SRC.SRC c) == 4 then s.setReady Reg.GLB_READY.TRAINED true else s
  else (s.endSession 2).record Ev.TRN_VERIFY_FAIL c []

/-- TRN_COMMIT (R414): `verified` says whether every rank passed under R406. -/
def execTrnCommit (req : Req) (verified : Bool) (s : State) : Res := s.guard req .f fun s => s.trnCommit verified

/-- TRN_ABORT (R419). -/
def execTrnAbort (req : Req) (s : State) : Res := s.guard req .f fun s => s.abandonSession 3

/-! ## Delay sets (R403, R416, R571) -/

/-- Valid sets of the store. -/
def State.validSets (s : State) : List (Nat × DelaySet) := s.kst.sets

/-- The set that makes room for one of a bin where four are valid and none has that bin: the least recently used whose bin is neither
the bin in force nor NEXT_BIN. -/
def State.setToDrop (s : State) (bin : Nat) : Option Nat :=
  let l := s.validSets
  if decide (l.length < 4) || l.any (fun e => e.2.bin == bin) then none
  else
    let free := l.filter fun e => e.2.bin != s.get Reg.TRN_CFG.NEXT_BIN && e.2.bin != s.get Reg.TRN_STAT.BIN
    (free.foldl (fun (acc : Option (Nat × DelaySet)) e => match acc with
      | none => some e
      | some a => if e.2.lastUse < a.2.lastUse then some e else some a) none).map (·.1)

/-- The record write of a set in a slot: the store's delay-set slots stand behind its records (R571). -/
def setRecord (slot : Nat) : Nat := 32 + slot

/-- Slot `k` no longer holds a valid set; where it was the one in use, none is (R422). -/
def State.dropSet (s : State) (k : Nat) : State :=
  let s := { s with kst := { s.kst with sets := NMap.erase s.kst.sets k } }.showSets
  if s.get Reg.TRN_SETS.IN_USE == k then s.put Reg.TRN_SETS.IN_USE 0xF else s

/-- Room for a set of a bin (R403, R416). -/
def State.setRoom (s : State) (bin : Nat) : State :=
  match s.setToDrop bin with
  | some k => s.dropSet k
  | none => s

/-- A set is written into a slot that holds no valid set; a slot being written is not taken twice. -/
def State.writeSet (s : State) (bin signature : Nat) (entries : List DelayEntry) (origin : Option (Port × BitVec 32)) : State :=
  let s := s.setRoom bin
  let busy (k : Nat) : Bool := s.cmd.writes.any fun (w : RecWrite) => w.record == setRecord k
  match (List.range 5).find? fun k => (NMap.find? s.kst.sets k).isNone && !busy k with
  | none => s
  | some k =>
    let seq := (s.kst.sets.map fun (e : Nat × DelaySet) => e.2.seq).foldl max 0 + 1
    let w : RecWrite := ⟨setRecord k, .delaySet k ⟨bin, signature, seq, nextUse s.kst.sets, entries⟩, origin⟩
    { s with cmd := { s.cmd with writes := s.cmd.writes ++ [w] } }

/-- The delays of a set are those that the channels run on. -/
def State.setInUse (s : State) (d : DelaySet) : Bool :=
  d.bin == s.get Reg.TRN_STAT.BIN && d.entries == s.trn.verified.map fun (e : Nat × Nat) => ⟨e.1, e.2⟩

/-- The valid mark of a set is written: any older set of its bin is invalidated (R416), at most four stay valid (R403), and the set is the
one in use where the channels run on its delays (DEDUCED; log entry 135). -/
def State.setWritten (s : State) (k : Nat) (d : DelaySet) : State :=
  let s := s.setRoom d.bin
  let s := s.each ((s.kst.sets.filter fun (e : Nat × DelaySet) => e.2.bin == d.bin).map Prod.fst) State.dropSet
  let s := { s with kst := { s.kst with sets := NMap.insert s.kst.sets k d } }.showSets
  ((if s.setInUse d then s.put Reg.TRN_SETS.IN_USE k else s).noteUse [k]).record Ev.TRN_SET_STORED k []

/-- STORE (R416). -/
def State.trnStore (s : State) : State :=
  if !s.ready Reg.GLB_READY.TRAINED || s.flag Reg.TRN_STAT.ACTIVE then s.trnReject
  else s.writeSet (s.get Reg.TRN_STAT.BIN) Config.populationSignature (s.trn.verified.map fun (e : Nat × Nat) => ⟨e.1, e.2⟩) none

/-- TRN_STORE (R416). -/
def execTrnStore (req : Req) (s : State) : Res := s.guard req .f State.trnStore

/-! ## The bin of the next cold start (R417, R418) -/

/-- NEXT_BIN takes a bin, and the DRAM configuration record (record 2) with it; while training data are gathered the write is
refused, and a code that is not allowed is ignored. -/
def State.nextBin (s : State) (bin : Nat) : State :=
  if s.flag Reg.TRN_STAT.GATHER then s.trnReject
  else if bin < minBin ∨ maxBin < bin then s
  else
    let s := s.put Reg.TRN_CFG.NEXT_BIN bin
    { s with cmd := { s.cmd with writes := s.cmd.writes ++ [⟨2, .fields [(Reg.TRN_CFG.NEXT_BIN, bin)] none, none⟩] } }

/-- NEXT_BIN_WRITE (R417, R418). -/
def execNextBinWrite (req : Req) (bin : BitVec 4) (s : State) : Res := s.guard req .f fun s => s.nextBin bin.toNat

end Sys2Proof.Machine
end

