-- ==== Sys2Proof/Machine/Adc.lean ====
section
/-! DEFINITION. The ADC (chapter 16): the sequence of each converter, rotations, urgent requests, the result queue and what
takes the results. -/

namespace Sys2Proof.Machine

open Host

/-! ## The sequence (R665–R668) -/

/-- A converter: ADC-A, or ADC-B. -/
def State.conv (s : State) (b : Bool) : Converter := if b then s.adc.b else s.adc.a

/-- Change a converter. -/
def State.setConv (s : State) (b : Bool) (x : Converter) : State :=
  if b then { s with adc := { s.adc with b := x } } else { s with adc := { s.adc with a := x } }

/-- An enabled entry is assigned to the converter: to it alone, or to both. -/
def State.assigned (s : State) (b : Bool) (n : Nat) : Bool :=
  s.flag (Reg.ADC_SEQ.EN n) && (s.get (Reg.ADC_SEQ.CONV n) == 2 || s.get (Reg.ADC_SEQ.CONV n) == (if b then 1 else 0))

/-- An entry converts on both converters (R667). -/
def State.both (s : State) (n : Nat) : Bool := s.get (Reg.ADC_SEQ.CONV n) == 2

/-- The converter's next entry in this cycle. -/
def State.nextEntry (s : State) (b : Bool) : Option Nat :=
  (List.range 16).find? fun n => decide ((s.conv b).next ≤ n) && s.assigned b n

/-- The converter may convert an entry: an AB entry starts once both have reached it. -/
def State.mayStart (s : State) (b : Bool) (n : Nat) : Bool :=
  !s.both n || (s.conv b).pairs.isSome || (s.nextEntry (!b) == some n)

/-- The set bit of a mask at or after a pointer, then from the bottom. -/
def nextBit (mask p : Nat) : Option Nat :=
  ((List.range 32).map fun i => (p + i) % 32).find? fun i => bitOf mask i

/-- The input that an entry converts (R666), with the pointers after it; `none` in an idle slot. -/
def State.entryInput (s : State) (n : Nat) : Option (Nat × Adc) :=
  let d := s.adc
  match s.get (Reg.ADC_SEQ.SRC n) with
  | 1 => (nextBit (s.get Reg.ADC_ROT0.MASK) d.rot0).map fun i => (i, { d with rot0 := (i + 1) % 32 })
  | 2 => (nextBit (s.get Reg.ADC_ROT1.MASK) d.rot1).map fun i => (i, { d with rot1 := (i + 1) % 32 })
  | _ => some (s.get (Reg.ADC_SEQ.INPUT n), d)

/-- The B-class fields of the ADC are taken at a cycle start (R16, R665). -/
def State.takeAdcShadows (s : State) : State :=
  let s := (s.takeShadow Reg.ADC_ROT0.MASK).takeShadow Reg.ADC_ROT1.MASK
  s.each (List.range 16) fun s n =>
    [Reg.ADC_SEQ.EN n, Reg.ADC_SEQ.CONV n, Reg.ADC_SEQ.QUEUE n, Reg.ADC_SEQ.REPEAT n, Reg.ADC_SEQ.GAIN n, Reg.ADC_SEQ.SMP n,
      Reg.ADC_SEQ.SRC n, Reg.ADC_SEQ.INPUT n].foldl State.takeShadow s

/-- A new cycle starts once both converters have completed their last entries (R665). -/
def State.cycleEnd (s : State) : State :=
  if (s.nextEntry false).isSome || (s.nextEntry true).isSome then s
  else
    let d := s.adc
    { s with adc := { d with a := { d.a with next := 0 }, b := { d.b with next := 0 }, cycle := (d.cycle + 1) % 16 } }.takeAdcShadows

/-- The converter's slot ends: an AB entry lasts for its pairs, any other for one conversion. A slot counts toward the pause
after an urgent conversion (R671). -/
def State.slotDone (s : State) (b : Bool) (n : Nat) : State :=
  let left (c : Converter) : Nat := c.pairs.getD (s.get (Reg.ADC_SEQ.REPEAT n) + 1)
  let start (c : Converter) : Converter := if s.both n then { c with pairs := some (left c) } else c
  let s := s.setConv (!b) (if s.both n && (s.conv (!b)).next ≤ n then start (s.conv (!b)) else s.conv (!b))
  let c := start (s.conv b)
  let rest := left c - 1
  let done := !s.both n || rest == 0
  (s.setConv b { c with
    pairs := if done then none else some rest
    next := if done then n + 1 else c.next
    hold := c.hold - 1 }).cycleEnd

/-! ## Results (R662, R673–R677) -/

/-- A result word (R673). -/
def resultWord (ovr recov urg conv : Bool) (input entry gain cycle code : Nat) : Nat :=
  2 ^ 31 + ofBool ovr * 2 ^ 30 + ofBool recov * 2 ^ 29 + ofBool urg * 2 ^ 28 + ofBool conv * 2 ^ 27 + input % 32 * 2 ^ 22 +
    entry % 16 * 2 ^ 18 + gain % 4 * 2 ^ 16 + cycle % 16 * 2 ^ 12 + code % 4096

/-- The fields of a result register take a result. -/
def State.putResult (s : State) (base : Nat) (w : Nat) : State :=
  s.putAll [
    (⟨base, 0, 12⟩, bitsOf w 0 12), (⟨base, 12, 4⟩, bitsOf w 12 4), (⟨base, 16, 2⟩, bitsOf w 16 2), (⟨base, 18, 4⟩, bitsOf w 18 4),
    (⟨base, 22, 5⟩, bitsOf w 22 5), (⟨base, 27, 1⟩, bitsOf w 27 1), (⟨base, 28, 1⟩, bitsOf w 28 1), (⟨base, 29, 1⟩, bitsOf w 29 1),
    (⟨base, 30, 1⟩, bitsOf w 30 1), (⟨base, 31, 1⟩, bitsOf w 31 1)]

/-- A result enters the queue; a full queue loses its oldest (R674). -/
def State.queueResult (s : State) (w : Nat) : State :=
  if s.adc.queue.length < 64 then { s with adc := { s.adc with queue := s.adc.queue ++ [w] } }
  else ({ s with adc := { s.adc with queue := s.adc.queue.drop 1 ++ [w] } }.count Reg.ADC_QSTAT.OVF 1).record Ev.ADC_QUEUE_OVF wide []

/-- The code that an over-range input clamps to (R676): the top or the bottom of the range, whichever is nearer. -/
def clampCode (code : Nat) (ovr : Bool) : Nat := if ovr then (if 2048 ≤ code then 0xFFF else 0) else code

/-- An over-range result is counted and recorded with the input and the direction (R676). -/
def State.overRange (s : State) (input code : Nat) (ovr : Bool) : State :=
  if ovr then
    (s.count Reg.ADC_ERR.OVR_CNT 1).record Ev.ADC_OVR wide [(1, input), (1, (Config.overRange (decide (2048 ≤ code))).toNat)]
  else s

/-- The recovery window of R677: after an over-range result the next two conversions of the converter carry RECOV; of both
converters in an AB entry. -/
def State.recovery (s : State) (b ovr ab : Bool) : State :=
  let after (c : Converter) : Converter := { c with recov := 2 }
  if ovr then
    let s := s.setConv b (after (s.conv b))
    if ab then s.setConv (!b) (after (s.conv (!b))) else s
  else s.setConv b { s.conv b with recov := (s.conv b).recov - 1 }

/-- The divider ahead of an input (R663). -/
def inputScale (n : Nat) : Nat :=
  if n == 0 || n == 1 || n == 2 || n == 5 || n == 12 then 1
  else if n == 3 || n == 4 || n == 6 || n == 8 then 2
  else if n == 7 || n == 9 || n == 14 then 4
  else if n == 10 || n == 11 || n == 13 || n == 15 || n == 16 || n == 17 then 16
  else if n == 18 then 10 else 1

/-- The voltage of an input in mV, ahead of its divider (R662): whole mV, rounded down (log entry 10). -/
def inputMv (n code gain : Nat) : Nat := code * 1800 * inputScale n / (4096 * 2 ^ gain)

/-- The rail interval of R669 is measured: a free value. Beyond 4 µs, in 10 ns units, it is recorded. -/
def State.railGap (s : State) (n : Nat) : State :=
  let g := s.free % 65536
  let s := s.tick.raise Reg.ADC_STAT.RAIL_GAP g
  if 400 < g then s.record Ev.ADC_RAIL_GAP n [(1, n), (2, g)] else s

/-- What takes a result that is not urgent (R675): the rail compare, the supply measurements, and the reserve block, which
notes an OVR or RECOV tag (R643, R677). -/
def State.useResult (s : State) (n mv : Nat) (ovr recov : Bool) : State :=
  if n < 16 then (if s.supervised n then s.railGap n else s).railSample n mv ovr
  else if n == 16 then s.put Reg.PWR_VIN.VIN_MV (min mv 65535)
  else if n == 17 then s.put Reg.PWR_VSUP.VSUP_MV (min mv 65535)
  else if n ≤ 21 then { s with rsv := { s.rsv with ovr := s.rsv.ovr || ovr || recov } }
  else s

/-- The converters run from the power-on request until OFF (R665). -/
def State.adcRuns (s : State) : Bool := s.powered

/-- ADC_CONVERSION_DONE (R665–R669, R673–R677): a slot of the converter's next entry ends. -/
def execAdcConversionDone (conv : Bool) (code : BitVec 12) (ovr : Bool) (s : State) : Res :=
  if !s.adcRuns then s.idle
  else match s.nextEntry conv with
    | none => s.idle
    | some n =>
      if !s.mayStart conv n then s.idle
      else match s.entryInput n with
        | none => .next (s.slotDone conv n)
        | some (input, adc) =>
          let c := clampCode code.toNat ovr
          let recov := decide (0 < (s.conv conv).recov)
          let gain := s.get (Reg.ADC_SEQ.GAIN n)
          let w := resultWord ovr recov false conv input n gain s.adc.cycle c
          let queued := s.flag (Reg.ADC_SEQ.QUEUE n)
          let s := { s with adc }
          let s := s.putResult (0x40200 + 4 * input) w
          let s := if queued then s.queueResult w else s
          let s := (s.overRange input c ovr).recovery conv ovr (s.both n)
          .next ((s.slotDone conv n).useResult input (inputMv input c gain) ovr recov)

/-! ## Urgent requests (R670–R672) -/

/-- A write of ADC_URG: one request for each converter. -/
def State.urgentWrite (s : State) (v : Nat) : State :=
  if !bitOf v 31 then s
  else
    let b := bitOf v 30
    let c := s.conv b
    if c.urgent.isSome then s.count Reg.ADC_ERR.URG_IGN 1
    else s.setConv b { c with urgent := some ⟨bitsOf v 0 5, bitsOf v 25 2, bitsOf v 27 3⟩ }

/-- ADC_URG (R670). -/
def execAdcUrg (req : Req) (value : Word) (s : State) : Res := s.guard req .f fun s => s.urgentWrite value.toNat

/-- URGENT_CONVERSION_DONE (R671, R672): not during an AB entry, nor within 4 slots of the last urgent conversion. -/
def execUrgentConversionDone (conv : Bool) (code : BitVec 12) (ovr : Bool) (s : State) : Res :=
  let c := s.conv conv
  match c.urgent with
  | none => s.idle
  | some u =>
    if !s.adcRuns || c.pairs.isSome || c.hold != 0 then s.idle
    else
      let k := clampCode code.toNat ovr
      let recov := decide (0 < c.recov)
      let w := resultWord ovr recov true conv u.input 0 u.gain s.adc.cycle k
      let s := (s.setConv conv { c with urgent := none, hold := 4 }).putResult 0x40010 w
      .next ((s.queueResult w).overRange u.input k ovr |>.recovery conv ovr false)

/-! ## Reads with an effect -/

/-- A register read that is answered to its requester. -/
def State.answerRead (s : State) (r : Req) (off size : Nat) : State :=
  let (v, s) := s.busRead r off size
  s.emit (.regRead r v)

/-- ADC_RESULT_READ (R674). -/
def execAdcResultRead (req : Req) (s : State) : Res := .next (s.answerRead req 0x40014 4)

/-- ADC_URG_RES_READ (R680). -/
def execAdcUrgResRead (req : Req) (s : State) : Res := .next (s.answerRead req 0x40010 4)

end Sys2Proof.Machine
end

