-- ==== Sys2Proof/Machine/Kst.lean ====
section
/-! DEFINITION. The Keeper store (chapter 13): what a completed record write puts in force, and sector erases. -/

namespace Sys2Proof.Machine

open Host

/-! ## Configuration records (R494, R568) -/

/-- The definition of a field, where the register map holds it. -/
def fieldDef (f : Fld) : Option FieldDef :=
  (regAt .keeper f.off).bind fun d => d.fields.find? fun (x : FieldDef) => x.lo == f.lo

/-- A field takes a value of its record under its change class (R16–R18, R494): a B-class field its shadow, an I-class field
only while its block is idle. The Carafe size in the record is that of the next start (R203). -/
def State.takeField (s : State) (f : Fld) (v : Nat) : State :=
  let s := { s with stored := s.stored.set f v }
  let s := if f == Reg.DRP_CAR_CFG.NEXT_GIB then { s with stored := s.stored.set Reg.DRP_CAR_CFG.SIZE_GIB v } else s
  match (fieldDef f).map FieldDef.chg with
  | some .boundary => { s with shadows := NMap.insert s.shadows f.key v }
  | some .idle => if s.blockIdle f.off then s.put f v else s.locked
  | _ => s.put f v

/-- What follows a change of the figures' registers: the bucket is cut to its depth and the rate ceiling follows (R148, R149, R152), as
does the budget (R128) with the writes that wait for it (R132). -/
def State.refigured (s : State) : State :=
  { s with drp := { s.drp with credit := min s.drp.credit s.wearDepth } }.showWear.recompute.settle

/-- What follows a change of configuration: the figures, and the policy releases held writes (R90). -/
def State.configured (s : State) (oldPolicy : Nat) : State :=
  let s := s.refigured
  if oldPolicy == 0 && s.get Reg.GLB_ARM.POLICY == 1 && s.flag Reg.GLB_ARM.HELD then s.releaseHeld true else s

/-- CHARGE_EN has been written (R631, R634, R656): the charger leaves FAULT, and OFF or charging follow at once. -/
def State.chargeWritten (s : State) : State :=
  let s := if s.get Reg.RSV_STAT.CHG_STATE == 6 then s.putAll [(Reg.RSV_STAT.CHG_STATE, 0), (Reg.RSV_STAT.FAULT_CAUSE, 0)] else s
  s.stepCharger

/-- The registers take the values of a configuration command. -/
def State.takeFields (s : State) (l : List (Fld × Nat)) (wait : Option Nat) : State :=
  let old := s.get Reg.GLB_ARM.POLICY
  let s := s.each l fun s x => s.takeField x.1 x.2
  let s := match wait with
    | some w => { s with kst := { s.kst with storedWait := w } }
    | none => s
  let s := if l.any fun x => x.1 == Reg.RSV_CFG.CHARGE_EN then s.chargeWritten else s
  s.configured old

/-! ## Other records -/

/-- The event base is written: the records that waited for it are placed (R709). -/
def State.baseDone (s : State) : State :=
  let l := s.evr.waiting
  let s := { s with evr := { s.evr with baseWritten := true, waiting := [] } }
  s.each l fun s r => s.place r (privilegedSources.contains r.source) none

/-- A route of the event routing record (R721). -/
def State.setRoute (s : State) (source vector mask : Nat) : State :=
  let m := s.evr.routes
  { s with evr := { s.evr with routes := if vector == 0 then NMap.erase m source else NMap.insert m source (vector, mask) } }

/-- The configuration of a logical device (R430): the release mode at once, the rest at the next cold start. -/
def State.setLdConfig (s : State) (ld : Nat) (bound sanitize : Bool) (head stat dcMax : Nat) (bifur : Option Nat) : State :=
  let m := s.kst.ldNext
  let s := { s with kst := { s.kst with ldNext := if bound then NMap.insert m ld ⟨head, stat, dcMax⟩ else NMap.erase m ld } }
  let s := s.takeField (Reg.RGN_LD_CAP.REL_SANITIZE ld) (ofBool sanitize)
  match bifur with
  | some b => (s.takeField Reg.HIF_CFG.NEXT_BIFUR0 (bitsOf b 0 1)).takeField Reg.HIF_CFG.NEXT_BIFUR1 (bitsOf b 1 1)
  | none => s

/-- A group's password (R564): set or removed, and the group left unlocked. -/
def State.setPassword (s : State) (g : Nat) (digest : Option Bytes) : State :=
  let m := s.kst.passwords
  { s with kst := { s.kst with
    passwords := (match digest with
      | some d => NMap.insert m g d
      | none => NMap.erase m g)
    unlocked := insertNat s.kst.unlocked g } }

/-- The boot record names the running slot (R579): the commit of its first start is complete. -/
def State.bootCommitted (s : State) (n : Nat) : State :=
  let slot := s.slot n
  let s := s.putAll [(Reg.KST_SLOT.ACTIVE, n), (Reg.KST_SLOT.CHECK, 0xFF), (Reg.KST_SLOT.ATTEMPTS, 0)]
  let s := if s.get Reg.KST_STAT.MIG == 1 then s.put Reg.KST_STAT.MIG 2 else s
  { s with kst := { s.kst with firstStart := false } }.record Ev.KEEPER_UPDATE_COMMIT wide
    [(1, n), (4, (slot.map KeeperSlot.version).getD 0), (2, s.get Reg.KST_ARB.COUNTER)]

/-- What follows a write of the region record (R442, R443, R446, R450). -/
def State.regionsWritten (s : State) (after : RegionEnd) : State :=
  match after with
  | .nothing => s
  | .dcMapped ld exts => s.dcMapped ld exts
  | .dcReleased ld _ => (s.dcReleased ld).emit (.mailbox (Fin.ofNat 16 ld) Cxl.success [])
  | .dcOffered ld exts => s.dcOffered ld exts
  | .dcEnded origin status exts => s.completeCode origin status (extentList exts)
  | .dcFreed exts => s.each exts fun s e => s.record Ev.SANITIZE_DONE wide [(2, e)]

/-- What follows a write of the region record that has failed twice: extents offered return, and a mailbox answers Internal Error. -/
def State.regionsFailed (s : State) (after : RegionEnd) : State :=
  match after with
  | .dcReleased ld _ => s.emit (.mailbox (Fin.ofNat 16 ld) Cxl.internalError [])
  | .dcMapped ld exts =>
    let s := s.each exts State.withdraw
    match s.rgn.ops.find? fun (o : DcOp) => o.ld == ld && o.add && o.answered == exts with
    | some o => (s.dropOp o).completeFor o.origin .mediaError []
    | none => s
  | .dcOffered ld exts =>
    match s.rgn.ops.find? fun (o : DcOp) => o.ld == ld && o.add && !o.offered && o.extents == exts with
    | some o => (State.dropOp (s.each exts State.withdraw) o).completeFor o.origin .mediaError []
    | none => s
  | .dcEnded origin _ _ => s.completeFor origin .mediaError []
  | .dcFreed _ => s
  | .nothing => s

/-- The boot record has been rewritten with a slot to be checked, or with none (R576): the former ends the installation. -/
def State.slotMarked (s : State) (n : Nat) : State :=
  let s := s.putAll [(Reg.KST_SLOT.CHECK, n), (Reg.KST_SLOT.ATTEMPTS, 0)]
  if n != 0xFF && s.kst.installing.isSome then (s.endUpdate .done).put Reg.KST_UPD.PHASE 6 else s

/-- What a completed record write puts in force. -/
def State.applyUpdate (s : State) (u : RecUpdate) : State :=
  match u with
  | .fields l wait => s.takeFields l wait
  | .stores l => { s with stored := s.stored.setAll l }
  | .route source vector mask => s.setRoute source vector mask
  | .base _ => s.baseDone
  | .ldConfig ld bound sanitize head stat dcMax bifur => s.setLdConfig ld bound sanitize head stat dcMax bifur
  | .owner h => if s.owner == h then s else (s.takeField Reg.HIF_CFG.OWNER h).record Ev.OWNER_CHANGED h []
  | .labels ld body =>
    { s with kst := { s.kst with labels := NMap.insert s.kst.labels ld body } }.emit (.mailbox (Fin.ofNat 16 ld) Cxl.success [])
  | .password g digest => s.setPassword g digest
  | .retire ch lrank reason => s.startRetirement ch lrank reason
  | .regions table after => { s with rgn := { s.rgn with record := table } }.regionsWritten after
  | .bootCommit n => s.bootCommitted n
  | .delaySet k d => s.setWritten k d
  | .learned l => { s with kst := { s.kst with learned := some l } }
  | .ringList l => { s with flash := { s.flash with ringStored := l } }
  | .checkSlot n => s.slotMarked n
  | .floor n => { s with kst := { s.kst with floor := n } }
  | .setsUsed slots => { s with kst := { s.kst with sets := slots.foldl useSet s.kst.sets } }
  | .other _ => s

/-- What follows a record write that has failed twice. -/
def State.failUpdate (s : State) (u : RecUpdate) : State :=
  match u with
  | .labels ld _ => s.emit (.mailbox (Fin.ofNat 16 ld) Cxl.internalError [])
  | .regions _ after => s.regionsFailed after
  | .checkSlot _ => if s.kst.installing.isSome then (s.endUpdate .mediaError).put Reg.KST_UPD.PHASE 0 else s
  | _ => s

/-- The command behind a record write, with its status. A write that no command waits for completes none. -/
def State.endWrite (s : State) (w : RecWrite) (rest : List RecWrite) (status : Status) : State :=
  { s with cmd := { s.cmd with writes := rest, retried := s.cmd.retried.filter (· != w.record) } }.completeFor w.origin status []

/-- RECORD_WRITE_DONE (R494, R557–R560, R568): the first write of the record ends, the sectors of its target having been erased between
their journal entries. One whose fail flag is set is made again once. It waits while VSUP is low, while the store is in FAILED
(R53), and while a journal has no room for it. -/
def execRecordWriteDone (rec : Nat) (ok : Bool) (s : State) : Res :=
  if !s.powered || s.flag Reg.KST_STAT.VSUP_HOLD || s.unitFailed kstUnit then s.idle
  else match takeFirst (fun (w : RecWrite) => w.record == rec) s.cmd.writes with
    | none => s.idle
    | some (w, rest) =>
      let t := s.journalSectors (s.targetSectors rec)
      if !t.journalsFit then s.idle
      else
        let s := (t.writeCopy rec ok).endRetry rec
        if ok then .next ((s.endWrite w rest .done).applyUpdate w.upd)
        else
          let s := s.count Reg.KST_ERR.PROG_FAIL 1
          if s.cmd.retried.contains rec then .next ((s.endWrite w rest .mediaError).failUpdate w.upd)
          else .next (({ s with cmd := { s.cmd with retried := rec :: s.cmd.retried } }.record Ev.KST_PROG_FAIL wide []).raiseFault kstUnit
            Ev.KST_PROG_FAIL.sev)

/-! ## Sector erases (R555–R562) -/

/-- An erase is issued once its INTENT entry is in the journal (R559); without room for the entry, and while the store is in FAILED
(R53), it waits. -/
def State.beginErase (s : State) (e : KstErase) : State :=
  let t := s.journalErase 1 e.sector
  if e.begun || !t.journalsFit || s.unitFailed kstUnit then s
  else { t with kst := { t.kst with
    erases := t.kst.erases.map fun (x : KstErase) => if x.sector == e.sector then { x with begun := true } else x } }

/-- The erases that wait are issued, as far as they can be. -/
def State.beginErases (s : State) : State := s.each s.kst.erases State.beginErase

/-- A sector is to be erased (R558, R559). -/
def State.startErase (s : State) (sector : Nat) (origin : Option (Port × BitVec 32)) : State :=
  State.beginErases { s with kst := { s.kst with erases := s.kst.erases ++ [(⟨sector, origin, 0, false⟩ : KstErase)] } }

/-- Replace or remove the erase in progress of a sector. -/
def State.withoutErase (s : State) (sector : Nat) : State :=
  { s with kst := { s.kst with erases := s.kst.erases.filter fun (e : KstErase) => e.sector != sector } }

/-- The fault of an erase that failed its blank check ends with the erase (R52). -/
def State.endErase (s : State) (e : KstErase) : State := if e.fails == 0 then s else s.endFault kstUnit

/-- KST_ERASE_DONE (R52, R559, R562): the blank check passes and the DONE entry is journaled; otherwise the sector is erased again, and
after three erases it has failed. -/
def execKstEraseDone (sector : Nat) (blank : Bool) (s : State) : Res :=
  match s.kst.erases.find? fun (e : KstErase) => e.sector == sector with
  | none => s.idle
  | some e =>
    if !e.begun then s.idle
    else if blank then
      let s := (((s.withoutErase sector).eraseSector sector).journalErase 2 sector).endErase e
      .next (s.beginErases.completeFor e.origin .done [])
    else
      let s := s.count Reg.KST_ERR.ERASE_FAIL 1
      if e.fails + 1 < 3 then
        let s := { s with kst := { s.kst with
          erases := s.kst.erases.map fun (x : KstErase) => if x.sector == sector then { x with fails := x.fails + 1 } else x } }
        let s := s.record Ev.KST_ERASE_REDONE wide []
        .next (s.strikeUnit kstUnit Ev.KST_ERASE_REDONE.sev (e.fails != 0))
      else
        let s := ((s.withoutErase sector).strike kstUnit Ev.KST_SECTOR_FAIL.sev).endErase e
        let s := { s with kst := { s.kst with failed := insertNat s.kst.failed sector } }.put Reg.KST_STAT.DEGRADED 1
        .next ((s.record Ev.KST_SECTOR_FAIL wide []).completeFor e.origin .mediaError [])

end Sys2Proof.Machine
end

