-- ==== Sys2Proof/Machine/Twi.lean ====
section
/-! DEFINITION. The two-wire controllers TWI-D0 and TWI-D1, the FIFOs of the three ports and bus recovery (R734, R740–R744). -/

namespace Sys2Proof.Machine

open Host

/-! Codes of TWI_XSTAT.RESULT (R753). -/
namespace TwiResult
def busy : Nat := 1
def done : Nat := 2
def addrNack : Nat := 3
def dataNack : Nat := 4
def timeout : Nat := 5
def busError : Nat := 6
def disabled : Nat := 7
end TwiResult

/-- The FIFOs of a port (R734, R753). -/
def State.rxFifo (s : State) (p : Nat) : Bytes := (NMap.find? s.twi.rx p).getD []
def State.txFifo (s : State) (p : Nat) : Bytes := (NMap.find? s.twi.tx p).getD []
def State.setRx (s : State) (p : Nat) (b : Bytes) : State := { s with twi := { s.twi with rx := NMap.insert s.twi.rx p b } }
def State.setTx (s : State) (p : Nat) (b : Bytes) : State := { s with twi := { s.twi with tx := NMap.insert s.twi.tx p b } }

/-- A byte enters the transmit FIFO; it is ignored when 32 bytes wait (R753). -/
def State.txWrite (s : State) (p : Nat) (b : Byte) : State :=
  if (s.txFifo p).length < 32 then s.setTx p (s.txFifo p ++ [b]) else s

/-- A write of TWI_XFER (R53, R742, R743): GO on a port of controllers, ignored while a transaction runs, while the port is in FAILED and
with a length out of range. A disabled port answers DISABLED. -/
def State.xferWrite (s : State) (p : Fin 3) (v : Nat) : State :=
  let rd := bitsOf v 8 6
  let wr := bitsOf v 0 6
  if p == 0 || !bitOf v 31 || s.unitFailed (sideUnit p) || 32 < rd || 32 < wr || s.get (Reg.TWI_XSTAT.RESULT p) == TwiResult.busy then s
  else if s.flag (Reg.TWI_STAT.DISABLED p) then s.put (Reg.TWI_XSTAT.RESULT p) TwiResult.disabled
  else if !s.flag (Reg.TWI_STAT.UP p) then s
  else
    let tx := s.txFifo p
    let s := s.putAll [(Reg.TWI_XSTAT.RESULT p, TwiResult.busy), (Reg.TWI_STAT.BUSY p, 1), (Reg.TWI_XFER.RD_LEN p, rd)]
    (s.setTx p (tx.drop wr)).emit (.twiStart p (bitsOf v 24 7) (tx.take wr) rd)

/-- The transaction in progress ends with a result. -/
def State.xferEnd (s : State) (p result : Nat) : State :=
  s.putAll [(Reg.TWI_XSTAT.RESULT p, result), (Reg.TWI_STAT.BUSY p, 0)]

/-- TWI_RXDATA_READ (R753): the oldest received byte. -/
def execTwiRxdataRead (req : Req) (port : Fin 3) (s : State) : Res := .next (s.answerRead req (0x80018 + 0x1000 * port) 4)

/-- TWI_TXDATA_WRITE (R753). -/
def execTwiTxdataWrite (req : Req) (port : Fin 3) (byte : Byte) (s : State) : Res := s.guard req .f fun s => s.txWrite port byte

/-- TWI_XFER (R742, R743). -/
def execTwiXfer (req : Req) (port : Fin 3) (value : Word) (s : State) : Res := s.guard req .f fun s => s.xferWrite port value.toNat

/-- TWI_TRANSACTION_DONE (R742): the bytes read enter the receive FIFO; a NACK counts in FRAME and BUS_ERROR, which starts bus
recovery, in COLLISION. -/
def execTwiTransactionDone (port : Fin 3) (result : TwiEnd) (data : Bytes) (s : State) : Res :=
  if !s.flag (Reg.TWI_STAT.BUSY port) || s.flag (Reg.TWI_STAT.RECOVERING port) then s.idle
  else match result with
    | .done =>
      let rx := s.rxFifo port ++ data.take (s.get (Reg.TWI_XFER.RD_LEN port))
      .next ((s.setRx port (rx.take 32)).xferEnd port TwiResult.done)
    | .addrNack => .next ((s.count (Reg.TWI_ERR.FRAME port) 1).xferEnd port TwiResult.addrNack)
    | .dataNack => .next ((s.count (Reg.TWI_ERR.FRAME port) 1).xferEnd port TwiResult.dataNack)
    | .busError =>
      .next (((s.count (Reg.TWI_ERR.COLLISION port) 1).xferEnd port TwiResult.busError).put (Reg.TWI_STAT.RECOVERING port) 1)

/-- TWI_TARGET_TIMEOUT (R742, R744): a target has held SCL low for 25 ms. -/
def execTwiTargetTimeout (port : Fin 3) (s : State) : Res :=
  if !s.flag (Reg.TWI_STAT.BUSY port) || s.flag (Reg.TWI_STAT.RECOVERING port) then s.idle
  else .next (((s.count (Reg.TWI_ERR.TIMEOUT port) 1).xferEnd port TwiResult.timeout).put (Reg.TWI_STAT.RECOVERING port) 1)

/-- BUS_RECOVERY (R744): the clocks of a recovery, or of a retry of a disabled port, have been sent. SDA reads high, or the port
is disabled; after 3 failed retries it stays so. The port's fault is active until its bus is free (R51). -/
def execBusRecovery (port : Fin 3) (freed : Bool) (s : State) : Res :=
  let disabled := s.flag (Reg.TWI_STAT.DISABLED port)
  let retries := s.get (Reg.TWI_STAT.RETRIES port)
  if !s.flag (Reg.TWI_STAT.RECOVERING port) && !(disabled && decide (retries < 3)) then s.idle
  else if freed then
    let s := if disabled then s.endFault (sideUnit port) else s
    .next (s.putAll [
      (Reg.TWI_STAT.RECOVERING port, 0), (Reg.TWI_STAT.DISABLED port, 0), (Reg.TWI_STAT.RETRIES port, 0),
      (Reg.TWI_STAT.UP port, ofBool (s.ready Reg.GLB_READY.SIDEBAND_UP))])
  else
    let s := s.putAll [
      (Reg.TWI_STAT.RECOVERING port, 0), (Reg.TWI_STAT.DISABLED port, 1), (Reg.TWI_STAT.UP port, 0),
      (Reg.TWI_STAT.RETRIES port, if disabled then retries + 1 else retries)]
    let s := if s.flag (Reg.TWI_STAT.BUSY port) then s.xferEnd port TwiResult.disabled else s
    let s := s.record Ev.TWI_BUS_STUCK port []
    .next (if disabled then s.strike (sideUnit port) Ev.TWI_BUS_STUCK.sev else s.raiseFault (sideUnit port) Ev.TWI_BUS_STUCK.sev)

end Sys2Proof.Machine
end

