-- ==== Sys2Proof/Machine/RegAccess.lean ====
section
/-! DEFINITION. Register accesses with their effects (R8–R18): the recorder's cursors, the registers that act when written,
plain writes and reads, the accesses of the application cores (R533–R536) and DMA bursts (R687–R695). -/

namespace Sys2Proof.Machine

open Host

/-! ## Cursors of the Event Recorder (R722–R725) -/

/-- A bank's cursor moves; its capture is dropped and LOST returns to 0. -/
def State.moveCursor (s : State) (r : Req) (area seq : Nat) : State :=
  let c := s.evr.cursor r
  State.recorderInterrupt
    { s.dropCapture r 0x20100 with evr := s.evr.setCursor r { c with area, seq, staged := seq, lost := false } }

/-- OLDEST in an area: the lowest number held, or the next one while the area is empty. -/
def State.cursorOldest (s : State) (r : Req) (area : Nat) : State :=
  s.moveCursor r area (((s.evr.area area).head?.map EvRecord.seq).getD s.evr.next)

/-- ADVANCE: above the highest number of the bank's capture, which holds that number after its 64 words. -/
def State.cursorAdvance (s : State) (r : Req) : State :=
  let c := s.evr.cursor r
  match s.caps.find? fun (x : Capture) => x.req == r && x.off == 0x20100 with
  | none => s
  | some x => s.moveCursor r c.area (x.words.getD 64 c.seq)

/-- SEEK: the number in EVR_CUR_SEQ. -/
def State.cursorSeek (s : State) (r : Req) : State :=
  let c := s.evr.cursor r
  s.moveCursor r c.area c.staged

/-- A write that changes AREA acts as OLDEST; 0x3 is reserved and ignored (R10). -/
def State.cursorArea (s : State) (r : Req) (area : Nat) : State :=
  if 2 < area || area == (s.evr.cursor r).area then s else s.cursorOldest r area

/-- A write of EVR_CUR_CTL: IRQ_EN for those entitled to it, then AREA and the operation. -/
def State.cursorWrite (s : State) (r : Req) (v : Nat) : State :=
  let c := s.evr.cursor r
  let s := if s.entitled r .f then { s with evr := s.evr.setCursor r { c with irqEn := bitOf v 9 } } else s
  let area := bitsOf v 0 2
  if area ≤ 2 && area != c.area then s.cursorOldest r area
  else match bitsOf v 28 4 with
    | 1 => s.cursorOldest r c.area
    | 2 => s.cursorAdvance r
    | 3 => s.cursorSeek r
    | _ => s.recorderInterrupt

/-- A write of EVR_CUR_SEQ_LO or EVR_CUR_SEQ_HI. -/
def State.stageCursor (s : State) (r : Req) (hi : Bool) (v : Nat) : State :=
  let c := s.evr.cursor r
  let n := if hi then c.staged % 2 ^ 32 + v % 2 ^ 16 * 2 ^ 32 else c.staged / 2 ^ 32 * 2 ^ 32 + v
  { s with evr := s.evr.setCursor r { c with staged := n } }

/-- EVR_CURSOR_OLDEST (R724). -/
def execEvrCursorOldest (req : Req) (s : State) : Res := s.guard req .a fun s => s.cursorOldest req (s.evr.cursor req).area

/-- EVR_CURSOR_ADVANCE (R724). -/
def execEvrCursorAdvance (req : Req) (s : State) : Res := s.guard req .a fun s => s.cursorAdvance req

/-- EVR_CURSOR_SEEK (R724). -/
def execEvrCursorSeek (req : Req) (s : State) : Res := s.guard req .a fun s => s.cursorSeek req

/-- EVR_AREA_SELECT (R724). -/
def execEvrAreaSelect (req : Req) (area : BitVec 2) (s : State) : Res := s.guard req .a fun s => s.cursorArea req area.toNat

/-! ## Registers whose write the Keeper puts into a record (R581, R618) -/

/-- A record is to take the present values of some fields, which are already in force. -/
def State.storeFields (s : State) (rec : Nat) (l : List Fld) : State :=
  { s with cmd := { s.cmd with writes := s.cmd.writes ++ [⟨rec, .stores (l.map fun f => (f, s.get f)), none⟩] } }

/-- A write of PWR_CFG or PWR_VIN (R618). -/
def State.powerWrite (s : State) (off v : Nat) (fs : List FieldDef) : State :=
  let t := s.writeFields off v fs
  let l := if off == 0x30000 then [Reg.PWR_CFG.UP_TMO_MS, Reg.PWR_CFG.STEP_10US, Reg.PWR_CFG.RETRIES, Reg.PWR_CFG.AUTO_ON] else [Reg.PWR_VIN.WARN_MV]
  if l.any fun f => t.get f != s.get f then t.storeFields 6 l else t

/-- Integrator groups that are erasing (R563, R582). -/
def State.busyGroups (s : State) : Nat :=
  groupMask fun g => s.kst.erases.any fun (e : KstErase) =>
    let a := e.sector * 4096
    let user := if 0x700000 ≤ a then a - 0x700000 + 0x100000 else a - 0x300000
    (decide (0x300000 ≤ a) && decide (a < 0x400000) || decide (0x700000 ≤ a)) && user / 0x40000 + 8 == g

/-- A write of KST_VMODE (R16, R582): while a sector of a group is being erased its bit keeps its value, and the write, part of which is
ignored, is recorded. -/
def State.vmodeWrite (s : State) (v : Nat) : State :=
  let busy := s.busyGroups
  let old := s.get Reg.KST_VMODE.MODE
  let new := maskOf 8 fun k => if bitOf busy k then bitOf old k else bitOf v k
  let s := (s.put Reg.KST_VMODE.MODE new).storeFields 11 [Reg.KST_VMODE.MODE]
  if busy == 0 then s else s.locked

/-- A write of KST_ECC; a value out of range is ignored. -/
def State.eccWrite (s : State) (v : Nat) : State :=
  let thr := v % 4
  let s := if 1 ≤ thr && thr ≤ 2 then s.put Reg.KST_ECC.THR thr else s
  s.storeFields 11 [Reg.KST_ECC.THR]

/-! ## Registers that act -/

/-- A write of TRN_CTL. Whether a COMMIT verifies is measured: a free value where the command does not carry it. -/
def State.trnControl (s : State) (v : Nat) : State :=
  match bitsOf v 28 4 with
  | 1 => s.trnStart (bitsOf v 0 3)
  | 2 => s.tick.trnCommit (s.free % 2 == 1)
  | 3 => s.abandonSession 3
  | 4 => s.trnStore
  | _ => s

/-- A write of TRN_CFG (R418): MIN_EYE, and NEXT_BIN, which is refused while training data are gathered. -/
def State.trnConfig (s : State) (v : Nat) (fs : List FieldDef) : State :=
  let bin := bitsOf v 0 4
  let s := s.each (fs.filter fun f => f.lo == 8) fun s f => s.writeField 0x280000 f (bitsOf v 8 8)
  if bin == s.get Reg.TRN_CFG.NEXT_BIN && !s.flag Reg.TRN_STAT.GATHER then s else s.nextBin bin

/-- A write of TRN_DLY_DATA (R412, R422): the trial bank of the channel under session alone. -/
def State.delayWrite (s : State) (v : Nat) : State :=
  if s.flag Reg.TRN_STAT.ACTIVE && s.flag Reg.TRN_DLY_SEL.BANK && s.get Reg.TRN_DLY_SEL.CH == s.get Reg.TRN_STAT.CH then
    { s with trn := { s.trn with trial := NMap.insert s.trn.trial s.selectedPlace (v % 2 ^ 16) } }
  else s

/-- A write of CLK_DOM_REQ (R620). -/
def State.domainRequest (s : State) (v : Nat) : State :=
  let d := bitsOf v 0 4
  if !domainNamed d || s.unitFailed pwrUnit then s else if bitOf v 31 then s.domainStart d else s.lowerDomain d

/-- A write of HIF_HEAD_CTO (R463). -/
def State.ctoWrite (s : State) (h v : Nat) : State :=
  let d := v % 65536
  let short := d != 0 && decide (d < 40)
  let s := s.putAll [(Reg.HIF_HEAD_CTO.DECLARED h, d), (Reg.HIF_HEAD_CTO.SHORT h, ofBool short)]
  if short then s.record Ev.CTO_SHORT h [] else s

/-- Writes to the sideband ports; `none` where the offset is none of theirs that acts. -/
def State.writePorts (s : State) (off v : Nat) : Option State :=
  match (List.range 3).find? fun p => off == 0x8000C + 0x1000 * p || off == 0x80014 + 0x1000 * p with
  | none => none
  | some p =>
    if off == 0x8000C + 0x1000 * p then some (s.xferWrite (Fin.ofNat 3 p) v) else some (s.txWrite p (BitVec.ofNat 8 v))

/-- Writes to the DMA engine that act. -/
def State.writeDma (s : State) (off v : Nat) : Option State :=
  if off == 0x70008 then some (s.dmaRequest v)
  else if 0x70100 ≤ off && off < 0x70500 && (off - 0x70100) % 0x40 == 4 then
    some (s.dmaOp ((off - 0x70100) / 0x40) (bitsOf v 28 4))
  else none

/-- Registers that the Keeper's figures (R128, R148, R149, R152) or the charger follow. -/
def State.afterWrite (s : State) (off : Nat) : State :=
  if off == 0x50000 then s.chargeWritten
  else if off == 0x300000 || off == 0x300028 || off == 0x300030 || off == 0x300034 || off == 0x310000 then s.refigured
  else s

/-- A write of 32 bits by a requester entitled to the fields `fs`. -/
def State.writeReg (s : State) (r : Req) (off v : Nat) (fs : List FieldDef) : State :=
  let f := s.entitled r .f
  let h := s.entitled r .h
  if off == 0x2000C then s.cursorWrite r v
  else if off == 0x20010 || off == 0x20014 then s.stageCursor r (off == 0x20014) v
  else if (off == 0x30000 || off == 0x30008) && h then s.powerWrite off v fs
  else if off == 0x60018 && h then s.vmodeWrite v
  else if off == 0x6001C && h then s.eccWrite v
  else if off == 0x280000 && f then s.trnConfig v fs
  else if off == 0x280004 && f then s.trnControl v
  else if off == 0x280024 && f then s.delayWrite v
  else if off == 0x4000C && f then s.urgentWrite v
  else if off == 0x440030 && f then s.gcRequest (bitsOf v 30 2) (bitsOf v 0 27)
  else if off == 0xA000C && s.entitled r .k then s.domainRequest v
  else if 0x500020 ≤ off && off < 0x500030 then s.ctoWrite ((off - 0x500020) / 4) v
  else match (if f then s.writePorts off v else none), (if f then s.writeDma off v else none) with
    | some s', _ => s'
    | none, some s' => s'
    | none, none => (s.writeFields off v fs).afterWrite off

/-- A register write (R10–R18). -/
def State.busWrite (s : State) (r : Req) (off size v : Nat) : State :=
  match s.checkWrite r off size with
  | .ignored => s
  | .denied => s.accessDenied
  | .allowed fs => s.writeReg r off v fs

/-- REGISTER_WRITE (R10–R18). The chain has no write to registers (R512). -/
def execRegisterWrite (req : Req) (off : BitVec 32) (size : Fin 5) (value : Word) (s : State) : Res :=
  if req == .chain || size == 0 then s.idle else .next (s.busWrite req off.toNat size value.toNat)

/-- KST_VMODE_ECC_WRITE (R581, R582). -/
def execKstVmodeEccWrite (req : Req) (ecc : Bool) (value : Word) (s : State) : Res :=
  s.guard req .h fun s => if ecc then s.eccWrite value.toNat else s.vmodeWrite value.toNat

/-- PWR_CFG_WRITE (R618): PWR_CFG, or PWR_VIN, whose other fields a head that is not the owner reads. -/
def execPwrCfgWrite (req : Req) (vin : Bool) (value : Word) (s : State) : Res :=
  if req == .chain then s.idle else .next (s.busWrite req (if vin then 0x30008 else 0x30000) 4 value.toNat)

/-! ## Reads with their own rows -/

/-- EVR_WIN0_READ (R723). -/
def execEvrWin0Read (req : Req) (s : State) : Res := .next (s.answerRead req 0x20100 4)

/-- EPOCH_LO_CAPTURE_READ (R78): a register of a pair that is read as R78 states. -/
def execEpochLoCaptureRead (req : Req) (off : BitVec 32) (s : State) : Res :=
  if loRegs.contains off.toNat then .next (s.answerRead req off.toNat 4) else s.idle

/-- DRP_SS_DIRTY_READ (R156). -/
def execDrpSsDirtyRead (req : Req) (s : State) : Res := .next (s.answerRead req 0x300008 4)

/-- RC_REGISTER_READ (R10, R14, R15): a read of any register, whose RC fields it clears. -/
def execRcRegisterRead (req : Req) (off : BitVec 32) (size : Fin 5) (s : State) : Res :=
  if size == 0 then s.idle else .next (s.answerRead req off.toNat size)

/-- RGN_FAULT_READ (R441, R468): KIND returns to 0 and the latch is armed again. -/
def execRgnFaultRead (req : Req) (s : State) : Res := .next (s.answerRead req 0x100010 4)

/-- CPX_VIOL_INFO_READ (R545). -/
def execCpxViolInfoRead (req : Req) (s : State) : Res := .next (s.answerRead req 0xE0000024 4)

/-! ## Accesses over the fabric (R533–R536) -/

/-- Application SRAM takes bytes at a fabric address. -/
def State.sramWrite (s : State) (a : Nat) (b : Bytes) : State :=
  { s with cpx := { s.cpx with ram := dramWrite s.cpx.ram (a - sramBase) b } }

/-- What stands at a fabric address. -/
inductive Place where
  | sram
  | regs (off : Nat)
  | memory (dpa : Nat)
  | nothing
  deriving DecidableEq, Repr

/-- The place of a fabric address. -/
def placeOf (a : Nat) : Place :=
  if decide (sramBase ≤ a) && decide (a < sramBase + sramSize) then .sram
  else if inRegs a then .regs (a - regBase)
  else if decide (cpxBase ≤ a) && decide (a < cpxBase + 0x1000) then .regs a
  else if memBase ≤ a then .memory (a - memBase)
  else .nothing

/-- The lines of device memory that an access of `n` bytes touches. -/
def linesAt (a n : Nat) : List Nat :=
  match placeOf a with
  | .memory dpa => (List.range ((dpa + n - 1) / 64 + 1 - dpa / 64)).map (dpa / 64 + ·)
  | _ => []

/-- A read of device memory meets a line that holds poison (R379, R393). -/
def State.meetsPoison (s : State) (a n : Nat) : Bool := (linesAt a n).any s.poisoned

/-- A read of device memory waits for a page with a line in recovery (R382). -/
def State.awaitsRecovery (s : State) (a n : Nat) : Bool := (linesAt a n).any fun l => s.pageRecovering (l / 64)

/-- A granted read: the value, and the state after it. A read of device memory is a request of the application cores and DMA (R358). What
stands at no place is a free value, and so are the data of a poisoned line (R379; log entry 121). -/
def State.fabricRead (s : State) (r : Req) (a n : Nat) : Nat × State :=
  match placeOf a with
  | .sram => (leNat (dramRead s.cpx.ram (a - sramBase) n), s)
  | .regs off => s.busRead r off n
  | .memory dpa =>
    if s.meetsPoison a n then (s.free % 2 ^ (8 * n), s.tick.accessLines (linesAt a n) reqApp false false)
    else (leNat (dramRead s.dram dpa n), s.accessLines (linesAt a n) reqApp false false)
  | .nothing => (s.free % 2 ^ (8 * n), s.tick)

/-- A granted write. Device memory takes none (R534). -/
def State.fabricWrite (s : State) (r : Req) (a n v : Nat) : State :=
  match placeOf a with
  | .sram => s.sramWrite a (leBytes n v)
  | .regs off => s.busWrite r off n v
  | .memory _ => s
  | .nothing => s

/-- APP_CORE_ACCESS (R28–R30, R534): a core of running firmware reads, writes or fetches; a denied read returns 0 with a bus
error. A register write that the fence denies never reaches the register, so it records FENCE_VIOLATION alone and no access-denied
event of R14 (DESIGN CHOICE; log entry 105). -/
def execAppCoreAccess (core : Fin 4) (kind : AccessKind) (addr : BitVec 44) (size : Fin 5) (value : Word) (s : State) : Res :=
  let a := addr.toNat
  if !s.fwAlive || size == 0 then s.idle
  else if s.fenceGrants (.core core) kind a size then
    match kind with
    | .write => .next (s.fabricWrite .fw a size (value.toNat % 2 ^ (8 * size.val)))
    | .read | .execute =>
      if s.awaitsRecovery a size then s.idle
      else
        let poison := s.meetsPoison a size
        let (v, s) := s.fabricRead .fw a size
        .next (s.emit (if poison then .corePoison core else .coreRead core v))
  else match kind with
    | .write => .next (s.fenceDenied (.core core) kind a)
    | .read | .execute => .next (((s.emit (.coreRead core 0)).emit (.busError .fw)).fenceDenied (.core core) kind a)

/-! ## DMA bursts (R687–R695, R702) -/

/-- A channel's request line is asserted (R688, R689). -/
def State.lineUp (s : State) (j : DmaJob) : Bool :=
  let line := bitsOf j.ctrl 12 6
  if !bitOf j.ctrl 19 then true else if 32 ≤ line then bitOf s.dma.lines (line - 32) else s.hwLine line

/-- A software line is taken when a burst starts on it (R689). -/
def State.takeLine (s : State) (j : DmaJob) : State :=
  let line := bitsOf j.ctrl 12 6
  if bitOf j.ctrl 19 && decide (32 ≤ line) then { s with dma := { s.dma with lines := clearBitOf s.dma.lines (line - 32) } } else s

/-- The address of element `i`. -/
def elementAt (base i width : Nat) (fixed : Bool) : Nat := if fixed then base else base + i * width

/-- Read the elements of a burst in order: their bytes, and whether an element was denied (R692, R702). -/
def State.burstRead (n src width : Nat) (fixed : Bool) : Nat → Nat → State → Bytes × State × Bool
  | 0, _, s => ([], s, false)
  | k + 1, i, s =>
    let a := elementAt src i width fixed
    if s.fenceGrants (.dma n) .read a width then
      let (v, s) := s.fabricRead .dma a width
      let (b, s, bad) := State.burstRead n src width fixed k (i + 1) s
      (leBytes width v ++ b, s, bad)
    else ([], s, true)

/-- Write the elements of a burst in order: how many were written before one was denied. -/
def State.burstWrite (n dst width : Nat) (fixed : Bool) : Nat → Nat → Bytes → State → Nat × State
  | 0, _, _, s => (0, s)
  | k + 1, i, b, s =>
    let a := elementAt dst i width fixed
    if s.fenceGrants (.dma n) .write a width then
      let s := s.fabricWrite .dma a width (leNat (b.take width))
      let (m, s) := State.burstWrite n dst width fixed k (i + 1) (b.drop width) s
      (m + 1, s)
    else (0, s)

/-- SWAP (R687): the bytes of each whole unit in reverse order. -/
def swapBytes (unit : Nat) : Nat → Bytes → Bytes
  | 0, b => b
  | k + 1, b => if b.length < unit then b else (b.take unit).reverse ++ swapBytes unit k (b.drop unit)

/-- The registers of a channel after some elements of a burst. -/
def State.burstMoved (s : State) (n moved : Nat) (j : DmaJob) : State :=
  let src := s.pair (Reg.DMA_CH_SRC_LO.SRC n) (Reg.DMA_CH_SRC_HI.SRC n)
  let dst := s.pair (Reg.DMA_CH_DST_LO.DST n) (Reg.DMA_CH_DST_HI.DST n)
  let s := if bitOf j.ctrl 28 then s else s.putPair (Reg.DMA_CH_SRC_LO.SRC n) (Reg.DMA_CH_SRC_HI.SRC n) (src + moved)
  let s := if bitOf j.ctrl 27 then s else s.putPair (Reg.DMA_CH_DST_LO.DST n) (Reg.DMA_CH_DST_HI.DST n) (dst + moved)
  s.put (Reg.DMA_CH_REMAIN.BYTES n) (s.get (Reg.DMA_CH_REMAIN.BYTES n) - moved)

/-- Domains that wait for the channel let it pause at the end of its burst, and power down where none runs on (R616, R701). -/
def State.pauseForDomains (s : State) (n : Nat) : State :=
  s.each [1, 2, 3, 4, 5, 6, 7] fun s d =>
    if bitOf (s.get Reg.CLK_DOM_STAT.CHANGING) d && s.domainOn d then
      let s := if (s.affected d).contains n then s.put (Reg.DMA_CH_STAT.STATE n) 2 else s
      s.settleDomain d
    else s

/-- Elements of a channel's burst (R687): those that remain where they are fewer. BURST is bits 24:20. -/
def State.burstCount (s : State) (n : Nat) (j : DmaJob) : Nat :=
  min (bitsOf j.ctrl 20 5 + 1) (s.get (Reg.DMA_CH_REMAIN.BYTES n) / widthOf j.ctrl)

/-- The burst of a channel, as far as `reads` elements are read and `writes` written: the elements read, swapped and written; a denial
ends it at the failing beat (R687, R702, R703). A burst that writes to its own channel's registers leaves it as they say. -/
def State.burst (s : State) (n : Nat) (j : DmaJob) (reads writes : Nat) : State :=
  let width := widthOf j.ctrl
  let src := s.pair (Reg.DMA_CH_SRC_LO.SRC n) (Reg.DMA_CH_SRC_HI.SRC n)
  let dst := s.pair (Reg.DMA_CH_DST_LO.DST n) (Reg.DMA_CH_DST_HI.DST n)
  let (b, s, readBad) := State.burstRead n src width (bitOf j.ctrl 28) reads 0 (s.takeLine j)
  let got := min writes (b.length / width)
  let (put, s) := State.burstWrite n dst width (bitOf j.ctrl 27) got 0 (swapBytes (swapOf j.ctrl) b.length b) s
  let s := s.burstMoved n (put * width) j
  if put < got then
    let a := elementAt dst put width (bitOf j.ctrl 27)
    (s.fenceDenied (.dma n) .write a).dmaError n 2 true false (some a)
  else if readBad then
    let a := elementAt src (b.length / width) width (bitOf j.ctrl 28)
    (s.fenceDenied (.dma n) .read a).dmaError n 2 false false (some a)
  else match NMap.find? s.dma.jobs n with
    | some j' => if s.dmaState n == 1 && s.get (Reg.DMA_CH_REMAIN.BYTES n) == 0 then s.dmaComplete n j' else s
    | none => s

/-- An element that a burst reads waits for the recovery of a line (R382). -/
def State.burstWaits (s : State) (n : Nat) (j : DmaJob) : Bool :=
  let src := s.pair (Reg.DMA_CH_SRC_LO.SRC n) (Reg.DMA_CH_SRC_HI.SRC n)
  (List.range (bitsOf j.ctrl 20 5 + 1)).any fun i => s.awaitsRecovery (elementAt src i (widthOf j.ctrl) (bitOf j.ctrl 28)) (widthOf j.ctrl)

/-! ## Slots of the engine (R691) -/

/-- A channel is ready: RUNNING, and without requests or with its line asserted. -/
def State.dmaReady (s : State) (n : Nat) : Bool :=
  s.dmaState n == 1 && s.domainOn 1 && (match NMap.find? s.dma.jobs n with
    | some j => s.lineUp j
    | none => false)

/-- The ready channel that a free slot goes to: one of highest PRIO, the first of them in rising number after the last one granted. -/
def State.dmaNext (s : State) : Option Nat :=
  let l := ((List.range 16).map fun i => (s.dma.last + 1 + i) % 16).filter fun n => s.dmaReady n && !s.dma.slots.contains n
  let top := l.foldl (fun a n => max a (s.get (Reg.DMA_CH_CFG.PRIO n))) 0
  l.find? fun n => s.get (Reg.DMA_CH_CFG.PRIO n) == top

/-- Free slots are granted, four in all. -/
def State.dmaGrant : Nat → State → State
  | 0, s => s
  | k + 1, s =>
    if 4 ≤ s.dma.slots.length then s
    else match s.dmaNext with
      | none => s
      | some n => State.dmaGrant k { s with dma := { s.dma with slots := s.dma.slots ++ [n], last := n } }

/-- The slots at a burst boundary: a channel that is no longer ready has lost its slot, and the free ones are granted. -/
def State.dmaSlots (s : State) : State := State.dmaGrant 4 { s with dma := { s.dma with slots := s.dma.slots.filter s.dmaReady } }

/-- A channel's burst has ended: its slot is free. -/
def State.slotFree (s : State) (n : Nat) : State := State.dmaSlots { s with dma := { s.dma with slots := s.dma.slots.filter (· != n) } }

/-- DMA_BURST_DONE (R382, R687–R695): a channel that holds a slot has made its burst. -/
def execDmaBurstDone (ch : Fin 16) (s : State) : Res :=
  match NMap.find? s.dma.jobs ch with
  | none => s.idle
  | some j =>
    let t := s.dmaSlots
    if !t.dma.slots.contains ch.val || s.burstWaits ch j then s.idle
    else .next ((t.burst ch j (t.burstCount ch j) (t.burstCount ch j)).pauseForDomains ch |>.slotFree ch)

/-- DMA_BEAT_TIMEOUT (R694, R702): the burst of a channel that holds a slot ends at the failing beat, the beats before it complete. At a
fixed address the number of those is a free value. -/
def execDmaBeatTimeout (ch : Fin 16) (write : Bool) (addr : Nat) (s : State) : Res :=
  match NMap.find? s.dma.jobs ch with
  | none => s.idle
  | some j =>
    let t := s.dmaSlots
    let base := if write then t.pair (Reg.DMA_CH_DST_LO.DST ch) (Reg.DMA_CH_DST_HI.DST ch) else t.pair (Reg.DMA_CH_SRC_LO.SRC ch) (Reg.DMA_CH_SRC_HI.SRC ch)
    let fixed := bitOf j.ctrl (if write then 27 else 28)
    let count := t.burstCount ch j
    let i := if fixed then s.free % count else (addr - base) / widthOf j.ctrl
    if !t.dma.slots.contains ch.val || addr < base || (fixed && addr != base) || count ≤ i then s.idle
    else
      let t := t.tick.burst ch j (if write then count else i) i
      .next ((if t.dmaState ch == 1 then t.dmaError ch 3 write false (some addr) else t).slotFree ch)

end Sys2Proof.Machine
end

