-- ==== Sys2Proof/Machine/Cmd.lean ====
section
/-! DEFINITION. The Command Processor (R470–R494): who sent a packet, the tests of R479 in their order, acceptance, replies, and
what all configuration commands share. -/

namespace Sys2Proof.Machine

open Host

/-! ## Sources and transports (R475, R489) -/

/-- The source class of a port (R489). -/
def State.srcOf (s : State) : Port → Src
  | .mailbox ld => if s.ldHead ld == s.owner then .owner else .head
  | .fmOwned h => if s.owner == h.val then .owner else .head
  | .twiu => .bmc
  | .chainUp => .chain
  | .fw => .fw
  | .keeper => .keeper

/-- The largest payload of a command or a reply on a port (R475). -/
def portLimit : Port → Nat
  | .mailbox _ | .fmOwned _ | .fw | .keeper => 65536
  | .twiu => 240
  | .chainUp => 1024

/-- Every class but KEEPER, which is permitted every opcode (R490). -/
def allSrcs : List Src := [.owner, .head, .bmc, .chain, .fw]

/-- OWNER and BMC. -/
def ownerBmc : List Src := [.owner, .bmc]

/-- OWNER, HEAD and BMC. -/
def headsBmc : List Src := [.owner, .head, .bmc]

/-! ## Commands -/

/-- What one opcode says of itself: the classes it permits, whether runtime firmware executes it (R492), whether it takes an entry
of the result table (R483), its layout length (R493), the readiness it requires, the tests of step 5 before and after the
result table's, the field tests of step 6, whether the mask ROM takes it (R520), and its execution. -/
structure CmdSpec where
  opcode : Nat
  srcs : List Src
  fw : Bool := false
  entry : Bytes → Bool := fun _ => false
  layout : Bytes → Nat := fun _ => 0
  ready : State → Bool := fun _ => true
  early : Hdr → State → Option Status := fun _ _ => none
  busy : Hdr → Src → State → Option Status := fun _ _ _ => none
  bad : Hdr → Src → State → Bool := fun _ _ _ => false
  rom : Bool := false
  run : Hdr → Src → State → State

/-- A port's command that still awaits its reply (R480). -/
def State.awaits (s : State) (p : Port) : Bool :=
  s.cmd.results.any fun (e : ResultEntry) => e.port == p && e.status.isNone && !e.replied

/-- Row 1 of R479: LENGTH within the transport's limit and equal to the bytes that came (R474, R476). -/
def badLength (h : Hdr) : Bool := decide (portLimit h.port < h.length) || h.length != h.payload.length

/-- Row 4 of R479: the executing processor is available, and the readiness the command requires. -/
def State.unready (s : State) (c : CmdSpec) : Option Status :=
  if c.fw && !s.ready Reg.GLB_READY.FW_RUN then some .notReady
  else if !c.fw && s.cpx.restarting then some .busy
  else if !c.ready s then some .notReady
  else none

/-- Row 5 of R479: the payload length, the state conditions and the command's own. -/
def State.condition (s : State) (c : CmdSpec) (h : Hdr) (src : Src) : Option Status :=
  if h.payload.length < c.layout h.payload then some .badLength
  else (c.early h s).orElse fun _ =>
    if c.entry h.payload && decide (16 ≤ s.resultCount h.port) then some .busy
    else c.busy h src s

/-- Row 6 of R479: the tag (R484) and the fields. -/
def State.fieldsBad (s : State) (c : CmdSpec) (h : Hdr) (src : Src) : Bool :=
  (c.entry h.payload && (s.findResult h.port h.tag).isSome) || c.bad h src s

/-- The status of the first test of R479 that fails. -/
def State.cmdTest (s : State) (c : CmdSpec) (h : Hdr) (src : Src) : Option Status :=
  if badLength h then some .badLength
  else if src != .keeper && !c.srcs.contains src then some .denied
  else match s.unready c with
    | some st => some st
    | none => match s.condition c h src with
      | some st => some st
      | none => if s.fieldsBad c h src then some .badField else none

/-- The command takes its entry of the result table (R483). -/
def State.takeEntry (s : State) (op : Nat) (h : Hdr) : State :=
  { s with cmd := { s.cmd with results := s.cmd.results ++ [⟨h.port, h.tag, op, none, [], false, h.dist.toNat⟩] } }

/-- A final reply to a command; one that holds an entry gives it back (R483). -/
def State.finish (s : State) (op : Nat) (h : Hdr) (st : Status) (payload : Bytes) : State :=
  match s.findResult h.port h.tag with
  | some e =>
    if e.status.isNone && !e.replied then s.complete h.port h.tag st.code payload
    else s.reply h.port op h.tag st.code h.dist.toNat payload
  | none => s.reply h.port op h.tag st.code h.dist.toNat payload

/-- DONE. -/
def State.done (s : State) (op : Nat) (h : Hdr) (payload : Bytes) : State := s.finish op h .done payload

/-- ACCEPTED to a command just accepted. -/
def State.accept (s : State) (op : Nat) (h : Hdr) : State := s.acceptReply op h.port h.tag h.dist.toNat

/-- The command behind work that the command starts. -/
def originOf (h : Hdr) : Option (Port × BitVec 32) := some (h.port, h.tag)

/-- A refusal at the tests; one at the privilege test is recorded (R515). -/
def State.refuse (s : State) (c : CmdSpec) (h : Hdr) (src : Src) (st : Status) : State :=
  let s := if st == .denied && !c.srcs.contains src && src != .keeper then s.record Ev.CMD_DENIED wide [(1, src.code)] else s
  s.reply h.port c.opcode h.tag st.code h.dist.toNat []

/-- A command that passes the tests takes its entry, where it has one, and is executed. -/
def State.execute (s : State) (c : CmdSpec) (h : Hdr) (src : Src) : State :=
  c.run h src (if c.entry h.payload then s.takeEntry c.opcode h else s)

/-- CMD takes packets on a port (R480, R492, R524): from CMD_BOOT on, while the port is up. -/
def State.takes (s : State) (p : Port) : Bool := s.ready Reg.GLB_READY.CMD_BOOT && s.portUp p

/-- A packet finds a command of its port that awaits its reply (R480): a mailbox takes nothing while its doorbell is set. -/
def State.turnAway (s : State) (op : Nat) (h : Hdr) : State :=
  match h.port with
  | .mailbox _ | .fmOwned _ => s
  | _ => s.reply h.port op h.tag Status.busy.code h.dist.toNat []

/-- The test that a packet to the mask ROM fails (R520). -/
def State.romTest (s : State) (c : CmdSpec) (h : Hdr) : Option Status :=
  if badLength h then some .badLength
  else if !c.rom then some .notReady
  else (s.condition c h .bmc).orElse fun _ => if s.fieldsBad c h .bmc then some .badField else none

/-- In ROM recovery the ROM, not CMD, answers on TWI-U, and on no other port (R520). -/
def State.romRun (s : State) (c : CmdSpec) (h : Hdr) : State :=
  if h.port != .twiu then s
  else match s.romTest c h with
    | some st => s.reply h.port c.opcode h.tag st.code 0 []
    | none => c.run h .bmc s

/-- A packet reaches CMD. -/
def State.runSpec (s : State) (c : CmdSpec) (h : Hdr) : State :=
  if s.cpx.rom then s.romRun c h
  else if !s.takes h.port then s
  else if s.awaits h.port then s.turnAway c.opcode h
  else
    let src := s.srcOf h.port
    match s.cmdTest c h src with
    | some st => s.refuse c h src st
    | none => s.execute c h src

/-! ## What several commands test -/

/-- BUSY_SAVING in CUTTING, SAVING and SAVED (R491). -/
def notSaving : Hdr → State → Option Status := fun _ s => if s.saving then some .busySaving else none

/-- A write of the record is in progress (R494). -/
def State.recordBusy (s : State) (rec : Nat) : Option Status :=
  if s.cmd.writes.any fun (w : RecWrite) => w.record == rec then some .busy else none

/-- A record write begins on behalf of a command; the reply waits for it (R494). -/
def State.startWrite (s : State) (rec : Nat) (upd : RecUpdate) (h : Hdr) : State :=
  let w : RecWrite := ⟨rec, upd, originOf h⟩
  { s with cmd := { s.cmd with writes := s.cmd.writes ++ [w] } }

/-! ## Configuration commands (R494) -/

/-- A field that a mask bit names: its bit, the field, and the offset and bytes of its value in the payload. -/
structure CfgField where
  bit : Nat
  fld : Fld
  off : Nat
  len : Nat

/-- The fields a mask names, with their values. -/
def named (l : List CfgField) (mask : Nat) (p : Bytes) : List (Fld × Nat) :=
  (l.filter fun c => bitOf mask c.bit).map fun c => (c.fld, fieldAt p c.off c.len)

/-- A value lies in the range of its field; POLICY and AUTO_ARM, which only the Keeper writes, are 0 or 1 (R90, R499). -/
def inRange (x : Fld × Nat) : Bool :=
  if x.1.off == Reg.GLB_ARM.POLICY.off then decide (x.2 ≤ 1)
  else match fieldDef x.1 with
  | some d => decide (d.least ≤ x.2) && decide (x.2 ≤ d.most)
  | none => false

/-- A configuration command: the record it writes, its layout length, the values its payload names, a new select wait, and
what makes them inconsistent. -/
def configSpec (op rec layout : Nat) (vals : Bytes → List (Fld × Nat)) (wait : Bytes → Option Nat)
    (clash : State → List (Fld × Nat) → Bool) : CmdSpec where
  opcode := op
  srcs := ownerBmc
  entry := fun _ => true
  layout := fun _ => layout
  busy := fun _ _ s => s.recordBusy rec
  bad := fun h _ s => !(vals h.payload).all inRange || clash s (vals h.payload)
  run := fun h _ s => s.startWrite rec (.fields (vals h.payload) (wait h.payload)) h

/-- The value a field would have after a command. -/
def State.wouldBe (s : State) (l : List (Fld × Nat)) (f : Fld) : Nat :=
  ((List.find? (fun (x : Fld × Nat) => x.1 == f) l.reverse).map (·.2)).getD (s.get f)

/-- No select wait. -/
def noWait : Bytes → Option Nat := fun _ => none

/-- The values of a list are consistent on their own. -/
def noClash : State → List (Fld × Nat) → Bool := fun _ _ => false

/-! ## Timers of CMD (R482, R483, R497) -/

/-- COMMAND_REPLY_TIMEOUT (R482): a command whose reply has not come after 10 ms is answered with ACCEPTED. -/
def execCommandReplyTimeout (port : Port) (tag : BitVec 32) (s : State) : Res :=
  .next (s.acceptLate port tag)

/-- The state of the runtime firmware when none runs (R496): NONE, or STOPPED once it has stopped. -/
def State.fwAbsent (s : State) : State := s.put Reg.CPX_FW_STAT.STATE (if s.get Reg.CPX_FW_STAT.LAST_CAUSE == 0 then 0 else 4)

/-- CHUNK_TRANSFER_TIMEOUT (R497): a transfer without a chunk for 10 s is discarded. -/
def execChunkTransferTimeout (opcode : BitVec 16) (s : State) : Res :=
  if s.cmd.transfers.any fun (t : Transfer) => t.opcode == opcode.toNat then
    let s := { s with cmd := { s.cmd with transfers := s.cmd.transfers.filter fun (t : Transfer) => t.opcode != opcode.toNat } }
    .next (if opcode.toNat == Opc.KEEPER_UPDATE && s.get Reg.KST_UPD.PHASE == 1 then s.put Reg.KST_UPD.PHASE 0
      else if opcode.toNat == Opc.FW_DOWNLOAD && s.get Reg.CPX_FW_STAT.STATE == 1 then s.fwAbsent
      else s)
  else s.idle

end Sys2Proof.Machine
end

