-- ==== Sys2Proof/Machine/CmdInfo.lean ====
section
/-! DEFINITION. Commands that report, and the diagnostics (R495, R496, R499, R501, R503, R505–R507, R509, R510, R512, R513). -/

namespace Sys2Proof.Machine

open Host

/-- The value of a register as a payload carries it (R493). -/
def State.regBytes (s : State) (off : Nat) : Bytes := leBytes 4 (s.regWord off)

/-! ## Identity and readiness -/

/-- VERSION of the running Keeper image; 0 where none runs. -/
def State.keeperVersion (s : State) : Nat :=
  if s.ready Reg.GLB_READY.KEEPER_UP then ((s.slot s.kst.running).map KeeperSlot.version).getD 0 else 0

/-- The reply of IDENTIFY (R495). -/
def State.identity (s : State) : Bytes :=
  leBytes 2 0x6180 ++ leBytes 1 (s.get Reg.GLB_ID.REV_MAJOR * 16 + s.get Reg.GLB_ID.REV_MINOR) ++ leBytes 1 (s.get Reg.GLB_ID.GRADE) ++
    leBytes 16 Config.uniqueId.toNat ++ leBytes 16 Config.vendorUuid.toNat ++ leBytes 4 s.keeperVersion ++
    leBytes 4 (s.get Reg.CPX_FW_VER.VERSION) ++ leBytes 8 (s.extents * 2 ^ 28) ++ leBytes 2 s.mappable ++
    leBytes 1 (s.get Reg.DMC_MAP.CHANNELS) ++ leBytes 1 (s.get Reg.NFC_POP.CHANNELS)

/-- IDENTIFY (R495). -/
def identifySpec : CmdSpec where
  opcode := Opc.IDENTIFY
  rom := true
  srcs := allSrcs
  run := fun h _ s => s.done Opc.IDENTIFY h s.identity

/-- READY_GET (R495). -/
def readyGetSpec : CmdSpec where
  opcode := Opc.READY_GET
  srcs := allSrcs
  run := fun h _ s => s.done Opc.READY_GET h (s.regBytes 0x4 ++ s.regBytes 0x8 ++ s.regBytes 0x10 ++ s.regBytes 0x2C ++
    leBytes 6 (s.pair Reg.GLB_OPEN_EPOCH_LO.LO Reg.GLB_OPEN_EPOCH_HI.HI) ++ leBytes 6 (s.pair Reg.GLB_DUR_EPOCH_LO.LO Reg.GLB_DUR_EPOCH_HI.HI) ++
    leBytes 6 (s.pair Reg.GLB_IMAGE_EPOCH_LO.LO Reg.GLB_IMAGE_EPOCH_HI.HI) ++ zeros 2 ++ s.regBytes 0x300018)

/-- The entry that a RESULT_GET names (R484). -/
def State.resultNamed (s : State) (h : Hdr) : Option ResultEntry := s.findResult h.port (BitVec.ofNat 32 (fieldAt h.payload 0 4))

/-- RESULT_GET (R485, R495): the result from the offset, cut to the transport; with its last byte the entry goes. -/
def resultGetSpec : CmdSpec where
  opcode := Opc.RESULT_GET
  srcs := allSrcs
  layout := fun _ => 8
  busy := fun h _ s => match s.resultNamed h with
    | some e => if e.status.isNone then some .busy else none
    | none => none
  bad := fun h _ s => match s.resultNamed h with
    | some e => decide (e.result.length < fieldAt h.payload 4 4)
    | none => true
  run := fun h _ s =>
    let off := fieldAt h.payload 4 4
    match s.resultNamed h with
    | none => s
    | some e =>
      let part := (e.result.drop off).take (portLimit h.port - 8)
      let s := if e.result.length ≤ off + part.length then s.dropResult e.port e.tag else s
      s.done Opc.RESULT_GET h (leBytes 2 e.opcode ++ leBytes 2 (e.status.getD 0) ++ leBytes 4 e.result.length ++ part)

/-! ## Firmware -/

/-- FW_STATUS (R496): bytes received are those of the last transfer. -/
def fwStatusSpec : CmdSpec where
  opcode := Opc.FW_STATUS
  srcs := headsBmc
  run := fun h _ s =>
    s.done Opc.FW_STATUS h (leBytes 4 (s.get Reg.CPX_FW_VER.VERSION) ++ leBytes 1 (s.get Reg.CPX_FW_STAT.STATE) ++
      leBytes 1 (s.get Reg.CPX_FW_STAT.LAST_CAUSE) ++ leBytes 2 (s.get Reg.CPX_FW_STAT.STOPS) ++
      leBytes 4 s.cpx.received ++ leBytes 4 (s.get Reg.CPX_FW_FLOOR.FLOOR))

/-- The reply of KEEPER_UPDATE_STATUS (R496). -/
def State.updateStatus (s : State) : Bytes :=
  leBytes 1 (s.get Reg.KST_SLOT.ACTIVE) ++ leBytes 1 (s.get Reg.KST_SLOT.CHECK) ++ zeros 2 ++ leBytes 4 (s.get Reg.KST_VER_A.VERSION) ++
    leBytes 4 (s.get Reg.KST_VER_B.VERSION) ++ leBytes 4 (s.get Reg.KST_ARB.COUNTER) ++ leBytes 2 (s.get Reg.KST_UPD.LAST_STATUS) ++
    leBytes 1 (s.get Reg.KST_UPD.RELAY)

/-- KEEPER_UPDATE_STATUS (R496). -/
def keeperUpdateStatusSpec : CmdSpec where
  opcode := Opc.KEEPER_UPDATE_STATUS
  rom := true
  srcs := [.owner, .head, .bmc, .chain]
  run := fun h _ s => s.done Opc.KEEPER_UPDATE_STATUS h s.updateStatus

/-! ## Epochs -/

/-- An entry of EPOCH_LIST (R499). RACK and IN_RESTORE read 0 where the SEAL record cannot be read. -/
def Image.entry (i : Image) : Bytes :=
  leBytes 6 i.number ++
    leBytes 1 (ofBool (i.rack && i.sealReadable) + 2 * ofBool (i.inRestore && i.sealReadable) + 4 * ofBool i.readable) ++ zeros 1

/-- EPOCH_LIST (R499). -/
def epochListSpec : CmdSpec where
  opcode := Opc.EPOCH_LIST
  srcs := [.owner, .head, .bmc, .chain]
  ready := fun s => s.ready Reg.GLB_READY.IMAGE_INDEXED
  run := fun h _ s =>
    let epochs := s.flash.images.filter fun i => !i.cut
    let cut := s.flash.images.find? fun i => i.cut
    s.done Opc.EPOCH_LIST h (leBytes 6 (s.pair Reg.GLB_IMAGE_EPOCH_LO.LO Reg.GLB_IMAGE_EPOCH_HI.HI) ++
      leBytes 1 (s.get Reg.GLB_IMAGE.SOURCE) ++ leBytes 1 (s.get Reg.GLB_IMAGE.REASON) ++
      leBytes 6 (s.pair Reg.GLB_OPEN_EPOCH_LO.LO Reg.GLB_OPEN_EPOCH_HI.HI) ++
      leBytes 6 (s.pair Reg.GLB_DUR_EPOCH_LO.LO Reg.GLB_DUR_EPOCH_HI.HI) ++ leBytes 1 epochs.length ++
      leBytes 1 (ofBool cut.isSome + 2 * ofBool ((cut.map Image.readable).getD false)) ++ leBytes 6 ((cut.map Image.number).getD 0) ++
      epochs.flatMap Image.entry)

/-! ## Regions -/

/-- An extent matches a REGION_LIST (R501): every extent that names the logical device, or is in the state. -/
def State.listed (s : State) (selector value e : Nat) : Bool :=
  if selector == 1 then s.extCode e == value
  else match NMap.find? s.rgn.exts e with
    | some x => x.ld == value && x.st != .free && decide (e < s.mappable)
    | none => false

/-- REGION_LIST (R476, R501). -/
def regionListSpec : CmdSpec where
  opcode := Opc.REGION_LIST
  srcs := headsBmc
  layout := fun _ => 4
  bad := fun h _ _ =>
    let selector := byteAt h.payload 0
    let value := byteAt h.payload 1
    !((selector == 0 && decide (value < 16)) || (selector == 1 && decide (value < 8)))
  run := fun h _ s =>
    let l := (List.range 32768).filter fun e => s.listed (byteAt h.payload 0) (byteAt h.payload 1) e
    let part := (l.drop (fieldAt h.payload 2 2)).take ((portLimit h.port - 4) / 6)
    s.done Opc.REGION_LIST h (leBytes 2 l.length ++ leBytes 2 part.length ++ part.flatMap fun e => leBytes 2 e ++ leBytes 4 (s.extWord e))

/-! ## Reserve -/

/-- The state of charge in 0.1 % (R503): the model's in FULL mode, otherwise E_TAB(V_oc) over E_TAB(13.60 V). -/
def State.soc (s : State) : Nat :=
  if s.get Reg.GLB_ARM.MODE == 2 then s.rsv.soc else natFloor (1000 * eTab s.vOc / eTab 13600)

/-- RESERVE_STATUS (R503): the internal resistance is R_LRN25 × F_R(T_K), rounded down (log entry 10). -/
def reserveStatusSpec : CmdSpec where
  opcode := Opc.RESERVE_STATUS
  srcs := allSrcs
  run := fun h _ s =>
    let flags := s.get Reg.RSV_STAT.PRESENT + 2 * s.get Reg.GLB_READY.RESERVE_OK + 4 * s.get Reg.RSV_STAT.CHARGING +
      8 * s.get Reg.RSV_STAT.REST_REQ + 16 * s.get Reg.RSV_STAT.REST_ACTIVE
    s.done Opc.RESERVE_STATUS h (leBytes 1 flags ++ leBytes 1 (s.get Reg.RSV_STAT.PROFILE) ++ leBytes 2 (s.get Reg.RSV_MEAS.PACK_MV) ++
      leBytes 2 (s.get Reg.RSV_TEMP.PACK_T) ++ leBytes 2 s.soc ++ leBytes 2 (s.get Reg.RSV_UNC.U_USED) ++
      leBytes 2 (s.get Reg.DRP_RES_P.P_WC) ++ leBytes 4 (s.get Reg.DRP_RES_E.E_WC) ++
      leBytes 2 (natFloor (s.get Reg.RSV_LRN_R.R_LRN25 * fR s.tK)) ++ leBytes 2 (s.get Reg.RSV_LRN_CAP.CAP_MAH) ++
      leBytes 4 (s.get Reg.RSV_REST.CLOCK_S))

/-! ## Events -/

/-- Records of an area from a number on; 0 starts at the oldest (R505). -/
def Evr.fromSeq (e : Evr) (area first : Nat) : List EvRecord := (e.area area).filter fun r => decide (first ≤ r.seq)

/-- The number that follows the last record returned (R505). -/
def Evr.follow (e : Evr) (area first : Nat) (l : List EvRecord) : Nat :=
  match l.getLast? with
  | some r => r.seq + 1
  | none => if first == 0 then ((e.area area).head?.map EvRecord.seq).getD e.next else first

/-- EVENT_READ (R476, R505). -/
def eventReadSpec : CmdSpec where
  opcode := Opc.EVENT_READ
  srcs := allSrcs
  layout := fun _ => 10
  bad := fun h _ _ => decide (2 < byteAt h.payload 0)
  run := fun h _ s =>
    let area := byteAt h.payload 0
    let first := fieldAt h.payload 4 6
    let l := (s.evr.fromSeq area first).take (min (fieldAt h.payload 2 2) ((portLimit h.port - 8) / 32))
    s.done Opc.EVENT_READ h (leBytes 2 l.length ++ leBytes 6 (s.evr.follow area first l) ++ l.flatMap EvRecord.bytes)

/-! ## DRAM, training and flash -/

/-- DRAM_STATUS (R506). -/
def dramStatusSpec : CmdSpec where
  opcode := Opc.DRAM_STATUS
  srcs := headsBmc
  run := fun h _ s =>
    s.done Opc.DRAM_STATUS h ((List.range 8).flatMap (fun c =>
      s.regBytes (Reg.DMC_CFG.MODULE c).off ++ s.regBytes (Reg.DMC_STAT.UP c).off ++ s.regBytes (Reg.DMC_SPARE.STATE c).off ++
        s.regBytes (Reg.DMC_MIG_WM.WM_4K c).off) ++
      s.regBytes Reg.DMC_MAP.BASE.off ++ s.regBytes Reg.TRN_STAT.BIN.off ++ s.regBytes (Reg.TRN_CH_SRC.SRC 0).off)

/-- DELAY_SET_LIST (R420, R506). -/
def delaySetListSpec : CmdSpec where
  opcode := Opc.DELAY_SET_LIST
  srcs := headsBmc
  fw := true
  entry := fun _ => true
  run := fun h _ s =>
    s.done Opc.DELAY_SET_LIST h (s.regBytes Reg.TRN_SETS.MATCH.off ++ (List.range 5).flatMap fun k =>
      match NMap.find? s.kst.sets k with
      | some d => leBytes 1 d.bin ++ leBytes 1 (1 + 2 * ofBool d.matching) ++ zeros 2 ++ leBytes 4 d.signature
      | none => zeros 8)

/-- FLASH_STATUS (R507). The wear of the blocks is no state of the model: two free values. -/
def flashStatusSpec : CmdSpec where
  opcode := Opc.FLASH_STATUS
  srcs := headsBmc
  run := fun h _ s =>
    let mean := s.free
    let s := s.tick
    let most := s.free
    let s := s.tick
    s.done Opc.FLASH_STATUS h (s.regBytes 0x440000 ++ s.regBytes 0x440004 ++ s.regBytes 0x440008 ++ s.regBytes 0x44001C ++
      s.regBytes 0x440014 ++ s.regBytes 0x440018 ++ s.regBytes 0x310010 ++
      leBytes 4 (maskOf 32 fun n => s.flag (Reg.NFC_CH_STAT.FAILED n)) ++ leBytes 2 mean ++ leBytes 2 most)

/-! ## Power and sideband -/

/-- The entry of a rail (R509). -/
def State.railEntry (s : State) (n : Nat) : Bytes :=
  leBytes 2 (s.get (Reg.PWR_RAIL_CTL.SNS_MV n)) ++
    leBytes 1 (s.get (Reg.PWR_RAIL_CTL.EN n) + 2 * s.get (Reg.PWR_RAIL_CTL.PG n) + 4 * s.get (Reg.PWR_RAIL_CTL.WARN n) +
      8 * s.get (Reg.PWR_RAIL_CTL.FAULT n)) ++
    leBytes 1 (s.get (Reg.PWR_RAIL_CTL.RANK n)) ++ leBytes 2 (s.get (Reg.PWR_RAIL_LVL.WARN_MV n)) ++
    leBytes 2 (s.get (Reg.PWR_RAIL_LVL.FAULT_MV n))

/-- RAIL_STATUS (R509). -/
def railStatusSpec : CmdSpec where
  opcode := Opc.RAIL_STATUS
  srcs := [.owner, .head, .bmc, .chain]
  run := fun h _ s =>
    s.tick.done Opc.RAIL_STATUS h ((List.range 16).flatMap s.railEntry ++ leBytes 2 (s.get Reg.PWR_VIN.VIN_MV) ++
      leBytes 2 (s.get Reg.PWR_VSUP.VSUP_MV) ++ leBytes 2 (signed 16 s.dieTenthC))

/-- SIDEBAND_STATUS (R510): the counts restart with the read. -/
def sidebandStatusSpec : CmdSpec where
  opcode := Opc.SIDEBAND_STATUS
  srcs := allSrcs
  run := fun h _ s =>
    let up := s.get (Reg.TWI_STAT.UP 0) + 2 * s.get (Reg.TWI_STAT.UP 1) + 4 * s.get (Reg.TWI_STAT.UP 2) +
      8 * s.get Reg.NCH_CHAIN_STAT.UP_LINK + 16 * s.get Reg.NCH_CHAIN_STAT.DN_LINK + 32 * s.get Reg.GLB_READY.BEACON_LOCK
    let payload := leBytes 1 up ++ leBytes 1 (maskOf 3 fun p => s.flag (Reg.TWI_STAT.DISABLED p)) ++
      leBytes 2 (s.get Reg.NCH_CHAIN_CNT.RELAYED) ++ leBytes 2 (s.get Reg.NCH_CHAIN_CNT.DISCARD)
    (s.putAll [(Reg.NCH_CHAIN_CNT.RELAYED, 0), (Reg.NCH_CHAIN_CNT.DISCARD, 0)]).done Opc.SIDEBAND_STATUS h payload

/-! ## Diagnostics -/

/-- ECHO (R512). -/
def echoSpec : CmdSpec where
  opcode := Opc.ECHO
  srcs := allSrcs
  run := fun h _ s => s.done Opc.ECHO h h.payload

/-- The register requester that a source stands for (R513). -/
def reqOf : Src → Req
  | .keeper => .keeper
  | .chain => .chain
  | _ => .bmc

/-- Read registers one after another. -/
def State.readWords (s : State) (r : Req) : Nat → Nat → Bytes × State
  | 0, _ => ([], s)
  | n + 1, off =>
    let (v, s) := s.busRead r off 4
    let (rest, s) := State.readWords s r n (off + 4)
    (leBytes 4 v ++ rest, s)

/-- REG_READ (R512, R513). -/
def regReadSpec : CmdSpec where
  opcode := Opc.REG_READ
  srcs := [.bmc, .chain]
  layout := fun _ => 6
  bad := fun h _ _ =>
    fieldAt h.payload 0 4 % 4 != 0 || fieldAt h.payload 4 2 == 0 || decide (16 < fieldAt h.payload 4 2)
  run := fun h src s =>
    let (b, s) := s.readWords (reqOf src) (fieldAt h.payload 4 2) (fieldAt h.payload 0 4)
    s.done Opc.REG_READ h b

/-- REG_WRITE (R512, R513): DONE even where the write is discarded. -/
def regWriteSpec : CmdSpec where
  opcode := Opc.REG_WRITE
  srcs := [.bmc]
  layout := fun _ => 8
  bad := fun h _ _ => fieldAt h.payload 0 4 % 4 != 0
  run := fun h src s => (s.busWrite (reqOf src) (fieldAt h.payload 0 4) 4 (fieldAt h.payload 4 4)).done Opc.REG_WRITE h []

/-! ## The commands -/

/-- IDENTIFY. -/
def execIdentify (h : Hdr) (s : State) : Res := .next (s.runSpec identifySpec h)
/-- READY_GET. -/
def execReadyGet (h : Hdr) (s : State) : Res := .next (s.runSpec readyGetSpec h)
/-- RESULT_GET. -/
def execResultGet (h : Hdr) (s : State) : Res := .next (s.runSpec resultGetSpec h)
/-- FW_STATUS. -/
def execFwStatus (h : Hdr) (s : State) : Res := .next (s.runSpec fwStatusSpec h)
/-- KEEPER_UPDATE_STATUS. -/
def execKeeperUpdateStatus (h : Hdr) (s : State) : Res := .next (s.runSpec keeperUpdateStatusSpec h)
/-- EPOCH_LIST. -/
def execEpochList (h : Hdr) (s : State) : Res := .next (s.runSpec epochListSpec h)
/-- REGION_LIST. -/
def execRegionList (h : Hdr) (s : State) : Res := .next (s.runSpec regionListSpec h)
/-- RESERVE_STATUS. -/
def execReserveStatus (h : Hdr) (s : State) : Res := .next (s.runSpec reserveStatusSpec h)
/-- EVENT_READ. -/
def execEventRead (h : Hdr) (s : State) : Res := .next (s.runSpec eventReadSpec h)
/-- DRAM_STATUS. -/
def execDramStatus (h : Hdr) (s : State) : Res := .next (s.runSpec dramStatusSpec h)
/-- DELAY_SET_LIST. -/
def execDelaySetList (h : Hdr) (s : State) : Res := .next (s.runSpec delaySetListSpec h)
/-- FLASH_STATUS. -/
def execFlashStatus (h : Hdr) (s : State) : Res := .next (s.runSpec flashStatusSpec h)
/-- RAIL_STATUS. -/
def execRailStatus (h : Hdr) (s : State) : Res := .next (s.runSpec railStatusSpec h)
/-- SIDEBAND_STATUS. -/
def execSidebandStatus (h : Hdr) (s : State) : Res := .next (s.runSpec sidebandStatusSpec h)
/-- ECHO. -/
def execEcho (h : Hdr) (s : State) : Res := .next (s.runSpec echoSpec h)
/-- REG_READ. -/
def execRegRead (h : Hdr) (s : State) : Res := .next (s.runSpec regReadSpec h)
/-- REG_WRITE. -/
def execRegWrite (h : Hdr) (s : State) : Res := .next (s.runSpec regWriteSpec h)

end Sys2Proof.Machine
end

