-- ==== Sys2Proof/Machine/CmdPersist.lean ====
section
/-! DEFINITION. Persistence and epoch commands, 0x03xx (R80–R104, R207, R285, R499, R500). -/

namespace Sys2Proof.Machine

open Host

/-! ## Configuration -/

/-- The values of PERSIST_CONFIG; naming AUTO_ARM clears ARM_HOLD (R96). -/
def persistVals (p : Bytes) : List (Fld × Nat) :=
  named [⟨0, Reg.GLB_ARM.POLICY, 1, 1⟩, ⟨1, Reg.GLB_ARM.AUTO_ARM, 2, 1⟩] (byteAt p 0) p ++
    if bitOf (byteAt p 0) 1 then [(Reg.GLB_ARM.ARM_HOLD, 0)] else []

/-- PERSIST_CONFIG (R96, R499). -/
def persistConfigSpec : CmdSpec :=
  configSpec Opc.PERSIST_CONFIG 1 6 persistVals (fun p => if bitOf (byteAt p 0) 2 then some (fieldAt p 4 2) else none) noClash

/-- BUDGET_CONFIG (R154, R499). -/
def budgetConfigSpec : CmdSpec :=
  configSpec Opc.BUDGET_CONFIG 1 3
    (fun p => named [⟨0, Reg.DRP_CFG.BUDGET_CFG, 1, 1⟩, ⟨1, Reg.DRP_CFG.EARLY_PCT, 2, 1⟩] (byteAt p 0) p) noWait noClash

/-- WEAR_CONFIG (R160, R499). -/
def wearConfigSpec : CmdSpec :=
  configSpec Opc.WEAR_CONFIG 1 3
    (fun p => named [⟨0, Reg.DRP_WEAR_CFG.AVG_RATE, 1, 1⟩, ⟨1, Reg.DRP_WEAR_CFG.PEAK_MIN, 2, 1⟩] (byteAt p 0) p) noWait noClash

/-- P_BASE ≥ P_FULL or T_FIX ≥ T_MAX among the values that a command would leave (R153). -/
def modelClash (s : State) (l : List (Fld × Nat)) : Bool :=
  decide (s.wouldBe l Reg.DRP_MODEL_P.P_FULL ≤ s.wouldBe l Reg.DRP_MODEL_P.P_BASE) ||
    decide (s.wouldBe l Reg.DRP_MODEL_T.T_MAX ≤ s.wouldBe l Reg.DRP_MODEL_T.T_FIX)

/-- SAVE_MODEL_CONFIG (R153, R160, R499). -/
def saveModelConfigSpec : CmdSpec :=
  configSpec Opc.SAVE_MODEL_CONFIG 1 10
    (fun p => named [
      ⟨0, Reg.DRP_MODEL_P.P_FULL, 2, 2⟩, ⟨0, Reg.DRP_MODEL_P.P_BASE, 4, 2⟩, ⟨1, Reg.DRP_MODEL_T.T_FIX, 6, 2⟩,
      ⟨1, Reg.DRP_MODEL_T.T_MAX, 8, 2⟩] (byteAt p 0) p) noWait modelClash

/-- EPOCH_CONFIG (R200, R203, R499). -/
def epochConfigSpec : CmdSpec :=
  configSpec Opc.EPOCH_CONFIG 1 8
    (fun p => named [
      ⟨0, Reg.DRP_BND_CFG.PERIOD_MS, 2, 2⟩, ⟨1, Reg.DRP_BND_CFG.CARAFE_WAIT, 4, 2⟩, ⟨2, Reg.DRP_BND_CFG.TIMING, 6, 1⟩,
      ⟨3, Reg.DRP_CAR_CFG.NEXT_GIB, 7, 1⟩] (byteAt p 0) p) noWait noClash

/-- SAVE_CONFIG (R251, R499). -/
def saveConfigSpec : CmdSpec :=
  configSpec Opc.SAVE_CONFIG 1 4
    (fun p => named [⟨0, Reg.SAV_CFG.GRACE_MS, 1, 1⟩, ⟨1, Reg.SAV_CFG.GPF_SRC, 2, 1⟩, ⟨2, Reg.SAV_CFG.PANIC_SLOTS, 3, 1⟩]
      (byteAt p 0) p) noWait noClash

/-- The values of RESTORE_CONFIG; bit 2 names every priority of RSE_LD_PRIO (R291). -/
def restoreVals (p : Bytes) : List (Fld × Nat) :=
  named [⟨0, Reg.RSE_CFG.FI_RETRY, 1, 1⟩, ⟨1, Reg.RSE_CFG.PANIC_SLOTS, 2, 1⟩] (byteAt p 0) p ++
    if bitOf (byteAt p 0) 2 then (List.range 16).map fun n => (Reg.RSE_LD_PRIO.PRIO n, bitsOf (fieldAt p 4 4) (2 * n) 2) else []

/-- RESTORE_CONFIG (R289, R291, R499). -/
def restoreConfigSpec : CmdSpec := configSpec Opc.RESTORE_CONFIG 1 8 restoreVals noWait noClash

/-! ## Arming -/

/-- ARM (R86, R499). -/
def armSpec : CmdSpec where
  opcode := Opc.ARM
  srcs := ownerBmc
  ready := fun s => s.ready Reg.GLB_READY.PERSIST_ARMED || (s.tryArm.isSome && (s.armable || s.saving))
  early := notSaving
  run := fun h _ s =>
    let armed := s.ready Reg.GLB_READY.PERSIST_ARMED
    let s := (s.put Reg.GLB_ARM.ARM_HOLD 0).done Opc.ARM h []
    if armed then s else s.tryArm.getD s

/-- DISARM (R37, R89, R499): the figures follow the change of MODE (R128). -/
def disarmSpec : CmdSpec where
  opcode := Opc.DISARM
  srcs := ownerBmc
  early := notSaving
  run := fun h _ s =>
    let armed := s.ready Reg.GLB_READY.PERSIST_ARMED
    let fog := s.fogged
    let s := (s.put Reg.GLB_ARM.ARM_HOLD 1).done Opc.DISARM h []
    if !armed then s
    else if fog then s.disarm.recompute.settle
    else s.disarm.takeFigure.settle

/-! ## Barriers (R99–R101) -/

/-- A boundary for a barrier without BEACON lock (R100, R166, R203): at once, or as soon as no epoch seals. -/
def State.barrierBoundary (s : State) : State :=
  if !s.localTiming || !s.epochsRun then s else s.boundaryDue.settle

/-- SEAL_BARRIER (R99–R101, R104, R499). -/
def sealBarrierSpec : CmdSpec where
  opcode := Opc.SEAL_BARRIER
  srcs := [.owner, .head]
  entry := fun _ => true
  ready := fun s => s.drp.openEpoch != 0
  run := fun h _ s =>
    let s := s.accept Opc.SEAL_BARRIER h
    State.barrierBoundary { s with cmd := { s.cmd with barriers := s.cmd.barriers ++ [(h.port, h.tag, none)] } }

/-! ## Choice of the image (R80–R84) -/

/-- The RESTORE_SELECT window is closed; a timed shutdown in progress closes it too. -/
def windowClosed : Hdr → Src → State → Option Status := fun _ _ s =>
  if s.flag Reg.GLB_IMAGE.SELECT_OPEN && !s.pwr.underway then none else some .denied

/-- The image that a RESTORE_SELECT names, where it is retained and readable (R82, R500). -/
def State.selected (s : State) (p : Bytes) : Option Image :=
  if byteAt p 6 ≤ 1 then
    s.flash.images.find? fun i => i.cut == (byteAt p 6 == 1) && i.number == fieldAt p 0 6 && i.readable
  else none

/-- RESTORE_SELECT (R82, R499, R500). -/
def restoreSelectSpec : CmdSpec where
  opcode := Opc.RESTORE_SELECT
  srcs := [.owner]
  layout := fun _ => 7
  ready := fun s => s.ready Reg.GLB_READY.IMAGE_INDEXED
  early := notSaving
  busy := windowClosed
  bad := fun h _ s => (s.selected h.payload).isNone
  run := fun h _ s =>
    match s.selected h.payload with
    | none => s
    | some i =>
      let s := (s.chooseImage i).putAll [
        (Reg.GLB_IMAGE.SOURCE, if i.cut then 1 else 2), (Reg.GLB_IMAGE.REASON, if i.cut then 0 else 4), (Reg.GLB_IMAGE.OLDER, 0)]
      s.closeWindow.done Opc.RESTORE_SELECT h []

/-- RESTORE_PROCEED (R80, R103, R499). -/
def restoreProceedSpec : CmdSpec where
  opcode := Opc.RESTORE_PROCEED
  srcs := [.owner]
  ready := fun s => s.ready Reg.GLB_READY.IMAGE_INDEXED
  early := notSaving
  busy := windowClosed
  run := fun h _ s => s.closeWindow.done Opc.RESTORE_PROCEED h []

/-- LOSS_ACCEPT (R285, R499): it completes when the device enters UNARMED. A timed shutdown in progress refuses it. -/
def lossAcceptSpec : CmdSpec where
  opcode := Opc.LOSS_ACCEPT
  srcs := [.owner]
  entry := fun _ => true
  layout := fun _ => 1
  busy := fun _ _ s => if s.pstate == PState.LOST && !s.pwr.underway then none else some .denied
  run := fun h _ s =>
    ((s.accept Opc.LOSS_ACCEPT h).acceptLoss (bitOf (byteAt h.payload 0) 0)).completeFor (originOf h) .done []

/-- FOGHORN_RAISE (R207, R499): the reply leaves first. -/
def foghornRaiseSpec : CmdSpec where
  opcode := Opc.FOGHORN_RAISE
  srcs := ownerBmc
  layout := fun _ => 4
  early := notSaving
  run := fun h _ s =>
    (s.done Opc.FOGHORN_RAISE h []).foghorn Fog.COMMAND (bitOf (byteAt h.payload 0) 0) (fieldAt h.payload 2 2)

/-! ## The commands -/

/-- PERSIST_CONFIG. -/
def execPersistConfig (h : Hdr) (s : State) : Res := .next (s.runSpec persistConfigSpec h)
/-- ARM. -/
def execArm (h : Hdr) (s : State) : Res := .next (s.runSpec armSpec h)
/-- DISARM. -/
def execDisarm (h : Hdr) (s : State) : Res := .next (s.runSpec disarmSpec h)
/-- SEAL_BARRIER. -/
def execSealBarrier (h : Hdr) (s : State) : Res := .next (s.runSpec sealBarrierSpec h)
/-- RESTORE_SELECT. -/
def execRestoreSelect (h : Hdr) (s : State) : Res := .next (s.runSpec restoreSelectSpec h)
/-- RESTORE_PROCEED. -/
def execRestoreProceed (h : Hdr) (s : State) : Res := .next (s.runSpec restoreProceedSpec h)
/-- LOSS_ACCEPT. -/
def execLossAccept (h : Hdr) (s : State) : Res := .next (s.runSpec lossAcceptSpec h)
/-- BUDGET_CONFIG. -/
def execBudgetConfig (h : Hdr) (s : State) : Res := .next (s.runSpec budgetConfigSpec h)
/-- WEAR_CONFIG. -/
def execWearConfig (h : Hdr) (s : State) : Res := .next (s.runSpec wearConfigSpec h)
/-- SAVE_MODEL_CONFIG. -/
def execSaveModelConfig (h : Hdr) (s : State) : Res := .next (s.runSpec saveModelConfigSpec h)
/-- EPOCH_CONFIG. -/
def execEpochConfig (h : Hdr) (s : State) : Res := .next (s.runSpec epochConfigSpec h)
/-- SAVE_CONFIG. -/
def execSaveConfig (h : Hdr) (s : State) : Res := .next (s.runSpec saveConfigSpec h)
/-- RESTORE_CONFIG. -/
def execRestoreConfig (h : Hdr) (s : State) : Res := .next (s.runSpec restoreConfigSpec h)
/-- FOGHORN_RAISE. -/
def execFoghornRaise (h : Hdr) (s : State) : Res := .next (s.runSpec foghornRaiseSpec h)

end Sys2Proof.Machine
end

