-- ==== Sys2Proof/Machine/CmdRegion.lean ====
section
/-! DEFINITION. Region and head commands, 0x04xx (R430, R431, R442–R447, R464, R501, R502), and the FM API commands with
their effect. -/

namespace Sys2Proof.Machine

open Host

/-! ## Logical devices and the owner -/

/-- A head exists under a bifurcation: bit 0 HP0, bit 1 HP1 (R424). -/
def headUnder (bifur h : Nat) : Bool := decide (h < 4) && (h % 2 == 0 || bitOf bifur (h / 2))

/-- The logical devices that LD_CONFIG would leave for the next cold start (R430). -/
def State.ldAfter (s : State) (p : Bytes) : NMap LdNext :=
  let ld := byteAt p 0
  if bitOf (byteAt p 1) 0 then NMap.insert s.kst.ldNext ld ⟨byteAt p 2, fieldAt p 4 2, fieldAt p 6 2⟩ else NMap.erase s.kst.ldNext ld

/-- The bifurcation that LD_CONFIG would leave for the next cold start. -/
def State.bifurAfter (s : State) (p : Bytes) : Nat :=
  if bitOf (byteAt p 1) 2 then byteAt p 3 % 4 else s.get Reg.HIF_CFG.NEXT_BIFUR0 + 2 * s.get Reg.HIF_CFG.NEXT_BIFUR1

/-- The cases of R502, and a logical device or a head that no part has. -/
def State.ldConfigBad (s : State) (p : Bytes) : Bool :=
  let after := s.ldAfter p
  decide (15 < byteAt p 0) || after.any (fun (e : Nat × LdNext) => !headUnder (s.bifurAfter p) e.2.head) ||
    after.any (fun (e : Nat × LdNext) => decide (32767 < e.2.stat + e.2.dcMax)) || decide (s.mappable < (after.map fun (e : Nat × LdNext) => e.2.stat).sum)

/-- LD_CONFIG (R430, R501, R502): record 4. -/
def ldConfigSpec : CmdSpec where
  opcode := Opc.LD_CONFIG
  srcs := ownerBmc
  entry := fun _ => true
  layout := fun _ => 8
  busy := fun _ _ s => s.recordBusy 4
  bad := fun h _ s => s.ldConfigBad h.payload
  run := fun h _ s =>
    let p := h.payload
    let f := byteAt p 1
    s.startWrite 4 (.ldConfig (byteAt p 0) (bitOf f 0) (bitOf f 1) (byteAt p 2) (fieldAt p 4 2) (fieldAt p 6 2)
      (if bitOf f 2 then some (byteAt p 3 % 4) else none)) h

/-- HEAD_OWNER_SET (R431, R432, R501): the owner is a head to which a logical device is bound. -/
def headOwnerSetSpec : CmdSpec where
  opcode := Opc.HEAD_OWNER_SET
  srcs := ownerBmc
  entry := fun _ => true
  layout := fun _ => 1
  busy := fun _ _ s => s.recordBusy 4
  bad := fun h _ s => !allLds.any fun ld => s.ldPresent ld && s.ldHead ld == byteAt h.payload 0
  run := fun h _ s => s.startWrite 4 (.owner (byteAt h.payload 0)) h

/-! ## Dynamic capacity -/

/-- The device extents that a payload lists from byte 4. -/
def listedExtents (p : Bytes) : List Nat := (List.range (fieldAt p 2 2)).map fun n => fieldAt p (4 + 2 * n) 2

/-- REGION_DC_ADD names its extents by list. -/
def byList (p : Bytes) : Bool := bitOf (byteAt p 1) 1

/-- An extent is part of an add or release in progress (R451). -/
def State.extPending (s : State) (e : Nat) : Bool :=
  (s.ext e).st == .addPending || (s.ext e).st == .releasePending

/-- The extents that an add takes (R442). -/
def State.addTakes (s : State) (p : Bytes) : List Nat :=
  if byList p then listedExtents p else s.freeExtents.take (fieldAt p 2 2)

/-- An add whose fields do not qualify: its logical device is absent, an extent may not be named or is named twice, or its
region has no room (R442 step 1). -/
def State.addBad (s : State) (p : Bytes) : Bool :=
  let ld := byteAt p 0
  let l := s.addTakes p
  decide (15 < ld) || !s.ldPresent ld || (byList p && !(l.all (s.mayAdd ld (bitOf (byteAt p 1) 0)) && decide l.Nodup)) ||
    decide ((s.freeLxns ld).length < fieldAt p 2 2)

/-- REGION_DC_ADD (R442–R444, R464, R501). Its reply follows the record write, or the 10 ms of R482. -/
def regionDcAddSpec : CmdSpec where
  opcode := Opc.REGION_DC_ADD
  srcs := ownerBmc
  entry := fun _ => true
  layout := fun p => if byList p then 4 + 2 * fieldAt p 2 2 else 4
  ready := fun s => s.ready Reg.GLB_READY.IMAGE_INDEXED
  early := notSaving
  busy := fun h _ s =>
    if byList h.payload then if (listedExtents h.payload).any s.extPending then some .busy else none
    else if s.freeExtents.length < fieldAt h.payload 2 2 then some .busy else none
  bad := fun h _ s => s.addBad h.payload
  run := fun h _ s =>
    s.offer (Fin.ofNat 16 (byteAt h.payload 0)) (s.addTakes h.payload) (originOf h)

/-- A release whose extents are not all MAPPED in the dynamic region of its logical device, once each (R445). -/
def State.releaseBad (s : State) (p : Bytes) : Bool :=
  let ld := byteAt p 0
  let l := listedExtents p
  decide (15 < ld) || !decide l.Nodup ||
    !l.all fun e => decide (e < s.mappable) && (s.ext e).st == .mapped && !(s.ext e).stat && (s.ext e).ld == ld

/-- BUSY_SAVING, then BUSY_RESTORING for an extent that is not ready (R268, R445). -/
def releaseEarly : Hdr → State → Option Status := fun h s =>
  if s.saving then some .busySaving
  else if (listedExtents h.payload).any fun e => (s.ext e).live && !s.extReady e then some .busyRestoring else none

/-- REGION_DC_RELEASE (R445–R447, R464, R501). -/
def regionDcReleaseSpec : CmdSpec where
  opcode := Opc.REGION_DC_RELEASE
  srcs := ownerBmc
  entry := fun _ => true
  layout := fun p => 4 + 2 * fieldAt p 2 2
  ready := fun s => s.ready Reg.GLB_READY.IMAGE_INDEXED
  early := releaseEarly
  busy := fun h _ s => if (listedExtents h.payload).any s.extPending then some .busy else none
  bad := fun h _ s => s.releaseBad h.payload
  run := fun h _ s =>
    let f := byteAt h.payload 1
    (s.accept Opc.REGION_DC_RELEASE h).askRelease (Fin.ofNat 16 (byteAt h.payload 0)) (listedExtents h.payload) (bitOf f 0) (bitOf f 1)
      (originOf h)

/-- A header comes through the FM-owned logical device of the owner head. -/
def State.fromOwnerFm (s : State) : Port → Bool
  | .fmOwned h => s.owner == h.val
  | _ => false

/-! ## The commands -/

/-- LD_CONFIG. -/
def execLdConfig (h : Hdr) (s : State) : Res := .next (s.runSpec ldConfigSpec h)
/-- HEAD_OWNER_SET. -/
def execHeadOwnerSet (h : Hdr) (s : State) : Res := .next (s.runSpec headOwnerSetSpec h)
/-- REGION_DC_ADD. -/
def execRegionDcAdd (h : Hdr) (s : State) : Res := .next (s.runSpec regionDcAddSpec h)
/-- REGION_DC_RELEASE. -/
def execRegionDcRelease (h : Hdr) (s : State) : Res := .next (s.runSpec regionDcReleaseSpec h)
/-- Initiate Dynamic Capacity Add: the effect of REGION_DC_ADD, through the owner head's FM-owned logical device. -/
def execInitiateDynamicCapacityAdd (h : Hdr) (s : State) : Res :=
  if s.fromOwnerFm h.port then .next (s.runSpec regionDcAddSpec h) else s.idle
/-- Initiate Dynamic Capacity Release: the effect of REGION_DC_RELEASE, through the owner head's FM-owned logical device. -/
def execInitiateDynamicCapacityRelease (h : Hdr) (s : State) : Res :=
  if s.fromOwnerFm h.port then .next (s.runSpec regionDcReleaseSpec h) else s.idle

end Sys2Proof.Machine
end

