-- ==== Sys2Proof/Machine/CmdReserve.lean ====
section
/-! DEFINITION. Reserve commands, 0x05xx (R503, R504, R640–R651). -/

namespace Sys2Proof.Machine

open Host

/-! ## RESERVE_FIGURE -/

/-- A value has changed by at least 0.5 % (R655). -/
def muchChanged (old new : Nat) : Bool := old != new && (decide (old ≤ 200 * (new - old)) || decide (old ≤ 200 * (old - new)))

/-- Move by one quarter of the difference, rounded down (log entry 10). -/
def quarter (old new : Nat) : Nat := ((old : Int) + ((new : Int) - old) / 4).toNat

/-- A proposed capacity (R650, R651): 60 to 100 % of the rated one. -/
def State.learnCapacity (s : State) : State :=
  let c := s.get Reg.RSV_FW_CAP.CAP_MAH
  let old := s.get Reg.RSV_LRN_CAP.CAP_MAH
  let kind := s.get Reg.RSV_FW_CAP.KIND
  if kind == 0 then s
  else if (kind == 1 || kind == 2) && decide (Pack.cRated * 6 ≤ 10 * c) && decide (c ≤ Pack.cRated) then
    let new := if s.flag Reg.RSV_STAT.NEW_PACK then c else quarter old c
    let s := ((s.put Reg.RSV_LRN_CAP.CAP_MAH new).count Reg.RSV_LRN_CAP.SAMPLES 1).put Reg.RSV_STAT.NEW_PACK 0
    if muchChanged old new then s.writeLearned else s
  else s.record Ev.LEARN_REJECT wide []

/-- A proposed resistance (R651): R_BOL25 to 4 × R_EOL25. -/
def State.learnResistance (s : State) : State :=
  let r := s.get Reg.RSV_FW_RINT.R25
  let old := s.get Reg.RSV_LRN_R.R_LRN25
  if r == 0 then s
  else if decide (Pack.rBol ≤ r) && decide (r ≤ 4 * Pack.rEol) then
    let new := quarter old r
    let s := s.put Reg.RSV_LRN_R.R_LRN25 new
    if muchChanged old new then s.writeLearned else s
  else s.record Ev.LEARN_REJECT wide []

/-- The RSV_FW registers are taken and the proposals cleared (R646). -/
def State.takeProposals (s : State) : State :=
  let s := { s with rsv := { s.rsv with soc := s.get Reg.RSV_FW_SOC.SOC_PERMIL } }.learnCapacity.learnResistance
  s.putAll [(Reg.RSV_FW_CAP.KIND, 0), (Reg.RSV_FW_RINT.R25, 0)]

/-- The figure of a payload as submitted: W, J, permil. -/
def figureOf (p : Bytes) : Nat × Nat × Nat := (fieldAt p 0 2, fieldAt p 2 4, fieldAt p 6 2)

/-- What the used values of a figure clamp (R647, R658): P, E, and u raised. -/
def clamps (f used : Nat × Nat × Nat) : Bool × Bool × Bool :=
  (used.1 != f.1 * 1000, used.2.1 != f.2.1 * 1000, used.2.2 != f.2.2)

/-- FIGURE_CLAMPED for each clamp: the submitted and the used value. -/
def State.recordClamps (s : State) (f used : Nat × Nat × Nat) : State :=
  let c := clamps f used
  let s := if c.1 then s.record Ev.FIGURE_CLAMPED wide [(2, f.1), (2, used.1 / 1000)] else s
  let s := if c.2.1 then s.record Ev.FIGURE_CLAMPED wide [(4, f.2.1), (4, used.2.1 / 1000)] else s
  if c.2.2 then s.record Ev.FIGURE_CLAMPED wide [(2, f.2.2), (2, used.2.2)] else s

/-- A figure is accepted (R132, R647, R652): it is held, MODE follows R88, and outside t_F it comes into use. -/
def State.holdFigure (s : State) (f used : Nat × Nat × Nat) (seq : Nat) : State :=
  let c := clamps f used
  let s := { s with rsv := { s.rsv with accepted := some f, seq := seq } }.putAll [
    (Reg.RSV_FIG.SEQ_LO, seq), (Reg.RSV_STAT.FW_FIG, 1), (Reg.RSV_FIG.P_CLAMP, ofBool c.1), (Reg.RSV_FIG.E_CLAMP, ofBool c.2.1),
    (Reg.RSV_FIG.U_RAISED, ofBool c.2.2)]
  let s := if s.get Reg.GLB_ARM.MODE == 1 then s.put Reg.GLB_ARM.MODE 2 else s
  if s.fogged then s else s.takeFigure.settle

/-- The reply of RESERVE_FIGURE: the outcome and the values used, in whole units (log entry 10). -/
def figureReply (f used : Nat × Nat × Nat) : Bytes :=
  let c := clamps f used
  leBytes 1 (ofBool (c.1 || c.2.1 || c.2.2)) ++ [0] ++ leBytes 2 (used.1 / 1000) ++ leBytes 4 (used.2.1 / 1000)

/-- RESERVE_FIGURE (R503, R645–R647). -/
def reserveFigureSpec : CmdSpec where
  opcode := Opc.RESERVE_FIGURE
  srcs := [.fw]
  layout := fun _ => 12
  bad := fun h _ s => decide (1000 < fieldAt h.payload 6 2) || decide (fieldAt h.payload 8 4 ≤ s.rsv.seq)
  run := fun h _ s =>
    let f := figureOf h.payload
    let s := s.takeProposals
    let used := s.usedOf f
    ((s.recordClamps f used).holdFigure f used (fieldAt h.payload 8 4)).done Opc.RESERVE_FIGURE h (figureReply f used)

/-! ## Configuration and rests -/

/-- RESERVE_CONFIG (R503): record 5. -/
def reserveConfigSpec : CmdSpec :=
  configSpec Opc.RESERVE_CONFIG 5 6
    (fun p => named [⟨0, Reg.RSV_CFG.CHARGE_EN, 1, 1⟩, ⟨1, Reg.RSV_CFG.REST_ALLOWED, 2, 1⟩, ⟨2, Reg.RSV_CFG.CHG_LIMIT, 4, 2⟩]
      (byteAt p 0) p) noWait noClash

/-- A command that runtime firmware is executing (R492). -/
def State.firmwareRuns (s : State) (op : Nat) (h : Hdr) : State :=
  { s with cpx := { s.cpx with executing := s.cpx.executing ++ [(h.port, h.tag)] } }.emit (.toFirmware op h.port h.tag h.payload)

/-- RESERVE_REST (R503, R504, R642): runtime firmware hands the rest to the Keeper. -/
def reserveRestSpec : CmdSpec where
  opcode := Opc.RESERVE_REST
  srcs := ownerBmc
  fw := true
  entry := fun _ => true
  early := notSaving
  busy := fun _ _ s => if s.flag Reg.RSV_STAT.REST_ACTIVE then some .busy else none
  run := fun h _ s => ((s.accept Opc.RESERVE_REST h).firmwareRuns Opc.RESERVE_REST h).startRest (originOf h)

/-! ## The commands -/

/-- RESERVE_FIGURE. -/
def execReserveFigure (h : Hdr) (s : State) : Res := .next (s.runSpec reserveFigureSpec h)
/-- RESERVE_CONFIG. -/
def execReserveConfig (h : Hdr) (s : State) : Res := .next (s.runSpec reserveConfigSpec h)
/-- RESERVE_REST. -/
def execReserveRest (h : Hdr) (s : State) : Res := .next (s.runSpec reserveRestSpec h)

end Sys2Proof.Machine
end

