-- ==== Sys2Proof/Machine/CmdConf.lean ====
section
/-! DEFINITION. Event commands, 0x06xx (R505, R717, R721), and the configuration of DRAM, flash, rails and sideband
(R506–R511, R588). -/

namespace Sys2Proof.Machine

open Host

/-! ## Events -/

/-- The rights of R717; the Keeper clears what the BMC clears. -/
def mayClear (src : Src) (area : Nat) : Bool := area == 1 || (area == 2 && src != .owner)

/-- An area is emptied; cursors at or below a record that leaves read LOST (R717, R725). -/
def Evr.clearArea (e : Evr) (area : Nat) : Evr :=
  match (e.area area).getLast? with
  | none => e
  | some r =>
    let e := e.lose area r.seq
    if area == 1 then { e with circ := [] } else { e with sev := [] }

/-- EVENT_CLEAR (R505, R717). -/
def eventClearSpec : CmdSpec where
  opcode := Opc.EVENT_CLEAR
  srcs := ownerBmc
  layout := fun _ => 1
  busy := fun h src _ => if byteAt h.payload 0 ≤ 2 && !mayClear src (byteAt h.payload 0) then some .denied else none
  bad := fun h _ _ => decide (2 < byteAt h.payload 0)
  run := fun h src s =>
    let area := byteAt h.payload 0
    let s := { s with evr := s.evr.clearArea area }
    (s.record Ev.EVR_CLEARED wide [(1, area), (1, src.code)]).done Opc.EVENT_CLEAR h []

/-- The defined event sources (R719), as first and last number of each run. -/
def sourceRuns : List (Nat × Nat) := [
  (0, 12), (16, 20), (32, 44), (64, 66), (80, 90), (96, 104), (112, 112), (128, 133), (144, 153), (160, 168), (176, 180),
  (192, 198), (208, 217), (224, 231), (240, 247)]

/-- A source is defined. -/
def sourceDefined (n : Nat) : Bool := sourceRuns.any fun r => decide (r.1 ≤ n) && decide (n ≤ r.2)

/-- EVENT_ROUTE (R505, R720, R721): record 8. -/
def eventRouteSpec : CmdSpec where
  opcode := Opc.EVENT_ROUTE
  srcs := ownerBmc
  entry := fun _ => true
  layout := fun _ => 6
  busy := fun _ _ s => s.recordBusy 8
  bad := fun h _ _ =>
    let v := byteAt h.payload 2
    !sourceDefined (fieldAt h.payload 0 2) || !(v == 0 || (decide (8 ≤ v) && decide (v ≤ 63)))
  run := fun h _ s =>
    s.startWrite 8 (.route (fieldAt h.payload 0 2) (byteAt h.payload 2) (fieldAt h.payload 4 2)) h

/-! ## DRAM and flash -/

/-- A field of every DMC channel. -/
def allChannels (bit : Nat) (f : Nat → Fld) (off len : Nat) : List CfgField := (List.range 8).map fun c => ⟨bit, f c, off, len⟩

/-- The values of DRAM_CONFIG (R506). -/
def dramVals (p : Bytes) : List (Fld × Nat) :=
  let mask := fieldAt p 0 4
  named ([⟨0, Reg.DMC_MAP.NEXT_GRAIN, 4, 1⟩, ⟨1, Reg.DMC_MAP.NEXT_SPARE, 5, 1⟩] ++
    allChannels 2 Reg.DMC_SCHED.HIT_CAP 6 1 ++ allChannels 3 Reg.DMC_PAGE.IDLE_NS 7 1 ++ allChannels 4 Reg.DMC_PWR.PD_TIMER 8 1 ++
    allChannels 5 Reg.DMC_REF.MODE 9 1 ++ allChannels 6 Reg.DMC_SCRUB.SCRUB_H 10 1 ++ allChannels 7 Reg.DMC_RD_CFG.THR_GAP 11 1 ++
    allChannels 8 Reg.DMC_RD_CFG.WINDOW_US 12 1 ++ allChannels 9 Reg.DMC_RD_CFG.ACT_THR 14 2 ++
    allChannels 10 Reg.DMC_ECC_CFG.CE_THR 16 2) mask p ++
  if bitOf mask 11 then (List.range 16).map fun n => (Reg.DMC_LD_PAGE.POL n, bitsOf (fieldAt p 20 4) (2 * n) 2) else []

/-- DRAM_CONFIG (R397–R400, R506): record 2. -/
def dramConfigSpec : CmdSpec := configSpec Opc.DRAM_CONFIG 2 24 dramVals noWait noClash

/-- The values of FLASH_CONFIG (R347, R348, R507). -/
def flashVals (p : Bytes) : List (Fld × Nat) :=
  let mask := byteAt p 0
  (if bitOf mask 0 then (List.range 32).map fun n => (Reg.NFC_CH_CFG.RATE n, byteAt p 1) else []) ++
    named [⟨1, Reg.NFC_ECC_THR.BLANK_THR, 2, 1⟩, ⟨2, Reg.NFC_ECC_THR.REFRESH_THR, 3, 1⟩] mask p ++
    if bitOf mask 3 then (List.range 32).map fun n => (Reg.NFC_CH_CFG.ENABLE n, ofBool (bitOf (fieldAt p 4 4) n)) else []

/-- A channel holds a referenced codeword: of a page, an index, the event mirror or the ring (R337). -/
def State.channelHolds (s : State) (n : Nat) : Bool :=
  (s.flash.records.any fun (r : Nat × PageRec) => faChannel r.2.fa == n && s.referenced r.1) ||
    (s.wordAddresses.any fun fa => faChannel fa == n) ||
    s.flash.ring.any fun r => (faChannel r.fa == n || faChannel r.fb == n) && s.ringLive r

/-- A channel would be disabled that holds a referenced codeword (R337, R508). -/
def flashClash (s : State) (l : List (Fld × Nat)) : Bool :=
  (List.range 32).any fun n => l.contains (Reg.NFC_CH_CFG.ENABLE n, 0) && s.channelHolds n

/-- FLASH_CONFIG (R507, R508): record 3. -/
def flashConfigSpec : CmdSpec := configSpec Opc.FLASH_CONFIG 3 8 flashVals noWait flashClash

/-! ## Rails -/

/-- The values of RAIL_CONFIG. -/
def railVals (p : Bytes) : List (Fld × Nat) :=
  let n := byteAt p 0
  named [⟨0, Reg.PWR_RAIL_CTL.RANK_NEXT n, 2, 1⟩, ⟨1, Reg.PWR_RAIL_LVL.WARN_MV n, 4, 2⟩, ⟨1, Reg.PWR_RAIL_LVL.FAULT_MV n, 6, 2⟩]
    (byteAt p 1) p

/-- The cases of R588, and a rail that no part has. -/
def railBad (p : Bytes) : Bool :=
  let n := byteAt p 0
  let mask := byteAt p 1
  let nom := (rail n).nominal
  let warn := fieldAt p 4 2
  let fault := fieldAt p 6 2
  decide (15 < n) ||
    (bitOf mask 0 && (decide (15 < byteAt p 2) || (byteAt p 2 == 15 && (rail n).critical && n != 10 && n != 11))) ||
    (bitOf mask 1 && (decide (100 * warn < 80 * nom) || decide (98 * nom < 100 * warn) || decide (100 * fault < 70 * nom) ||
      decide (100 * warn < 100 * fault + nom)))

/-- RAIL_CONFIG (R509, R588): record 6. -/
def railConfigSpec : CmdSpec where
  opcode := Opc.RAIL_CONFIG
  srcs := ownerBmc
  entry := fun _ => true
  layout := fun _ => 8
  busy := fun _ _ s => s.recordBusy 6
  bad := fun h _ _ => railBad h.payload
  run := fun h _ s => s.startWrite 6 (.fields (railVals h.payload) none) h

/-! ## Sideband -/

/-- BEACON_CONFIG (R193, R204, R510): record 1. -/
def beaconConfigSpec : CmdSpec :=
  configSpec Opc.BEACON_CONFIG 1 10
    (fun p => named [
      ⟨0, Reg.DRP_BCN_CFG.DELAY, 2, 2⟩, ⟨1, Reg.DRP_BCN_START_LO.START_LO, 4, 4⟩, ⟨1, Reg.DRP_BCN_START_HI.START_HI, 8, 2⟩]
      (byteAt p 0) p) noWait noClash

/-- The values of TWI_CONFIG. -/
def twiVals (p : Bytes) : List (Fld × Nat) :=
  let n := byteAt p 0
  [(Reg.TWI_CFG.SCL_KHZ n, fieldAt p 2 2), (Reg.TWI_CFG.SU_NS n, fieldAt p 4 2), (Reg.TWI_CFG.HD_NS n, fieldAt p 6 2)]

/-- TWI_CONFIG (R510, R741): record 7; TWI-D0 and TWI-D1 only. -/
def twiConfigSpec : CmdSpec where
  opcode := Opc.TWI_CONFIG
  srcs := ownerBmc
  entry := fun _ => true
  layout := fun _ => 8
  busy := fun _ _ s => s.recordBusy 7
  bad := fun h _ _ => !(byteAt h.payload 0 == 1 || byteAt h.payload 0 == 2) || !(twiVals h.payload).all inRange
  run := fun h _ s => s.startWrite 7 (.fields (twiVals h.payload) none) h

/-- TWI_PORT_ENABLE (R510, R511, R744): a disabled port runs again. -/
def twiPortEnableSpec : CmdSpec where
  opcode := Opc.TWI_PORT_ENABLE
  srcs := ownerBmc
  layout := fun _ => 1
  busy := fun h src s =>
    let p := byteAt h.payload 0
    if p ≤ 2 && s.flag (Reg.TWI_STAT.RECOVERING p) then some .busy
    else if p == 0 && src == .bmc then some .denied
    else none
  bad := fun h _ _ => decide (2 < byteAt h.payload 0)
  run := fun h _ s =>
    let p := byteAt h.payload 0
    (s.putAll [
      (Reg.TWI_STAT.DISABLED p, 0), (Reg.TWI_STAT.RETRIES p, 0),
      (Reg.TWI_STAT.UP p, ofBool (s.ready Reg.GLB_READY.SIDEBAND_UP))]).done Opc.TWI_PORT_ENABLE h []

/-! ## The commands -/

/-- EVENT_CLEAR. -/
def execEventClear (h : Hdr) (s : State) : Res := .next (s.runSpec eventClearSpec h)
/-- EVENT_ROUTE. -/
def execEventRoute (h : Hdr) (s : State) : Res := .next (s.runSpec eventRouteSpec h)
/-- DRAM_CONFIG. -/
def execDramConfig (h : Hdr) (s : State) : Res := .next (s.runSpec dramConfigSpec h)
/-- FLASH_CONFIG. -/
def execFlashConfig (h : Hdr) (s : State) : Res := .next (s.runSpec flashConfigSpec h)
/-- RAIL_CONFIG. -/
def execRailConfig (h : Hdr) (s : State) : Res := .next (s.runSpec railConfigSpec h)
/-- BEACON_CONFIG. -/
def execBeaconConfig (h : Hdr) (s : State) : Res := .next (s.runSpec beaconConfigSpec h)
/-- TWI_CONFIG. -/
def execTwiConfig (h : Hdr) (s : State) : Res := .next (s.runSpec twiConfigSpec h)
/-- TWI_PORT_ENABLE. -/
def execTwiPortEnable (h : Hdr) (s : State) : Res := .next (s.runSpec twiPortEnableSpec h)

end Sys2Proof.Machine
end

