-- ==== Sys2Proof/Machine/CmdStore.lean ====
section
/-! DEFINITION. Integrator area commands (R507, R508, R549, R555–R565), chunked transfers (R497), FW_DOWNLOAD (R498, R526–R528) and
KEEPER_UPDATE (R498, R520, R521, R572–R578). -/

namespace Sys2Proof.Machine

open Host

/-! ## The integrator area -/

/-- Bytes of the integrator area (R551). -/
def userSize : Nat := 0x200000

/-- The group of an offset (R563). -/
def userGroup (off : Nat) : Nat := 8 + off / 0x40000

/-- The store sector of an offset (R551). -/
def userSector (off : Nat) : Nat := if off < 0x100000 then (0x300000 + off) / 4096 else (0x600000 + off) / 4096

/-- Bytes of the integrator area. -/
def State.userRead (s : State) (off n : Nat) : Bytes := (dramRead s.kst.user off n).map fun b => ~~~b

/-- Program bytes of the integrator area; the page's blank flag is clear from then on (R549). -/
def State.userWrite (s : State) (off : Nat) (b : Bytes) : State :=
  { s with kst := { s.kst with
    user := dramWrite s.kst.user off (b.map fun x => ~~~x), programmed := insertNat s.kst.programmed (off / 256) } }

/-- The sector of an offset is being erased. -/
def State.userErasing (s : State) (off : Nat) : Bool := s.kst.erases.any fun (e : KstErase) => e.sector == userSector off

/-- The sector of an offset has failed (R562). -/
def State.userFailed (s : State) (off : Nat) : Bool := s.kst.failed.contains (userSector off)

/-- The password of a group as the protection record keeps it (R564). -/
def passwordDigest (b : Bytes) : Bytes := Config.sha384 (b ++ leBytes 16 Config.uniqueId.toNat)

/-- A group's password matches, or is all zero where the group has none. -/
def State.passwordMatches (s : State) (g : Nat) (b : Bytes) : Bool :=
  match NMap.find? s.kst.passwords g with
  | some d => d == passwordDigest b
  | none => b.all fun x => x == 0

/-- A wrong password (R508, R515, R564): eight wrong UNLOCKs lock the group out until the next cold start. -/
def State.wrongPassword (s : State) (g : Nat) (unlock : Bool) : State :=
  let n := (NMap.find? s.kst.wrong g).getD 0 + 1
  let s := s.record Ev.KST_PASSWORD_FAIL wide []
  if unlock then
    let s := { s with kst := { s.kst with wrong := NMap.insert s.kst.wrong g n } }
    if n == 8 then s.record Ev.KST_PASSWORD_FAIL wide [] else s
  else s

/-- A group is locked out (R508). -/
def State.lockedOut (s : State) (g : Nat) : Bool := decide (8 ≤ (NMap.find? s.kst.wrong g).getD 0)

/-- KST_PROTECT carries SET_PASSWORD, which writes the protection record. -/
def setsPassword (p : Bytes) : Bool := byteAt p 1 == 3

/-- The effect of an operation whose password matches. -/
def State.protect (s : State) (h : Hdr) : State :=
  let g := byteAt h.payload 0
  let new := (h.payload.drop 20).take 16
  match byteAt h.payload 1 with
  | 1 => State.done { s with kst := { s.kst with unlocked := insertNat s.kst.unlocked g } } Opc.KST_PROTECT h []
  | 2 => State.done { s with kst := { s.kst with unlocked := s.kst.unlocked.filter (· != g) } } Opc.KST_PROTECT h []
  | _ => s.startWrite 11 (.password g (if new.all fun x => x == 0 then none else some (passwordDigest new))) h

/-- KST_PROTECT (R507, R508, R564): record 11. -/
def kstProtectSpec : CmdSpec where
  opcode := Opc.KST_PROTECT
  srcs := ownerBmc
  entry := setsPassword
  layout := fun _ => 36
  busy := fun h _ s =>
    if setsPassword h.payload && (s.recordBusy 11).isSome then some .busy
    else if s.lockedOut (byteAt h.payload 0) then some .locked else none
  bad := fun h _ s =>
    let g := byteAt h.payload 0
    let op := byteAt h.payload 1
    decide (g < 8) || decide (15 < g) || !(op == 1 || op == 2 || op == 3) ||
      ((op == 1 || op == 2) && (NMap.find? s.kst.passwords g).isNone)
  run := fun h _ s =>
    let g := byteAt h.payload 0
    let op := byteAt h.payload 1
    if op == 2 || s.passwordMatches g ((h.payload.drop 4).take 16) then s.protect h
    else (s.wrongPassword g (op == 1)).finish Opc.KST_PROTECT h .authFail []

/-- The 32-byte words of a range that lie in groups that use THRESHOLD (R549, R556). -/
def State.thresholdWords (s : State) (off len : Nat) : Nat :=
  ((List.range ((off + len + 31) / 32 - off / 32)).filter fun k =>
    bitOf (s.get Reg.KST_VMODE.MODE) (userGroup (32 * (off / 32 + k)) - 8)).length

/-- Words of a read that warn (R556): a free number of the words in THRESHOLD groups, where a free number of corrected bits reaches
THR. -/
def State.warnReads (s : State) (off len corrected : Nat) : State :=
  let words := s.thresholdWords off len
  if words != 0 && decide (s.get Reg.KST_ECC.THR ≤ corrected) then
    let n := 1 + s.free % words
    ((s.tick.put Reg.KST_STAT.READ_WARN 1).count Reg.KST_ERR.READ_WARN n).each (List.range n) fun s _ =>
      s.record Ev.KST_READ_WARN wide []
  else s

/-- KST_USER_READ (R507, R508, R549, R556, R557). The bits corrected in the worst word are measured: a free value, 3 for a word
that cannot be corrected. -/
def kstUserReadSpec : CmdSpec where
  opcode := Opc.KST_USER_READ
  srcs := headsBmc
  layout := fun _ => 6
  bad := fun h _ _ =>
    let n := fieldAt h.payload 4 2
    n == 0 || decide (portLimit h.port < n) || decide (userSize < fieldAt h.payload 0 4 + n)
  run := fun h _ s =>
    let off := fieldAt h.payload 0 4
    let n := fieldAt h.payload 4 2
    let corrected := s.free % 4
    let s := s.tick
    if corrected == 3 then s.finish Opc.KST_USER_READ h .mediaError []
    else (s.warnReads off n corrected).done Opc.KST_USER_READ h (s.userRead off n)

/-- BUSY where the sector is being erased, LOCKED where its group is locked. -/
def userBusy : Hdr → Src → State → Option Status := fun h _ s =>
  let off := fieldAt h.payload 0 4
  if s.userErasing off then some .busy
  else if s.groupLocked (userGroup off) then some .locked else none

/-- The read of a sector before its first program in a power cycle (R562). Whether it finds a programmed page that cannot be decoded is a
free value; such a sector is half-erased, and is erased again, which is taken to pass its blank check (log entry 140). -/
def State.checkSector (s : State) (off : Nat) : State :=
  let sector := userSector off
  if s.kst.checked.contains sector then s
  else
    let half := s.free % 2 == 1 && s.kst.programmed.any fun p => p / 16 == off / 4096
    let s := s.tick
    let s := { s with kst := { s.kst with checked := insertNat s.kst.checked sector } }
    if half then (((s.eraseSector sector).journalSectors [sector]).count Reg.KST_JRNL.HALF 1).record Ev.KST_ERASE_REDONE wide [] else s

/-- A program of the integrator area, after the sector's first read (R562): its fail flag is a free value, and a page that fails holds
free bytes (R557). While the Keeper store is in FAILED it takes no work (R53), and the program answers MEDIA_ERROR (DESIGN CHOICE; log
entry 131). -/
def State.userProgram (s : State) (h : Hdr) : State :=
  let off := fieldAt h.payload 0 4
  let data := h.payload.drop 4
  if s.kst.programmed.contains (off / 256) then (s.count Reg.KST_ERR.NOT_BLANK 1).finish Opc.KST_USER_PROGRAM h .notBlank []
  else if s.userFailed off || s.unitFailed kstUnit then s.finish Opc.KST_USER_PROGRAM h .mediaError []
  else
    let s := s.checkSector off
    if s.free % 2 == 1 then
      let (b, s) := s.tick.freeBytes data.length
      ((((s.userWrite off b).count Reg.KST_ERR.PROG_FAIL 1).record Ev.KST_PROG_FAIL wide []).strike kstUnit Ev.KST_PROG_FAIL.sev).finish Opc.KST_USER_PROGRAM h .mediaError []
    else (s.tick.userWrite off data).done Opc.KST_USER_PROGRAM h []

/-- KST_USER_PROGRAM (R507, R555, R557, R562, R565). -/
def kstUserProgramSpec : CmdSpec where
  opcode := Opc.KST_USER_PROGRAM
  srcs := ownerBmc
  layout := fun _ => 4
  busy := userBusy
  bad := fun h _ _ =>
    let off := fieldAt h.payload 0 4
    let n := h.payload.length - 4
    n == 0 || decide (256 < off % 256 + n) || decide (userSize < off + n)
  run := fun h _ s => s.userProgram h

/-- KST_USER_ERASE (R507, R559, R562, R565). -/
def kstUserEraseSpec : CmdSpec where
  opcode := Opc.KST_USER_ERASE
  srcs := ownerBmc
  entry := fun _ => true
  layout := fun _ => 4
  busy := userBusy
  bad := fun h _ _ => fieldAt h.payload 0 4 % 4096 != 0 || decide (userSize ≤ fieldAt h.payload 0 4)
  run := fun h _ s =>
    let off := fieldAt h.payload 0 4
    let s := s.accept Opc.KST_USER_ERASE h
    if s.userFailed off then s.completeFor (originOf h) .mediaError [] else s.startErase (userSector off) (originOf h)

/-! ## Chunks (R497) -/

/-- The fields of a chunk. -/
def chunkOff (p : Bytes) : Nat := fieldAt p 0 4
def chunkTotal (p : Bytes) : Nat := fieldAt p 4 4
def chunkLast (p : Bytes) : Bool := bitOf (byteAt p 8) 0
def chunkData (p : Bytes) : Bytes := p.drop 16

/-- The transfer of an opcode in progress. -/
def State.transferOf (s : State) (op : Nat) : Option Transfer := s.cmd.transfers.find? fun (t : Transfer) => t.opcode == op

/-- A transfer from another port is in progress. -/
def State.chunkBusy (s : State) (op : Nat) (h : Hdr) : Bool :=
  match s.transferOf op with
  | some t => t.port != h.port
  | none => false

/-- The chunk goes on with the transfer in progress. -/
def State.chunkFollows (s : State) (op : Nat) (h : Hdr) : Bool :=
  match s.transferOf op with
  | some t => t.port == h.port && t.total == chunkTotal h.payload && t.received.length == chunkOff h.payload
  | none => false

/-- A chunk out of place, or an object longer than `most`. -/
def State.chunkBad (s : State) (op most : Nat) (h : Hdr) : Bool :=
  let p := h.payload
  let stop := chunkOff p + (chunkData p).length
  decide (most < chunkTotal p) || decide (chunkTotal p < stop) || (chunkLast p && stop != chunkTotal p) ||
    (chunkOff p != 0 && !s.chunkFollows op h)

/-- What has been received with this chunk. -/
def State.received (s : State) (op : Nat) (h : Hdr) : Bytes :=
  (if chunkOff h.payload == 0 then [] else ((s.transferOf op).map Transfer.received).getD []) ++ chunkData h.payload

/-- The transfer is over. -/
def State.endTransfer (s : State) (op : Nat) : State :=
  { s with cmd := { s.cmd with transfers := s.cmd.transfers.filter fun (t : Transfer) => t.opcode != op } }

/-- The transfer after this chunk. -/
def State.takeChunk (s : State) (op : Nat) (h : Hdr) : State :=
  let t : Transfer := ⟨op, h.port, chunkTotal h.payload, s.received op h, byteAt h.payload 8⟩
  let s := s.endTransfer op
  { s with cmd := { s.cmd with transfers := s.cmd.transfers ++ [t] } }

/-! ## FW_DOWNLOAD -/

/-- The first check of R527 that fails, if any. -/
def State.fwCheck (s : State) (b : Bytes) : Status :=
  let bodyLen := fieldAt b 16 4
  let codeLen := fieldAt b 24 4
  let blank (off n : Nat) : Bool := ((b.drop off).take n).all fun x => x == 0
  if !(fieldAt b 0 4 == 0x5246574B && fieldAt b 4 2 == 1 && 4096 + bodyLen == b.length && codeLen % 4096 == 0 &&
      decide (codeLen ≤ bodyLen) && decide (fieldAt b 20 4 < codeLen) && decide (fieldAt b 12 4 ≤ fieldAt b 8 4) &&
      blank 6 2 && blank 28 4 && blank 176 3920) then .authFail
  else if !(Config.signatureOk ((b.drop 80).take 96) (Config.sha384 (b.take 80)) &&
      Config.sha384 (b.drop 4096) == (b.drop 32).take 48) then .authFail
  else if fieldAt b 8 4 < s.get Reg.CPX_FW_FLOOR.FLOOR then .versionFloor
  else if s.fogged then .aborted
  else .done

/-- The image that has passed is kept and starts (R528). -/
def State.startFw (s : State) (b : Bytes) : State :=
  State.releaseFw { s with cpx := { s.cpx with
    version := fieldAt b 8 4, floor := fieldAt b 12 4, hash := (b.drop 32).take 48, codeLen := fieldAt b 24 4, bodyLen := fieldAt b 16 4,
    rest := b.drop (4096 + fieldAt b 24 4) } }

/-- The image is complete: FW_DOWNLOAD completes with the status of R527. -/
def State.fwComplete (s : State) (h : Hdr) (b : Bytes) : State :=
  let st := s.fwCheck b
  let s := ((s.endTransfer Opc.FW_DOWNLOAD).accept Opc.FW_DOWNLOAD h).put Reg.CPX_FW_STAT.STATE 2
  let s := if st == .authFail || st == .versionFloor then s.record Ev.FW_AUTH_FAIL wide [] else s
  (if st == .done then s.startFw b else s.fwAbsent).completeFor (originOf h) st []

/-- FW_DOWNLOAD (R496–R498, R526, R527): the image arrives in application SRAM. -/
def fwDownloadSpec : CmdSpec where
  opcode := Opc.FW_DOWNLOAD
  srcs := ownerBmc
  entry := chunkLast
  layout := fun _ => 16
  early := notSaving
  busy := fun h _ s => if s.chunkBusy Opc.FW_DOWNLOAD h then some .busy else none
  bad := fun h _ s => s.chunkBad Opc.FW_DOWNLOAD 0x600000 h
  run := fun h _ s =>
    let p := h.payload
    let first := chunkOff p == 0
    let b := s.received Opc.FW_DOWNLOAD h
    let s := if first then ((s.stopFw FwCause.reload).domainUp 1).put Reg.CPX_FW_STAT.STATE 1 else s
    let s := { s with cpx := { s.cpx with ram := dramWrite s.cpx.ram (chunkOff p) (chunkData p), received := b.length } }.takeChunk Opc.FW_DOWNLOAD h
    if chunkLast p then s.fwComplete h b else s.done Opc.FW_DOWNLOAD h []

/-! ## The commands -/

/-- KST_PROTECT. -/
def execKstProtect (h : Hdr) (s : State) : Res := .next (s.runSpec kstProtectSpec h)
/-- KST_USER_READ. -/
def execKstUserRead (h : Hdr) (s : State) : Res := .next (s.runSpec kstUserReadSpec h)
/-- KST_USER_PROGRAM. -/
def execKstUserProgram (h : Hdr) (s : State) : Res := .next (s.runSpec kstUserProgramSpec h)
/-- KST_USER_ERASE. -/
def execKstUserErase (h : Hdr) (s : State) : Res := .next (s.runSpec kstUserEraseSpec h)
/-- FW_DOWNLOAD. -/
def execFwDownload (h : Hdr) (s : State) : Res := .next (s.runSpec fwDownloadSpec h)

end Sys2Proof.Machine
end

