-- ==== Sys2Proof/Machine/CmdUpdate.lean ====
section
/-! DEFINITION. KEEPER_UPDATE (R498, R520, R521, R572–R578): packages, the image slots, the relay and the installation. -/

namespace Sys2Proof.Machine

open Host

/-! ## Image slots (R517, R572) -/

/-- The fields of a package (R574). -/
def pkgKind (b : Bytes) : Nat := byteAt b 6
def pkgVersion (b : Bytes) : Nat := fieldAt b 8 4
def pkgRollback (b : Bytes) : Nat := fieldAt b 12 2
def pkgPayloadLen (b : Bytes) : Nat := fieldAt b 16 4
def pkgResultLen (b : Bytes) : Nat := fieldAt b 20 4
def pkgBaseHash (b : Bytes) : Bytes := (b.drop 24).take 48
def pkgResultHash (b : Bytes) : Bytes := (b.drop 72).take 48
def pkgPayload (b : Bytes) : Bytes := (b.drop 256).take (pkgPayloadLen b)

/-- The header of an image is well formed (R572). -/
def imageWellFormed (b : Bytes) : Bool :=
  let r := fieldAt b 6 2
  let n := fieldAt b 12 4
  fieldAt b 0 4 == 0x4B494D47 && fieldAt b 4 2 == 1 && decide (1 ≤ r) && decide (r ≤ 16384) && decide (n ≤ 1568512) &&
    b.length == 4096 + n && decide (fieldAt b 16 4 < n) && ((b.drop 176).take 3920).all fun x => x == 0

/-- The signature of an image verifies, and its body is the one signed (R517, R572). -/
def imageSigned (b : Bytes) : Bool :=
  Config.signatureOk ((b.drop 80).take 96) (Config.sha384 (b.take 80)) && Config.sha384 (b.drop 4096) == (b.drop 32).take 48

/-- The slot that an image with its valid mark makes; none where it is not well formed. -/
def slotOf (b : Bytes) : Option KeeperSlot :=
  if imageWellFormed b then some ⟨fieldAt b 8 4, fieldAt b 6 2, fieldAt b 20 2, imageSigned b, b⟩ else none

/-- A slot takes new contents. -/
def State.setSlot (s : State) (n : Nat) (k : Option KeeperSlot) : State :=
  let v := (k.map KeeperSlot.version).getD 0
  if n == 0 then { s.put Reg.KST_VER_A.VERSION v with kst := { s.kst with slotA := k } }
  else { s.put Reg.KST_VER_B.VERSION v with kst := { s.kst with slotB := k } }

/-- The active slot, and the number of the inactive one. -/
def State.activeSlot (s : State) : Option KeeperSlot := s.slot (s.get Reg.KST_SLOT.ACTIVE)
def State.inactive (s : State) : Nat := 1 - s.get Reg.KST_SLOT.ACTIVE

/-- The image of the active slot. -/
def State.activeImage (s : State) : Bytes := (s.activeSlot.map KeeperSlot.image).getD []

/-! ## The result of a package (R574, R575) -/

/-- Bytes of a slot from an offset; the store reads 0xFF beyond the image. -/
def slotBytes (image : Bytes) (off n : Nat) : Bytes :=
  let b := (image.drop off).take n
  b ++ List.replicate (n - b.length) 0xFF

/-- The operations of a DELTA payload, in order; each consumes at least its head, so the length bounds their number. -/
def applyDelta (image : Bytes) : Nat → Bytes → Bytes
  | 0, _ => []
  | fuel + 1, ops =>
    let n := fieldAt ops 1 3
    match byteAt ops 0 with
    | 1 => if ops.length < 8 then [] else slotBytes image (fieldAt ops 4 4) n ++ applyDelta image fuel (ops.drop 8)
    | 2 => if ops.length < 8 then [] else (ops.drop 8).take n ++ applyDelta image fuel (ops.drop (8 + n))
    | _ => []

/-- The resulting image. -/
def State.updateResult (s : State) (b : Bytes) : Bytes :=
  if pkgKind b == 1 then pkgPayload b
  else (applyDelta s.activeImage (pkgPayloadLen b) (pkgPayload b)).take (pkgResultLen b)

/-- Step 1 of R576: the trailing digest matches. -/
def pkgIntact (b : Bytes) : Bool :=
  decide (304 ≤ b.length) && Config.sha384 (b.take (b.length - 48)) == b.drop (b.length - 48)

/-- Step 2 of R576. -/
def pkgConsistent (b : Bytes) : Bool :=
  fieldAt b 0 4 == 0x4B504B47 && fieldAt b 4 2 == 1 && (pkgKind b == 1 || pkgKind b == 2) && b.length == 304 + pkgPayloadLen b &&
    decide (pkgResultLen b ≤ 1572608) && (pkgKind b == 2 || pkgPayloadLen b == pkgResultLen b)

/-- Step 3 of R576 does not pass. -/
def State.belowFloor (s : State) (b : Bytes) : Bool :=
  decide (pkgVersion b < (s.activeSlot.map KeeperSlot.version).getD 0) || decide (pkgRollback b < s.get Reg.KST_ARB.COUNTER)

/-- Step 4 of R576 does not pass. -/
def State.baseDiffers (s : State) (b : Bytes) : Bool := pkgKind b == 2 && Config.sha384 s.activeImage != pkgBaseHash b

/-! ## The relay (R498, R577, R578) -/

/-- Bytes of package data in a relayed chunk. -/
def relayChunk : Nat := 1008

/-- The payload of the chunk at an offset. -/
def relayPayload (pkg : Bytes) (off flags : Nat) : Bytes :=
  let data := (pkg.drop off).take relayChunk
  let last := decide (pkg.length ≤ off + relayChunk)
  leBytes 4 off ++ leBytes 4 pkg.length ++ leBytes 1 (flags / 2 * 2 + ofBool last) ++ zeros 7 ++ data

/-- The relay goes on while CHAIN_DN's queue has room. With the link down every chunk that is left is discarded, and the relay ends.
The tag of a chunk is the Keeper's to choose: a free value. -/
def State.pumpRelay : Nat → State → State
  | 0, s => s
  | fuel + 1, s =>
    match s.kst.relay with
    | none => s
    | some (off, flags) =>
      let ended := State.put { s with kst := { s.kst with relay := none } } Reg.KST_UPD.RELAY 2
      if decide (s.kst.package.length ≤ off) || !s.chainLink true then ended
      else if 4 ≤ s.chainQueued true then s
      else
        let pk := packet Opc.KEEPER_UPDATE 0 0 (BitVec.ofNat 32 s.free) 0 0 255 (relayPayload s.kst.package off flags)
        let s := (s.tick.chainSend true false pk)
        State.pumpRelay fuel { s with kst := { s.kst with relay := some (off + relayChunk, flags) } }

/-- Bring the relay forward; the queue has 4 places. -/
def State.relayOn (s : State) : State := State.pumpRelay 6 s

/-- The relay begins. -/
def State.startRelay (s : State) (flags : Nat) : State :=
  (State.put { s with kst := { s.kst with relay := some (0, flags) } } Reg.KST_UPD.RELAY 1).relayOn

/-! ## Checking and installing (R576) -/

/-- The command ends without an installation. -/
def State.updateOver (s : State) (st : Status) : State := (s.endUpdate st).put Reg.KST_UPD.PHASE 0

/-- The 384 sectors of a Keeper image slot (R551). -/
def slotSectors (n : Nat) : List Nat := sectorRun (if n == 0 then 0x10 else 0x410) 384

/-- Step 5 of R576: the boot record names no slot to be checked, and the inactive slot is erased, sector by
sector, each erase in the journal (R559). Where the journals have no room the step fails (DESIGN CHOICE, log entry 102), and where the
store is in FAILED (DESIGN CHOICE, log entry 131). -/
def State.startInstall (s : State) : State :=
  let s :=
    if s.get Reg.KST_SLOT.CHECK == 0xFF then s
    else s.writeBoot (.checkSlot 0xFF)
  let t := s.journalSectors (slotSectors s.inactive)
  if t.journalsFit && !s.unitFailed kstUnit then (t.setSlot t.inactive none).put Reg.KST_UPD.PHASE 3 else s.updateOver .mediaError

/-- The package is complete: the steps of R576, in order. -/
def State.checkPackage (s : State) (relay install : Bool) (flags : Nat) : State :=
  let b := s.kst.package
  if !pkgIntact b then s.updateOver .authFail
  else
    let s := if relay then s.startRelay flags else s
    if !pkgConsistent b then s.updateOver .authFail
    else if !install then s.updateOver .done
    else if s.belowFloor b then s.updateOver .versionFloor
    else if s.baseDiffers b then s.updateOver .badField
    else s.startInstall

/-- KEEPER_UPDATE carries INSTALL, and RELAY (R496). -/
def carriesInstall (p : Bytes) : Bool := bitOf (byteAt p 8) 1
def carriesRelay (p : Bytes) : Bool := bitOf (byteAt p 8) 2

/-- The chunk with LAST: the package is staged and the command accepted. -/
def State.updateLast (s : State) (h : Hdr) (src : Src) (b : Bytes) : State :=
  let s := ((s.endTransfer Opc.KEEPER_UPDATE).accept Opc.KEEPER_UPDATE h).put Reg.KST_UPD.PHASE 2
  let s := { s with kst := { s.kst with package := b, installing := originOf h, installer := src.code } }
  s.checkPackage (carriesRelay h.payload && src != .chain) (carriesInstall h.payload) (byteAt h.payload 8)

/-- The mask ROM takes a full image (R520, R521): checked under R517 and written into slot A, after which it boots. -/
def State.romInstall (s : State) (h : Hdr) (b : Bytes) : State :=
  let s := s.endTransfer Opc.KEEPER_UPDATE
  let image := pkgPayload b
  let st : Status :=
    if !pkgIntact b || !pkgConsistent b then .authFail
    else if pkgKind b != 1 then .notReady
    else if Config.sha384 image != pkgResultHash b || !imageWellFormed image || !imageSigned image then .authFail
    else if fieldAt image 6 2 < s.get Reg.KST_ARB.COUNTER then .versionFloor
    else .done
  let s := if st == .done then (s.journalSectors (slotSectors 0)).setSlot 0 (slotOf image) else s
  (s.putAll [(Reg.KST_UPD.LAST_STATUS, st.code), (Reg.KST_UPD.PHASE, 0)]).reply h.port Opc.KEEPER_UPDATE h.tag st.code 0 []

/-- BUSY_SAVING; the ROM takes only packets with INSTALL. -/
def updateEarly : Hdr → State → Option Status := fun h s =>
  if s.cpx.rom && !carriesInstall h.payload then some .notReady
  else if s.saving then some .busySaving else none

/-- BUSY for KEEPER_UPDATE (R486, R497, R577). -/
def State.updateBusy (s : State) (h : Hdr) : Bool :=
  s.chunkBusy Opc.KEEPER_UPDATE h ||
    (!s.cpx.rom && ((chunkOff h.payload == 0 && (s.kst.installing.isSome || s.kst.relay.isSome)) ||
      (carriesInstall h.payload && s.kst.firstStart)))

/-- KEEPER_UPDATE (R496–R498, R520, R521, R576–R578). -/
def keeperUpdateSpec : CmdSpec where
  opcode := Opc.KEEPER_UPDATE
  rom := true
  srcs := [.owner, .bmc, .chain]
  entry := chunkLast
  layout := fun _ => 16
  early := updateEarly
  busy := fun h _ s => if s.updateBusy h then some .busy else none
  bad := fun h _ s => s.chunkBad Opc.KEEPER_UPDATE 0x182000 h
  run := fun h src s =>
    let b := s.received Opc.KEEPER_UPDATE h
    let s := (s.takeChunk Opc.KEEPER_UPDATE h).put Reg.KST_UPD.PHASE 1
    if !chunkLast h.payload then s.done Opc.KEEPER_UPDATE h []
    else if s.cpx.rom then s.romInstall h b
    else s.updateLast h src b

/-! ## The end of an installation (R576 steps 5 to 7) -/

/-- The slot is programmed with its valid mark. `ok` says that it read back as it was written. -/
def State.programSlot (s : State) (ok : Bool) : State :=
  let k := slotOf (s.updateResult s.kst.package)
  s.setSlot s.inactive (k.map fun x => { x with signed := x.signed && ok })

/-- The slot has been programmed and read back: with DONE it is judged against RESULT_HASH, and the boot record is to name it as the slot to
be checked, which ends the installation. -/
def State.finishInstall (s : State) (st : Status) : State :=
  let b := s.kst.package
  if st == .mediaError then s.updateOver .mediaError
  else if st == .authFail || Config.sha384 (s.updateResult b) != pkgResultHash b then (s.programSlot (st != .authFail)).updateOver .authFail
  else
    let s := s.programSlot true
    (s.writeBoot (.checkSlot s.inactive)).put Reg.KST_UPD.PHASE 5

/-- KEEPER_UPDATE. -/
def execKeeperUpdate (h : Hdr) (s : State) : Res := .next (s.runSpec keeperUpdateSpec h)

end Sys2Proof.Machine
end

