-- ==== Sys2Proof/Machine/ImageBytes.lean ====
section
/-! DEFINITION. Codewords as they lie on flash (R304, R305, R309, R323–R332): the tag, the payload of every record type of the image
log, and the payload's encryption. -/

namespace Sys2Proof.Machine

/-! ## Tag, key and parity (R304, R305, R309) -/

/-- A codeword: what its tag says, and its plaintext payload. -/
structure Codeword where
  lsn : Nat
  subject : Nat
  type : Nat
  flags : Nat
  keygen : Nat
  payload : Bytes
  deriving DecidableEq, Repr

/-- The tag (R305). -/
def Codeword.tag (w : Codeword) : Bytes :=
  leBytes 8 w.lsn ++ leBytes 4 w.subject ++ leBytes 1 w.type ++ leBytes 1 w.flags ++ leBytes 2 w.keygen

/-- The payload as it is stored: AES-256-XTS under the image key of its generation, with the LSN as the tweak (R309). -/
def Codeword.ciphertext (w : Codeword) : Bytes := Config.aesXts (Config.imageKey w.keygen) (BitVec.ofNat 128 w.lsn) w.payload

/-- The codeword's bytes: ciphertext, tag and parity; tag and parity are not encrypted (R304, R309). -/
def Codeword.stored (w : Codeword) : Bytes := w.ciphertext ++ w.tag ++ Config.ldpcParity (w.ciphertext ++ w.tag)

/-! ## PAGE records (R327) -/

/-- FLAGS of a page record (R305). -/
def PageRec.flags (r : PageRec) : Nat := (if r.image.poison == 0 then 0 else 128 + firstPoison r.image.poison) + 64 * ofBool r.reloc

/-- A byte of a page record's payload (R327). -/
def PageRec.byteOf (r : PageRec) (lsn i : Nat) : Byte :=
  if bitOf r.image.poison (i / 64) then
    if i / 64 == firstPoison r.image.poison && i % 64 < 8 then BitVec.ofNat 8 (bitsOf r.image.poison (8 * (i % 64)) 8)
    else Config.poisonedByte lsn i
  else ((r.image.cells.find? fun (c : Host.Cell) => c.1 == i).map Prod.snd).getD 0

/-- The codeword of a page record. A relocation copy keeps the LSN of its original (R306). -/
def PageRec.codeword (r : PageRec) (key : Nat) : Codeword where
  lsn := key % 2 ^ 60
  subject := r.page
  type := 1
  flags := r.flags
  keygen := r.keygen
  payload := (List.range 4096).map (r.byteOf (key % 2 ^ 60))

/-! ## Ring records (R325, R328, R329) -/

/-- Bytes, filled up with zeros to a length. -/
def filled (n : Nat) (b : Bytes) : Bytes := b ++ zeros (n - b.length)

/-- An epoch number and the two bytes after it (R328). -/
def epochBytes (n : Nat) : Bytes := leBytes 6 n ++ zeros 2

/-- The bytes 0–4,091 of SAVE_OPEN (R328). -/
def OpenBody.bytes (b : OpenBody) : Bytes :=
  filled 4092 (epochBytes b.cut ++ epochBytes b.sealing ++ leBytes 8 b.durable ++ leBytes 8 b.d ++ leBytes 8 b.f ++ leBytes 8 b.c ++
    leBytes 1 b.source ++ leBytes 1 (ofBool b.fromRestore + 2 * ofBool b.resumeOk) ++ zeros 6 ++ leBytes 8 b.start)

/-- The bytes 0–4,091 of SEAL (R328). -/
def SealBody.bytes (b : SealBody) : Bytes :=
  filled 4092 (epochBytes b.epoch ++ leBytes 8 b.boundary ++ leBytes 8 b.parent ++ leBytes 8 b.f ++
    leBytes 8 (ofBool b.rack + 2 * ofBool b.inRestore + 4 * ofBool b.afterAbandon))

/-- The bytes 0–4,091 of EPOCH_COMMIT and CUT_COMMIT (R328). -/
def CommitBody.bytes (b : CommitBody) : Bytes :=
  let save := if b.cut then
      leBytes 2 b.saveMs ++ leBytes 2 b.cutUs ++
        leBytes 1 (ofBool b.sealDurable + 2 * ofBool b.thermal + 4 * ofBool b.dmcThrottle + 8 * ofBool b.fromRestore) ++ zeros 3 ++
        leBytes 4 b.pages ++ leBytes 2 b.retries ++ leBytes 2 b.panics
    else zeros 16
  filled 4092 (epochBytes b.number ++ leBytes 8 b.ref ++ leBytes 8 b.parent ++ leBytes 8 b.high ++ leBytes 2 b.carafe ++
    leBytes 2 b.reserved ++ leBytes 2 b.fitted ++ leBytes 1 (ofBool b.rack + 2 * ofBool b.inRestore) ++ zeros 1 ++
    leBytes 8 b.poisoned ++ save ++ (List.range 64).flatMap fun k => leBytes 8 ((NMap.find? b.roots k).getD 0))

/-- An entry of an erase journal record (R329). The address of a block has its page and slot fields 0 (R302, R303). -/
def journalWord (e : Nat × Nat) : Bytes := leBytes 8 (bitsOf e.1 16 11 * 2 ^ 37 + bitsOf e.1 0 16 * 2 ^ 19 + e.2 * 2 ^ 48)

/-- The bytes 0–4,091 of a ring record (R328, R329). -/
def RingBody.bytes (b : RingBody) : Bytes :=
  match b with
  | .saveOpen b => b.bytes
  | .seal b => b.bytes
  | .commit b => b.bytes
  | .journal seq entries => filled 4092 (leBytes 8 seq ++ (entries.take 510).flatMap journalWord)

/-- A payload with the CRC of R325 after its 4,092 bytes. -/
def withCrc (b : Bytes) : Bytes := b ++ leBytes 4 (crc32 b)

/-! ## Codewords of the KEEPER (R323, R330, R716) -/

/-- The 4,096 bytes of a payload: a ring record with its CRC, 512 entries, or 128 records of the event mirror. -/
def Payload.bytes (p : Payload) : Bytes :=
  match p with
  | .ring b => withCrc b.bytes
  | .entries m => (List.range 512).flatMap fun i => leBytes 8 ((NMap.find? m i).getD 0)
  | .mirror l => filled 4096 (l.flatMap EvRecord.bytes)

/-- A codeword of the KEEPER. -/
def KeeperWord.codeword (w : KeeperWord) : Codeword := ⟨w.lsn, w.subject, w.type, w.flags, w.keygen, w.payload.bytes⟩

/-! ## Diagnostic pages (R512, R514) -/

/-- The flash address of slot 0 of a page. -/
def faPageBase (fa : Nat) : Nat := fa - faSlot fa

/-- The payload that a pattern, a seed and a slot give (R512); pattern 1 is all zeros. -/
def patternPayload (pattern seed slot : Nat) : Bytes := if pattern == 1 then zeros 4096 else Config.patternBytes pattern seed slot

/-- The bits in which two payloads differ. -/
def differingBits (a b : Bytes) : Nat := ((a.zip b).map fun e => popcount 8 (e.1 ^^^ e.2).toNat).foldl (· + ·) 0

/-- The codeword of a diagnostic page: TYPE 0x00, a number for each slot (R306, R514). -/
def DiagPage.codeword (d : DiagPage) (slot : Nat) : Codeword := ⟨d.lsn + slot, 0, 0, 0, d.keygen, patternPayload d.pattern d.seed slot⟩

/-! ## What lies at a flash address -/

/-- The codeword at a flash address: a page record, a codeword of the KEEPER or one of a diagnostic page (R304). Each stays until its block
is erased. -/
def State.codewordAt (s : State) (fa : Nat) : Option Codeword :=
  match List.find? (fun (e : Nat × PageRec) => e.2.fa == fa) s.flash.records with
  | some (k, r) => some (r.codeword k)
  | none => match NMap.find? s.flash.cells fa with
    | some w => some w.codeword
    | none => (s.flash.diag.find? fun d => d.fa == faPageBase fa).map fun d => d.codeword (faSlot fa)

end Sys2Proof.Machine
end

