-- ==== Sys2Proof/Machine/CmdTrain.lean ====
section
/-! DEFINITION. The commands that runtime firmware executes on DRAM training and flash (R409, R416–R420, R492, R506, R512, R514, R571),
and the end of asynchronous work (R482, R483, R576). -/

namespace Sys2Proof.Machine

open Host

/-! ## Training -/

/-- Channels that a mask names. -/
def maskChannels (m : Nat) : List Nat := (List.range 8).filter (bitOf m)

/-- A TRAIN_RUN is in progress. -/
def State.trainRuns (s : State) : Bool := s.cmd.results.any fun (e : ResultEntry) => e.opcode == Opc.TRAIN_RUN && e.status.isNone

/-- The conditions of R409, with the statuses that TRAIN_RUN gives them. -/
def trainEarly : Hdr → State → Option Status := fun _ s =>
  if s.saving || s.fogged then some .busySaving
  else if !s.ready Reg.GLB_READY.MEM_FULL then some .busyRestoring
  else if s.flag Reg.TRN_STAT.ACTIVE then some .busyTraining
  else none

/-- TRAIN_RUN (R409, R420, R506): runtime firmware trains the channels and issues STORE. -/
def trainRunSpec : CmdSpec where
  opcode := Opc.TRAIN_RUN
  srcs := ownerBmc
  fw := true
  entry := fun _ => true
  layout := fun _ => 1
  early := trainEarly
  busy := fun _ _ s => if s.trainRuns then some .busy else none
  bad := fun h _ s =>
    let m := byteAt h.payload 0
    m == 0 || !(maskChannels m).all s.dmcRuns
  run := fun h _ s => (s.accept Opc.TRAIN_RUN h).firmwareRuns Opc.TRAIN_RUN h

/-- SPEED_SELECT (R417, R418, R420, R506): record 2. While training data are gathered the bin stays, and REQ_REJECT is set. -/
def speedSelectSpec : CmdSpec where
  opcode := Opc.SPEED_SELECT
  srcs := ownerBmc
  fw := true
  entry := fun _ => true
  layout := fun _ => 1
  early := notSaving
  busy := fun _ _ s => if s.flag Reg.TRN_STAT.GATHER then none else s.recordBusy 2
  bad := fun h _ s => !s.flag Reg.TRN_STAT.GATHER && (decide (byteAt h.payload 0 < minBin) || decide (maxBin < byteAt h.payload 0))
  run := fun h _ s =>
    if s.flag Reg.TRN_STAT.GATHER then s.trnReject.finish Opc.SPEED_SELECT h .busyTraining []
    else s.startWrite 2 (.fields [(Reg.TRN_CFG.NEXT_BIN, byteAt h.payload 0)] none) h

/-- An entry of a delay set, at its place in a record (R402, R571). -/
def entryAt (b : Bytes) (n : Nat) : DelayEntry :=
  let f (k : Nat) : Nat := byteAt b (64 + 8 * n + k)
  ⟨delayPlace (f 0) (f 1) (f 2) (f 3) (f 4) (f 5), fieldAt b (64 + 8 * n + 6) 2⟩

/-- A delay set fails the checks of R571, or its bin is not the one the command names. -/
def setBad (b : Bytes) (bin : Nat) : Bool :=
  let n := fieldAt b 8 4
  fieldAt b 0 2 != 1 || decide (15584 < n) || decide (b.length < 64 + 8 * n) ||
    crc32 ((b.drop 64).take (8 * n)) != fieldAt b 16 4 || decide (byteAt b 2 < minBin) || decide (maxBin < byteAt b 2) || byteAt b 2 != bin

/-- A delay set is being written. -/
def State.setBusy (s : State) : Bool := s.cmd.writes.any fun (w : RecWrite) => decide (setRecord 0 ≤ w.record)

/-- BUSY_TRAINING while a session is active. -/
def loadEarly : Hdr → State → Option Status := fun _ s => if s.flag Reg.TRN_STAT.ACTIVE then some .busyTraining else none

/-- DELAY_SET_LOAD (R416, R420, R497, R506, R571). -/
def delaySetLoadSpec : CmdSpec where
  opcode := Opc.DELAY_SET_LOAD
  srcs := [.bmc]
  fw := true
  entry := fun _ => true
  layout := fun _ => 16
  early := loadEarly
  busy := fun h _ s =>
    if s.chunkBusy Opc.DELAY_SET_LOAD h || (chunkLast h.payload && s.setBusy) then some .busy else none
  bad := fun h _ s =>
    s.chunkBad Opc.DELAY_SET_LOAD 124736 h ||
      (chunkLast h.payload && setBad (s.received Opc.DELAY_SET_LOAD h) (byteAt h.payload 9))
  run := fun h _ s =>
    let b := s.received Opc.DELAY_SET_LOAD h
    if chunkLast h.payload then
      (s.endTransfer Opc.DELAY_SET_LOAD).writeSet (byteAt b 2) (fieldAt b 4 4) ((List.range (fieldAt b 8 4)).map (entryAt b)) (originOf h)
    else (s.takeChunk Opc.DELAY_SET_LOAD h).done Opc.DELAY_SET_LOAD h []

/-! ## Flash diagnostics (R512, R514) -/

/-- The tag of the codeword at a flash address (R305), its payload if its TYPE is 0x00 and the model holds it, and whether its TYPE is
0x00. The tag of a place that the model does not hold, or that cannot be read, is free. -/
def State.tagAt (s : State) (fa : Nat) : Bytes × Option Bytes × Bool × State :=
  match (if s.gone fa then none else s.codewordAt fa) with
  | some w => (w.tag, if w.type == 0 then some w.payload else none, w.type == 0, s)
  | none =>
    let (b, s) := s.freeBytes 16
    (b, none, byteAt b 12 == 0, s)

/-- Payload bits that differ from a pattern (R512): free where the model does not hold the payload. -/
def State.diffBits (s : State) (payload : Option Bytes) (pattern seed slot : Nat) : Nat × State :=
  match payload with
  | some p => (differingBits p (patternPayload pattern seed slot), s)
  | none => (s.free % 32769, s.tick)

/-- The read of a codeword (R307, R308): bits corrected, retry level and outcome are measured, and free. -/
def State.diagRead (s : State) (h : Hdr) : State :=
  let fa := fieldAt h.payload 0 8
  let n := faChannel fa
  if !s.channelUp n then s.finish Opc.FLASH_DIAG_READ h .mediaError []
  else
    let corrected := s.free % 73
    let s := s.tick
    let level := s.free % 16
    let s := s.tick
    let bad := s.free % 2 == 1 || s.gone fa
    let s := s.tick.flashRead fa corrected level bad
    let (tag, payload, plain, s) := s.tagAt fa
    let (diff, s) :=
      if plain && !bad then s.diffBits payload (byteAt h.payload 8) (fieldAt h.payload 12 4) (faSlot fa) else (0xFFFFFFFF, s)
    s.done Opc.FLASH_DIAG_READ h (tag ++ leBytes 2 corrected ++ leBytes 1 level ++ leBytes 1 (ofBool bad) ++ leBytes 4 diff)

/-- FLASH_DIAG_READ (R512, R514). -/
def flashDiagReadSpec : CmdSpec where
  opcode := Opc.FLASH_DIAG_READ
  srcs := ownerBmc
  fw := true
  entry := fun _ => true
  layout := fun _ => 16
  bad := fun h _ s => !s.faValid (fieldAt h.payload 0 8) || decide (2 < byteAt h.payload 8)
  run := fun h _ s => s.diagRead h

/-- The cases in which FLASH_DIAG_PROGRAM is refused (R29, R514): besides those of R514, a block of Keeper structures. -/
def State.diagDenied (s : State) (fa : Nat) : Bool :=
  let x := s.block (faBlock fa)
  s.pstate != PState.UNARMED || s.get Reg.GLB_IMAGE.SOURCE != 0 || s.flash.durableSince || x.st == 5 || x.st == 9 || x.owner == 4

/-- A whole page has been programmed at slot 0 of it (R300, R514). -/
def State.openPage (s : State) (fa owner : Nat) : State := (s.openAt fa owner).closePage (faBlock fa)

/-- A diagnostic program (R306, R314, R315, R514): a number for each codeword, and the page on flash; whether it fails is free. -/
def State.diagProgram (s : State) (h : Hdr) : State :=
  let fa := fieldAt h.payload 0 8
  if !s.channelUp (faChannel fa) then s.finish Opc.FLASH_DIAG_PROGRAM h .mediaError []
  else if !s.inOrder fa then (s.refuseOrder fa).finish Opc.FLASH_DIAG_PROGRAM h .nfcOrder []
  else
    let lsn := s.flash.nextLsn
    let x := s.block (faBlock fa)
    let s := { s with flash := { s.flash with nextLsn := lsn + s.pageSlots } }.openPage fa (if x.st == 6 then x.owner else 3)
    let fails := s.free % 2 == 1
    let s := s.tick
    if fails then ((s.programFailed fa).endFault (nfcUnit (faChannel fa))).finish Opc.FLASH_DIAG_PROGRAM h .mediaError []
    else
      State.done { s with flash := { s.flash with diag := s.flash.diag ++ [⟨fa, byteAt h.payload 8, fieldAt h.payload 12 4, lsn, s.get Reg.NFC_KEY.KEYGEN⟩] } }
        Opc.FLASH_DIAG_PROGRAM h []

/-- FLASH_DIAG_PROGRAM (R512, R514). -/
def flashDiagProgramSpec : CmdSpec where
  opcode := Opc.FLASH_DIAG_PROGRAM
  srcs := ownerBmc
  fw := true
  entry := fun _ => true
  layout := fun _ => 16
  busy := fun h _ s => if s.diagDenied (fieldAt h.payload 0 8) then some .denied else none
  bad := fun h _ s =>
    !s.faValid (fieldAt h.payload 0 8) || faSlot (fieldAt h.payload 0 8) != 0 || decide (2 < byteAt h.payload 8)
  run := fun h _ s => s.diagProgram h

/-! ## Completions -/

/-- The status with a code. -/
def statusOf (n : Nat) : Option Status :=
  [Status.done, .busy, .busySaving, .busyRestoring, .busyTraining, .notReady, .badField, .denied, .authFail, .mediaError, .nfcOrder,
    .aborted, .internal].find? fun st => st.code == n

/-- ASYNC_COMMAND_COMPLETION (R482, R483): runtime firmware ends a command, or the installation of a Keeper image ends (R576). Every
other asynchronous command ends with the work it waits for. -/
def execAsyncCommandCompletion (port : Port) (tag : BitVec 32) (status : BitVec 16) (result : Bytes) (s : State) : Res :=
  match statusOf status.toNat with
  | none => s.idle
  | some st =>
    if s.kst.installing == some (port, tag) then
      if (st == .done || st == .authFail || st == .mediaError) && !s.cmd.writes.any RecWrite.marks then .next (s.finishInstall st) else s.idle
    else
      let train := (s.findResult port tag).any fun e => e.opcode == Opc.TRAIN_RUN
      if s.cpx.executing.contains (port, tag) && train then .next (s.complete port tag st.code result) else s.idle

/-! ## The commands -/

/-- TRAIN_RUN. -/
def execTrainRun (h : Hdr) (s : State) : Res := .next (s.runSpec trainRunSpec h)
/-- SPEED_SELECT. -/
def execSpeedSelect (h : Hdr) (s : State) : Res := .next (s.runSpec speedSelectSpec h)
/-- DELAY_SET_LOAD. -/
def execDelaySetLoad (h : Hdr) (s : State) : Res := .next (s.runSpec delaySetLoadSpec h)
/-- FLASH_DIAG_READ. -/
def execFlashDiagRead (h : Hdr) (s : State) : Res := .next (s.runSpec flashDiagReadSpec h)
/-- FLASH_DIAG_PROGRAM. -/
def execFlashDiagProgram (h : Hdr) (s : State) : Res := .next (s.runSpec flashDiagProgramSpec h)

end Sys2Proof.Machine
end

