-- ==== Sys2Proof/Machine/Packets.lean ====
section
/-! DEFINITION. Packets as they travel: CHAIN_SEND and the chain (R471, R477, R478, R510, R511, R745–R748), the packet engine and host
notify of TWI-U (R730–R739), and packets that no opcode takes (R474, R479). -/

namespace Sys2Proof.Machine

open Host

/-! ## Parsing (R470–R472) -/

/-- Header fields of a packet. -/
def pkOpcode (b : Bytes) : Nat := fieldAt b 0 2
def pkFlags (b : Bytes) : Nat := byteAt b 2
def pkTag (b : Bytes) : BitVec 32 := BitVec.ofNat 32 (fieldAt b 4 4)
def pkLength (b : Bytes) : Nat := fieldAt b 8 4
def pkHop (b : Bytes) : Nat := byteAt b 14
def pkDist (b : Bytes) : Nat := byteAt b 15

/-- REPLY is set. -/
def pkReply (b : Bytes) : Bool := bitOf (pkFlags b) 0

/-- A packet whose HOP is set, and whose DIST is. -/
def withHop (b : Bytes) (hop : Nat) : Bytes := b.take 14 ++ leBytes 1 hop ++ b.drop 15
def withDist (b : Bytes) (dist : Nat) : Bytes := b.take 15 ++ leBytes 1 dist ++ b.drop 16

/-- A packet with RELAYED set. -/
def withRelayed (b : Bytes) : Bytes := b.take 2 ++ leBytes 1 (setBitOf (pkFlags b) 2) ++ b.drop 3

/-- The header CMD acts on. -/
def hdrOf (port : Port) (dist : Nat) (b : Bytes) : Hdr := ⟨port, pkTag b, BitVec.ofNat 8 dist, pkLength b, b.drop 16⟩

/-! ## CHAIN_SEND -/

/-- The packet inside a CHAIN_SEND, with HOP and DIST overwritten (R477, R511). -/
def innerPacket (p : Bytes) : Bytes :=
  let d := byteAt p 0
  withDist (withHop (p.drop 4) (d - 1)) d

/-- BAD_LENGTH for an inner payload above 1,024 bytes. -/
def chainEarly : Hdr → State → Option Status := fun h _ => if 1044 < h.payload.length then some .badLength else none

/-- CHAIN_SEND (R477, R486, R510, R511). A broadcast is over once it is forwarded. -/
def chainSendSpec : CmdSpec where
  opcode := Opc.CHAIN_SEND
  srcs := ownerBmc
  entry := fun p => byteAt p 0 != 255
  layout := fun _ => 20
  ready := fun s => s.ready Reg.GLB_READY.SIDEBAND_UP
  early := chainEarly
  busy := fun h _ s =>
    if s.cmd.chainSends.any fun (c : BitVec 32 × Port × BitVec 32) => c.1 == pkTag (innerPacket h.payload) then some .busy else none
  bad := fun h _ _ => byteAt h.payload 0 == 0
  run := fun h _ s =>
    let pk := innerPacket h.payload
    if byteAt h.payload 0 == 255 then (s.chainSend true false pk).done Opc.CHAIN_SEND h []
    else
      let s := s.accept Opc.CHAIN_SEND h
      State.chainSend { s with cmd := { s.cmd with chainSends := s.cmd.chainSends ++ [(pkTag pk, h.port, h.tag)] } } true false pk

/-- CHAIN_SEND. -/
def execChainSend (h : Hdr) (s : State) : Res := .next (s.runSpec chainSendSpec h)

/-- The CHAIN_SEND that waits for a reply with a tag ends. -/
def State.endChainSend (s : State) (tag : BitVec 32) (st : Status) (result : Bytes) : State :=
  match s.cmd.chainSends.find? fun (c : BitVec 32 × Port × BitVec 32) => c.1 == tag with
  | none => s
  | some c =>
    State.complete { s with cmd := { s.cmd with
      chainSends := s.cmd.chainSends.filter fun (x : BitVec 32 × Port × BitVec 32) => x.1 != tag } } c.2.1 c.2.2 st.code result

/-- CHAIN_SEND_TIMEOUT (R510): no reply within 1 s. -/
def execChainSendTimeout (tag : BitVec 32) (s : State) : Res := .next (s.endChainSend tag .aborted [])

/-! ## Any packet (R479) -/

/-- Every opcode of chapter 11. -/
def allSpecs : List CmdSpec := [
  identifySpec, readyGetSpec, resultGetSpec, fwDownloadSpec, fwStatusSpec, keeperUpdateSpec, keeperUpdateStatusSpec, persistConfigSpec,
  armSpec, disarmSpec, sealBarrierSpec, epochListSpec, restoreSelectSpec, restoreProceedSpec, lossAcceptSpec, budgetConfigSpec,
  wearConfigSpec, saveModelConfigSpec, epochConfigSpec, saveConfigSpec, restoreConfigSpec, foghornRaiseSpec] ++ [
  ldConfigSpec, headOwnerSetSpec, regionDcAddSpec, regionDcReleaseSpec, regionListSpec, reserveStatusSpec, reserveFigureSpec,
  reserveConfigSpec, reserveRestSpec, eventReadSpec, eventClearSpec, eventRouteSpec, dramConfigSpec, dramStatusSpec, trainRunSpec,
  speedSelectSpec, delaySetListSpec, delaySetLoadSpec] ++ [
  flashConfigSpec, flashStatusSpec, kstProtectSpec, kstUserReadSpec, kstUserProgramSpec, kstUserEraseSpec, railStatusSpec,
  railConfigSpec, beaconConfigSpec, twiConfigSpec, twiPortEnableSpec, chainSendSpec, sidebandStatusSpec, echoSpec, regReadSpec,
  regWriteSpec, flashDiagReadSpec, flashDiagProgramSpec]

/-- The command with an opcode. -/
def specOf (op : Nat) : Option CmdSpec := allSpecs.find? fun c => c.opcode == op

/-- A packet whose opcode is not defined: tests 1 and 2 of R479. -/
def State.runUnknown (s : State) (op : Nat) (h : Hdr) : State :=
  if s.cpx.rom then
    if h.port == .twiu then s.reply h.port op h.tag (if badLength h then Status.badLength else .notReady).code 0 [] else s
  else if !s.takes h.port then s
  else if s.awaits h.port then s.turnAway op h
  else s.reply h.port op h.tag (if badLength h then Status.badLength else .badOpcode).code h.dist.toNat []

/-- A packet reaches CMD. One with REPLY set is discarded without a reply (R471). -/
def State.runPacket (s : State) (port : Port) (dist : Nat) (b : Bytes) : State :=
  if pkReply b then s
  else match specOf (pkOpcode b) with
    | some c => s.runSpec c (hdrOf port dist b)
    | none => s.runUnknown (pkOpcode b) (hdrOf port dist b)

/-- A packet shorter than its header: on a mailbox Invalid Payload Length (R474), on any other port BAD_LENGTH (R479), with what the
header would have held taken as 0. -/
def State.shortPacket (s : State) (port : Port) (b : Bytes) : State :=
  if !s.takes port then s
  else if s.awaits port then s.turnAway (pkOpcode b) (hdrOf port 0 b)
  else match port with
    | .mailbox _ | .fmOwned _ => s.emit (.invalidLength port)
    | _ => s.reply port (pkOpcode b) (pkTag b) Status.badLength.code 0 []

/-- MALFORMED_COMMAND_PACKET (R474, R479): a packet as it stands on a port. -/
def execMalformedCommandPacket (port : Port) (packet : Bytes) (s : State) : Res :=
  if packet.length < 16 then .next (s.shortPacket port packet) else .next (s.runPacket port 0 packet)

/-! ## TWI-U (R730–R739) -/

/-- An event of TWI-U; the mask ROM records none. -/
def State.twiEvent (s : State) (e : Source) : State := if s.cpx.rom then s else s.record e 0 []

/-- The partial packet of TWI-U. -/
def State.setPartial (s : State) (b : Bytes) : State := { s with twi := { s.twi with partialPacket := b } }

/-- What has arrived of a packet (R732): complete, it passes to CMD and the reply held before is gone; beyond its length it is
discarded with BAD_LENGTH. -/
def State.takeFragments (s : State) (b : Bytes) : State :=
  if b.length < 16 || b.length < 16 + pkLength b then s.setPartial b
  else
    let s := (s.setPartial []).dropTwiReply
    if b.length == 16 + pkLength b then s.runPacket .twiu 0 b
    else s.reply .twiu (pkOpcode b) (pkTag b) Status.badLength.code 0 []

/-- A fragment arrives behind what the packet already holds. -/
def State.fragment (s : State) (before data : Bytes) (pecOk : Bool) : State :=
  if !pecOk then ((s.setPartial []).count (Reg.TWI_ERR.FRAME 0) 1).twiEvent Ev.TWI_PEC_ERROR
  else s.takeFragments (before ++ data)

/-- A block write of 1 to 255 bytes that TWI-U answers. -/
def State.twiTakes (s : State) (data : Bytes) : Bool := s.portUp .twiu && decide (1 ≤ data.length) && decide (data.length ≤ 255)

/-- TWIU_BLOCK_WRITE_FIRST (R731–R733). -/
def execTwiuBlockWriteFirst (data : Bytes) (pecOk : Bool) (s : State) : Res :=
  if s.twiTakes data then .next (s.fragment [] data pecOk) else s.idle

/-- TWIU_BLOCK_WRITE_NEXT (R731–R733): with no packet in progress the fragment is discarded and counted. -/
def execTwiuBlockWriteNext (data : Bytes) (pecOk : Bool) (s : State) : Res :=
  if !s.twiTakes data then s.idle
  else if s.twi.partialPacket.isEmpty && pecOk then .next (s.count (Reg.TWI_ERR.FRAME 0) 1)
  else .next (s.fragment s.twi.partialPacket data pecOk)

/-- A block read of the reply from a position: the count and the bytes (R731, R732). -/
def State.readReply (s : State) (pos : Nat) : State :=
  let b := (s.twi.reply.drop pos).take 255
  { s.emit (.twiu (leBytes 1 b.length ++ b)) with twi := { s.twi with replyPos := pos + b.length } }

/-- TWIU_REPLY_READ (R731). -/
def execTwiuReplyRead (s : State) : Res := if s.portUp .twiu then .next (s.readReply 0) else s.idle

/-- TWIU_REPLY_READ_NEXT (R731). -/
def execTwiuReplyReadNext (s : State) : Res := if s.portUp .twiu then .next (s.readReply s.twi.replyPos) else s.idle

/-- The port status byte (R731). -/
def State.twiStatus (s : State) : Nat :=
  let pendingResult := s.cmd.results.any fun (e : ResultEntry) => e.port == Port.twiu && e.status.isSome
  ofBool (!s.twi.reply.isEmpty) + 2 * ofBool (s.awaits .twiu) + 4 * ofBool pendingResult + 8 * ofBool (s.twi.notify != 0) +
    16 * ofBool (!(s.rxFifo 0).isEmpty) + 32 * ofBool (decide ((s.txFifo 0).length < 32))

/-- TWIU_STATUS_READ (R731). -/
def execTwiuStatusRead (s : State) : Res := if s.portUp .twiu then .next (s.emit (.twiu (leBytes 1 s.twiStatus))) else s.idle

/-- TWIU_RAW_WRITE (R731, R734): bytes that find the FIFO full are dropped. -/
def execTwiuRawWrite (data : Bytes) (s : State) : Res :=
  if s.twiTakes data && !s.cpx.rom then .next (s.setRx 0 ((s.rxFifo 0 ++ data).take 32)) else s.idle

/-- TWIU_RAW_READ (R731, R734). -/
def execTwiuRawRead (s : State) : Res :=
  if s.portUp .twiu && !s.cpx.rom then
    .next ((s.setTx 0 []).emit (.twiu (leBytes 1 (s.txFifo 0).length ++ s.txFifo 0)))
  else s.idle

/-- A pending host notify is sent; one that the BMC does not acknowledge stays pending (R735, R736). -/
def State.sendNotify (s : State) (acked : Bool) : State :=
  let s' := s.emit (.hostNotify s.twi.notify)
  if acked then { s' with twi := { s.twi with notify := 0 } } else s'

/-- TWI-U has a notify to send; the mask ROM sends none. -/
def State.notifies (s : State) : Bool := s.twi.notify != 0 && s.portUp .twiu && !s.cpx.rom

/-- HOST_NOTIFY (R735): a collision abandons it, and it stays pending. -/
def execHostNotify (acked collision : Bool) (s : State) : Res :=
  if !s.notifies then s.idle
  else if collision then .next ((s.count (Reg.TWI_ERR.COLLISION 0) 1).twiEvent Ev.TWI_COLLISION)
  else .next (s.sendNotify acked)

/-- HOST_NOTIFY_NACK_RETRY (R736). -/
def execHostNotifyNackRetry (acked : Bool) (s : State) : Res := if s.notifies then .next (s.sendNotify acked) else s.idle

/-- TWIU_START_ABORT (R737). -/
def execTwiuStartAbort (s : State) : Res :=
  if s.portUp .twiu then .next (((s.setPartial []).count (Reg.TWI_ERR.START_ABORT 0) 1).twiEvent Ev.TWI_START_ABORT) else s.idle

/-- TWIU_SCL_TIMEOUT (R738). -/
def execTwiuSclTimeout (s : State) : Res :=
  if s.portUp .twiu then .next ((s.setPartial []).count (Reg.TWI_ERR.TIMEOUT 0) 1) else s.idle

/-- TWIU_SDA_STUCK (R739, R744): bus recovery starts. -/
def execTwiuSdaStuck (s : State) : Res :=
  if s.portUp .twiu then .next (s.put (Reg.TWI_STAT.RECOVERING 0) 1) else s.idle

/-! ## The chain (R477, R478, R745–R748) -/

/-- The frames of one direction, and those of the other. -/
def framesOf (l : List ChainTx) (down : Bool) : List ChainTx := l.filter fun x => x.down == down
def framesElse (l : List ChainTx) (down : Bool) : List ChainTx := l.filter fun x => x.down != down

/-- The frame at the front of a queue leaves it: the first frame of the other class is sent next, or the first of any (R748). -/
def State.nextFrame (s : State) (down : Bool) : State :=
  match framesOf s.twi.chainSent down with
  | [] => s
  | sent :: l =>
    let l := match takeFirst (fun (x : ChainTx) => x.relayed != sent.relayed) l with
      | some (x, r) => x :: r
      | none => l
    let s := { s with twi := { s.twi with chainSent := framesElse s.twi.chainSent down ++ l } }
    let s := match l with
      | x :: _ => s.emit (.chain down x.packet)
      | [] => s
    if down then s.relayOn else s

/-- A NAK, or 1 ms without an answer: the frame is sent again, up to 3 times, and then dropped (R747). -/
def State.repeatFrame (s : State) (down : Bool) : State :=
  match framesOf s.twi.chainSent down with
  | [] => s
  | x :: l =>
    if x.repeats < 3 then
      let s := s.count Reg.NCH_CHAIN_ERR.RETRY 1
      { s with twi := { s.twi with
        chainSent := framesElse s.twi.chainSent down ++ { x with repeats := x.repeats + 1 } :: l } }.emit (.chain down x.packet)
    else (s.count Reg.NCH_CHAIN_ERR.DROP 1).nextFrame down

/-- A packet is discarded under R478. -/
def State.chainDiscard (s : State) : State := (s.count Reg.NCH_CHAIN_CNT.DISCARD 1).record Ev.CHAIN_DISCARD wide []

/-- A packet received on CHAIN_UP (R471, R477, R478). -/
def State.chainFromUp (s : State) (b : Bytes) : State :=
  if pkReply b then s
  else if pkDist b == 0 then s.chainDiscard
  else if pkDist b == 255 then
    let s := s.chainSend true true b
    if pkOpcode b == Opc.KEEPER_UPDATE then s.runPacket .chainUp 255 b else s
  else if pkHop b == 0 then s.runPacket .chainUp (pkDist b) b
  else s.chainSend true true (withRelayed (withHop b (pkHop b - 1)))

/-- A packet received on CHAIN_DN (R477, R478). -/
def State.chainFromDown (s : State) (b : Bytes) : State :=
  if !pkReply b then s.chainDiscard
  else if pkHop b == 0 then s.endChainSend (pkTag b) .done b
  else s.chainSend false true (withRelayed (withHop b (pkHop b - 1)))

/-- CHAIN_FRAME (R747): an empty packet is an answer frame, ACK where its CRC passes and NAK otherwise. A packet is acknowledged and
acted on, or refused. A frame that holds no whole header is acknowledged and nothing more. -/
def execChainFrame (down : Bool) (packet : Bytes) (crcOk : Bool) (s : State) : Res :=
  if !s.chainLink down then s.idle
  else if packet.isEmpty then .next (if crcOk then s.nextFrame down else s.repeatFrame down)
  else if !crcOk then .next ((s.count Reg.NCH_CHAIN_ERR.CRC_ERR 1).emit (.chainAnswer down true))
  else
    let s := s.emit (.chainAnswer down false)
    if packet.length < 16 then .next s
    else .next (if down then s.chainFromDown packet else s.chainFromUp packet)

/-- CHAIN_ACK_TIMEOUT (R747). -/
def execChainAckTimeout (down : Bool) (s : State) : Res := .next (s.repeatFrame down)

/-- The link bit of a chain port. -/
def chainBit (down : Bool) : Fld := if down then Reg.NCH_CHAIN_STAT.DN_LINK else Reg.NCH_CHAIN_STAT.UP_LINK

/-- CHAIN_LINK_UP (R746). -/
def execChainLinkUp (down : Bool) (s : State) : Res :=
  if s.chainLink down || !s.ready Reg.GLB_READY.KEEPER_UP then s.idle
  else .next ((s.put (chainBit down) 1).record Ev.CHAIN_LINK_UP (Config.chainPort down).toNat [])

/-- CHAIN_LINK_DOWN (R746): a frame partly received is gone. -/
def execChainLinkDown (down : Bool) (s : State) : Res :=
  if s.chainLink down then
    .next (((s.put (chainBit down) 0).count Reg.NCH_CHAIN_ERR.LINK_DOWNS 1).record Ev.CHAIN_LINK_DOWN (Config.chainPort down).toNat [])
  else s.idle

end Sys2Proof.Machine
end

