-- ==== Sys2Proof/Machine/Dispatch.lean ====
section
/-! DEFINITION. One arm for each command: the direct call of its meaning. -/

namespace Sys2Proof.Machine

open Host

/-- The effect of a command on everything but the queue. -/
def exec (i : Instr) (s : State) : Host.Outcome State Fault Refusal :=
  match i with
  | .identify h => Sys2Proof.Machine.execIdentify h s
  | .readyGet h => Sys2Proof.Machine.execReadyGet h s
  | .resultGet h => Sys2Proof.Machine.execResultGet h s
  | .fwDownload h => Sys2Proof.Machine.execFwDownload h s
  | .fwStatus h => Sys2Proof.Machine.execFwStatus h s
  | .keeperUpdate h => Sys2Proof.Machine.execKeeperUpdate h s
  | .keeperUpdateStatus h => Sys2Proof.Machine.execKeeperUpdateStatus h s
  | .persistConfig h => Sys2Proof.Machine.execPersistConfig h s
  | .arm h => Sys2Proof.Machine.execArm h s
  | .disarm h => Sys2Proof.Machine.execDisarm h s
  | .sealBarrier h => Sys2Proof.Machine.execSealBarrier h s
  | .epochList h => Sys2Proof.Machine.execEpochList h s
  | .restoreSelect h => Sys2Proof.Machine.execRestoreSelect h s
  | .restoreProceed h => Sys2Proof.Machine.execRestoreProceed h s
  | .lossAccept h => Sys2Proof.Machine.execLossAccept h s
  | .budgetConfig h => Sys2Proof.Machine.execBudgetConfig h s
  | .wearConfig h => Sys2Proof.Machine.execWearConfig h s
  | .saveModelConfig h => Sys2Proof.Machine.execSaveModelConfig h s
  | .epochConfig h => Sys2Proof.Machine.execEpochConfig h s
  | .saveConfig h => Sys2Proof.Machine.execSaveConfig h s
  | .restoreConfig h => Sys2Proof.Machine.execRestoreConfig h s
  | .foghornRaise h => Sys2Proof.Machine.execFoghornRaise h s
  | .ldConfig h => Sys2Proof.Machine.execLdConfig h s
  | .headOwnerSet h => Sys2Proof.Machine.execHeadOwnerSet h s
  | .regionDcAdd h => Sys2Proof.Machine.execRegionDcAdd h s
  | .regionDcRelease h => Sys2Proof.Machine.execRegionDcRelease h s
  | .regionList h => Sys2Proof.Machine.execRegionList h s
  | .reserveStatus h => Sys2Proof.Machine.execReserveStatus h s
  | .reserveFigure h => Sys2Proof.Machine.execReserveFigure h s
  | .reserveConfig h => Sys2Proof.Machine.execReserveConfig h s
  | .reserveRest h => Sys2Proof.Machine.execReserveRest h s
  | .eventRead h => Sys2Proof.Machine.execEventRead h s
  | .eventClear h => Sys2Proof.Machine.execEventClear h s
  | .eventRoute h => Sys2Proof.Machine.execEventRoute h s
  | .dramConfig h => Sys2Proof.Machine.execDramConfig h s
  | .dramStatus h => Sys2Proof.Machine.execDramStatus h s
  | .trainRun h => Sys2Proof.Machine.execTrainRun h s
  | .speedSelect h => Sys2Proof.Machine.execSpeedSelect h s
  | .delaySetList h => Sys2Proof.Machine.execDelaySetList h s
  | .delaySetLoad h => Sys2Proof.Machine.execDelaySetLoad h s
  | .flashConfig h => Sys2Proof.Machine.execFlashConfig h s
  | .flashStatus h => Sys2Proof.Machine.execFlashStatus h s
  | .kstProtect h => Sys2Proof.Machine.execKstProtect h s
  | .kstUserRead h => Sys2Proof.Machine.execKstUserRead h s
  | .kstUserProgram h => Sys2Proof.Machine.execKstUserProgram h s
  | .kstUserErase h => Sys2Proof.Machine.execKstUserErase h s
  | .railStatus h => Sys2Proof.Machine.execRailStatus h s
  | .railConfig h => Sys2Proof.Machine.execRailConfig h s
  | .beaconConfig h => Sys2Proof.Machine.execBeaconConfig h s
  | .twiConfig h => Sys2Proof.Machine.execTwiConfig h s
  | .twiPortEnable h => Sys2Proof.Machine.execTwiPortEnable h s
  | .chainSend h => Sys2Proof.Machine.execChainSend h s
  | .sidebandStatus h => Sys2Proof.Machine.execSidebandStatus h s
  | .echo h => Sys2Proof.Machine.execEcho h s
  | .regRead h => Sys2Proof.Machine.execRegRead h s
  | .regWrite h => Sys2Proof.Machine.execRegWrite h s
  | .flashDiagRead h => Sys2Proof.Machine.execFlashDiagRead h s
  | .flashDiagProgram h => Sys2Proof.Machine.execFlashDiagProgram h s
  | .commandReplyTimeout port tag => Sys2Proof.Machine.execCommandReplyTimeout port tag s
  | .asyncCommandCompletion port tag status result => Sys2Proof.Machine.execAsyncCommandCompletion port tag status result s
  | .chunkTransferTimeout opcode => Sys2Proof.Machine.execChunkTransferTimeout opcode s
  | .chainSendTimeout tag => Sys2Proof.Machine.execChainSendTimeout tag s
  | .identifyMemoryDevice ld => Sys2Proof.Machine.execIdentifyMemoryDevice ld s
  | .getSupportedLogs ld => Sys2Proof.Machine.execGetSupportedLogs ld s
  | .getLog ld uuid offset length => Sys2Proof.Machine.execGetLog ld uuid offset length s
  | .getLsa ld offset length => Sys2Proof.Machine.execGetLsa ld offset length s
  | .setLsa ld offset data => Sys2Proof.Machine.execSetLsa ld offset data s
  | .getHealthInfo ld => Sys2Proof.Machine.execGetHealthInfo ld s
  | .getAlertConfiguration ld => Sys2Proof.Machine.execGetAlertConfiguration ld s
  | .setAlertConfiguration ld settings => Sys2Proof.Machine.execSetAlertConfiguration ld settings s
  | .getShutdownState ld => Sys2Proof.Machine.execGetShutdownState ld s
  | .setShutdownState ld dirty => Sys2Proof.Machine.execSetShutdownState ld dirty s
  | .getPoisonList ld start length => Sys2Proof.Machine.execGetPoisonList ld start length s
  | .clearPoison ld lpa data => Sys2Proof.Machine.execClearPoison ld lpa data s
  | .injectPoison ld lpa => Sys2Proof.Machine.execInjectPoison ld lpa s
  | .scanMedia ld lpa length uncorrectable => Sys2Proof.Machine.execScanMedia ld lpa length uncorrectable s
  | .getScanMediaResults ld => Sys2Proof.Machine.execGetScanMediaResults ld s
  | .getEventRecords ld log => Sys2Proof.Machine.execGetEventRecords ld log s
  | .clearEventRecords ld log all handles => Sys2Proof.Machine.execClearEventRecords ld log all handles s
  | .getEventInterruptPolicy ld => Sys2Proof.Machine.execGetEventInterruptPolicy ld s
  | .setEventInterruptPolicy ld policy => Sys2Proof.Machine.execSetEventInterruptPolicy ld policy s
  | .getDynamicCapacityConfig ld => Sys2Proof.Machine.execGetDynamicCapacityConfig ld s
  | .getDynamicCapacityExtentList ld => Sys2Proof.Machine.execGetDynamicCapacityExtentList ld s
  | .addDynamicCapacityResponse ld accepted => Sys2Proof.Machine.execAddDynamicCapacityResponse ld accepted s
  | .releaseDynamicCapacity ld lpas => Sys2Proof.Machine.execReleaseDynamicCapacity ld lpas s
  | .initiateDynamicCapacityAdd h => Sys2Proof.Machine.execInitiateDynamicCapacityAdd h s
  | .initiateDynamicCapacityRelease h => Sys2Proof.Machine.execInitiateDynamicCapacityRelease h s
  | .unsupportedCxlCommand ld opcode => Sys2Proof.Machine.execUnsupportedCxlCommand ld opcode s
  | .dcWaitExpired ld => Sys2Proof.Machine.execDcWaitExpired ld s
  | .trnStart req ch => Sys2Proof.Machine.execTrnStart req ch s
  | .trnCommit req verified => Sys2Proof.Machine.execTrnCommit req verified s
  | .trnAbort req => Sys2Proof.Machine.execTrnAbort req s
  | .trnStore req => Sys2Proof.Machine.execTrnStore req s
  | .nextBinWrite req bin => Sys2Proof.Machine.execNextBinWrite req bin s
  | .trainingSlice delays eyes uncorrectable complete => Sys2Proof.Machine.execTrainingSlice delays eyes uncorrectable complete s
  | .dmaStart req ch => Sys2Proof.Machine.execDmaStart req ch s
  | .dmaPause req ch => Sys2Proof.Machine.execDmaPause req ch s
  | .dmaResume req ch => Sys2Proof.Machine.execDmaResume req ch s
  | .dmaDrain req ch => Sys2Proof.Machine.execDmaDrain req ch s
  | .dmaHalt req ch => Sys2Proof.Machine.execDmaHalt req ch s
  | .dmaSwreq req lines => Sys2Proof.Machine.execDmaSwreq req lines s
  | .dmaBurstDone ch => Sys2Proof.Machine.execDmaBurstDone ch s
  | .dmaBeatTimeout ch write addr => Sys2Proof.Machine.execDmaBeatTimeout ch write addr s
  | .evrCursorOldest req => Sys2Proof.Machine.execEvrCursorOldest req s
  | .evrCursorAdvance req => Sys2Proof.Machine.execEvrCursorAdvance req s
  | .evrCursorSeek req => Sys2Proof.Machine.execEvrCursorSeek req s
  | .evrAreaSelect req area => Sys2Proof.Machine.execEvrAreaSelect req area s
  | .evrWin0Read req => Sys2Proof.Machine.execEvrWin0Read req s
  | .epochLoCaptureRead req off => Sys2Proof.Machine.execEpochLoCaptureRead req off s
  | .drpSsDirtyRead req => Sys2Proof.Machine.execDrpSsDirtyRead req s
  | .rcRegisterRead req off size => Sys2Proof.Machine.execRcRegisterRead req off size s
  | .rgnFaultRead req => Sys2Proof.Machine.execRgnFaultRead req s
  | .cpxViolInfoRead req => Sys2Proof.Machine.execCpxViolInfoRead req s
  | .adcResultRead req => Sys2Proof.Machine.execAdcResultRead req s
  | .adcUrgResRead req => Sys2Proof.Machine.execAdcUrgResRead req s
  | .adcUrg req value => Sys2Proof.Machine.execAdcUrg req value s
  | .adcConversionDone conv code ovr => Sys2Proof.Machine.execAdcConversionDone conv code ovr s
  | .urgentConversionDone conv code ovr => Sys2Proof.Machine.execUrgentConversionDone conv code ovr s
  | .lanternAdcCycle packId packNtc packV vsup => Sys2Proof.Machine.execLanternAdcCycle packId packNtc packV vsup s
  | .twiRxdataRead req port => Sys2Proof.Machine.execTwiRxdataRead req port s
  | .twiTxdataWrite req port byte => Sys2Proof.Machine.execTwiTxdataWrite req port byte s
  | .twiXfer req port value => Sys2Proof.Machine.execTwiXfer req port value s
  | .twiTransactionDone port result data => Sys2Proof.Machine.execTwiTransactionDone port result data s
  | .twiTargetTimeout port => Sys2Proof.Machine.execTwiTargetTimeout port s
  | .busRecovery port freed => Sys2Proof.Machine.execBusRecovery port freed s
  | .relocate req block => Sys2Proof.Machine.execRelocate req block s
  | .erase req block => Sys2Proof.Machine.execErase req block s
  | .domainPowerUp req domain => Sys2Proof.Machine.execDomainPowerUp req domain s
  | .domainPowerDown req domain => Sys2Proof.Machine.execDomainPowerDown req domain s
  | .domainDmaWaitTimeout domain => Sys2Proof.Machine.execDomainDmaWaitTimeout domain s
  | .cpxWdtKick req value => Sys2Proof.Machine.execCpxWdtKick req value s
  | .hifHeadCtoWrite req h value => Sys2Proof.Machine.execHifHeadCtoWrite req h value s
  | .kstVmodeEccWrite req ecc value => Sys2Proof.Machine.execKstVmodeEccWrite req ecc value s
  | .pwrCfgWrite req vin value => Sys2Proof.Machine.execPwrCfgWrite req vin value s
  | .registerWrite req off size value => Sys2Proof.Machine.execRegisterWrite req off size value s
  | .appCoreAccess core kind addr size value => Sys2Proof.Machine.execAppCoreAccess core kind addr size value s
  | .hostWrite h ld lpa data poison => Sys2Proof.Machine.execHostWrite h ld lpa data poison s
  | .hostRead h ld lpa found => Sys2Proof.Machine.execHostRead h ld lpa found s
  | .waitingWriteAdmitted => Sys2Proof.Machine.execWaitingWriteAdmitted s
  | .admissionTimeout => Sys2Proof.Machine.execAdmissionTimeout s
  | .arming => Sys2Proof.Machine.execArming s
  | .copyBeforeWriteDone page errors => Sys2Proof.Machine.execCopyBeforeWriteDone page errors s
  | .directPersistDone page fa errors => Sys2Proof.Machine.execDirectPersistDone page fa errors s
  | .carafeWaitExpired => Sys2Proof.Machine.execCarafeWaitExpired s
  | .trackUe word => Sys2Proof.Machine.execTrackUe word s
  | .maskUe line => Sys2Proof.Machine.execMaskUe line s
  | .dripPageRead fa errors => Sys2Proof.Machine.execDripPageRead fa errors s
  | .dripProgramPass page => Sys2Proof.Machine.execDripProgramPass page s
  | .dripProgramFail page fa => Sys2Proof.Machine.execDripProgramFail page fa s
  | .wearCreditWrite => Sys2Proof.Machine.execWearCreditWrite s
  | .boundaryDue => Sys2Proof.Machine.execBoundaryDue s
  | .beaconFrame number crc valid inWindow => Sys2Proof.Machine.execBeaconFrame number crc valid inWindow s
  | .beaconWindowMiss => Sys2Proof.Machine.execBeaconWindowMiss s
  | .beaconSourceFrame => Sys2Proof.Machine.execBeaconSourceFrame s
  | .beaconAcceptedBoundary => Sys2Proof.Machine.execBeaconAcceptedBoundary s
  | .sealRecordPassed => Sys2Proof.Machine.execSealRecordPassed s
  | .indexSegmentPassed => Sys2Proof.Machine.execIndexSegmentPassed s
  | .epochDurable => Sys2Proof.Machine.execEpochDurable s
  | .ringRecordProgramFail fa => Sys2Proof.Machine.execRingRecordProgramFail fa s
  | .sanitizeFillPage ext => Sys2Proof.Machine.execSanitizeFillPage ext s
  | .vinMainFall shortDip => Sys2Proof.Machine.execVinMainFall shortDip s
  | .vinLossDetected => Sys2Proof.Machine.execVinLossDetected s
  | .gpfPhase1 h => Sys2Proof.Machine.execGpfPhase1 h s
  | .gpfPhase2 h => Sys2Proof.Machine.execGpfPhase2 h s
  | .graceExpired => Sys2Proof.Machine.execGraceExpired s
  | .cuttingEnd => Sys2Proof.Machine.execCuttingEnd s
  | .saveProgramPass item fa errors => Sys2Proof.Machine.execSaveProgramPass item fa errors s
  | .saveProgramFail item program => Sys2Proof.Machine.execSaveProgramFail item program s
  | .cutCommitPassed => Sys2Proof.Machine.execCutCommitPassed s
  | .vinValidQualified => Sys2Proof.Machine.execVinValidQualified s
  | .resumeTimeout => Sys2Proof.Machine.execResumeTimeout s
  | .railPgLow rail => Sys2Proof.Machine.execRailPgLow rail s
  | .timedShutdownStep before after => Sys2Proof.Machine.execTimedShutdownStep before after s
  | .pbtnPress => Sys2Proof.Machine.execPbtnPress s
  | .pbtnOff => Sys2Proof.Machine.execPbtnOff s
  | .wakeRequest => Sys2Proof.Machine.execWakeRequest s
  | .autoPowerOn => Sys2Proof.Machine.execAutoPowerOn s
  | .powerupRetry => Sys2Proof.Machine.execPowerupRetry s
  | .powerupRankStep => Sys2Proof.Machine.execPowerupRankStep s
  | .powerupTimeout rail => Sys2Proof.Machine.execPowerupTimeout rail s
  | .keeperBootStart disagree refused flash => Sys2Proof.Machine.execKeeperBootStart disagree refused flash s
  | .mrstN => Sys2Proof.Machine.execMrstN s
  | .vsupLevelCrossing mv => Sys2Proof.Machine.execVsupLevelCrossing mv s
  | .lanternReset => Sys2Proof.Machine.execLanternReset s
  | .pllUnlock pll => Sys2Proof.Machine.execPllUnlock pll s
  | .refLost => Sys2Proof.Machine.execRefLost s
  | .pllLocked pll => Sys2Proof.Machine.execPllLocked pll s
  | .dieOverTemperature => Sys2Proof.Machine.execDieOverTemperature s
  | .rsvSample mv ma tenthC idCode => Sys2Proof.Machine.execRsvSample mv ma tenthC idCode s
  | .keeperReserveEval => Sys2Proof.Machine.execKeeperReserveEval s
  | .dsgCutoff => Sys2Proof.Machine.execDsgCutoff s
  | .chargeEnd => Sys2Proof.Machine.execChargeEnd s
  | .rechargeStart => Sys2Proof.Machine.execRechargeStart s
  | .chgFault cause => Sys2Proof.Machine.execChgFault cause s
  | .chgFaultRetry => Sys2Proof.Machine.execChgFaultRetry s
  | .restPoint mv => Sys2Proof.Machine.execRestPoint mv s
  | .maintenanceRestTimeout => Sys2Proof.Machine.execMaintenanceRestTimeout s
  | .stepResistanceSample r25 => Sys2Proof.Machine.execStepResistanceSample r25 s
  | .imageIndexed keyOk reads badCrc foreign => Sys2Proof.Machine.execImageIndexed keyOk reads badCrc foreign s
  | .selectWaitExpired => Sys2Proof.Machine.execSelectWaitExpired s
  | .directoryLoaded => Sys2Proof.Machine.execDirectoryLoaded s
  | .sweepPageDone uncorrectable retries shown => Sys2Proof.Machine.execSweepPageDone uncorrectable retries shown s
  | .zeroFillPage => Sys2Proof.Machine.execZeroFillPage s
  | .faultInDone page uncorrectable retries shown => Sys2Proof.Machine.execFaultInDone page uncorrectable retries shown s
  | .dramRecoveryDone page uncorrectable retries corrected => Sys2Proof.Machine.execDramRecoveryDone page uncorrectable retries corrected s
  | .dramAlert ch replays rank lost => Sys2Proof.Machine.execDramAlert ch replays rank lost s
  | .migrationUnitDone ch errors => Sys2Proof.Machine.execMigrationUnitDone ch errors s
  | .refreshDue ch rank bank feeds => Sys2Proof.Machine.execRefreshDue ch rank bank feeds s
  | .mr4Poll ch above1x => Sys2Proof.Machine.execMr4Poll ch above1x s
  | .rowDisturbThrottle ch id rank bank => Sys2Proof.Machine.execRowDisturbThrottle ch id rank bank s
  | .throttleEnd ch id => Sys2Proof.Machine.execThrottleEnd ch id s
  | .powerDownTimer ch rank => Sys2Proof.Machine.execPowerDownTimer ch rank s
  | .timedRowClose ch => Sys2Proof.Machine.execTimedRowClose ch s
  | .scrubPeriodEnd ch => Sys2Proof.Machine.execScrubPeriodEnd ch s
  | .eraseIntentPassed block => Sys2Proof.Machine.execEraseIntentPassed block s
  | .eraseDone block result => Sys2Proof.Machine.execEraseDone block result s
  | .relocationCopyDone block fa read => Sys2Proof.Machine.execRelocationCopyDone block fa read s
  | .flashTempPoll ch temps => Sys2Proof.Machine.execFlashTempPoll ch temps s
  | .recordWriteDone rec ok => Sys2Proof.Machine.execRecordWriteDone rec ok s
  | .kstEraseDone sector blank => Sys2Proof.Machine.execKstEraseDone sector blank s
  | .linkUp h width gts flit256 => Sys2Proof.Machine.execLinkUp h width gts flit256 s
  | .linkDown h => Sys2Proof.Machine.execLinkDown h s
  | .configSpaceReady h => Sys2Proof.Machine.execConfigSpaceReady h s
  | .cxlMemEnable ld on => Sys2Proof.Machine.execCxlMemEnable ld on s
  | .portReset port kind => Sys2Proof.Machine.execPortReset port kind s
  | .functionLevelReset ld => Sys2Proof.Machine.execFunctionLevelReset ld s
  | .twiuBlockWriteFirst data pecOk => Sys2Proof.Machine.execTwiuBlockWriteFirst data pecOk s
  | .twiuBlockWriteNext data pecOk => Sys2Proof.Machine.execTwiuBlockWriteNext data pecOk s
  | .twiuRawWrite data => Sys2Proof.Machine.execTwiuRawWrite data s
  | .hostNotify acked collision => Sys2Proof.Machine.execHostNotify acked collision s
  | .hostNotifyNackRetry acked => Sys2Proof.Machine.execHostNotifyNackRetry acked s
  | .chainFrame down packet crcOk => Sys2Proof.Machine.execChainFrame down packet crcOk s
  | .chainAckTimeout down => Sys2Proof.Machine.execChainAckTimeout down s
  | .chainLinkUp down => Sys2Proof.Machine.execChainLinkUp down s
  | .chainLinkDown down => Sys2Proof.Machine.execChainLinkDown down s
  | .keeperRestartEnd ok => Sys2Proof.Machine.execKeeperRestartEnd ok s
  | .patrolScrubRead ch correctable uncorrectable => Sys2Proof.Machine.execPatrolScrubRead ch correctable uncorrectable s
  | .failedUnitRestart unit retire => Sys2Proof.Machine.execFailedUnitRestart unit retire s
  | .malformedCommandPacket port packet => Sys2Proof.Machine.execMalformedCommandPacket port packet s
  | .cmdBootSet => Sys2Proof.Machine.execCmdBootSet s
  | .fwReadySignal => Sys2Proof.Machine.execFwReadySignal s
  | .fwReadyTimeout => Sys2Proof.Machine.execFwReadyTimeout s
  | .fwWatchdogExpired => Sys2Proof.Machine.execFwWatchdogExpired s
  | .fwCrash => Sys2Proof.Machine.execFwCrash s
  | .pdAppIdleTimeout => Sys2Proof.Machine.execPdAppIdleTimeout s
  | .keeperLockstep => Sys2Proof.Machine.execKeeperLockstep s
  | .twiuReplyRead => Sys2Proof.Machine.execTwiuReplyRead s
  | .twiuReplyReadNext => Sys2Proof.Machine.execTwiuReplyReadNext s
  | .twiuStatusRead => Sys2Proof.Machine.execTwiuStatusRead s
  | .twiuRawRead => Sys2Proof.Machine.execTwiuRawRead s
  | .twiuStartAbort => Sys2Proof.Machine.execTwiuStartAbort s
  | .twiuSclTimeout => Sys2Proof.Machine.execTwiuSclTimeout s
  | .twiuSdaStuck => Sys2Proof.Machine.execTwiuSdaStuck s
  | .vinMainReturn => Sys2Proof.Machine.execVinMainReturn s
  | .sidebandUp => Sys2Proof.Machine.execSidebandUp s

end Sys2Proof.Machine
end

