-- ==== Sys2Proof/Safety.lean ====
section
/-! DEFINITION. What the model calls a safe run, and the words in which statements speak of commands. -/

namespace Sys2Proof

open Machine

/-- The step answers a next state. -/
def StepsSafely (s : Machine.State) : Prop := ∃ s', Machine.step s = .next s'

namespace Machine

/-- CMD takes the packet on its port, where no command awaits its reply, and every test of R479 passes (R480, R524). -/
def State.accepts (s : State) (c : CmdSpec) (h : Hdr) : Prop :=
  s.cpx.rom = false ∧ s.takes h.port = true ∧ s.awaits h.port = false ∧ s.cmdTest c h (s.srcOf h.port) = none

/-- CMD takes the packet, and a test of R479 fails with a status (R479). -/
def State.turnsAway (s : State) (c : CmdSpec) (h : Hdr) (st : Status) : Prop :=
  s.cpx.rom = false ∧ s.takes h.port = true ∧ s.awaits h.port = false ∧ s.cmdTest c h (s.srcOf h.port) = some st

/-- A requester that reaches registers is in a visibility class (R13, R14, R512). -/
def State.permits (s : State) (req : Req) (v : Vis) : Prop := req ≠ .chain ∧ s.entitled req v = true

/-- Every memory of the machine is in canonical form: device memory, application SRAM and the integrator area (log entry 3). -/
def State.memoryCanonical (s : State) : Prop :=
  Memory.wf s.dram = true ∧ Memory.wf s.cpx.ram = true ∧ Memory.wf s.kst.user = true

/-- A management packet: the specification of its opcode and its header. No other row reaches CMD. -/
def packetRow : Instr → Option (CmdSpec × Hdr)
  | .identify h => some (identifySpec, h)
  | .readyGet h => some (readyGetSpec, h)
  | .resultGet h => some (resultGetSpec, h)
  | .fwDownload h => some (fwDownloadSpec, h)
  | .fwStatus h => some (fwStatusSpec, h)
  | .keeperUpdate h => some (keeperUpdateSpec, h)
  | .keeperUpdateStatus h => some (keeperUpdateStatusSpec, h)
  | .persistConfig h => some (persistConfigSpec, h)
  | .arm h => some (armSpec, h)
  | .disarm h => some (disarmSpec, h)
  | .sealBarrier h => some (sealBarrierSpec, h)
  | .epochList h => some (epochListSpec, h)
  | .restoreSelect h => some (restoreSelectSpec, h)
  | .restoreProceed h => some (restoreProceedSpec, h)
  | .lossAccept h => some (lossAcceptSpec, h)
  | .budgetConfig h => some (budgetConfigSpec, h)
  | .wearConfig h => some (wearConfigSpec, h)
  | .saveModelConfig h => some (saveModelConfigSpec, h)
  | .epochConfig h => some (epochConfigSpec, h)
  | .saveConfig h => some (saveConfigSpec, h)
  | .restoreConfig h => some (restoreConfigSpec, h)
  | .foghornRaise h => some (foghornRaiseSpec, h)
  | .ldConfig h => some (ldConfigSpec, h)
  | .headOwnerSet h => some (headOwnerSetSpec, h)
  | .regionDcAdd h => some (regionDcAddSpec, h)
  | .regionDcRelease h => some (regionDcReleaseSpec, h)
  | .regionList h => some (regionListSpec, h)
  | .reserveStatus h => some (reserveStatusSpec, h)
  | .reserveFigure h => some (reserveFigureSpec, h)
  | .reserveConfig h => some (reserveConfigSpec, h)
  | .reserveRest h => some (reserveRestSpec, h)
  | .eventRead h => some (eventReadSpec, h)
  | .eventClear h => some (eventClearSpec, h)
  | .eventRoute h => some (eventRouteSpec, h)
  | .dramConfig h => some (dramConfigSpec, h)
  | .dramStatus h => some (dramStatusSpec, h)
  | .trainRun h => some (trainRunSpec, h)
  | .speedSelect h => some (speedSelectSpec, h)
  | .delaySetList h => some (delaySetListSpec, h)
  | .delaySetLoad h => some (delaySetLoadSpec, h)
  | .flashConfig h => some (flashConfigSpec, h)
  | .flashStatus h => some (flashStatusSpec, h)
  | .kstProtect h => some (kstProtectSpec, h)
  | .kstUserRead h => some (kstUserReadSpec, h)
  | .kstUserProgram h => some (kstUserProgramSpec, h)
  | .kstUserErase h => some (kstUserEraseSpec, h)
  | .railStatus h => some (railStatusSpec, h)
  | .railConfig h => some (railConfigSpec, h)
  | .beaconConfig h => some (beaconConfigSpec, h)
  | .twiConfig h => some (twiConfigSpec, h)
  | .twiPortEnable h => some (twiPortEnableSpec, h)
  | .chainSend h => some (chainSendSpec, h)
  | .sidebandStatus h => some (sidebandStatusSpec, h)
  | .echo h => some (echoSpec, h)
  | .regRead h => some (regReadSpec, h)
  | .regWrite h => some (regWriteSpec, h)
  | .flashDiagRead h => some (flashDiagReadSpec, h)
  | .flashDiagProgram h => some (flashDiagProgramSpec, h)
  | _ => none

/-- The management commands that only report, and those whose effect comes with the end of a record write (R494). -/
def quietRow : Instr → Bool
  | .identify .. | .readyGet .. | .fwStatus .. | .keeperUpdateStatus .. | .epochList .. | .regionList ..
  | .reserveStatus .. | .eventRead .. | .dramStatus .. | .delaySetList .. | .flashStatus .. | .railStatus ..
  | .sidebandStatus .. | .echo .. | .persistConfig .. | .budgetConfig .. | .wearConfig .. | .saveModelConfig ..
  | .epochConfig .. | .saveConfig .. | .restoreConfig .. | .ldConfig .. | .headOwnerSet .. | .reserveConfig ..
  | .eventRoute .. | .dramConfig .. | .flashConfig .. | .railConfig .. | .beaconConfig .. | .twiConfig ..
  | .resultGet .. => true
  | _ => false

/-- The rows that may change device memory: host writes, fills, restored pages, DMA and the poison commands; every row after which
the save set, the budget, the arming or an abandoned epoch may let a waiting write go on (R90, R91, R132, R180); and the power's fall, which
leaves nothing in it. An error of a DRAM channel and t_F end the wait of a write for a migration (R387–R389), and so may every row that meets one.
A packet may reach any command. -/
def mayWriteMemory : Instr → Bool
  | .arm .. | .disarm .. | .sealBarrier .. | .foghornRaise .. | .reserveFigure .. | .regWrite .. | .clearPoison ..
  | .injectPoison .. | .scanMedia .. | .trainingSlice .. | .dmaBurstDone .. | .dmaBeatTimeout .. | .adcConversionDone ..
  | .pwrCfgWrite .. | .registerWrite .. | .appCoreAccess .. | .hostWrite .. | .hostRead .. | .waitingWriteAdmitted
  | .admissionTimeout | .arming | .copyBeforeWriteDone .. | .directPersistDone .. | .carafeWaitExpired
  | .trackUe .. | .maskUe .. | .dripPageRead .. | .dripProgramPass .. | .boundaryDue | .beaconWindowMiss
  | .beaconAcceptedBoundary | .epochDurable | .ringRecordProgramFail .. | .sanitizeFillPage .. | .vinLossDetected
  | .gpfPhase1 .. | .cuttingEnd | .saveProgramPass .. | .saveProgramFail .. | .railPgLow .. | .timedShutdownStep ..
  | .pbtnOff | .lanternReset | .pllUnlock .. | .refLost | .dieOverTemperature | .rsvSample .. | .keeperReserveEval
  | .sweepPageDone .. | .zeroFillPage | .faultInDone .. | .dramRecoveryDone .. | .dramAlert ..
  | .migrationUnitDone .. | .eraseDone .. | .recordWriteDone .. | .linkUp .. | .twiuBlockWriteFirst ..
  | .twiuBlockWriteNext .. | .chainFrame .. | .keeperRestartEnd .. | .patrolScrubRead .. | .failedUnitRestart ..
  | .malformedCommandPacket .. => true
  | _ => false

/-- The rows that may change application SRAM: cores, DMA, FW_DOWNLOAD, a packet that carries it, and the power's fall. -/
def mayWriteSram : Instr → Bool
  | .fwDownload .. | .dmaBurstDone .. | .dmaBeatTimeout .. | .appCoreAccess .. | .timedShutdownStep .. | .lanternReset
  | .twiuBlockWriteFirst .. | .twiuBlockWriteNext .. | .chainFrame .. | .malformedCommandPacket .. => true
  | _ => false

/-- The rows that may change the integrator area: a program, the end of an erase, a power-up that finds one cut off, and a packet
that carries a program. -/
def mayWriteUserArea : Instr → Bool
  | .kstUserProgram .. | .keeperBootStart .. | .kstEraseDone .. | .twiuBlockWriteFirst .. | .twiuBlockWriteNext ..
  | .chainFrame .. | .malformedCommandPacket .. => true
  | _ => false

/-- Registers that reporting may change: the recorder's loss counters, the CXL log overflow flags, the counts of replies lost on
TWI-U and of packets relayed and discarded on the chain, which SIDEBAND_STATUS reads and clears. -/
def talkFields : List Nat :=
  [Reg.EVR_CNT.LOST.key, Reg.EVR_CNT.SEV_DROP.key, Reg.HIF_LD_EVT.OVERFLOW.key, (Reg.TWI_ERR.FRAME 0).key,
   Reg.NCH_CHAIN_CNT.RELAYED.key, Reg.NCH_CHAIN_CNT.DISCARD.key]

/-- A state without its registers, the commands and packets in progress, its event records and logs, and what it has sent. -/
def State.aside (s : State) : State :=
  { s with regs := [], freeCtr := 0, out := [], evr := Evr.reset, cmd := Cmd.reset, twi := Twi.reset,
           hif := { s.hif with lds := [] }, cpx := { s.cpx with executing := [] } }

/-- Between two states, the device has only taken down and reported: nothing else differs. -/
def State.onlyReports (s t : State) : Prop := t.aside = s.aside ∧ ∀ f : Fld, f.key ∉ talkFields → t.get f = s.get f

end Machine

end Sys2Proof
end

