-- ==== Sys2Proof/Certificates/Slice0/Obligations.lean ====
section
/-! DEFINITION. The statements for the provers: first what every step does, then rules of the spec, then, family by family, what
each command's meaning answers (its completion, with the whole next state written out). -/

open Sys2Proof Sys2Proof.Machine

/-- For every command c, queue rest and state s, step of s with c at the front of its queue is exec of c on s with the rest
of the queue; with an empty queue step answers s itself. The queue and the idling are the model's own (log entry 2). -/
def Obligations.StepRunsFrontCommand : Prop :=
  (∀ (c : Instr) (rest : List Instr) (s : Machine.State),
    Machine.step { s with pending := c :: rest } = Machine.exec c { s with pending := rest }) ∧
  ∀ s : Machine.State, s.pending = [] → Machine.step s = .next s

/-- For every state, reached or not, the step answers a next state: no command faults and none is refused. -/
def Obligations.EveryStepAnswersNext : Prop :=
 ∀ s : Machine.State, StepsSafely s

/-- Whatever command runs, the queue after the step is the tail of the queue before it: no meaning reads or changes the
queue. The queue is the model's own (log entry 2). -/
def Obligations.StepTakesOneCommandFromTheQueue : Prop :=
  ∀ s t : Machine.State, Machine.step s = .next t → t.pending = s.pending.tail

/-- For every state, reached or not, whose device memory, application SRAM and integrator area list rising addresses and no
byte equal to what an unlisted address reads as, the state after a step is such a state again. The canonical form is the
model's own (log entry 3). -/
def Obligations.StepKeepsMemoryCanonical : Prop :=
  ∀ s t : Machine.State, s.memoryCanonical → Machine.step s = .next t → t.memoryCanonical

/-- State.reset has canonical memories, an empty queue and GLB_STATE.STATE at KEEPER_BOOT, and a step from it answers it
unchanged, since no command waits (log entries 2, 3 and 13). -/
def Obligations.ResetMeetsTheMemoryInvariant : Prop :=
  State.reset.memoryCanonical ∧ State.reset.pending = [] ∧ State.reset.get Reg.GLB_STATE.STATE = PState.KEEPER_BOOT ∧
  Machine.step State.reset = .next State.reset

/-- For every memory in canonical form, address and byte list: after the write, each byte written reads back at its address,
and every other address reads as before. -/
def Obligations.MemoryReadsBackWhatWasWritten : Prop :=
  ∀ (m : List Host.Cell) (a : Nat) (b : Bytes), Memory.wf m = true →
    (∀ i : Nat, i < b.length → dramByte (dramWrite m a b) (a + i) = b.getD i 0) ∧
    (∀ x : Nat, x < a ∨ a + b.length ≤ x → dramByte (dramWrite m a b) x = dramByte m x)

/-- Over all 255 rows and all states: a row outside mayWriteMemory leaves every byte of device memory, one outside
mayWriteSram every byte of application SRAM, and one outside mayWriteUserArea every byte of the integrator area as it was. -/
def Obligations.OnlyTheNamedRowsWriteMemory : Prop :=
  ∀ (c : Instr) (s t : Machine.State), Machine.exec c s = .next t →
    (mayWriteMemory c = false → t.dram = s.dram) ∧ (mayWriteSram c = false → t.cpx.ram = s.cpx.ram) ∧
    (mayWriteUserArea c = false → t.kst.user = s.kst.user)

/-- In a state with canonical memories where the head reaches the logical device, no save runs, MEM_PARTIAL is set and the
LPA translates to dpa: whatever path the write takes, every byte outside the 64-byte line of dpa reads as before. Where
besides the device is armed, the band is Free without stall, no write waits for admission (or the page is marked already and
none waits to it), the page is restored, not in recovery and not owed to the sealing epoch, the channel of the line is not
FAILED and the line is not in the unit that a migration is copying, exec answers a next state in which the bytes from dpa on
hold the data, as far as the line goes, and every byte outside them reads as before. A write of part of a line gives
consecutive bytes of it (log entry 123). -/
def Obligations.HostWriteStoresItsLineAndNoOther : Prop :=
  ∀ (h : Fin 4) (ld : Fin 16) (lpa dpa : Nat) (data : Bytes) (poison : Bool) (s : Machine.State), s.memoryCanonical →
    s.reaches h ld = true → s.saving = false → s.ready Reg.GLB_READY.MEM_PARTIAL = true → s.translate ld lpa = .inl dpa →
    (∀ t : Machine.State, Machine.exec (.hostWrite h ld lpa data poison) s = .next t →
      ∀ x : Nat, (x < dpa / 64 * 64 ∨ dpa / 64 * 64 + 64 ≤ x) → dramByte t.dram x = dramByte s.dram x) ∧
    (s.ready Reg.GLB_READY.PERSIST_ARMED = true → s.get Reg.DRP_ADM.BAND = 0 → s.get Reg.DRP_ADM.STALL = 0 →
      (s.waiters = [] ∨ s.drp.marked (dpa / 4096) = true ∧ ∀ r ∈ s.waiters, r.dpa / 4096 ≠ dpa / 4096) →
        s.pageRestored (dpa / 4096) = true → s.pageRecovering (dpa / 4096) = false →
      s.drp.owedUncopied (dpa / 4096) = false → s.lineFailed (dpa / 64) = false → s.inUnit dpa = false →
      ∃ t : Machine.State, Machine.exec (.hostWrite h ld lpa data poison) s = .next t ∧
        (∀ i : Nat, i < data.length → dpa % 64 + i < 64 → dramByte t.dram (dpa + i) = data.getD i 0) ∧
        ∀ x : Nat, (x < dpa ∨ dpa + data.length ≤ x) → dramByte t.dram x = dramByte s.dram x)

/-- For each of the 58 rows that are packets to CMD: where the tests yield a status, exec answers a next state that differs
from the state before only in what reporting touches (the reply sent, the record of a denial), with the commands in progress
as they were; it is the reply with that status to a state that differs at most by the record of the denial. -/
def Obligations.ACommandThatFailsATestHasNoEffect : Prop :=
  ∀ (c : Instr) (p : CmdSpec × Hdr) (s : Machine.State) (st : Status), packetRow c = some p → s.turnsAway p.1 p.2 st →
    ∃ t u : Machine.State, Machine.exec c s = .next t ∧ s.onlyReports t ∧ t.cmd = s.cmd ∧
      t = u.reply p.2.port p.1.opcode p.2.tag st.code p.2.dist.toNat [] ∧ s.onlyReports u ∧ u.twi = s.twi ∧ u.cmd = s.cmd

/-- For the 31 rows of quietRow (queries, and the configuration commands whose effect comes when their record write ends), on
every path through the tests: if exec answers a next state, the fields outside talkFields, the shadows, the stored records,
every memory and every block but the recorder, the command processor, the sideband queues and the CXL event logs are as
before. -/
def Obligations.QueriesAndSettingsOnlyReportAndQueue : Prop :=
  ∀ (c : Instr) (s t : Machine.State), quietRow c = true → Machine.exec c s = .next t → s.onlyReports t

/-- For every state: the Keeper is in every class; runtime firmware in every class but K; a head in class A, and in class H
exactly if it is the owner head, and in no other. (R13) -/
def Obligations.OnlyEntitledRequestersSeeAField : Prop :=
  ∀ (s : Machine.State) (v : Vis), s.entitled .keeper v = true ∧ (s.entitled .fw v = true ↔ v ≠ .k) ∧
    ∀ h : Fin 4, s.entitled (.head h) v = true ↔ v = .a ∨ (v = .h ∧ s.owner = h.val)

/-- For every requester, every _LO register of such a pair that it can see, and every state s: in any state whose captures
are those after the read and whose owner head is the same, the requester's 32-bit read of the _HI register returns the _HI
word of s at the time of the _LO read, in the fields it may see. Where it holds no capture, its read of _HI returns the
present word. (R78) -/
def Obligations.LoReadCapturesForTheHiRead : Prop :=
  ∀ (req : Req) (lo : Nat) (d e : RegDef) (s : Machine.State), lo ∈ loRegs → regAt req lo = some d → regAt req (lo + 4) = some e →
    (s.visible req d).isEmpty = false →
    (∀ u : Machine.State, u.caps = (s.busRead req lo 4).2.caps → u.owner = s.owner →
      (u.busRead req (lo + 4) 4).1 = pickBytes (maskFields (s.visible req e) (s.wordNow req (lo + 4) e)) (lo + 4) 4) ∧
    ((∀ c ∈ s.caps, ¬(c.req = req ∧ c.off = lo + 4)) →
      (s.busRead req (lo + 4) 4).1 = pickBytes (maskFields (s.visible req e) (s.wordNow req (lo + 4) e)) (lo + 4) 4)

/-- On a port that CMD serves, with the earlier tests passed and a source that the opcode permits: in CUTTING, SAVING and
SAVED the commands DISARM, RESTORE_SELECT and RESTORE_PROCEED answer a next state that is the reply BUSY_SAVING (0x0011) and
nothing else; while no epoch is open SEAL_BARRIER answers the reply NOT_READY (0x0020) and nothing else. (R104) -/
def Obligations.CommandsRefusedWhileSaving : Prop :=
  ∀ (h : Hdr) (s : Machine.State), s.cpx.rom = false → s.takes h.port = true → s.awaits h.port = false → badLength h = false →
    s.cpx.restarting = false →
    (s.saving = true →
      ((s.srcOf h.port = .owner ∨ s.srcOf h.port = .bmc ∨ s.srcOf h.port = .keeper) →
        Machine.exec (.disarm h) s = .next (s.reply h.port Opc.DISARM h.tag 0x0011 h.dist.toNat [])) ∧
      ((s.srcOf h.port = .owner ∨ s.srcOf h.port = .keeper) → s.ready Reg.GLB_READY.IMAGE_INDEXED = true →
        (7 ≤ h.payload.length →
          Machine.exec (.restoreSelect h) s = .next (s.reply h.port Opc.RESTORE_SELECT h.tag 0x0011 h.dist.toNat [])) ∧
        Machine.exec (.restoreProceed h) s = .next (s.reply h.port Opc.RESTORE_PROCEED h.tag 0x0011 h.dist.toNat []))) ∧
    ((s.srcOf h.port = .owner ∨ s.srcOf h.port = .head ∨ s.srcOf h.port = .keeper) → s.drp.openEpoch = 0 →
      Machine.exec (.sealBarrier h) s = .next (s.reply h.port Opc.SEAL_BARRIER h.tag 0x0020 h.dist.toNat []))

/-- Where boundaries may fall, under local timing and with no epoch sealing, BOUNDARY_DUE answers a next state in which every
granule is FROZEN with the mask it had, the open epoch is the sealing epoch, the next number is open and shown in
GLB_OPEN_EPOCH (a 48-bit register), the shadows of BUDGET_CFG, TIMING and PERIOD_MS are in force, the seal record is queued,
and device memory is as before; then what follows a change of the save set is judged (settle), which leaves the epochs, the
granules and device memory as they are where no write waits. (R163) -/
def Obligations.BoundaryInstantIsOneStep : Prop :=
  ∀ s : Machine.State, s.epochsRun = true → s.localTiming = true → s.drp.sealEpoch = 0 →
    ∃ t : Machine.State, Machine.exec .boundaryDue s = .next t.settle ∧
      (∀ e ∈ s.drp.grans, ∃ g, (e.1, g) ∈ t.drp.grans ∧ g.st = .frozen ∧ g.mask = e.2.mask) ∧
      (∀ e ∈ t.drp.grans, e.2.st = .frozen) ∧
      t.drp.sealEpoch = s.drp.openEpoch ∧ t.drp.openEpoch = s.drp.openEpoch + 1 ∧
      (s.drp.openEpoch + 1 < 2 ^ 48 → t.pair Reg.GLB_OPEN_EPOCH_LO.LO Reg.GLB_OPEN_EPOCH_HI.HI = s.drp.openEpoch + 1) ∧
      (∀ f ∈ [Reg.DRP_CFG.BUDGET_CFG, Reg.DRP_BND_CFG.TIMING, Reg.DRP_BND_CFG.PERIOD_MS], ∀ v : Nat,
        NMap.find? s.shadows f.key = some v → t.get f = v % 2 ^ f.w) ∧
      t.drp.sealStep = .sealQueued ∧ t.dram = s.dram ∧
      (s.waiters = [] → t.settle.drp.grans = t.drp.grans ∧ t.settle.drp.sealEpoch = t.drp.sealEpoch ∧
        t.settle.drp.openEpoch = t.drp.openEpoch ∧ t.settle.drp.sealStep = t.drp.sealStep ∧ t.settle.dram = t.dram)

/-- In the grace of an asserted Foghorn and before the timed shutdown, GRACE_EXPIRED answers a next state in CUTTING whose
cut image has the number of the open epoch, with no epoch open and GLB_OPEN_EPOCH 0, PERSIST_ARMED 0 and MODE 0; the sealing
epoch, the granules and device memory are as before. The model's own choices and readings in it: log entry 15. -/
def Obligations.CutStepsOfTheGraceEnd : Prop :=
  ∀ s : Machine.State, s.get Reg.SAV_STAT.PHASE = 1 → s.fogged = true → s.pwr.underway = false →
    ∃ t : Machine.State, Machine.exec .graceExpired s = .next t ∧ t.pstate = PState.CUTTING ∧ t.sav.epoch = s.drp.openEpoch ∧
      t.drp.openEpoch = 0 ∧ t.pair Reg.GLB_OPEN_EPOCH_LO.LO Reg.GLB_OPEN_EPOCH_HI.HI = 0 ∧
      t.ready Reg.GLB_READY.PERSIST_ARMED = false ∧ t.get Reg.GLB_ARM.MODE = 0 ∧
      t.drp.sealEpoch = s.drp.sealEpoch ∧ t.drp.grans = s.drp.grans ∧ t.dram = s.dram

/-- With a free slot the record is added; with the area full it replaces the oldest record of equal or lower severity; with
only higher severities held it does not enter, and EVR_CNT.SEV_DROP counts it. (R715) -/
def Obligations.SeverityAreaTakesAPrivilegedRecord : Prop :=
  ∀ (r : EvRecord) (tied : Option (Fin 16)) (s : Machine.State),
    (s.evr.sev.length < 128 → (s.place r true tied).evr.sev = s.evr.sev ++ [r]) ∧
    (∀ (a b : List EvRecord) (o : EvRecord), s.evr.sev = a ++ o :: b → 128 ≤ s.evr.sev.length → o.severity ≤ r.severity →
      (∀ x ∈ a, r.severity < x.severity) → (s.place r true tied).evr.sev = a ++ b ++ [r]) ∧
    (128 ≤ s.evr.sev.length → (∀ x ∈ s.evr.sev, r.severity < x.severity) →
      (s.place r true tied).evr.sev = s.evr.sev ∧
      (s.place r true tied).get Reg.EVR_CNT.SEV_DROP = satAdd Reg.EVR_CNT.SEV_DROP.w (s.get Reg.EVR_CNT.SEV_DROP) 1)

/-- With the earlier tests passed: where the configuration that the command would leave binds a logical device to a head
absent under the bifurcation, or holds one whose STATIC + DC_MAX exceeds 32,767, or its STATIC values add up to more than the
host-mappable extents, LD_CONFIG answers a next state that is the reply BAD_FIELD (0x0032) and nothing else. (R502) -/
def Obligations.LdConfigBadFieldCases : Prop :=
  ∀ (h : Hdr) (s : Machine.State), s.cpx.rom = false → s.takes h.port = true → s.awaits h.port = false → badLength h = false →
    (s.srcOf h.port = .owner ∨ s.srcOf h.port = .bmc ∨ s.srcOf h.port = .keeper) → s.cpx.restarting = false → 8 ≤ h.payload.length →
    s.resultCount h.port < 16 → s.recordBusy 4 = none →
    ((∃ e ∈ s.ldAfter h.payload, headUnder (s.bifurAfter h.payload) e.2.head = false) ∨
      (∃ e ∈ s.ldAfter h.payload, 32767 < e.2.stat + e.2.dcMax) ∨
      s.mappable < ((s.ldAfter h.payload).map fun e => e.2.stat).sum) →
    Machine.exec (.ldConfig h) s = .next (s.reply h.port Opc.LD_CONFIG h.tag 0x0032 h.dist.toNat [])

/-- After a response the DEVLOAD field of its head is 3 (Severe) while the stall is set or the logical device is throttled on
a channel; otherwise 0 (Light) in Free below half of B_eff, 1 (Optimal) in Free from half on, 2 (Moderate) in Paced and 3 in
Held, with the band as DRP_ADM.BAND shows it. -/
def Obligations.DevLoadFollowsTheAdmissionBand : Prop :=
  ∀ (r : HostReq) (s : Machine.State) (v : Nat), v = (s.responded r).get (Reg.HIF_HEAD_STAT.DEVLOAD r.head) →
    ((s.get Reg.DRP_ADM.STALL ≠ 0 ∨ ∃ c : Fin 8, bitOf (s.get (Reg.DMC_RD_STAT.THROTTLED c)) r.ld = true) → v = 3) ∧
    (s.get Reg.DRP_ADM.STALL = 0 → (∀ c : Fin 8, bitOf (s.get (Reg.DMC_RD_STAT.THROTTLED c)) r.ld = false) →
      (s.get Reg.DRP_ADM.BAND = 0 → 2 * s.drp.saveSet < s.beff → v = 0) ∧
      (s.get Reg.DRP_ADM.BAND = 0 → s.beff ≤ 2 * s.drp.saveSet → v = 1) ∧
      (s.get Reg.DRP_ADM.BAND = 1 → v = 2) ∧ (2 ≤ s.get Reg.DRP_ADM.BAND → v = 3))

/-- For a channel that may start, whose descriptor is granted by the fence, lies aligned in application SRAM, is well formed
and names a request line that another channel in RUNNING or PAUSED uses: DMA_START answers a next state with the channel in
ERROR and kind 5, every other channel's state, device memory and application SRAM as before. -/
def Obligations.StartOnALineInUseIsAnError : Prop :=
  ∀ (req : Req) (ch k : Fin 16) (j : DmaJob) (a : Nat) (s : Machine.State), s.permits req .f →
    s.dmaState ch ∈ [0, 4, 5, 6, 7] → a = s.get (Reg.DMA_CH_DESC.ADDR ch) →
    s.fenceGrants (.dma ch) .read a 32 = true → within a 32 sramBase sramSize = true → a % 32 = 0 →
    badDescriptor (s.descriptor a) = false → bitOf ((s.descriptor a).getD 5 0) 19 = true →
    k ≠ ch → (s.dmaState k = 1 ∨ s.dmaState k = 2) → NMap.find? s.dma.jobs k = some j → bitOf j.ctrl 19 = true →
    bitsOf j.ctrl 12 6 = bitsOf ((s.descriptor a).getD 5 0) 12 6 →
    ∃ t : Machine.State, Machine.exec (.dmaStart req ch) s = .next t ∧ t.dmaState ch = 7 ∧
      t.get (Reg.DMA_CH_ERR_INFO.KIND ch) = 5 ∧ (∀ m : Fin 16, m ≠ ch → t.dmaState m = s.dmaState m) ∧
      t.dram = s.dram ∧ t.cpx.ram = s.cpx.ram

/-- Where CMD takes the packet and every test passes, each of the four commands answers a next state that is its DONE reply
with the payload laid out byte for byte; nothing else changes. The model's own choices and readings in it: log entries 62 and
70. -/
def Obligations.IdentityAndReadinessReplies : Prop :=
  ∀ (h : Hdr) (s : Machine.State),
    (s.accepts identifySpec h → Machine.exec (.identify h) s = .next (s.done 0x0100 h (
      leBytes 2 0x6180 ++ leBytes 1 (s.get Reg.GLB_ID.REV_MAJOR * 16 + s.get Reg.GLB_ID.REV_MINOR) ++
      leBytes 1 (s.get Reg.GLB_ID.GRADE) ++ leBytes 16 Config.uniqueId.toNat ++ leBytes 16 Config.vendorUuid.toNat ++
      leBytes 4 s.keeperVersion ++ leBytes 4 (s.get Reg.CPX_FW_VER.VERSION) ++ leBytes 8 (s.extents * 2 ^ 28) ++
      leBytes 2 s.mappable ++ leBytes 1 (s.get Reg.DMC_MAP.CHANNELS) ++ leBytes 1 (s.get Reg.NFC_POP.CHANNELS)))) ∧
    (s.accepts readyGetSpec h → Machine.exec (.readyGet h) s = .next (s.done 0x0101 h (
      s.regBytes 0x4 ++ s.regBytes 0x8 ++ s.regBytes 0x10 ++ s.regBytes 0x2C ++
      leBytes 6 (s.pair Reg.GLB_OPEN_EPOCH_LO.LO Reg.GLB_OPEN_EPOCH_HI.HI) ++
      leBytes 6 (s.pair Reg.GLB_DUR_EPOCH_LO.LO Reg.GLB_DUR_EPOCH_HI.HI) ++
      leBytes 6 (s.pair Reg.GLB_IMAGE_EPOCH_LO.LO Reg.GLB_IMAGE_EPOCH_HI.HI) ++ zeros 2 ++ s.regBytes 0x300018))) ∧
    (s.accepts fwStatusSpec h → Machine.exec (.fwStatus h) s = .next (s.done 0x0201 h (
      leBytes 4 (s.get Reg.CPX_FW_VER.VERSION) ++ leBytes 1 (s.get Reg.CPX_FW_STAT.STATE) ++
      leBytes 1 (s.get Reg.CPX_FW_STAT.LAST_CAUSE) ++ leBytes 2 (s.get Reg.CPX_FW_STAT.STOPS) ++
      leBytes 4 s.cpx.received ++ leBytes 4 (s.get Reg.CPX_FW_FLOOR.FLOOR)))) ∧
    (s.accepts keeperUpdateStatusSpec h → Machine.exec (.keeperUpdateStatus h) s = .next (s.done Opc.KEEPER_UPDATE_STATUS h (
      leBytes 1 (s.get Reg.KST_SLOT.ACTIVE) ++ leBytes 1 (s.get Reg.KST_SLOT.CHECK) ++ zeros 2 ++
      leBytes 4 (s.get Reg.KST_VER_A.VERSION) ++ leBytes 4 (s.get Reg.KST_VER_B.VERSION) ++ leBytes 4 (s.get Reg.KST_ARB.COUNTER) ++
      leBytes 2 (s.get Reg.KST_UPD.LAST_STATUS) ++ leBytes 1 (s.get Reg.KST_UPD.RELAY))))

/-- Where CMD takes the packet and every test passes, EPOCH_LIST, EVENT_READ, REGION_LIST, RESERVE_STATUS, ECHO, DRAM_STATUS,
DELAY_SET_LIST, FLASH_STATUS, RAIL_STATUS and SIDEBAND_STATUS answer their DONE replies, laid out byte for byte. The wear
figures of FLASH_STATUS and the die temperature before the first conversion are free values (log entries 1, 10 and 63).
SIDEBAND_STATUS clears the two chain counters it returns. -/
def Obligations.StatusListAndDiagnosticReplies : Prop :=
  (∀ (h : Hdr) (s : Machine.State),
     (s.accepts epochListSpec h → Machine.exec (.epochList h) s = .next (s.done 0x0304 h (
       leBytes 6 (s.pair Reg.GLB_IMAGE_EPOCH_LO.LO Reg.GLB_IMAGE_EPOCH_HI.HI) ++
       leBytes 1 (s.get Reg.GLB_IMAGE.SOURCE) ++ leBytes 1 (s.get Reg.GLB_IMAGE.REASON) ++
       leBytes 6 (s.pair Reg.GLB_OPEN_EPOCH_LO.LO Reg.GLB_OPEN_EPOCH_HI.HI) ++
       leBytes 6 (s.pair Reg.GLB_DUR_EPOCH_LO.LO Reg.GLB_DUR_EPOCH_HI.HI) ++
       leBytes 1 (s.flash.images.filter fun i => !i.cut).length ++
       leBytes 1 (ofBool (s.flash.images.find? fun i => i.cut).isSome +
         2 * ofBool (((s.flash.images.find? fun i => i.cut).map Image.readable).getD false)) ++
       leBytes 6 (((s.flash.images.find? fun i => i.cut).map Image.number).getD 0) ++
       (s.flash.images.filter fun i => !i.cut).flatMap Image.entry))) ∧
     (s.accepts eventReadSpec h → ∃ l : List EvRecord,
       l = (((s.evr.area (byteAt h.payload 0)).filter fun r => decide (fieldAt h.payload 4 6 ≤ r.seq)).take
         (min (fieldAt h.payload 2 2) ((portLimit h.port - 8) / 32))) ∧
       Machine.exec (.eventRead h) s = .next (s.done 0x0600 h (
         leBytes 2 l.length ++ leBytes 6 (s.evr.follow (byteAt h.payload 0) (fieldAt h.payload 4 6) l) ++ l.flatMap EvRecord.bytes))) ∧
     (s.accepts regionListSpec h → ∃ l part : List Nat,
       l = ((List.range 32768).filter fun e => s.listed (byteAt h.payload 0) (byteAt h.payload 1) e) ∧
       part = (l.drop (fieldAt h.payload 2 2)).take ((portLimit h.port - 4) / 6) ∧
       Machine.exec (.regionList h) s = .next (s.done Opc.REGION_LIST h (
         leBytes 2 l.length ++ leBytes 2 part.length ++ part.flatMap fun e => leBytes 2 e ++ leBytes 4 (s.extWord e)))) ∧
     (s.accepts reserveStatusSpec h → Machine.exec (.reserveStatus h) s = .next (s.done 0x0500 h (
       leBytes 1 (s.get Reg.RSV_STAT.PRESENT + 2 * s.get Reg.GLB_READY.RESERVE_OK + 4 * s.get Reg.RSV_STAT.CHARGING +
         8 * s.get Reg.RSV_STAT.REST_REQ + 16 * s.get Reg.RSV_STAT.REST_ACTIVE) ++
       leBytes 1 (s.get Reg.RSV_STAT.PROFILE) ++ leBytes 2 (s.get Reg.RSV_MEAS.PACK_MV) ++ leBytes 2 (s.get Reg.RSV_TEMP.PACK_T) ++
       leBytes 2 s.soc ++ leBytes 2 (s.get Reg.RSV_UNC.U_USED) ++ leBytes 2 (s.get Reg.DRP_RES_P.P_WC) ++
       leBytes 4 (s.get Reg.DRP_RES_E.E_WC) ++ leBytes 2 (natFloor (s.get Reg.RSV_LRN_R.R_LRN25 * fR s.tK)) ++
       leBytes 2 (s.get Reg.RSV_LRN_CAP.CAP_MAH) ++ leBytes 4 (s.get Reg.RSV_REST.CLOCK_S))))) ∧
  (∀ (h : Hdr) (s : Machine.State),
     (s.accepts echoSpec h → Machine.exec (.echo h) s = .next (s.done 0x0F00 h h.payload)) ∧
     (s.accepts dramStatusSpec h → Machine.exec (.dramStatus h) s = .next (s.done Opc.DRAM_STATUS h (
       (List.range 8).flatMap (fun c =>
         s.regBytes (Reg.DMC_CFG.MODULE c).off ++ s.regBytes (Reg.DMC_STAT.UP c).off ++ s.regBytes (Reg.DMC_SPARE.STATE c).off ++
           s.regBytes (Reg.DMC_MIG_WM.WM_4K c).off) ++
       s.regBytes Reg.DMC_MAP.BASE.off ++ s.regBytes Reg.TRN_STAT.BIN.off ++ s.regBytes (Reg.TRN_CH_SRC.SRC 0).off))) ∧
     (s.accepts delaySetListSpec h → Machine.exec (.delaySetList h) s = .next ((s.takeEntry Opc.DELAY_SET_LIST h).done Opc.DELAY_SET_LIST h (
       s.regBytes Reg.TRN_SETS.MATCH.off ++ (List.range 5).flatMap fun k =>
         match NMap.find? s.kst.sets k with
         | some d => leBytes 1 d.bin ++ leBytes 1 (1 + 2 * ofBool d.matching) ++ zeros 2 ++ leBytes 4 d.signature
         | none => zeros 8))) ∧
     (s.accepts flashStatusSpec h → Machine.exec (.flashStatus h) s = .next (s.tick.tick.done Opc.FLASH_STATUS h (
       s.regBytes 0x440000 ++ s.regBytes 0x440004 ++ s.regBytes 0x440008 ++ s.regBytes 0x44001C ++ s.regBytes 0x440014 ++
       s.regBytes 0x440018 ++ s.regBytes 0x310010 ++ leBytes 4 (maskOf 32 fun n => s.flag (Reg.NFC_CH_STAT.FAILED n)) ++
       leBytes 2 s.free ++ leBytes 2 s.tick.free))) ∧
     (s.accepts railStatusSpec h → Machine.exec (.railStatus h) s = .next (s.tick.done Opc.RAIL_STATUS h (
       (List.range 16).flatMap s.railEntry ++ leBytes 2 (s.get Reg.PWR_VIN.VIN_MV) ++ leBytes 2 (s.get Reg.PWR_VSUP.VSUP_MV) ++
       leBytes 2 (signed 16 s.dieTenthC)))) ∧
     (s.accepts sidebandStatusSpec h → Machine.exec (.sidebandStatus h) s = .next (
       (s.putAll [(Reg.NCH_CHAIN_CNT.RELAYED, 0), (Reg.NCH_CHAIN_CNT.DISCARD, 0)]).done Opc.SIDEBAND_STATUS h (
         leBytes 1 (s.get (Reg.TWI_STAT.UP 0) + 2 * s.get (Reg.TWI_STAT.UP 1) + 4 * s.get (Reg.TWI_STAT.UP 2) +
           8 * s.get Reg.NCH_CHAIN_STAT.UP_LINK + 16 * s.get Reg.NCH_CHAIN_STAT.DN_LINK + 32 * s.get Reg.GLB_READY.BEACON_LOCK) ++
         leBytes 1 (maskOf 3 fun p => s.flag (Reg.TWI_STAT.DISABLED p)) ++ leBytes 2 (s.get Reg.NCH_CHAIN_CNT.RELAYED) ++
         leBytes 2 (s.get Reg.NCH_CHAIN_CNT.DISCARD)))))

/-- Accepted, RESULT_GET returns its part of the stored result and frees the entry after the last byte; REG_READ and
REG_WRITE act on the register bus with the requester of their source class and reply DONE. The model's own choices and
readings in it: log entry 68. -/
def Obligations.ResultsAndRegistersThroughCommands : Prop :=
  ∀ (h : Hdr) (s : Machine.State),
    (s.accepts resultGetSpec h → ∃ e : ResultEntry, ∃ part : Bytes,
      s.findResult h.port (BitVec.ofNat 32 (fieldAt h.payload 0 4)) = some e ∧
      part = (e.result.drop (fieldAt h.payload 4 4)).take (portLimit h.port - 8) ∧
      Machine.exec (.resultGet h) s = .next (
        (if e.result.length ≤ fieldAt h.payload 4 4 + part.length then s.dropResult e.port e.tag else s).done 0x0102 h (
          leBytes 2 e.opcode ++ leBytes 2 (e.status.getD 0) ++ leBytes 4 e.result.length ++ part))) ∧
    (s.accepts regReadSpec h → Machine.exec (.regRead h) s = .next (
      (s.readWords (reqOf (s.srcOf h.port)) (fieldAt h.payload 4 2) (fieldAt h.payload 0 4)).2.done 0x0F01 h
        (s.readWords (reqOf (s.srcOf h.port)) (fieldAt h.payload 4 2) (fieldAt h.payload 0 4)).1)) ∧
    (s.accepts regWriteSpec h → Machine.exec (.regWrite h) s = .next (
      (s.busWrite (reqOf (s.srcOf h.port)) (fieldAt h.payload 0 4) 4 (fieldAt h.payload 4 4)).done 0x0F02 h []))

/-- Accepted, each of PERSIST_, BUDGET_, WEAR_, SAVE_MODEL_, EPOCH_, SAVE_, RESTORE_, RESERVE_, DRAM_, FLASH_, BEACON_, LD_,
RAIL_ and TWI_CONFIG, HEAD_OWNER_SET and EVENT_ROUTE takes its result entry and queues the write of its record with the
values that its payload names; the reply waits for the write. The model's own choices and readings in it: log entry 71. -/
def Obligations.ConfigurationCommandsQueueTheirRecordWrite : Prop :=
  (∀ (h : Hdr) (s : Machine.State),
     (s.accepts persistConfigSpec h → Machine.exec (.persistConfig h) s =
       .next ((s.takeEntry 0x0300 h).startWrite 1 (.fields (persistVals h.payload) (if bitOf (byteAt h.payload 0) 2 then some (fieldAt h.payload 4 2) else none)) h)) ∧
     (s.accepts budgetConfigSpec h → Machine.exec (.budgetConfig h) s = .next ((s.takeEntry Opc.BUDGET_CONFIG h).startWrite 1 (.fields
       (named [⟨0, Reg.DRP_CFG.BUDGET_CFG, 1, 1⟩, ⟨1, Reg.DRP_CFG.EARLY_PCT, 2, 1⟩] (byteAt h.payload 0) h.payload) none) h)) ∧
     (s.accepts wearConfigSpec h → Machine.exec (.wearConfig h) s = .next ((s.takeEntry Opc.WEAR_CONFIG h).startWrite 1 (.fields
       (named [⟨0, Reg.DRP_WEAR_CFG.AVG_RATE, 1, 1⟩, ⟨1, Reg.DRP_WEAR_CFG.PEAK_MIN, 2, 1⟩] (byteAt h.payload 0) h.payload) none) h)) ∧
     (s.accepts saveModelConfigSpec h → Machine.exec (.saveModelConfig h) s = .next ((s.takeEntry Opc.SAVE_MODEL_CONFIG h).startWrite 1 (.fields
       (named [⟨0, Reg.DRP_MODEL_P.P_FULL, 2, 2⟩, ⟨0, Reg.DRP_MODEL_P.P_BASE, 4, 2⟩, ⟨1, Reg.DRP_MODEL_T.T_FIX, 6, 2⟩,
         ⟨1, Reg.DRP_MODEL_T.T_MAX, 8, 2⟩] (byteAt h.payload 0) h.payload) none) h)) ∧
     (s.accepts epochConfigSpec h → Machine.exec (.epochConfig h) s = .next ((s.takeEntry Opc.EPOCH_CONFIG h).startWrite 1 (.fields
       (named [⟨0, Reg.DRP_BND_CFG.PERIOD_MS, 2, 2⟩, ⟨1, Reg.DRP_BND_CFG.CARAFE_WAIT, 4, 2⟩, ⟨2, Reg.DRP_BND_CFG.TIMING, 6, 1⟩,
         ⟨3, Reg.DRP_CAR_CFG.NEXT_GIB, 7, 1⟩] (byteAt h.payload 0) h.payload) none) h)) ∧
     (s.accepts saveConfigSpec h → Machine.exec (.saveConfig h) s = .next ((s.takeEntry Opc.SAVE_CONFIG h).startWrite 1 (.fields
       (named [⟨0, Reg.SAV_CFG.GRACE_MS, 1, 1⟩, ⟨1, Reg.SAV_CFG.GPF_SRC, 2, 1⟩, ⟨2, Reg.SAV_CFG.PANIC_SLOTS, 3, 1⟩]
         (byteAt h.payload 0) h.payload) none) h)) ∧
     (s.accepts restoreConfigSpec h → Machine.exec (.restoreConfig h) s =
       .next ((s.takeEntry Opc.RESTORE_CONFIG h).startWrite 1 (.fields (restoreVals h.payload) none) h)) ∧
     (s.accepts reserveConfigSpec h → Machine.exec (.reserveConfig h) s = .next ((s.takeEntry Opc.RESERVE_CONFIG h).startWrite 5 (.fields
       (named [⟨0, Reg.RSV_CFG.CHARGE_EN, 1, 1⟩, ⟨1, Reg.RSV_CFG.REST_ALLOWED, 2, 1⟩, ⟨2, Reg.RSV_CFG.CHG_LIMIT, 4, 2⟩]
         (byteAt h.payload 0) h.payload) none) h)) ∧
     (s.accepts dramConfigSpec h → Machine.exec (.dramConfig h) s =
       .next ((s.takeEntry Opc.DRAM_CONFIG h).startWrite 2 (.fields (dramVals h.payload) none) h)) ∧
     (s.accepts flashConfigSpec h → Machine.exec (.flashConfig h) s =
       .next ((s.takeEntry Opc.FLASH_CONFIG h).startWrite 3 (.fields (flashVals h.payload) none) h)) ∧
     (s.accepts beaconConfigSpec h → Machine.exec (.beaconConfig h) s = .next ((s.takeEntry Opc.BEACON_CONFIG h).startWrite 1 (.fields
       (named [⟨0, Reg.DRP_BCN_CFG.DELAY, 2, 2⟩, ⟨1, Reg.DRP_BCN_START_LO.START_LO, 4, 4⟩, ⟨1, Reg.DRP_BCN_START_HI.START_HI, 8, 2⟩]
         (byteAt h.payload 0) h.payload) none) h))) ∧
  (∀ (h : Hdr) (s : Machine.State),
     (s.accepts ldConfigSpec h → Machine.exec (.ldConfig h) s =
       .next ((s.takeEntry Opc.LD_CONFIG h).startWrite 4 (.ldConfig (byteAt h.payload 0) (bitOf (byteAt h.payload 1) 0) (bitOf (byteAt h.payload 1) 1) (byteAt h.payload 2)
         (fieldAt h.payload 4 2) (fieldAt h.payload 6 2)
         (if bitOf (byteAt h.payload 1) 2 then some (byteAt h.payload 3 % 4) else none)) h)) ∧
     (s.accepts headOwnerSetSpec h → Machine.exec (.headOwnerSet h) s =
       .next ((s.takeEntry Opc.HEAD_OWNER_SET h).startWrite 4 (.owner (byteAt h.payload 0)) h)) ∧
     (s.accepts eventRouteSpec h → Machine.exec (.eventRoute h) s =
       .next ((s.takeEntry Opc.EVENT_ROUTE h).startWrite 8 (.route (fieldAt h.payload 0 2) (byteAt h.payload 2) (fieldAt h.payload 4 2)) h)) ∧
     (s.accepts railConfigSpec h → Machine.exec (.railConfig h) s =
       .next ((s.takeEntry Opc.RAIL_CONFIG h).startWrite 6 (.fields (railVals h.payload) none) h)) ∧
     (s.accepts twiConfigSpec h → Machine.exec (.twiConfig h) s =
       .next ((s.takeEntry Opc.TWI_CONFIG h).startWrite 7 (.fields [(Reg.TWI_CFG.SCL_KHZ (byteAt h.payload 0),
         fieldAt h.payload 2 2), (Reg.TWI_CFG.SU_NS (byteAt h.payload 0), fieldAt h.payload 4 2),
         (Reg.TWI_CFG.HD_NS (byteAt h.payload 0), fieldAt h.payload 6 2)] none) h)))

/-- Accepted, ARM clears ARM_HOLD and replies DONE, and arms unless the device is armed; DISARM sets ARM_HOLD and replies
DONE, and with Foghorn not asserted disarms and takes the figure if the device is armed. The model's own choices and readings
in it: log entry 65. -/
def Obligations.ArmAndDisarm : Prop :=
  ∀ (h : Hdr) (s : Machine.State),
    (s.accepts armSpec h → s.ready Reg.GLB_READY.PERSIST_ARMED = true →
      Machine.exec (.arm h) s = .next ((s.put Reg.GLB_ARM.ARM_HOLD 0).done Opc.ARM h [])) ∧
    (s.accepts armSpec h → s.ready Reg.GLB_READY.PERSIST_ARMED = false →
      ∀ t : Machine.State, t = (s.put Reg.GLB_ARM.ARM_HOLD 0).done Opc.ARM h [] →
      Machine.exec (.arm h) s = .next (if t.trial.mayArm then t.trial.nowArmed else t)) ∧
    (s.accepts disarmSpec h → s.ready Reg.GLB_READY.PERSIST_ARMED = false →
      Machine.exec (.disarm h) s = .next ((s.put Reg.GLB_ARM.ARM_HOLD 1).done Opc.DISARM h [])) ∧
    (s.accepts disarmSpec h → s.ready Reg.GLB_READY.PERSIST_ARMED = true → s.fogged = false →
      Machine.exec (.disarm h) s = .next ((s.put Reg.GLB_ARM.ARM_HOLD 1).done Opc.DISARM h []).disarm.takeFigure.settle)

/-- Accepted, SEAL_BARRIER replies ACCEPTED, joins the pending barriers and calls its boundary; RESTORE_SELECT chooses the
named image, RESTORE_PROCEED the reported one, and both close the window; LOSS_ACCEPT replies ACCEPTED, accepts the loss and
completes in the same step (the model's choice, log entries 26 and 127); FOGHORN_RAISE replies DONE and raises Foghorn. -/
def Obligations.BarrierImageChoiceAndFoghornCommands : Prop :=
  ∀ (h : Hdr) (s : Machine.State),
    (s.accepts sealBarrierSpec h → Machine.exec (.sealBarrier h) s = .next (State.barrierBoundary
      { (s.takeEntry Opc.SEAL_BARRIER h).accept Opc.SEAL_BARRIER h with cmd :=
        { ((s.takeEntry Opc.SEAL_BARRIER h).accept Opc.SEAL_BARRIER h).cmd with
          barriers := ((s.takeEntry Opc.SEAL_BARRIER h).accept Opc.SEAL_BARRIER h).cmd.barriers ++ [(h.port, h.tag, none)] } })) ∧
    (∀ i : Image, s.accepts restoreSelectSpec h → s.selected h.payload = some i →
      Machine.exec (.restoreSelect h) s = .next (((s.chooseImage i).putAll [
        (Reg.GLB_IMAGE.SOURCE, if i.cut then 1 else 2), (Reg.GLB_IMAGE.REASON, if i.cut then 0 else 4),
        (Reg.GLB_IMAGE.OLDER, 0)]).closeWindow.done Opc.RESTORE_SELECT h [])) ∧
    (s.accepts restoreProceedSpec h →
      Machine.exec (.restoreProceed h) s = .next (s.closeWindow.done Opc.RESTORE_PROCEED h [])) ∧
    (s.accepts lossAcceptSpec h → Machine.exec (.lossAccept h) s = .next
      ((((s.takeEntry Opc.LOSS_ACCEPT h).accept Opc.LOSS_ACCEPT h).acceptLoss (bitOf (byteAt h.payload 0) 0)).complete
        h.port h.tag 0 [])) ∧
    (s.accepts foghornRaiseSpec h → Machine.exec (.foghornRaise h) s = .next ((s.done Opc.FOGHORN_RAISE h []).foghorn
      Fog.COMMAND (bitOf (byteAt h.payload 0) 0) (fieldAt h.payload 2 2)))

/-- Accepted, REGION_DC_ADD and REGION_DC_RELEASE, and the same from the owner's fabric manager, reply ACCEPTED and offer or
ask for their extents. Add Dynamic Capacity Response maps what was taken and withdraws the rest, Release Dynamic Capacity
releases the extents it names, and the end of the wait withdraws, force-releases or keeps what was not answered and completes
the command. The model's own choices and readings in it: log entries 35, 36 and 72. -/
def Obligations.DynamicCapacityCommandsAndAnswers : Prop :=
  (∀ (h : Hdr) (s : Machine.State),
     (s.accepts regionDcAddSpec h → Machine.exec (.regionDcAdd h) s = .next
       ((s.takeEntry Opc.REGION_DC_ADD h).offer (Fin.ofNat 16 (byteAt h.payload 0))
         (s.addTakes h.payload) (some (h.port, h.tag)))) ∧
     (s.accepts regionDcAddSpec h → s.fromOwnerFm h.port = true →
       Machine.exec (.initiateDynamicCapacityAdd h) s = .next
         ((s.takeEntry Opc.REGION_DC_ADD h).offer (Fin.ofNat 16 (byteAt h.payload 0))
           (s.addTakes h.payload) (some (h.port, h.tag)))) ∧
     (s.accepts regionDcReleaseSpec h → Machine.exec (.regionDcRelease h) s = .next
       (((s.takeEntry Opc.REGION_DC_RELEASE h).accept Opc.REGION_DC_RELEASE h).askRelease (Fin.ofNat 16 (byteAt h.payload 0))
         ((List.range (fieldAt h.payload 2 2)).map fun n => fieldAt h.payload (4 + 2 * n) 2) (bitOf (byteAt h.payload 1) 0)
         (bitOf (byteAt h.payload 1) 1) (some (h.port, h.tag)))) ∧
     (s.accepts regionDcReleaseSpec h → s.fromOwnerFm h.port = true →
       Machine.exec (.initiateDynamicCapacityRelease h) s = .next
         (((s.takeEntry Opc.REGION_DC_RELEASE h).accept Opc.REGION_DC_RELEASE h).askRelease (Fin.ofNat 16 (byteAt h.payload 0))
           ((List.range (fieldAt h.payload 2 2)).map fun n => fieldAt h.payload (4 + 2 * n) 2) (bitOf (byteAt h.payload 1) 0)
           (bitOf (byteAt h.payload 1) 1) (some (h.port, h.tag))))) ∧
  ((∀ (ld : Fin 16) (accepted : List Nat) (o : DcOp) (take : List Nat) (s : Machine.State), s.mailboxUp ld = true →
     s.rgn.ops.find? (fun o => o.ld == ld.val && o.add && o.offered && o.answered.isEmpty) = some o →
     take = o.extents.filter (fun e => accepted.contains ((s.ext e).lxn * 2 ^ 28)) →
     ∀ w : Machine.State, w = s.each (o.extents.filter fun e => !take.contains e) State.withdraw →
     Machine.exec (.addDynamicCapacityResponse ld accepted) s = .next (State.emit (
       if take = [] then (w.dropOp o).writeRegions (.dcEnded o.origin Status.done.code [])
       else State.writeRegions { w with rgn := { w.rgn with
         ops := w.rgn.ops.map fun x => if x = o then { x with answered := take } else x } } (.dcMapped ld take))
       (.mailbox ld Cxl.success []))) ∧
   (∀ (ld : Fin 16) (lpas exts : List Nat) (s : Machine.State), s.mailboxUp ld = true → s.saving = false →
     (lpas.map fun a => (List.find? (fun (e : Nat × Extent) =>
       e.2.live && !e.2.stat && e.2.ld == ld.val && e.2.lxn == a / 2 ^ 28) s.rgn.exts).map (·.1)) = exts.map some →
     (∀ e ∈ exts, s.extReady e = true) →
     ∀ w : Machine.State, w = (s.each exts fun s e => s.releaseExtent e
       (if (s.ext e).st = .releasePending then (s.ext e).sanitize else s.flag (Reg.RGN_LD_CAP.REL_SANITIZE ld))).recordFor
         Ev.DC_RELEASE ld [(1, ld), (2, exts.length)] (some ld) →
     Machine.exec (.releaseDynamicCapacity ld lpas) s = .next (State.writeRegions { w with rgn := { w.rgn with
       ops := w.rgn.ops.map fun o => if o.ld = ld.val ∧ o.add = false then
         { o with answered := o.answered ++ exts.filter o.extents.contains } else o } } (.dcReleased ld exts))) ∧
   (∀ (ld : Fin 16) (o : DcOp) (s : Machine.State), s.saving = false →
     s.rgn.ops.find? (fun o => o.ld == ld.val && o.offered && (!o.add || o.answered.isEmpty)) = some o → o.add = true →
     Machine.exec (.dcWaitExpired ld) s = .next (((s.dropOp o).each (o.extents.filter fun e => !o.answered.contains e)
       State.withdraw).writeRegions (.dcEnded o.origin Status.done.code []))) ∧
   (∀ (ld : Fin 16) (o : DcOp) (left : List Nat) (s : Machine.State), s.saving = false →
     s.rgn.ops.find? (fun o => o.ld == ld.val && o.offered && (!o.add || o.answered.isEmpty)) = some o → o.add = false →
     left = o.extents.filter (fun e => !o.answered.contains e) →
     Machine.exec (.dcWaitExpired ld) s = .next (
       if o.force = true then
         (((s.dropOp o).each left fun s e => s.releaseExtent e (s.ext e).sanitize).recordFor Ev.DC_RELEASE ld
           [(1, ld), (2, left.length)] (some ld)).writeRegions (.dcEnded o.origin Status.done.code o.extents)
       else
         ((s.dropOp o).each left fun s e => s.setExt e { s.ext e with st := .mapped }).writeRegions
           (.dcEnded o.origin (if left = [] then Status.done.code else Status.aborted.code) o.answered))))

/-- Accepted, RESERVE_FIGURE takes the proposals in hand, records clamps, holds the figure and replies the values used;
RESERVE_REST replies ACCEPTED, is executed by firmware and starts the rest. The model's own choices and readings in it: log
entries 10 and 66. -/
def Obligations.ReserveCommands : Prop :=
  ∀ (h : Hdr) (s : Machine.State),
    (s.accepts reserveFigureSpec h → Machine.exec (.reserveFigure h) s = .next
      (((s.takeProposals.recordClamps (figureOf h.payload) (s.takeProposals.usedOf (figureOf h.payload))).holdFigure
        (figureOf h.payload) (s.takeProposals.usedOf (figureOf h.payload)) (fieldAt h.payload 8 4)).done Opc.RESERVE_FIGURE h
          (figureReply (figureOf h.payload) (s.takeProposals.usedOf (figureOf h.payload))))) ∧
    (s.accepts reserveRestSpec h → Machine.exec (.reserveRest h) s = .next
      ((((s.takeEntry Opc.RESERVE_REST h).accept Opc.RESERVE_REST h).firmwareRuns Opc.RESERVE_REST h).startRest (some (h.port, h.tag))))

/-- Accepted, EVENT_CLEAR clears its area, records it and replies DONE; TWI_PORT_ENABLE enables its port and replies DONE;
CHAIN_SEND queues its inner packet, with DONE for a broadcast and ACCEPTED otherwise. A command unanswered for 10 ms gets
ACCEPTED; a transfer without a chunk is discarded (for the two image transfers the state field follows, not stated here); the
completion of a TRAIN_RUN that firmware executes completes it; a CHAIN_SEND without a reply completes with ABORTED. The
model's own choices and readings in it: log entries 62, 81 and 83. -/
def Obligations.EventClearPortEnableAndCommandTimers : Prop :=
  (∀ (h : Hdr) (s : Machine.State),
     (s.accepts eventClearSpec h → Machine.exec (.eventClear h) s = .next
       ((State.record { s with evr := s.evr.clearArea (byteAt h.payload 0) } Ev.EVR_CLEARED 0xFF
         [(1, byteAt h.payload 0), (1, (s.srcOf h.port).code)]).done Opc.EVENT_CLEAR h [])) ∧
     (s.accepts twiPortEnableSpec h → Machine.exec (.twiPortEnable h) s = .next
       ((s.putAll [(Reg.TWI_STAT.DISABLED (byteAt h.payload 0), 0), (Reg.TWI_STAT.RETRIES (byteAt h.payload 0), 0),
         (Reg.TWI_STAT.UP (byteAt h.payload 0), ofBool (s.ready Reg.GLB_READY.SIDEBAND_UP))]).done Opc.TWI_PORT_ENABLE h []))) ∧
  ((∀ (port : Port) (tag : BitVec 32) (e : ResultEntry) (s : Machine.State),
     s.findResult port tag = some e → e.replied = false → e.status = none →
     Machine.exec (.commandReplyTimeout port tag) s = .next (s.acceptReply e.opcode port tag e.dist)) ∧
   (∀ (op : BitVec 16) (s : Machine.State), (s.cmd.transfers.any fun t => t.opcode == op.toNat) = true →
     op.toNat ≠ Opc.KEEPER_UPDATE → op.toNat ≠ Opc.FW_DOWNLOAD →
     Machine.exec (.chunkTransferTimeout op) s = .next { s with cmd := { s.cmd with
       transfers := s.cmd.transfers.filter fun t => t.opcode != op.toNat } }) ∧
   (∀ (port : Port) (tag : BitVec 32) (status : BitVec 16) (st : Status) (result : Bytes) (s : Machine.State),
     statusOf status.toNat = some st → s.kst.installing ≠ some (port, tag) →
     s.cpx.executing.contains (port, tag) = true → ((s.findResult port tag).any fun e => e.opcode == Opc.TRAIN_RUN) = true →
     Machine.exec (.asyncCommandCompletion port tag status result) s = .next (s.complete port tag st.code result)) ∧
   (∀ (h : Hdr) (s : Machine.State), s.accepts chainSendSpec h → byteAt h.payload 0 = 255 →
     Machine.exec (.chainSend h) s = .next ((s.chainSend true false (innerPacket h.payload)).done Opc.CHAIN_SEND h [])) ∧
   (∀ (h : Hdr) (s : Machine.State), s.accepts chainSendSpec h → byteAt h.payload 0 ≠ 255 →
     Machine.exec (.chainSend h) s = .next (State.chainSend
       { (s.takeEntry Opc.CHAIN_SEND h).accept Opc.CHAIN_SEND h with cmd :=
         { ((s.takeEntry Opc.CHAIN_SEND h).accept Opc.CHAIN_SEND h).cmd with
           chainSends := ((s.takeEntry Opc.CHAIN_SEND h).accept Opc.CHAIN_SEND h).cmd.chainSends ++
             [(pkTag (innerPacket h.payload), h.port, h.tag)] } } true false (innerPacket h.payload))) ∧
   (∀ (tag : BitVec 32) (c : BitVec 32 × Port × BitVec 32) (s : Machine.State),
     s.cmd.chainSends.find? (fun c => c.1 == tag) = some c →
     Machine.exec (.chainSendTimeout tag) s = .next (State.complete { s with cmd := { s.cmd with
       chainSends := s.cmd.chainSends.filter fun x => x.1 != tag } } c.2.1 c.2.2 Status.aborted.code [])))

/-- Accepted, TRAIN_RUN replies ACCEPTED and firmware executes it; SPEED_SELECT outside a gathering session queues the write
of the next bin; DELAY_SET_LOAD takes its chunk and with the last one writes the delay set. The model's own choices and
readings in it: log entries 77 and 78. -/
def Obligations.TrainingAndDelayCommands : Prop :=
  ∀ (h : Hdr) (s : Machine.State),
    (s.accepts trainRunSpec h → Machine.exec (.trainRun h) s = .next
      (((s.takeEntry Opc.TRAIN_RUN h).accept Opc.TRAIN_RUN h).firmwareRuns Opc.TRAIN_RUN h)) ∧
    (s.accepts speedSelectSpec h → s.flag Reg.TRN_STAT.GATHER = false → Machine.exec (.speedSelect h) s = .next
      ((s.takeEntry Opc.SPEED_SELECT h).startWrite 2 (.fields [(Reg.TRN_CFG.NEXT_BIN, byteAt h.payload 0)] none) h)) ∧
    (s.accepts delaySetLoadSpec h → chunkLast h.payload = false → Machine.exec (.delaySetLoad h) s = .next
      (((s.takeEntry Opc.DELAY_SET_LOAD h).takeChunk Opc.DELAY_SET_LOAD h).done Opc.DELAY_SET_LOAD h [])) ∧
    (∀ b : Bytes, s.accepts delaySetLoadSpec h → chunkLast h.payload = true → b = s.received Opc.DELAY_SET_LOAD h →
      Machine.exec (.delaySetLoad h) s = .next (((s.takeEntry Opc.DELAY_SET_LOAD h).endTransfer Opc.DELAY_SET_LOAD).writeSet
        (byteAt b 2) (fieldAt b 4 4) ((List.range (fieldAt b 8 4)).map (entryAt b)) (some (h.port, h.tag))))

/-- Accepted on a channel that is up, FLASH_DIAG_READ replies a result within its ranges and leaves device memory and the
records, and FLASH_DIAG_PROGRAM programs its page in order, or fails by a free flag. KST_PROTECT unlocks with the matching
password and locks; KST_USER_READ returns the bytes or MEDIA_ERROR, KST_USER_PROGRAM, while the store is not FAILED, checks a
sector not yet read in this power cycle and writes the page or fails, by free flags (log entry 1); KST_USER_ERASE replies
ACCEPTED and starts the erase. The model's own choices and readings in it: log entries 73, 74, 79, 131 and 140. -/
def Obligations.FlashDiagnosticAndIntegratorAreaCommands : Prop :=
  (∀ (h : Hdr) (s : Machine.State),
     (s.accepts flashDiagReadSpec h → s.channelUp (faChannel (fieldAt h.payload 0 8)) = true →
       ∃ (tag : Bytes) (corrected level diff : Nat) (bad : Bool) (t : Machine.State),
         corrected < 73 ∧ level < 16 ∧ (bad = true → diff = 0xFFFFFFFF) ∧ t.dram = s.dram ∧ t.flash.records = s.flash.records ∧
         Machine.exec (.flashDiagRead h) s = .next (t.done Opc.FLASH_DIAG_READ h
           (tag ++ leBytes 2 corrected ++ leBytes 1 level ++ leBytes 1 (ofBool bad) ++ leBytes 4 diff))) ∧
     (s.accepts flashDiagProgramSpec h → s.channelUp (faChannel (fieldAt h.payload 0 8)) = true →
       s.inOrder (fieldAt h.payload 0 8) = true → ∀ x : Machine.State,
       x = State.openPage { s.takeEntry Opc.FLASH_DIAG_PROGRAM h with flash :=
             { s.flash with nextLsn := s.flash.nextLsn + s.pageSlots } } (fieldAt h.payload 0 8)
           (if (s.block (faBlock (fieldAt h.payload 0 8))).st = 6 then (s.block (faBlock (fieldAt h.payload 0 8))).owner else 3) →
       Machine.exec (.flashDiagProgram h) s = .next (
         if x.free % 2 = 1 then
           ((x.tick.programFailed (fieldAt h.payload 0 8)).endFault (nfcUnit (faChannel (fieldAt h.payload 0 8)))).finish
             Opc.FLASH_DIAG_PROGRAM h .mediaError []
         else State.done { x.tick with flash := { x.tick.flash with
           diag := x.tick.flash.diag ++ [⟨fieldAt h.payload 0 8, byteAt h.payload 8, fieldAt h.payload 12 4, s.flash.nextLsn,
             x.tick.get Reg.NFC_KEY.KEYGEN⟩] } }
             Opc.FLASH_DIAG_PROGRAM h []))) ∧
  (∀ (h : Hdr) (s : Machine.State),
     (s.accepts kstProtectSpec h → byteAt h.payload 1 = 1 → s.passwordMatches (byteAt h.payload 0) ((h.payload.drop 4).take 16) = true →
       Machine.exec (.kstProtect h) s = .next (State.done
         { s with kst := { s.kst with unlocked := insertNat s.kst.unlocked (byteAt h.payload 0) } } Opc.KST_PROTECT h [])) ∧
     (s.accepts kstProtectSpec h → byteAt h.payload 1 = 2 →
       Machine.exec (.kstProtect h) s = .next (State.done
         { s with kst := { s.kst with unlocked := s.kst.unlocked.filter (· != byteAt h.payload 0) } } Opc.KST_PROTECT h [])) ∧
     (s.accepts kstUserReadSpec h → Machine.exec (.kstUserRead h) s = .next (
       if s.free % 4 = 3 then s.tick.finish Opc.KST_USER_READ h .mediaError []
       else (s.tick.warnReads (fieldAt h.payload 0 4) (fieldAt h.payload 4 2) (s.free % 4)).done Opc.KST_USER_READ h
         ((dramRead s.kst.user (fieldAt h.payload 0 4) (fieldAt h.payload 4 2)).map fun b => ~~~b))) ∧
     (s.accepts kstUserProgramSpec h → s.kst.programmed.contains (fieldAt h.payload 0 4 / 256) = false →
       s.userFailed (fieldAt h.payload 0 4) = false → s.unitFailed kstUnit = false →
       ∀ t : Machine.State, t = s.checkSector (fieldAt h.payload 0 4) → Machine.exec (.kstUserProgram h) s = .next (
         if t.free % 2 = 1 then
           (((((t.tick.freeBytes (h.payload.drop 4).length).2.userWrite (fieldAt h.payload 0 4)
             (t.tick.freeBytes (h.payload.drop 4).length).1).count Reg.KST_ERR.PROG_FAIL 1).record Ev.KST_PROG_FAIL 0xFF []).strike
               kstUnit Ev.KST_PROG_FAIL.sev).finish Opc.KST_USER_PROGRAM h .mediaError []
         else (t.tick.userWrite (fieldAt h.payload 0 4) (h.payload.drop 4)).done Opc.KST_USER_PROGRAM h [])) ∧
     (s.accepts kstUserEraseSpec h → s.userFailed (fieldAt h.payload 0 4) = false →
       Machine.exec (.kstUserErase h) s = .next (((s.takeEntry Opc.KST_USER_ERASE h).accept Opc.KST_USER_ERASE h).startErase
         (userSector (fieldAt h.payload 0 4)) (some (h.port, h.tag)))))

/-- Accepted, a chunk of FW_DOWNLOAD after the first goes into application SRAM at its offset, and the last one starts
authentication; a chunk of KEEPER_UPDATE is kept, and the last one starts the checks, installation and relay. The model's own
choices and readings in it: log entries 62, 75 and 131. -/
def Obligations.ImageTransferCommands : Prop :=
  ∀ (h : Hdr) (s : Machine.State),
    (s.accepts fwDownloadSpec h → chunkOff h.payload ≠ 0 → chunkLast h.payload = false →
      Machine.exec (.fwDownload h) s = .next ((State.takeChunk { s with cpx := { s.cpx with
        ram := dramWrite s.cpx.ram (chunkOff h.payload) (h.payload.drop 16),
        received := (s.received Opc.FW_DOWNLOAD h).length } } Opc.FW_DOWNLOAD h).done Opc.FW_DOWNLOAD h [])) ∧
    (s.accepts fwDownloadSpec h → chunkOff h.payload ≠ 0 → chunkLast h.payload = true →
      Machine.exec (.fwDownload h) s = .next ((State.takeChunk { s.takeEntry Opc.FW_DOWNLOAD h with cpx := { s.cpx with
        ram := dramWrite s.cpx.ram (chunkOff h.payload) (h.payload.drop 16),
        received := (s.received Opc.FW_DOWNLOAD h).length } } Opc.FW_DOWNLOAD h).fwComplete h (s.received Opc.FW_DOWNLOAD h))) ∧
    (s.accepts keeperUpdateSpec h → chunkLast h.payload = false →
      Machine.exec (.keeperUpdate h) s = .next
        (((s.takeChunk Opc.KEEPER_UPDATE h).put Reg.KST_UPD.PHASE 1).done Opc.KEEPER_UPDATE h [])) ∧
    (s.accepts keeperUpdateSpec h → chunkLast h.payload = true →
      Machine.exec (.keeperUpdate h) s = .next ((((s.takeEntry Opc.KEEPER_UPDATE h).takeChunk Opc.KEEPER_UPDATE h).put
        Reg.KST_UPD.PHASE 1).updateLast h (s.srcOf h.port) (s.received Opc.KEEPER_UPDATE h)))

/-- On a mailbox whose link is up, each of the fourteen commands answers with its payload and return code and changes nothing
else. Payload layouts and return codes of CXL 3.1 are not the manual's (log entry 18). -/
def Obligations.MailboxQueriesAnswerAndChangeNothingElse : Prop :=
  ∀ (ld : Fin 16) (s : Machine.State), s.mailboxUp ld = true →
    Machine.exec (.identifyMemoryDevice ld) s = .next (s.emit (.mailbox ld Cxl.success (
      leBytes 8 (s.get (Reg.RGN_LD_CAP.STATIC ld) * 2 ^ 28) ++ leBytes 8 0 ++ leBytes 4 16384 ++ leBytes 4 16384 ++
      leBytes 2 64 ++ leBytes 16 Config.vendorUuid.toNat))) ∧
    Machine.exec (.getSupportedLogs ld) s = .next (s.emit (.mailbox ld Cxl.success (
      leBytes 2 1 ++ leBytes 16 Config.celUuid.toNat ++ leBytes 4 Config.celBytes.length))) ∧
    (∀ (u : BitVec 128) (o n : Nat), Machine.exec (.getLog ld u o n) s = .next (s.emit (
      if u = Config.celUuid ∧ o + n ≤ Config.celBytes.length then .mailbox ld Cxl.success ((Config.celBytes.drop o).take n)
      else .mailbox ld Cxl.invalidInput []))) ∧
    (∀ o n : Nat, Machine.exec (.getLsa ld o n) s = .next (s.emit (
      if o + n ≤ 16384 then .mailbox ld Cxl.success (((s.labels ld).drop o).take n) else .mailbox ld Cxl.invalidInput []))) ∧
    Machine.exec (.getAlertConfiguration ld) s = .next (s.emit (.mailbox ld Cxl.success (s.ldState ld).alert)) ∧
    Machine.exec (.getShutdownState ld) s = .next (s.emit (.mailbox ld Cxl.success (
      leBytes 1 (ofBool (bitOf s.kst.shutdown ld))))) ∧
    (∀ (a n : Nat) (l : List Nat), l = (s.ldState ld).poisonList.filter (fun x => decide (a ≤ x) && decide (x < a + n)) →
      Machine.exec (.getPoisonList ld a n) s = .next (s.emit (.mailbox ld Cxl.success (
        leBytes 1 (ofBool (s.ldState ld).poisonOverflow) ++ leBytes 2 l.length ++ l.flatMap fun x => leBytes 8 x)))) ∧
    ((s.ldState ld).scan = none →
      Machine.exec (.getScanMediaResults ld) s = .next (s.emit (.mailbox ld Cxl.success []))) ∧
    (∀ (a n : Nat) (l : List Nat), (s.ldState ld).scan = some (a, n, l) →
      Machine.exec (.getScanMediaResults ld) s = .next (s.emit (.mailbox ld Cxl.success (
        leBytes 8 a ++ leBytes 8 n ++ leBytes 2 l.length ++ l.flatMap fun x => leBytes 8 x)))) ∧
    (∀ (log : Fin 5) (l : List LogRecord), l = (s.ldState ld).logs.filter (fun r => r.log == log.val) →
      Machine.exec (.getEventRecords ld log) s = .next (s.emit (.mailbox ld Cxl.success (
        leBytes 1 (ofBool (bitOf (s.ldState ld).logOverflow log)) ++ leBytes 2 ((NMap.find? (s.ldState ld).logLost log.val).getD 0) ++
        leBytes 2 l.length ++ l.flatMap LogRecord.bytes)))) ∧
    Machine.exec (.getEventInterruptPolicy ld) s = .next (s.emit (.mailbox ld Cxl.success eventPolicy)) ∧
    (∀ p : Bytes, Machine.exec (.setEventInterruptPolicy ld p) s =
      .next (s.emit (.mailbox ld (if p = eventPolicy then Cxl.success else Cxl.invalidInput) []))) ∧
    Machine.exec (.getDynamicCapacityConfig ld) s = .next (s.emit (.mailbox ld Cxl.success (
      leBytes 1 1 ++ leBytes 8 (s.get (Reg.RGN_LD_CAP.STATIC ld) * 2 ^ 28) ++
      leBytes 8 (s.get (Reg.RGN_LD_CAP.DC_MAX ld) * 2 ^ 28) ++ leBytes 8 (2 ^ 28)))) ∧
    (∀ l : List (Nat × Extent), l = s.rgn.exts.filter (fun e => e.2.live && !e.2.stat && e.2.ld == ld.val) →
      Machine.exec (.getDynamicCapacityExtentList ld) s = .next (s.emit (.mailbox ld Cxl.success (
        leBytes 4 l.length ++ l.flatMap fun e => leBytes 8 (e.2.lxn * 2 ^ 28))))) ∧
    ∀ op : BitVec 16, Machine.exec (.unsupportedCxlCommand ld op) s = .next (s.emit (.mailbox ld Cxl.unsupported []))

/-- On a mailbox whose link is up, Set LSA queues the write of the label record, Set Alert Configuration and Set Shutdown
State store their values, Get Health Info answers with the dirty shutdown count, and Clear Event Records removes the records
named, or all. The model's own choices and readings in it: log entries 18 and 34. -/
def Obligations.MailboxSettingsTakeEffect : Prop :=
  ∀ (ld : Fin 16) (s : Machine.State), s.mailboxUp ld = true →
    (∀ (o : Nat) (data : Bytes), o + data.length ≤ 16384 → (∀ w ∈ s.cmd.writes, w.record ≠ 16 + ld.val) →
      Machine.exec (.setLsa ld o data) s = .next { s with cmd := { s.cmd with writes := s.cmd.writes ++
        [⟨16 + ld.val, .labels ld ((s.labels ld).take o ++ data ++ (s.labels ld).drop (o + data.length)), none⟩] } }) ∧
    (∀ b : Bytes, Machine.exec (.setAlertConfiguration ld b) s = .next
      ((s.setLd ld { s.ldState ld with alert := b }).emit (.mailbox ld Cxl.success []))) ∧
    (∀ d : Bool, Machine.exec (.setShutdownState ld d) s = .next (State.emit { s with kst := { s.kst with
      shutdown := if d = true then setBitOf s.kst.shutdown ld else clearBitOf s.kst.shutdown ld } } (.mailbox ld Cxl.success []))) ∧
    Machine.exec (.getHealthInfo ld) s = .next (s.tick.tick.emit (.mailbox ld Cxl.success (
      leBytes 1 (ofBool !s.ready Reg.GLB_READY.MEM_PARTIAL) ++ leBytes 1 (max (s.free % 256) s.capacityLost) ++
      leBytes 2 (signed 16 (s.tick.dieTenthC / 10)) ++ leBytes 4 s.kst.dirtyShutdowns))) ∧
    (∀ (log : Fin 5) (hs : List (BitVec 16)) (d : LdState), d = { s.ldState ld with
        logs := (s.ldState ld).logs.filter (fun r => !(r.log == log.val)),
        logOverflow := clearBitOf (s.ldState ld).logOverflow log } →
      Machine.exec (.clearEventRecords ld log true hs) s = .next
        ((s.setLd ld { d with logLost := NMap.erase d.logLost log.val }).emit (.mailbox ld Cxl.success []))) ∧
    (∀ (log : Fin 5) (hs : List (BitVec 16)),
      (∀ h ∈ hs, ∃ r ∈ (s.ldState ld).logs, r.log = log.val ∧ r.handle = h.toNat) →
      Machine.exec (.clearEventRecords ld log false hs) s = .next ((s.setLd ld { s.ldState ld with
        logs := (s.ldState ld).logs.filter (fun r => !(r.log == log.val && hs.any fun h => h.toNat == r.handle)) }).emit
          (.mailbox ld Cxl.success [])))

/-- On a mailbox whose link is up, Clear Poison is a write of its line without poison and Inject Poison, where it is enabled,
one of the line's data with poison (log entry 19), served as host writes are; Scan Media takes in what the scan finds and
answers that it runs in the background. -/
def Obligations.ScanAndPoisonCommandsAnswer : Prop :=
  (∀ (ld : Fin 16) (lpa dpa : Nat) (data : Bytes) (s : Machine.State), s.mailboxUp ld = true → s.saving = false →
    s.translate ld lpa = .inl dpa → ∀ (t : Machine.State) (r : HostReq),
    t = (s.newReq (Fin.ofNat 4 (s.ldHead ld)) ld lpa true data false).1 →
    r = { (s.newReq (Fin.ofNat 4 (s.ldHead ld)) ld lpa true data false).2 with clear := true } →
    Machine.exec (.clearPoison ld lpa data) s = .next (
      if t.ready Reg.GLB_READY.MEM_PARTIAL = true then t.serveWrite r else t.wait r .memPartial)) ∧
  (∀ (ld : Fin 16) (lpa why : Nat) (data : Bytes) (s : Machine.State), s.mailboxUp ld = true → s.saving = false →
    s.translate ld lpa = .inr why →
    Machine.exec (.clearPoison ld lpa data) s = .next (s.emit (.mailbox ld Cxl.invalidInput []))) ∧
  (∀ (ld : Fin 16) (lpa dpa : Nat) (s : Machine.State), s.mailboxUp ld = true → s.saving = false →
    s.flag Reg.RGN_CFG.INJECT_EN = true → s.translate ld lpa = .inl dpa → ∀ (t : Machine.State) (r : HostReq),
    t = (s.newReq (Fin.ofNat 4 (s.ldHead ld)) ld lpa true (dramRead s.dram (dpa / 64 * 64) 64) true).1 →
    r = { (s.newReq (Fin.ofNat 4 (s.ldHead ld)) ld lpa true (dramRead s.dram (dpa / 64 * 64) 64) true).2 with clear := true } →
    Machine.exec (.injectPoison ld lpa) s = .next (
      if t.ready Reg.GLB_READY.MEM_PARTIAL = true then t.serveWrite r else t.wait r .memPartial)) ∧
  (∀ (ld : Fin 16) (lpa : Nat) (s : Machine.State), s.mailboxUp ld = true → s.flag Reg.RGN_CFG.INJECT_EN = false →
    Machine.exec (.injectPoison ld lpa) s = .next (s.emit (.mailbox ld Cxl.unsupported []))) ∧
  (∀ (ld : Fin 16) (lpa length : Nat) (bad : List Nat) (s : Machine.State), s.mailboxUp ld = true →
    ∃ (found : List Nat) (v t u : Machine.State),
      v = s.accessLines (s.scanLines ld lpa length) reqScrub false false ∧
      t = v.uncorrectables (bad.filter fun line => match v.ownerOf (line * 64) with
        | some (o, a) => o == ld && decide (lpa ≤ a) && decide (a < lpa + length) && v.pageRestored (line / 64)
        | none => false) ∧
      found = (t.poison.filter fun line => match t.ownerOf (line * 64) with
        | some (o, a) => o == ld && decide (lpa ≤ a) && decide (a < lpa + length) && t.pageRestored (line / 64)
        | none => false) ∧
      u = (t.setLd ld { t.ldState ld with poisonOverflow := false }).each found State.listPoison ∧
      Machine.exec (.scanMedia ld lpa length bad) s = .next (((u.setLd ld { u.ldState ld with
        scan := some (lpa, length, (u.ldState ld).poisonList.filter fun a => decide (lpa ≤ a) && decide (a < lpa + length)) }).emit
          (.mailbox ld Cxl.background [])).signal ld 0))

/-- A link that trains on a head that exists, out of SAVING and SAVED, sets UP, WIDTH and RATE, records LINK_UP and degrades
to CXL.io below its minimum; configuration space readiness, CXL.mem enable, link loss, port reset, function level reset and
the write of the completion timeout have exactly the effect written out. The model's own choices and readings in it: log
entries 14 and 49. -/
def Obligations.LinkTrainingAndEnableEvents : Prop :=
  (∀ (h : Fin 4) (width gts w : Nat) (flit256 : Bool) (s t : Machine.State),
     s.ready Reg.GLB_READY.KEEPER_UP = true → s.headUp h = false → s.headExists h = true →
     w = trainedWidth (if s.split h = true then 8 else 16) width → w ≠ 0 → s.pwr.underway = false → s.domainOn (6 + h / 2) = true →
     s.pstate ≠ PState.SAVING → s.pstate ≠ PState.SAVED →
     t = s.putAll [(Reg.HIF_HEAD_STAT.UP h, 1), (Reg.HIF_HEAD_STAT.WIDTH h, widthCode w), (Reg.HIF_HEAD_STAT.RATE h, rateCode gts)] →
     ∀ u : Machine.State, u = (if flit256 = true then t.putFree (Reg.HIF_HEAD_STAT.FLIT_LO h) else t).record Ev.LINK_UP h [] →
     Machine.exec (.linkUp h width gts flit256) s = .next ((if 4 ≤ w ∧ 32 ≤ gts ∧ flit256 = true then u else
       State.record { u.put Reg.HIF_LD_STAT.MEM_EN (maskOf 16 fun n => u.ldMem n && !(u.ldPresent n && u.ldHead n == h.val)) with
         hif := { u.hif with degraded := u.hif.degraded ++ [h.val] } } Ev.LINK_DEGRADED h []).showLinks.tellResumed h).resumeExit) ∧
  ((∀ (h : Fin 4) (s : Machine.State), s.headUp h = true → s.hif.ready.contains h.val = false →
     Machine.exec (.configSpaceReady h) s = .next { s with hif := { s.hif with ready := insertNat s.hif.ready h } }) ∧
   (∀ (ld : Fin 16) (on : Bool) (s : Machine.State), s.ldPresent ld = true → s.headUp (s.ldHead ld) = true →
     s.hif.ready.contains (s.ldHead ld) = true → s.hif.degraded.contains (s.ldHead ld) = false →
     Machine.exec (.cxlMemEnable ld on) s = .next (s.put Reg.HIF_LD_STAT.MEM_EN (
       if on = true then setBitOf (s.get Reg.HIF_LD_STAT.MEM_EN) ld else clearBitOf (s.get Reg.HIF_LD_STAT.MEM_EN) ld)).showLinks) ∧
   (∀ (h : Fin 4) (s t : Machine.State), s.headUp h = true →
     t = s.putAll [(Reg.HIF_HEAD_STAT.UP h, 0), (Reg.HIF_HEAD_STAT.WIDTH h, 0), (Reg.HIF_HEAD_STAT.RATE h, 0), (Reg.HIF_HEAD_STAT.FLIT_LO h, 0)] →
     Machine.exec (.linkDown h) s = .next (State.record { t with hif := { t.hif with
       reqs := t.hif.reqs.filter fun r => !r.lostWith h
       ready := t.hif.ready.filter (· != h.val)
       gpf2 := NMap.erase t.hif.gpf2 h
       degraded := t.hif.degraded.filter (· != h.val) } } Ev.LINK_DOWN h []).showHeld.showLinks) ∧
   (∀ (port : Fin 2) (kind : PortReset) (s : Machine.State),
     Machine.exec (.portReset port kind) s = .next ((s.linkDown (2 * port)).linkDown (2 * port + 1))) ∧
   (∀ (ld : Fin 16) (s : Machine.State), s.ldPresent ld = true →
     Machine.exec (.functionLevelReset ld) s = .next (State.showHeld { s with
       hif := { s.hif with reqs := s.hif.reqs.filter fun r =>
         !(r.ld == ld && (r.stage == Stage.hold || r.stage == Stage.memPartial)) }
       cmd := { s.cmd with results := s.cmd.results.map fun e =>
         if e.port = Port.mailbox ld ∧ e.status = none then { e with replied := true } else e } })) ∧
   (∀ (req : Req) (h : Fin 4) (v : Word) (d : Nat) (s : Machine.State), s.permits req .a → d = v.toNat % 65536 →
     Machine.exec (.hifHeadCtoWrite req h v) s = .next (
       if 0 < d ∧ d < 40 then (s.putAll [(Reg.HIF_HEAD_CTO.DECLARED h, d), (Reg.HIF_HEAD_CTO.SHORT h, 1)]).record Ev.CTO_SHORT h []
       else s.putAll [(Reg.HIF_HEAD_CTO.DECLARED h, d), (Reg.HIF_HEAD_CTO.SHORT h, 0)])))

/-- For an entitled requester, START opens a session or sets REQ_REJECT, COMMIT merges the trial delays or ends with a verify
failure, ABORT abandons, STORE writes a set, and a bin that the population allows is stored, any other ignored; a slice waits
for a migration, or takes its delays and eyes and moves on when its step is complete. The model's own choices and readings in
it: log entry 51. -/
def Obligations.TrainingUnitCommandsAndSlices : Prop :=
  ((∀ (req : Req) (ch : Fin 8) (s : Machine.State), s.permits req .f → s.trainRefusal ch = none → s.ready Reg.GLB_READY.FW_RUN = true →
     Machine.exec (.trnStart req ch) s = .next (State.putAll { s with trn := { s.trn with trial := [], eyes := [] } } [
       (Reg.TRN_STAT.ACTIVE, 1), (Reg.TRN_STAT.GATHER, 1), (Reg.TRN_STAT.CH, ch), (Reg.TRN_STAT.RANK, ((s.ranksOf ch).headD 0)),
       (Reg.TRN_STAT.STEP, 1), (Reg.TRN_STAT.WAIT_MIG, 0)])) ∧
   (∀ (req : Req) (ch : Fin 8) (s : Machine.State), s.permits req .f →
     (s.trainRefusal ch ≠ none ∨ s.ready Reg.GLB_READY.FW_RUN = false) →
     Machine.exec (.trnStart req ch) s = .next (s.put Reg.TRN_STAT.REQ_REJECT 1)) ∧
   (∀ (req : Req) (s t : Machine.State), s.permits req .f → s.flag Reg.TRN_STAT.ACTIVE = true → s.ready Reg.GLB_READY.FW_RUN = true →
     t = (State.putAll { s with trn := { s.trn with verified := NMap.union s.trn.verified s.trn.trial } } [
       (Reg.TRN_CH_SRC.SRC (s.get Reg.TRN_STAT.CH), 4), (Reg.DMC_STAT.FIXED_DELAYS (s.get Reg.TRN_STAT.CH), 0)]).endSession 1 →
     Machine.exec (.trnCommit req true) s = .next (
       if ∀ c ∈ t.inService, t.get (Reg.TRN_CH_SRC.SRC c) = 4 then t.setReady Reg.GLB_READY.TRAINED true else t)) ∧
   (∀ (req : Req) (s : Machine.State), s.permits req .f → s.flag Reg.TRN_STAT.ACTIVE = true → s.ready Reg.GLB_READY.FW_RUN = true →
     Machine.exec (.trnCommit req false) s = .next ((s.endSession 2).record Ev.TRN_VERIFY_FAIL (s.get Reg.TRN_STAT.CH) [])) ∧
   (∀ (req : Req) (s : Machine.State), s.permits req .f → s.flag Reg.TRN_STAT.ACTIVE = true →
     Machine.exec (.trnAbort req) s = .next ((s.endSession 3).record Ev.TRN_ABANDONED (s.get Reg.TRN_STAT.CH) [])) ∧
   (∀ (req : Req) (s : Machine.State), s.permits req .f → s.ready Reg.GLB_READY.TRAINED = true → s.flag Reg.TRN_STAT.ACTIVE = false →
     Machine.exec (.trnStore req) s = .next (s.writeSet (s.get Reg.TRN_STAT.BIN) Config.populationSignature
       (s.trn.verified.map fun e => ⟨e.1, e.2⟩) none)) ∧
   (∀ (req : Req) (bin : BitVec 4) (s : Machine.State), s.permits req .f → s.flag Reg.TRN_STAT.GATHER = false →
     (minBin ≤ bin.toNat → bin.toNat ≤ maxBin →
       Machine.exec (.nextBinWrite req bin) s = .next { s.put Reg.TRN_CFG.NEXT_BIN bin.toNat with cmd := { s.cmd with
         writes := s.cmd.writes ++ [⟨2, .fields [(Reg.TRN_CFG.NEXT_BIN, bin.toNat)] none, none⟩] } }) ∧
     (bin.toNat < minBin ∨ maxBin < bin.toNat → Machine.exec (.nextBinWrite req bin) s = .next s))) ∧
  ((∀ (delays : List (Nat × BitVec 16)) (eyes : List (Nat × Nat)) (bad : List Nat) (complete : Bool) (s : Machine.State),
     s.flag Reg.TRN_STAT.ACTIVE = true → s.trainBlocked (s.get Reg.TRN_STAT.CH) = true →
     Machine.exec (.trainingSlice delays eyes bad complete) s = .next (s.put Reg.TRN_STAT.WAIT_MIG 1)) ∧
   (∀ (delays : List (Nat × BitVec 16)) (eyes : List (Nat × Nat)) (bad : List Nat) (complete : Bool) (c rank : Nat)
     (s v t u : Machine.State),
     s.flag Reg.TRN_STAT.ACTIVE = true → c = s.get Reg.TRN_STAT.CH → s.trainBlocked c = false →
     rank = c * 8 + s.get (Reg.DMC_RANK_MAP.LR c (s.get Reg.TRN_STAT.RANK)) →
     v = (s.put Reg.TRN_STAT.WAIT_MIG 0).uncorrectables (bad.filter fun l =>
       s.channelOf (l * 64) == c && s.lrankOf (l * 64) == s.get Reg.TRN_STAT.RANK) →
     t = (if 4 ≤ v.get Reg.TRN_STAT.STEP then v.sliceActivates rank else v) →
     u = { t with
       trn := { t.trn with
         trial := (delays.filter fun d => placeChannel d.1 == c).foldl (fun m d => NMap.insert m d.1 d.2.toNat) t.trn.trial
         eyes := (eyes.filter fun e => decide (e.1 < 80)).foldl (fun m e => NMap.insert m e.1 (bitsOf e.2 16 16, bitsOf e.2 0 16)) t.trn.eyes }
       dmc := { t.dmc with down := t.dmc.down.filter fun n => n != rank } } →
     Machine.exec (.trainingSlice delays eyes bad complete) s = .next (
       if complete = true ∧ u.flag Reg.TRN_STAT.ACTIVE = true then u.nextStep c else u)))

/-- For an entitled requester, START fetches the descriptor, PAUSE, RESUME, DRAIN and HALT move the channel as written,
software requests raise lines; a channel that holds a slot after the slots have been granted moves one burst, unless an
element waits for the recovery of a line, pauses for a domain that is to fall, and frees its slot; one without a slot waits;
a beat timeout makes the beats before it and puts the channel in ERROR, unless one of them has ended it. The model's own
choices and readings in it: log entries 40 and 41. -/
def Obligations.DmaChannelOperations : Prop :=
  (∀ (req : Req) (ch : Fin 16) (s r t : Machine.State), s.permits req .f → s.unitFailed (dmaUnit ch) = false →
    (s.dmaState ch = 0 ∨ s.dmaState ch = 4 ∨ s.dmaState ch = 5 ∨ s.dmaState ch = 6 ∨ s.dmaState ch = 7) →
    r = (if s.dmaState ch = 7 then s.endFault (dmaUnit ch) else s) →
    t = State.putAll { r with dma := { r.dma with jobs := NMap.erase r.dma.jobs ch } } [
      (Reg.DMA_CH_STAT.DESC_DONE ch, 0), (Reg.DMA_CH_STAT.CAUSE ch, 0), (Reg.DMA_CH_ERR_INFO.KIND ch, 0),
      (Reg.DMA_CH_ERR_INFO.DIR ch, 0), (Reg.DMA_CH_ERR_INFO.DESC_FETCH ch, 0)] →
    Machine.exec (.dmaStart req ch) s = .next (t.dmaFetch ch (r.get (Reg.DMA_CH_DESC.ADDR ch)) false)) ∧
  (∀ (req : Req) (ch : Fin 16) (s : Machine.State), s.permits req .f → s.unitFailed (dmaUnit ch) = true →
    Machine.exec (.dmaStart req ch) s = .next s) ∧
  (∀ (req : Req) (ch : Fin 16) (s : Machine.State), s.permits req .f → s.dmaState ch = 1 →
    Machine.exec (.dmaPause req ch) s = .next (s.put (Reg.DMA_CH_STAT.STATE ch) 2)) ∧
  (∀ (req : Req) (ch : Fin 16) (s : Machine.State), s.permits req .f → s.dmaState ch = 2 →
    Machine.exec (.dmaResume req ch) s = .next (s.put (Reg.DMA_CH_STAT.STATE ch) 1)) ∧
  (∀ (req : Req) (ch : Fin 16) (j : DmaJob) (s : Machine.State), s.permits req .f →
    (s.dmaState ch = 1 ∨ s.dmaState ch = 2) → NMap.find? s.dma.jobs ch = some j →
    Machine.exec (.dmaDrain req ch) s = .next { s.put (Reg.DMA_CH_STAT.STATE ch) 1 with
      dma := { s.dma with jobs := NMap.insert s.dma.jobs ch { j with drain := true } } }) ∧
  (∀ (req : Req) (ch : Fin 16) (s : Machine.State), s.permits req .f →
    (s.dmaState ch = 1 ∨ s.dmaState ch = 2 ∨ s.dmaState ch = 3) →
    Machine.exec (.dmaHalt req ch) s = .next (s.dmaHalt ch 1)) ∧
  (∀ (req : Req) (lines : BitVec 32) (s : Machine.State), s.permits req .f →
    Machine.exec (.dmaSwreq req lines) s = .next { s with dma := { s.dma with lines := s.dma.lines ||| lines.toNat } }) ∧
  (∀ (ch : Fin 16) (w : Bool) (a base i count : Nat) (j : DmaJob) (s t u : Machine.State),
    NMap.find? s.dma.jobs ch = some j → t = s.dmaSlots → t.dma.slots.contains ch.val = true → count = t.burstCount ch j →
    base = (if w = true then t.pair (Reg.DMA_CH_DST_LO.DST ch) (Reg.DMA_CH_DST_HI.DST ch)
      else t.pair (Reg.DMA_CH_SRC_LO.SRC ch) (Reg.DMA_CH_SRC_HI.SRC ch)) →
    (bitOf j.ctrl (if w = true then 27 else 28) = false ∧ base ≤ a ∧ i = (a - base) / widthOf j.ctrl ∨
      bitOf j.ctrl (if w = true then 27 else 28) = true ∧ a = base ∧ i = s.free % count) → i < count →
    u = t.tick.burst ch j (if w = true then count else i) i →
    Machine.exec (.dmaBeatTimeout ch w a) s = .next
      ((if u.dmaState ch = 1 then u.dmaError ch 3 w false (some a) else u).slotFree ch)) ∧
  (∀ (ch : Fin 16) (j : DmaJob) (s t : Machine.State), NMap.find? s.dma.jobs ch = some j → t = s.dmaSlots →
    (t.dma.slots.contains ch.val = true → s.burstWaits ch j = false → Machine.exec (.dmaBurstDone ch) s =
      .next (((t.burst ch j (t.burstCount ch j) (t.burstCount ch j)).pauseForDomains ch).slotFree ch)) ∧
    (t.dma.slots.contains ch.val = false ∨ s.burstWaits ch j = true → Machine.exec (.dmaBurstDone ch) s = .next s))

/-- READY starts firmware and raises the floor; a missed READY, the watchdog and a crash stop it, and it restarts within
RESTART_MAX restarts of the last hour, while the code region with the rest of the body hashes to BODY_HASH, and not under
Foghorn; a watchdog kick by an entitled requester completes and changes no other state (the model has no clock, log entry
82), one by another requester is an access denied. A core access that the fence grants reaches the fabric, and its read gives
poison where a line is poisoned, and waits for one in recovery (log entry 121); a denied write is discarded, a denied read
returns 0 with a bus error, and the denial is recorded. The model's own choices and readings in it: log entries 59, 82 and
105. -/
def Obligations.FirmwareEventsAndCoreAccesses : Prop :=
  ((∀ s t : Machine.State, s.cpx.released = true → s.ready Reg.GLB_READY.FW_RUN = false →
     t = (State.setReady { s with cpx := { s.cpx with released := false } } Reg.GLB_READY.FW_RUN true).record Ev.FW_START wide
       [(4, (State.setReady { s with cpx := { s.cpx with released := false } } Reg.GLB_READY.FW_RUN true).cpx.version)] →
     Machine.exec .fwReadySignal s = .next (
       if t.get Reg.CPX_FW_FLOOR.FLOOR < t.cpx.floor then
         { t.put Reg.CPX_FW_FLOOR.FLOOR t.cpx.floor with
           cmd := { t.cmd with writes := t.cmd.writes ++ [⟨9, .floor t.cpx.floor, none⟩] } }
       else t)) ∧
   (∀ s : Machine.State, s.cpx.released = true → s.ready Reg.GLB_READY.FW_RUN = false →
     Machine.exec .fwReadyTimeout s = .next (s.stopFw FwCause.watchdog).restartFw) ∧
   (∀ s : Machine.State, s.fwAlive = true →
     Machine.exec .fwWatchdogExpired s = .next (s.stopFw FwCause.watchdog).restartFw ∧
     Machine.exec .fwCrash s = .next (s.stopFw FwCause.crash).restartFw) ∧
   (∀ (req : Req) (v : Word) (s : Machine.State), s.permits req .f → Machine.exec (.cpxWdtKick req v) s = .next s) ∧
   (∀ (req : Req) (v : Word) (s : Machine.State), req ≠ .chain → s.entitled req .f = false →
     Machine.exec (.cpxWdtKick req v) s = .next s.accessDenied) ∧
   (∀ s : Machine.State, (s.fogged = true ∨ s.get Reg.CPX_FW_CFG.RESTART_MAX ≤ s.get Reg.CPX_FW_STAT.RESTARTS ∨
       Config.sha384 (dramRead s.cpx.ram 4096 s.cpx.codeLen ++ s.cpx.rest) ≠ s.cpx.hash) → s.restartFw = s) ∧
   (∀ s : Machine.State, s.fogged = false → s.get Reg.CPX_FW_STAT.RESTARTS < s.get Reg.CPX_FW_CFG.RESTART_MAX →
     Config.sha384 (dramRead s.cpx.ram 4096 s.cpx.codeLen ++ s.cpx.rest) = s.cpx.hash →
     s.restartFw = (State.count { s with cpx := { s.cpx with fwRestarts := 0 :: s.cpx.fwRestarts } } Reg.CPX_FW_STAT.RESTARTS 1).releaseFw)) ∧
  (∀ (core : Fin 4) (addr : BitVec 44) (size : Fin 5) (v : Word) (s : Machine.State), s.fwAlive = true → size ≠ 0 →
     (s.fenceGrants (.core core) .write addr.toNat size = true →
       Machine.exec (.appCoreAccess core .write addr size v) s =
         .next (s.fabricWrite .fw addr.toNat size (v.toNat % 2 ^ (8 * size.val)))) ∧
     (∀ k : AccessKind, k ≠ .write → s.fenceGrants (.core core) k addr.toNat size = true →
       (s.awaitsRecovery addr.toNat size = true → Machine.exec (.appCoreAccess core k addr size v) s = .next s) ∧
       (s.awaitsRecovery addr.toNat size = false → Machine.exec (.appCoreAccess core k addr size v) s =
         .next ((s.fabricRead .fw addr.toNat size).2.emit (if s.meetsPoison addr.toNat size = true then .corePoison core
           else .coreRead core (s.fabricRead .fw addr.toNat size).1)))) ∧
     (s.fenceGrants (.core core) .write addr.toNat size = false →
       Machine.exec (.appCoreAccess core .write addr size v) s = .next (s.fenceDenied (.core core) .write addr.toNat)) ∧
     (∀ k : AccessKind, k ≠ .write → s.fenceGrants (.core core) k addr.toNat size = false →
       Machine.exec (.appCoreAccess core k addr size v) s =
         .next (((s.emit (.coreRead core 0)).emit (.busError .fw)).fenceDenied (.core core) k addr.toNat)))

/-- Reads answer what the bus returns and writes do what the bus does. An offset without a register reads 0 and ignores
writes; a requester entitled to no field reads 0 and its write is recorded and discarded, as is a narrow or unaligned write.
KST_VMODE and KST_ECC take their values, busy groups excepted, and are stored. -/
def Obligations.RegisterAccessesReachTheBus : Prop :=
  ((∀ (req : Req) (off : BitVec 32) (size : Fin 5) (s : Machine.State), size ≠ 0 →
     Machine.exec (.rcRegisterRead req off size) s = .next
       ((s.busRead req off.toNat size).2.emit (.regRead req (s.busRead req off.toNat size).1))) ∧
   (∀ (req : Req) (off : BitVec 32) (size : Fin 5) (v : Word) (s : Machine.State), req ≠ .chain → size ≠ 0 →
     Machine.exec (.registerWrite req off size v) s = .next (s.busWrite req off.toNat size v.toNat)) ∧
   (∀ (req : Req) (off : BitVec 32) (s : Machine.State), loRegs.contains off.toNat = true →
     Machine.exec (.epochLoCaptureRead req off) s = .next
       ((s.busRead req off.toNat 4).2.emit (.regRead req (s.busRead req off.toNat 4).1))) ∧
   (∀ (req : Req) (vin : Bool) (v : Word) (s : Machine.State), req ≠ .chain →
     Machine.exec (.pwrCfgWrite req vin v) s = .next (s.busWrite req (if vin = true then 0x30008 else 0x30000) 4 v.toNat)) ∧
   (∀ (req : Req) (off size v : Nat) (s : Machine.State), regAt req (off / 4 * 4) = none →
     s.busRead req off size = (0, s) ∧ s.busWrite req off size v = s) ∧
   (∀ (req : Req) (off size v : Nat) (d : RegDef) (s : Machine.State), regAt req (off / 4 * 4) = some d → s.visible req d = [] →
     s.busRead req off size = (0, s) ∧ s.busWrite req off size v = s.record Ev.ACCESS_DENIED wide []) ∧
   (∀ (req : Req) (off size v : Nat) (d : RegDef) (s : Machine.State), regAt req (off / 4 * 4) = some d →
     (size ≠ 4 ∨ off % 4 ≠ 0) → s.busWrite req off size v = s.record Ev.ACCESS_DENIED wide [])) ∧
  ((∀ (req : Req) (v : Word) (m : Nat) (s t : Machine.State), s.permits req .h →
     m = maskOf 8 (fun k => if bitOf s.busyGroups k then bitOf (s.get Reg.KST_VMODE.MODE) k else bitOf v.toNat k) →
     t = (s.put Reg.KST_VMODE.MODE m).storeFields 11 [Reg.KST_VMODE.MODE] →
     Machine.exec (.kstVmodeEccWrite req false v) s = .next (if s.busyGroups = 0 then t else t.record Ev.CFG_LOCKED wide [])) ∧
   (∀ (req : Req) (v : Word) (s : Machine.State), s.permits req .h → 1 ≤ v.toNat % 4 → v.toNat % 4 ≤ 2 →
     Machine.exec (.kstVmodeEccWrite req true v) s = .next ((s.put Reg.KST_ECC.THR (v.toNat % 4)).storeFields 11 [Reg.KST_ECC.THR])) ∧
   (∀ (v : Word) (s : Machine.State),
     s.entitled .bmc .h = true ∧ (∀ h : Fin 4, s.owner = h → s.entitled (.head h) .h = true ∧ ∀ k : Fin 4, k ≠ h → s.entitled (.head k) .h = false) ∧
     ∀ h : Fin 4, s.owner ≠ h → Machine.exec (.kstVmodeEccWrite (.head h) true v) s = .next (s.record Ev.ACCESS_DENIED wide [])))

/-- Reads of the conversion queue, the urgent result, the receive FIFO, the dirty counts, the record window, the translation
fault and the fence violation remove, clear or capture exactly what is written out; the cursor commands move the requester's
own bank. The model's own choices and readings in it: log entry 44. -/
def Obligations.ReadsWithEffectsAndCursorCommands : Prop :=
  (∀ (req : Req) (s : Machine.State),
     (s.entitled req .f = true → ∃ v t, Machine.exec (.adcResultRead req) s = .next (State.emit t (.regRead req v)) ∧
       t.adc = { s.adc with queue := s.adc.queue.drop 1 } ∧ t.regs = s.regs) ∧
     (s.entitled req .f = true → ∃ v t, Machine.exec (.adcUrgResRead req) s = .next (State.emit t (.regRead req v)) ∧
       t.regs = s.regs.set Reg.ADC_URG_RES.VALID 0 ∧ t.adc = s.adc) ∧
     (∀ port : Fin 3, s.entitled req .f = true → ∃ v t, Machine.exec (.twiRxdataRead req port) s = .next (State.emit t (.regRead req v)) ∧
       t.twi = { s.twi with rx := NMap.insert s.twi.rx port ((s.rxFifo port).drop 1) } ∧ t.regs = s.regs) ∧
     (∃ v t, Machine.exec (.drpSsDirtyRead req) s = .next (State.emit t (.regRead req v)) ∧
       t.regs = s.regs ∧ t.caps = (((s.capture req 0x30000C [s.drp.countF]).capture req 0x300010 [s.drp.countC]).capture req 0x300014
         [min s.drp.saveSet 0xFFFFFFFF]).caps) ∧
     (∃ v t, Machine.exec (.evrWin0Read req) s = .next (State.emit t (.regRead req v)) ∧
       t.regs = s.regs ∧ t.evr = s.evr ∧ t.caps = (s.capture req 0x20100 (s.evr.window req ++
         ((((s.evr.ahead (s.evr.cursor req)).take 8).getLast?).map fun x => x.seq + 1).toList)).caps) ∧
     (∃ v t, Machine.exec (.rgnFaultRead req) s = .next (State.emit t (.regRead req v)) ∧
       t.get Reg.RGN_FAULT.KIND = 0) ∧
     (req = .keeper → ∃ v t, Machine.exec (.cpxViolInfoRead req) s = .next (State.emit t (.regRead req v)) ∧
       t.get Reg.CPX_VIOL_INFO.VALID = 0)) ∧
  ((∀ (req : Req) (s : Machine.State), s.permits req .a →
     Machine.exec (.evrCursorOldest req) s = .next (s.moveCursor req (s.evr.cursor req).area
       ((((s.evr.area (s.evr.cursor req).area).head?).map EvRecord.seq).getD s.evr.next))) ∧
   (∀ (req : Req) (x : Capture) (s : Machine.State), s.permits req .a →
     s.caps.find? (fun x => x.req == req && x.off == 0x20100) = some x →
     Machine.exec (.evrCursorAdvance req) s = .next (s.moveCursor req (s.evr.cursor req).area
       (x.words.getD 64 (s.evr.cursor req).seq))) ∧
   (∀ (req : Req) (s : Machine.State), s.permits req .a →
     Machine.exec (.evrCursorSeek req) s = .next (s.moveCursor req (s.evr.cursor req).area (s.evr.cursor req).staged)) ∧
   (∀ (req : Req) (area : BitVec 2) (s : Machine.State), s.permits req .a → area.toNat ≤ 2 → area.toNat ≠ (s.evr.cursor req).area →
     Machine.exec (.evrAreaSelect req area) s = .next (s.moveCursor req area.toNat
       ((((s.evr.area area.toNat).head?).map EvRecord.seq).getD s.evr.next))) ∧
   (∀ (req : Req) (s : Machine.State), s.permits req .a → ∀ area : BitVec 2,
     (area = 3 ∨ area.toNat = (s.evr.cursor req).area) → Machine.exec (.evrAreaSelect req area) s = .next s))

/-- The next slot of a converter that may start writes its tagged result, queues it where asked, and is used for supervision;
an urgent conversion goes to its own result; a second urgent request while one waits is counted and ignored. The model's own
choices and readings in it: log entry 53. -/
def Obligations.ConverterCommands : Prop :=
  (∀ (conv ovr : Bool) (code : BitVec 12) (n : Nat) (s : Machine.State), s.powered = true → s.nextEntry conv = some n →
    s.mayStart conv n = true → s.entryInput n = none →
    Machine.exec (.adcConversionDone conv code ovr) s = .next (s.slotDone conv n)) ∧
  (∀ (conv ovr : Bool) (code : BitVec 12) (n input c w : Nat) (adc : Adc) (s t u : Machine.State), s.powered = true →
    s.nextEntry conv = some n → s.mayStart conv n = true → s.entryInput n = some (input, adc) →
    c = (if ovr = true then if 2048 ≤ code.toNat then 0xFFF else 0 else code.toNat) →
    w = resultWord ovr (decide (0 < (s.conv conv).recov)) false conv input n (s.get (Reg.ADC_SEQ.GAIN n)) s.adc.cycle c →
    t = State.putResult { s with adc } (0x40200 + 4 * input) w →
    u = (if s.flag (Reg.ADC_SEQ.QUEUE n) = true then t.queueResult w else t) →
    Machine.exec (.adcConversionDone conv code ovr) s = .next
      (((((u.overRange input c ovr).recovery conv ovr (u.both n))).slotDone conv n).useResult input
        (inputMv input c (s.get (Reg.ADC_SEQ.GAIN n))) ovr (decide (0 < (s.conv conv).recov)))) ∧
  (∀ (conv ovr : Bool) (code : BitVec 12) (u : Urgent) (k w : Nat) (s : Machine.State), (s.conv conv).urgent = some u →
    s.powered = true → (s.conv conv).pairs = none → (s.conv conv).hold = 0 →
    k = (if ovr = true then if 2048 ≤ code.toNat then 0xFFF else 0 else code.toNat) →
    w = resultWord ovr (decide (0 < (s.conv conv).recov)) true conv u.input 0 u.gain s.adc.cycle k →
    Machine.exec (.urgentConversionDone conv code ovr) s = .next
      ((((((s.setConv conv { s.conv conv with urgent := none, hold := 4 }).putResult 0x40010 w).queueResult w).overRange
        u.input k ovr)).recovery conv ovr false)) ∧
  (∀ (req : Req) (v : Word) (s : Machine.State), s.permits req .f → bitOf v.toNat 31 = true →
    (s.conv (bitOf v.toNat 30)).urgent = none →
    Machine.exec (.adcUrg req v) s = .next (s.setConv (bitOf v.toNat 30) { s.conv (bitOf v.toNat 30) with
      urgent := some ⟨bitsOf v.toNat 0 5, bitsOf v.toNat 25 2, bitsOf v.toNat 27 3⟩ })) ∧
  (∀ (req : Req) (v : Word) (s : Machine.State), s.permits req .f → bitOf v.toNat 31 = true →
    (s.conv (bitOf v.toNat 30)).urgent ≠ none →
    Machine.exec (.adcUrg req v) s = .next (s.count Reg.ADC_ERR.URG_IGN 1))

/-- For an entitled requester, transmit bytes fill the FIFO up to 32, and a transaction with lengths up to 32 on a port that
is up, idle and not FAILED starts; each end of a transaction, the target timeout and both results of a recovery leave exactly
the state written out. The model's own choices and readings in it: log entry 58. -/
def Obligations.TwoWirePortCommands : Prop :=
  (∀ (req : Req) (p : Fin 3) (b : Byte) (s : Machine.State), s.permits req .f → (s.txFifo p).length < 32 →
    Machine.exec (.twiTxdataWrite req p b) s = .next (s.setTx p (s.txFifo p ++ [b]))) ∧
  (∀ (req : Req) (p : Fin 3) (b : Byte) (s : Machine.State), s.permits req .f → 32 ≤ (s.txFifo p).length →
    Machine.exec (.twiTxdataWrite req p b) s = .next s) ∧
  (∀ (req : Req) (p : Fin 3) (v : Word) (s t : Machine.State), s.permits req .f → p ≠ 0 → bitOf v.toNat 31 = true →
    bitsOf v.toNat 8 6 ≤ 32 → bitsOf v.toNat 0 6 ≤ 32 → s.get (Reg.TWI_XSTAT.RESULT p) ≠ TwiResult.busy →
    s.flag (Reg.TWI_STAT.DISABLED p) = false → s.flag (Reg.TWI_STAT.UP p) = true →
    s.unitFailed (sideUnit p) = false → t = s.putAll [(Reg.TWI_XSTAT.RESULT p, TwiResult.busy), (Reg.TWI_STAT.BUSY p, 1), (Reg.TWI_XFER.RD_LEN p, bitsOf v.toNat 8 6)] →
    Machine.exec (.twiXfer req p v) s = .next ((t.setTx p ((s.txFifo p).drop (bitsOf v.toNat 0 6))).emit
      (.twiStart p (bitsOf v.toNat 24 7) ((s.txFifo p).take (bitsOf v.toNat 0 6)) (bitsOf v.toNat 8 6)))) ∧
  (∀ (p : Fin 3) (data : Bytes) (s : Machine.State), s.flag (Reg.TWI_STAT.BUSY p) = true →
    s.flag (Reg.TWI_STAT.RECOVERING p) = false →
    Machine.exec (.twiTransactionDone p .done data) s = .next ((s.setRx p ((s.rxFifo p ++
      data.take (s.get (Reg.TWI_XFER.RD_LEN p))).take 32)).xferEnd p TwiResult.done) ∧
    Machine.exec (.twiTransactionDone p .addrNack data) s = .next ((s.count (Reg.TWI_ERR.FRAME p) 1).xferEnd p TwiResult.addrNack) ∧
    Machine.exec (.twiTransactionDone p .dataNack data) s = .next ((s.count (Reg.TWI_ERR.FRAME p) 1).xferEnd p TwiResult.dataNack) ∧
    Machine.exec (.twiTransactionDone p .busError data) s =
      .next (((s.count (Reg.TWI_ERR.COLLISION p) 1).xferEnd p TwiResult.busError).put (Reg.TWI_STAT.RECOVERING p) 1) ∧
    Machine.exec (.twiTargetTimeout p) s =
      .next (((s.count (Reg.TWI_ERR.TIMEOUT p) 1).xferEnd p TwiResult.timeout).put (Reg.TWI_STAT.RECOVERING p) 1)) ∧
  (∀ (p : Fin 3) (s : Machine.State), (s.flag (Reg.TWI_STAT.RECOVERING p) = true ∨
      s.flag (Reg.TWI_STAT.DISABLED p) = true ∧ s.get (Reg.TWI_STAT.RETRIES p) < 3) →
    (∀ r : Machine.State, r = (if s.flag (Reg.TWI_STAT.DISABLED p) = true then s.endFault (sideUnit p) else s) →
      Machine.exec (.busRecovery p true) s = .next (r.putAll [(Reg.TWI_STAT.RECOVERING p, 0), (Reg.TWI_STAT.DISABLED p, 0),
        (Reg.TWI_STAT.RETRIES p, 0), (Reg.TWI_STAT.UP p, ofBool (r.ready Reg.GLB_READY.SIDEBAND_UP))])) ∧
    ∀ t u : Machine.State, t = s.putAll [(Reg.TWI_STAT.RECOVERING p, 0), (Reg.TWI_STAT.DISABLED p, 1), (Reg.TWI_STAT.UP p, 0),
        (Reg.TWI_STAT.RETRIES p, s.get (Reg.TWI_STAT.RETRIES p) + if s.flag (Reg.TWI_STAT.DISABLED p) = true then 1 else 0)] →
      u = (if t.flag (Reg.TWI_STAT.BUSY p) = true then t.xferEnd p TwiResult.disabled else t).record Ev.TWI_BUS_STUCK p [] →
      Machine.exec (.busRecovery p false) s = .next (if s.flag (Reg.TWI_STAT.DISABLED p) = true then
        u.strike (sideUnit p) Ev.TWI_BUS_STUCK.sev else u.raiseFault (sideUnit p) Ev.TWI_BUS_STUCK.sev))

/-- Out of power, the button, a wake request, valid main input and a retry request power-on; a rank whose rails are good
enables the next or releases the Keeper; a rail that stays low shuts down with PWRUP_FAIL; a request other than the button
and wake without main input or with low supply is noted as ignored. The model's own choices and readings in it: log entries
17 and 20. -/
def Obligations.PowerOnRequestsAndPowerUp : Prop :=
  (∀ s : Machine.State, s.powered = false →
    Machine.exec .pbtnPress s = .next (s.powerOn 1) ∧ Machine.exec .wakeRequest s = .next (s.powerOn 2)) ∧
  (∀ s : Machine.State, s.powered = true → s.pwr.underway = false → s.get Reg.PWR_STAT.SEQ ≠ 1 →
    Machine.exec .pbtnPress s = .next (s.record Ev.PBTN_PRESS wide [])) ∧
  (∀ s : Machine.State, s.powered = false → s.flag Reg.PWR_STAT.VIN_VALID = true → s.flag Reg.PWR_LAN.AUTO_ON = true →
    s.flag Reg.PWR_LAN.STAY_OFF = false → s.pwr.retryDue = false → Machine.exec .autoPowerOn s = .next (s.powerOn 3)) ∧
  (∀ s : Machine.State, s.powered = false → s.pwr.retryDue = true →
    Machine.exec .powerupRetry s = .next (State.powerOn { s with pwr := { s.pwr with retryDue := false } } 4)) ∧
  (∀ s t : Machine.State, s.get Reg.PWR_STAT.SEQ = 1 → s.pwr.underway = false →
    t = s.each (List.range 16) (fun s n =>
      if s.railUsed n = true ∧ s.flag (Reg.PWR_RAIL_CTL.EN n) = true then s.put (Reg.PWR_RAIL_CTL.PG n) 1 else s) →
    Machine.exec .powerupRankStep s = .next (if t.nextRank (s.get Reg.PWR_STAT.STEP_RANK + 1) = [] then t.released
      else t.enableRails (t.nextRank (s.get Reg.PWR_STAT.STEP_RANK + 1)))) ∧
  (∀ (n : Fin 16) (s : Machine.State), s.get Reg.PWR_STAT.SEQ = 1 → s.pwr.underway = false →
    s.flag (Reg.PWR_RAIL_CTL.EN n) = true → s.flag (Reg.PWR_RAIL_CTL.PG n) = false →
    Machine.exec (.powerupTimeout n) s = .next (State.shutdown { s.put Reg.PWR_LAN.FAIL_RAIL n with
      pwr := { s.pwr with upFails := s.pwr.upFails + 1 } } Off.PWRUP_FAIL false)) ∧
  (∀ (s : Machine.State) (source : Nat), (s.flag Reg.PWR_STAT.VIN_VALID = false ∨ s.pwr.vsupOut = true) → 2 < source →
    s.powerOn source = s.put Reg.PWR_LAN.IGNORED 1)

/-- A supervised rail that loses power-good faults; a step of the timed shutdown takes down the rails of the highest rank
still on, and with the last one the power is off; the held button raises Foghorn, and so does over-temperature in FULL mode,
or a shutdown where no epoch can be saved. The model's own choices and readings in it: log entries 46, 47, 110 and 118. -/
def Obligations.ShutdownStepsAndRails : Prop :=
  (∀ (n : Fin 16) (s : Machine.State), s.supervised n = true →
    Machine.exec (.railPgLow n) s = .next ((s.put (Reg.PWR_RAIL_CTL.PG n) 0).railFault n)) ∧
  (∀ (before after : List (Fin 16 × Nat)) (s t u : Machine.State), s.pwr.underway = true →
    t = (if s.pwr.noReturn = true then s else (s.putAll [(Reg.PWR_LAN_SHDN.EARLY, 0), (Reg.PWR_LAN_SHDN.STUCK, 0)]).dropWrites) →
    u = State.each (State.put { t with pwr := { t.pwr with noReturn := true } } Reg.PWR_STAT.STEP_RANK (t.topRank t.railsOn))
      (t.railsOn.filter fun n => t.get (Reg.PWR_RAIL_CTL.RANK n) == t.topRank t.railsOn)
      (fun s n => s.railDown n before after) →
    Machine.exec (.timedShutdownStep before after) s = .next (if u.railsOn = [] then u.powerOff else u)) ∧
  (∀ (s : Machine.State) (n : Nat), n ∈ s.railsOn → s.get (Reg.PWR_RAIL_CTL.RANK n) ≤ s.topRank s.railsOn) ∧
  (∀ s : Machine.State, s.powered = true → (s.pwr.underway = false ∨ s.pwr.noReturn = false) →
    Machine.exec .pbtnOff s = .next (s.foghorn Fog.PBTN_OFF true 0)) ∧
  (∀ s : Machine.State, s.get Reg.PWR_STAT.SEQ = 2 → s.pwr.underway = false → s.saving = false →
    Machine.exec .dieOverTemperature s = .next (if s.pstate = PState.KEEPER_BOOT ∨ s.pstate = PState.LOST then
      s.shutdown Off.OVER_TEMP true else s.foghorn Fog.COMMAND true 0))

/-- MRST_N is counted and ignored during power-up and Foghorn, leaves ROM recovery, or restarts the Keeper; supply levels set
and clear their hysteresis bits; a Lantern reset, from any state, leaves the device OFF with rails off, device memory empty
and the Keeper store and images kept; PLL and domain events act as written. The model's own choices and readings in it: log
entries 32 and 47. -/
def Obligations.ResetsSuppliesAndClocks : Prop :=
  (∀ s : Machine.State, s.powered = true → s.pwr.noReturn = false →
    ((s.get Reg.PWR_STAT.SEQ = 1 ∨ s.fogged = true) → Machine.exec .mrstN s = .next (s.count Reg.PWR_EVCNT.MRST_IGN 1)) ∧
    (s.get Reg.PWR_STAT.SEQ ≠ 1 → s.fogged = false → s.ready Reg.GLB_READY.KEEPER_UP = false →
      Machine.exec .mrstN s = .next { s with cpx := { s.cpx with rom := false } }) ∧
    (s.get Reg.PWR_STAT.SEQ ≠ 1 → s.fogged = false → s.ready Reg.GLB_READY.KEEPER_UP = true → s.cpx.restarting = false →
      ∀ t : Machine.State, t = (s.count Reg.CPX_KP_STAT.RESTARTS 1).record Ev.MANUAL_RESET wide [] →
      Machine.exec .mrstN s = .next (State.resetTwiD { t with cpx := { t.cpx with restarting := true, manual := true } }))) ∧
  (∀ (mv : Nat) (s : Machine.State), ∃ t, Machine.exec (.vsupLevelCrossing mv) s = .next t ∧
    (mv < 4300 → t.get Reg.PWR_STAT.VSUP_LOW = 1) ∧ (4400 ≤ mv → t.get Reg.PWR_STAT.VSUP_LOW = 0) ∧
    (mv < 4500 → t.pwr.vsupOut = true) ∧ (4600 ≤ mv → t.pwr.vsupOut = false) ∧
    t.get Reg.PWR_VSUP.VSUP_MV = min mv 65535 ∧ t.dram = s.dram ∧ t.kst = s.kst ∧ t.flash = s.flash) ∧
  (∀ s : Machine.State, ∃ t, Machine.exec .lanternReset s = .next t ∧ t.pstate = PState.OFF ∧ t.dram = [] ∧
    t.get Reg.PWR_LAN.LAN_RESET = 1 ∧ t.get Reg.PWR_LAN.STAY_OFF = 0 ∧ (∀ n : Fin 16, t.flag (Reg.PWR_RAIL_CTL.EN n) = false) ∧
    t.kst.slotA = s.kst.slotA ∧ t.flash.images = s.flash.images) ∧
  (∀ (pll : Fin 9) (s : Machine.State), s.powered = true → Machine.exec (.pllUnlock pll) s = .next (s.loseLock pll)) ∧
  (∀ s : Machine.State, s.powered = true → s.flag Reg.CLK_PLL_STAT.REF_LOST = false →
    Machine.exec .refLost s = .next (((s.put Reg.CLK_PLL_STAT.REF_LOST 1).record Ev.REF_LOST wide []).each [0, 1, 2, 3, 4, 5, 8] State.loseLock)) ∧
  (∀ (pll : Fin 9) (s t : Machine.State), bitOf (s.get Reg.CLK_PLL_STAT.RUNNING) pll = true →
    bitOf (s.get Reg.CLK_PLL_STAT.LOCKED) pll = false →
    t = (if (pll.val != 6 && pll.val != 7) = true then
        (s.put Reg.CLK_PLL_STAT.LOCKED (setBitOf (s.get Reg.CLK_PLL_STAT.LOCKED) pll)).put Reg.CLK_PLL_STAT.REF_LOST 0
      else s.put Reg.CLK_PLL_STAT.LOCKED (setBitOf (s.get Reg.CLK_PLL_STAT.LOCKED) pll)) →
    ∀ u : Machine.State,
      u = (if (bitOf (t.get Reg.CLK_DOM_STAT.CHANGING) pll && !t.domainOn pll) = true then t.domainUp pll else t.endFault pwrUnit) →
    Machine.exec (.pllLocked pll) s = .next (
      if (pll.val == 1 && u.cpx.relock) = true then State.restartFw { u with cpx := { u.cpx with relock := false } } else u)) ∧
  (∀ (d : BitVec 4) (s : Machine.State), domainNamed d.toNat = true → s.unitFailed pwrUnit = false →
    Machine.exec (.domainPowerUp .keeper d) s = .next (s.domainStart d.toNat) ∧
    Machine.exec (.domainPowerDown .keeper d) s = .next (s.lowerDomain d.toNat)) ∧
  (∀ (d : BitVec 4) (s : Machine.State), s.domainOn d.toNat = true → bitOf (s.get Reg.CLK_DOM_STAT.CHANGING) d.toNat = true →
    Machine.exec (.domainDmaWaitTimeout d) s = .next (((s.each (s.affected d.toNat) fun s n =>
      ((s.dmaHalt n 3).count Reg.CLK_DOM_CNT.HALTS 1).record Ev.DOMAIN_HALT n []).raise Reg.CLK_DOM_CNT.WAIT_MAX_US 1000).domainOff d.toNat)) ∧
  (∀ s : Machine.State, s.fwAlive = false → s.ready Reg.GLB_READY.KEEPER_UP = true →
    Machine.exec .pdAppIdleTimeout s = .next (s.lowerDomain 1))

/-- A sample updates the measures, detects a pack after five good samples and loses it after three bad ones, and steps the
charger; the discharge cut-off, end of charge, recharge, charge faults and their retries leave exactly the state written out.
The model's own choices and readings in it: log entries 9, 23 and 65. -/
def Obligations.PackSamplesAndCharging : Prop :=
  (∀ (mv idCode : Nat) (ma tenthC : Int) (s t u w : Machine.State), s.ready Reg.GLB_READY.KEEPER_UP = true →
    t = s.takeSample mv ma tenthC →
    u = { t with rsv := { t.rsv with
      good := if s.goodSample mv tenthC idCode = true then min (t.rsv.good + 1) 5 else 0
      bad := if s.goodSample mv tenthC idCode = true then 0 else min (t.rsv.bad + 1) 3
      lastCode := if s.goodSample mv tenthC idCode = true then idCode
        else if t.flag Reg.RSV_STAT.PRESENT = true then t.rsv.lastCode else 0
      resting := t.rsv.resting && s.goodSample mv tenthC idCode && decide (ma.natAbs ≤ 50) } } →
    w = (if t.flag Reg.RSV_STAT.PRESENT = false ∧ 5 ≤ u.rsv.good then u.detectPack
      else if t.flag Reg.RSV_STAT.PRESENT = true ∧ 3 ≤ u.rsv.bad then u.losePack else u) →
    Machine.exec (.rsvSample mv ma tenthC idCode) s = .next
      (if w.flag Reg.RSV_STAT.PRESENT = true ∧ Pack.vCut ≤ mv then w.put Reg.RSV_STAT.DSG_ON 1 else w).stepCharger.showReserveOk.settle) ∧
  (∀ s : Machine.State, s.flag Reg.RSV_STAT.DSG_ON = true →
    Machine.exec .dsgCutoff s = .next (s.put Reg.RSV_STAT.DSG_ON 0).showReserveOk) ∧
  (∀ s : Machine.State, s.get Reg.RSV_STAT.CHG_STATE = 3 → Machine.exec .chargeEnd s =
    .next ((s.putAll [(Reg.RSV_STAT.CHG_STATE, 4), (Reg.RSV_STAT.CHARGING, 0)]).record Ev.CHG_DONE wide [])) ∧
  (∀ s : Machine.State, s.get Reg.RSV_STAT.CHG_STATE = 4 → s.pauses = false → Machine.exec .rechargeStart s = .next s.startCharge) ∧
  (∀ (cause : Fin 5) (s : Machine.State), s.get Reg.RSV_STAT.CHG_STATE ≠ 6 →
    (cause = 1 ∧ s.flag Reg.RSV_STAT.PRESENT = true ∨ (cause = 2 ∨ cause = 3) ∧ s.flag Reg.RSV_STAT.CHARGING = true ∨
      cause = 4 ∧ s.flag Reg.RSV_STAT.CHARGING = false ∧ s.flag Reg.RSV_STAT.PRESENT = true) →
    Machine.exec (.chgFault cause) s = .next (((s.putAll [(Reg.RSV_STAT.CHG_STATE, 6), (Reg.RSV_STAT.CHARGING, 0),
      (Reg.RSV_STAT.FAULT_CAUSE, cause)]).record Ev.CHG_FAULT wide [(1, cause)]).strike rsvUnit Ev.CHG_FAULT.sev)) ∧
  (∀ s t : Machine.State, s.get Reg.RSV_STAT.CHG_STATE = 6 →
    (s.get Reg.RSV_STAT.FAULT_CAUSE = 2 ∨ s.get Reg.RSV_STAT.FAULT_CAUSE = 3) → s.get Reg.RSV_STAT.FAULT_RETRIES < 3 →
    t = ((s.count Reg.RSV_STAT.FAULT_RETRIES 1).put Reg.RSV_STAT.FAULT_CAUSE 0).startCharge →
    Machine.exec .chgFaultRetry s = .next (if t.pauses = true then t.pauseCharge else t))

/-- The evaluation each second takes the figure and judges the rest; a rest point stores its voltage and ends the rest; the
maintenance rest times out; a step resistance moves the estimate by an eighth; a Lantern cycle counts rest and OFF minutes; a
device that may arm arms itself and releases held writes. The model's own choices and readings in it: log entries 10, 11, 12
and 39. -/
def Obligations.RestEvaluationAndLanternCycles : Prop :=
  (∀ s t u : Machine.State, s.ready Reg.GLB_READY.KEEPER_UP = true → s.cpx.restarting = false → t = s.secondPasses →
    u = (if t.fogged = true ∨ t.flag Reg.RSV_STAT.PRESENT = false then t.showReserveOk else t.takeFigure).judgeRest →
    Machine.exec .keeperReserveEval s = .next (State.settle { u with rsv := { u.rsv with ovr := false } })) ∧
  (∀ (mv : Nat) (s t : Machine.State), s.get Reg.RSV_STAT.CHG_STATE ≠ 1 → s.get Reg.RSV_STAT.CHG_STATE ≠ 2 →
    s.get Reg.RSV_STAT.CHG_STATE ≠ 3 → s.flag Reg.RSV_STAT.PRESENT = true →
    t = s.putAll [(Reg.RSV_REST_V.RESTED_MV, mv), (Reg.RSV_REST.CLOCK_S, 0)] →
    ∀ u : Machine.State, u = (if t.rsv.resting = true then t else (t.record Ev.REST_POINT wide []).writeLearned) →
    Machine.exec (.restPoint mv) s = .next (State.endRest { u with rsv := { u.rsv with resting := true } } 1)) ∧
  (∀ s : Machine.State, s.flag Reg.RSV_STAT.REST_ACTIVE = true → Machine.exec .maintenanceRestTimeout s = .next (s.endRest 2)) ∧
  (∀ (r25 : Nat) (s : Machine.State), s.flag Reg.RSV_STAT.PRESENT = true → s.flag Reg.RSV_STAT.REST_ACTIVE = false →
    s.fogged = false → Machine.exec (.stepResistanceSample r25) s = .next (s.put Reg.RSV_LRN_R.R_STEP25
      (s.get Reg.RSV_LRN_R.R_STEP25 + ((r25 : Int) - s.get Reg.RSV_LRN_R.R_STEP25) / 8).toNat)) ∧
  (∀ (id ntc v vsup : BitVec 12) (mv : Nat) (s t : Machine.State), s.powered = false → mv = v.toNat * 18000 / 4096 →
    t = (if idCodeOf id.toNat = none ∨ idCodeOf id.toNat = some 0 ∨ idCodeOf id.toNat = some 15 then s.put Reg.RSV_LAN.PACK_GONE 1 else s) →
    Machine.exec (.lanternAdcCycle id ntc v vsup) s = .next (((if mv = t.get Reg.RSV_LAN.LAST_MV ∧ ntc.toNat ≠ 0 then
      t.count Reg.RSV_LAN.REST_MIN 1 else t.put Reg.RSV_LAN.REST_MIN 0).put Reg.RSV_LAN.LAST_MV mv).count Reg.RSV_LAN_CLK.OFF_MIN 1 |>.emit
        (.bias18 2) |>.emit (.bias18 0))) ∧
  (∀ s : Machine.State, s.armable = true → s.trial.mayArm = true → s.ready Reg.GLB_READY.PERSIST_ARMED = false →
    s.flag Reg.GLB_ARM.AUTO_ARM = true → s.flag Reg.GLB_ARM.ARM_HOLD = false → s.cpx.restarting = false → s.fogged = false →
    Machine.exec .arming s = .next s.trial.nowArmed)

/-- RELOCATE and ERASE are requested; while firmware runs, relocation copies move the referenced records in order, to a block
that is no reserve block, and end with the block relocated; a passed erase intent writes the journal record of the ring,
unless a crypto-erase has left no place for one (log entry 124), and takes the records of its block out of the index; an
erase whose blank check stays within BLANK_THR ends with its second journal record, one that does not is redone, and an erase
that fails, or has been redone twice, retires the block; a ring record heads the ring with its two addresses, LSN and key
generation, on two channels that are up and differ; temperatures throttle dies; a failed unit returns to service, or an NFC
channel is retired, with the reserve rebuilt. The model's own choices and readings in it: log entries 52, 55, 57, 94, 98,
107, 112, 114 and 117. -/
def Obligations.FlashMaintenanceCommands : Prop :=
  (∀ (req : Req) (b : BitVec 27) (s : Machine.State), s.permits req .f →
    Machine.exec (.relocate req b) s = .next (s.gcRequest 1 b.toNat) ∧ Machine.exec (.erase req b) s = .next (s.gcRequest 2 b.toNat)) ∧
  (∀ (b : BitVec 27) (fa corrected retries : Nat) (bad : Bool) (l : List Nat) (s : Machine.State), s.ready Reg.GLB_READY.FW_RUN = true →
    s.relocation b.toNat = some l → (l.dropWhile fun n => !s.referenced n) = [] →
    Machine.exec (.relocationCopyDone b fa ⟨corrected, retries, bad⟩) s = .next (s.relocated b.toNat)) ∧
  (∀ (b : BitVec 27) (fa corrected retries n : Nat) (bad : Bool) (l rest : List Nat) (s : Machine.State), s.ready Reg.GLB_READY.FW_RUN = true →
    s.relocation b.toNat = some l → (l.dropWhile fun n => !s.referenced n) = n :: rest →
    s.channelUp (blockChannel b.toNat) = true → s.channelUp (faChannel fa) = true → s.faValid fa = true →
    (s.block (faBlock fa)).st ≠ 5 → ((s.block (faBlock fa)).st = 6 → (s.block (faBlock fa)).owner = 3) →
    ∀ t : Machine.State, t = s.copyRecord b.toNat n fa corrected retries bad rest →
    Machine.exec (.relocationCopyDone b fa ⟨corrected, retries, bad⟩) s = .next (
      if s.inOrder fa = true then if rest = [] then t.relocated b.toNat else t else s.refuseOrder fa)) ∧
  (∀ (b : BitVec 27) (s u : Machine.State), s.erasing b.toNat = some false → s.erasesRun = true →
    s.channelUp (blockChannel b.toNat) = true →
    ((∃ fa fb : Nat, s.ringSpots (· != blockChannel b.toNat) = some (fa, fb) ∧ u = s.repeatPassed.journalBlock b.toNat 1 fa fb) ∨
      s.ringSpots (· != blockChannel b.toNat) = none ∧ s.flash.ringBlocks = [] ∧ u = s) →
    Machine.exec (.eraseIntentPassed b) s = .next { u with flash := { u.flash with
      gc := u.flash.gc.map fun o => match o with
        | .erase x p => .erase x (p || x == b.toNat)
        | .relocate x l => .relocate x l
      records := u.flash.records.filter fun r => faBlock r.2.fa != b.toNat
      cells := u.flash.cells.filter fun e => faBlock e.1 != b.toNat
      diag := u.flash.diag.filter fun d => faBlock d.fa != b.toNat } }) ∧
  (∀ (b : BitVec 27) (zeros : Nat) (s : Machine.State), s.erasing b.toNat = some true → s.erasesRun = true →
    s.channelUp (blockChannel b.toNat) = true →
    (zeros ≤ s.get Reg.NFC_ECC_THR.BLANK_THR → ∀ fa fb : Nat, s.ringSpots (fun _ => true) = some (fa, fb) →
      Machine.exec (.eraseDone b (.ended zeros)) s =
        .next (((s.repeatPassed.journalBlock b.toNat 2 fa fb).placeErased b.toNat).eraseOver b.toNat)) ∧
    ∀ t u : Machine.State,
    t = (s.count (Reg.NFC_CH_ERR.ERASE_FAIL (blockChannel b.toNat)) 1).nfcFault (blockChannel b.toNat) Ev.ERASE_REDONE.sev true →
    u = (((t.setBlock b.toNat ⟨1, 0, 0, 0, 0, false, false, false⟩).count Reg.NFC_BAD_GROWN.BLOCKS 1).record Ev.BLOCK_RETIRED
        (blockChannel b.toNat) []).eraseOver b.toNat →
    Machine.exec (.eraseDone b .failed) s = .next u ∧
    (s.get Reg.NFC_ECC_THR.BLANK_THR < zeros → Machine.exec (.eraseDone b (.ended zeros)) s = .next (
      if (s.block b.toNat).fails + 1 < 3 then
        (t.setBlock b.toNat { s.block b.toNat with fails := (s.block b.toNat).fails + 1 }).record Ev.ERASE_REDONE (blockChannel b.toNat) []
      else u))) ∧
  (∀ (fa fb : Nat) (body : RingBody) (s : Machine.State), (s.addRing fa fb body).flash.ring =
    ⟨s.flash.nextLsn, fa, fb, fa, s.get Reg.NFC_KEY.KEYGEN, body⟩ :: s.flash.ring) ∧
  (∀ (c d : Nat) (s : Machine.State), s.secondChannel c = some d → d ≠ c ∧ s.channelUp d = true) ∧
  (∀ (ch : Fin 32) (temps : List (Fin 64 × Int)) (lun : Fin 64) (v : Int) (s t : Machine.State),
    s.flag (Reg.NFC_CH_STAT.UP ch) = true → hottest temps = some (lun, v) →
    t = (s.putAll [(Reg.NFC_CH_TEMP.HOT_LUN ch, lun), (Reg.NFC_CH_TEMP.MAX_TEMP ch, (v % 256).toNat)]).each temps (fun s x =>
      State.scorch { s with flash := { s.flash with hot := throttleAt 85 80 s.flash.hot (ch.val * 64 + x.1.val) x.2 } } (ch.val * 64 + x.1.val) x.2) →
    Machine.exec (.flashTempPoll ch temps) s = .next (t.put (Reg.NFC_CH_STAT.THROTTLED ch) (ofBool
      ((t.flash.hot.any fun n => n / 64 == ch.val) || (t.flash.scorched.any fun n => n / 64 == ch.val)))).showWear) ∧
  (∀ (unit : Nat) (retire : Bool) (s t : Machine.State), s.unitFailed unit = true → unit / 256 ≠ 1 →
    t = { s with faults := NMap.erase s.faults unit } →
    Machine.exec (.failedUnitRestart unit retire) s = .next (
      if unit / 256 = 2 then
        let u := if retire = true then t else
          t.putAll [(Reg.NFC_CH_STAT.FAILED (unit % 256), 0), (Reg.NFC_CH_STAT.UP (unit % 256), 1)]
        (if u.saving = true then u else u.keepReserve.settle).showFailedFc.issueAll.issueSweep
      else t))

/-- Each event of a DRAM channel that is up leaves exactly the state written out: an alert replayed too often is a command
error; the unit of a migration is read from the retiring rank, its errors are handled, and it is written to the spare; MR4
sets the refresh rate; refreshes are issued or, while a feed of a real-time phase is in panic, postponed up to the limit; row
disturbance throttles the requester that activated the bank most, once its count has reached ACT_THR, and ends; idle ranks
power down with nothing queued; the TIMED row that no request hits and that has been idle longest closes; and the patrol
scrub reads its line or the idle spare, handles its errors and judges its period. The model's own choices and readings in it:
log entries 40, 54, 108, 119, 120, 122 and 132. -/
def Obligations.DramControllerEvents : Prop :=
  (∀ (ch rank : Fin 8) (replays : Nat) (lost : List Nat) (s : Machine.State), s.dmcRuns ch = true → 3 < replays →
    s.get (Reg.DMC_RANK_MAP.LR ch rank) ≠ 0xF →
    Machine.exec (.dramAlert ch replays rank lost) s = .next (s.commandError ch rank lost)) ∧
  (∀ (ch : Fin 8) (e : LineErrors) (lines : List Nat) (s t u : Machine.State), s.dmcRuns ch = true → s.get (Reg.DMC_SPARE.STATE ch) = 2 →
    lines = s.unitLines ch → (∀ l ∈ lines, s.pageRecovering (l / 64) = false) →
    t = (s.accessLines lines reqMigration false false).each
      ((e.uncorrectable.filter lines.contains).filter s.dmc.late.contains) State.lateError →
    u = t.readErrors (e.corrected.filter lines.contains)
      ((e.uncorrectable.filter lines.contains).filter fun l => !s.dmc.late.contains l) →
    Machine.exec (.migrationUnitDone ch e) s = .next ((u.advanceMigration ch).accessLines lines reqMigration false true).settle) ∧
  (∀ (ch : Fin 8) (hot : Bool) (s : Machine.State), s.dmcRuns ch = true → s.flag (Reg.DMC_STAT.SELF_REFRESH ch) = false →
    Machine.exec (.mr4Poll ch hot) s = .next (s.put (Reg.DMC_REF.RATE_X ch) (ofBool hot))) ∧
  (∀ (ch rank : Fin 8) (bank : Fin 4) (p : Bool) (feeds : List (Fin 32 × Fin 9)) (s t u : Machine.State), s.flag (Reg.DMC_STAT.UP ch) = true →
    s.flag (Reg.DMC_STAT.SELF_REFRESH ch) = false → s.rankLives ch rank = true → t = s.refilled ch feeds → p = t.realTimePanic ch feeds →
    u = t.showPanic ch p →
    Machine.exec (.refreshDue ch rank bank feeds) s = .next (
      if p = true ∧ (u.postponedOf ch).countP (fun e => e.1 % 8 == rank.val) < Config.refreshLimit then u.postpone ch rank bank
      else u.issueRefresh ch rank bank)) ∧
  (∀ (ch rank : Fin 8) (id : Fin 22) (bank : Fin 32) (b : Nat) (s t : Machine.State), s.dmcRuns ch = true →
    s.flag (Reg.DMC_STAT.SELF_REFRESH ch) = false → s.offence ch id rank bank = some b →
    t = State.count { s with dmc := { s.dmc with
      starts := NMap.insert s.dmc.starts (ch * 32 + id) b
      raa := NMap.insert s.dmc.raa b ((NMap.find? s.dmc.raa b).getD 0 - Config.raaInitial) } } (Reg.DMC_RD_CNT.RFM ch) 1 →
    Machine.exec (.rowDisturbThrottle ch id rank bank) s = .next (
      if bitOf (t.get (Reg.DMC_RD_STAT.THROTTLED ch)) id = true then t else t.throttle ch id rank bank)) ∧
  (∀ (ch : Fin 8) (id : Fin 22) (m : Nat) (s : Machine.State), m = clearBitOf (s.get (Reg.DMC_RD_STAT.THROTTLED ch)) id →
    Machine.exec (.throttleEnd ch id) s = .next (((s.countFallen ch id).put (Reg.DMC_RD_STAT.THROTTLED ch) m).put
      (Reg.DMC_STAT.THROTTLE ch) (if m = 0 then 0 else 1))) ∧
  (∀ (ch rank : Fin 8) (s : Machine.State), s.dmcRuns ch = true → s.flag (Reg.DMC_STAT.SELF_REFRESH ch) = false →
    s.get (Reg.DMC_PWR.PD_TIMER ch) ≠ 0 → s.flag (Reg.DMC_STAT.PANIC ch) = false → (s.get (Reg.DMC_SPARE.STATE ch) ≠ 2 ∨
      (s.get (Reg.DMC_SPARE.SPARE_PRANK ch) ≠ rank ∧ s.get (Reg.DMC_RANK_MAP.LR ch (s.get (Reg.DMC_SPARE.SRC_LRANK ch))) ≠ rank)) →
    (s.flag Reg.TRN_STAT.ACTIVE = false ∨ s.get Reg.TRN_STAT.CH ≠ ch) → s.rankLives ch rank = true → ∀ t : Machine.State,
      t = (s.quiet ch).closeRows (fun b _ => rankOfBank b == ch.val * 8 + rank.val) →
    Machine.exec (.powerDownTimer ch rank) s = .next { t with dmc := { t.dmc with down := insertNat t.dmc.down (ch.val * 8 + rank.val) } }) ∧
  (∀ (ch : Fin 8) (bank : Nat) (s : Machine.State), s.dmcRuns ch = true → s.dmc.idleRow ch = some bank →
    Machine.exec (.timedRowClose ch) s = .next (s.closeRows fun b _ => b == bank)) ∧
  (∀ (ch : Fin 8) (ce ue : Bool) (n o : Nat) (s t : Machine.State), s.scrubRuns ch = true →
    n = (NMap.find? s.dmc.scrub ch).getD 0 → n < s.scrubLines ch →
    t = State.put { s with dmc := { s.dmc with scrub := NMap.insert s.dmc.scrub ch (n + 1) } } (Reg.DMC_SCRUB.PASS_PCT ch)
      ((n + 1) * 100 / s.scrubLines ch) → o = n % (t.rankSize ch / 64) * 64 →
    (∀ l : Nat, s.scrubLine ch n = some l → s.pageRecovering (l / 64) = false →
      Machine.exec (.patrolScrubRead ch ce ue) s = .next
        ((t.access (l * 64) reqScrub false false).readErrors (if ce = true then [l] else []) (if ue = true then [l] else []))) ∧
    (s.scrubLine ch n = none → ∀ u : Machine.State,
      u = (if ce = true then (t.accessSpare ch o).correctable ch none else t.accessSpare ch o) →
      Machine.exec (.patrolScrubRead ch ce ue) s = .next (if ue = true then u.spareError ch o else u))) ∧
  (∀ (ch : Fin 8) (s t : Machine.State), s.scrubRuns ch = true →
    t = State.put { s with dmc := { s.dmc with scrub := NMap.insert s.dmc.scrub ch 0 } } (Reg.DMC_SCRUB.PASS_PCT ch) 0 →
    Machine.exec (.scrubPeriodEnd ch) s = .next (
      if (NMap.find? s.dmc.scrub ch).getD 0 < s.scrubLines ch then (t.put (Reg.DMC_SCRUB.LATE ch) 1).record Ev.SCRUB_LATE ch []
      else t.put (Reg.DMC_SCRUB.LATE ch) 0))

/-- A dip is counted and a fall clears VIN_VALID; the detected loss raises Foghorn and the return sets VIN_VALID; a qualified
input lets a saved device go on; GPF phase 1 is answered and from a named head raises Foghorn; phase 2 completes after the
accepted writes; the end of the grace is the cut. The model's own choices and readings in it: log entries 49 and 130. -/
def Obligations.SupplyLossAndGpfStartTheFoghorn : Prop :=
  (∀ (short : Bool) (s t : Machine.State), s.flag Reg.PWR_STAT.VIN_VALID = true →
    t = (if short = true then State.count { s with pwr := { s.pwr with vinLong := false } } Reg.PWR_EVCNT.VIN_DIP 1
      else State.put { s with pwr := { s.pwr with vinLong := false } } Reg.PWR_STAT.VIN_VALID 0) →
    Machine.exec (.vinMainFall short) s = .next (
      if t.pstate = PState.SAVED ∧ t.pwr.underway = false then t.shutdown Off.SAVED t.pwr.stay else t)) ∧
  (∀ s : Machine.State, s.flag Reg.PWR_STAT.VIN_VALID = false →
    Machine.exec .vinLossDetected s = .next (s.foghorn Fog.VIN_LOSS false 0) ∧
    Machine.exec .vinMainReturn s = .next (State.put { s with pwr := { s.pwr with vinLong := false } } Reg.PWR_STAT.VIN_VALID 1)) ∧
  (∀ s t : Machine.State, s.flag Reg.PWR_STAT.VIN_VALID = true → t = { s with pwr := { s.pwr with vinLong := true } } →
    Machine.exec .vinValidQualified s = .next (
      if t.pstate = PState.SAVED ∧ s.pwr.underway = false then t.afterSaved else t)) ∧
  (∀ (h : Fin 4) (s t : Machine.State), s.headUp h = true →
    t = (if (s.emit (.gpfDone h 1)).gpfNamed h = true then (s.emit (.gpfDone h 1)).foghorn Fog.HOST_GPF false 0 else s.emit (.gpfDone h 1)) →
    Machine.exec (.gpfPhase1 h) s = .next (if t.fogged = true then t.put (Reg.HIF_HEAD_STAT.GPF1_SEEN h) 1 else t)) ∧
  (∀ (h : Fin 4) (before : List HostReq) (s : Machine.State), s.headUp h = true → NMap.find? s.hif.gpf2 h.val = none →
    before = s.hif.reqs.filter (fun r => r.accepted && r.head == h) → Machine.exec (.gpfPhase2 h) s =
      .next (State.gpf2Check { s with hif := { s.hif with gpf2 := NMap.insert s.hif.gpf2 h.val (before.map HostReq.id) } } h)) ∧
  (∀ s : Machine.State, s.get Reg.SAV_STAT.PHASE = 1 → s.fogged = true → s.pwr.underway = false →
    Machine.exec .graceExpired s = .next s.cut)

/-- Once everything accepted has completed, CUTTING becomes SAVING with links down and domains off; each record, segment,
mirror and index of the save that passes has its effect and takes its place, and one for which nothing is left stops the
save; a page that passes, in order and in a block that the save may program, leaves the save set, and out of order it is
refused; a failed program is counted, a failed page stays in its feed buffer, and its place is not used again; the last step
comes after every other; the commit leads to SAVED with the DRAM in self-refresh; a resume without progress shuts down. The
model's own choices and readings in it: log entries 15, 22, 23, 46, 54, 101, 107, 113, 128 and 133. -/
def Obligations.SaveRunsFromTheCutToSaved : Prop :=
  (∀ s t u : Machine.State, s.pstate = PState.CUTTING → s.pwr.underway = false → s.cutQuiet = true →
    t = (s.enter PState.SAVING).putAll [(Reg.SAV_PROGRESS.PAGES, 0), (Reg.SAV_LAST_RESULT.END, 0)] →
    u = { t with sav := { t.sav with start := t.flash.nextLsn } } →
    Machine.exec .cuttingEnd s = .next ((((u.allLinksDown.domainOff 6).domainOff 7).domainOff 1).showFailedFc.saveOn)) ∧
  (∀ (fa fb x : Nat) (e : LineErrors) (s : Machine.State), s.pstate = PState.SAVING → s.pwr.underway = false →
    s.ringSpots (fun _ => true) = some (fa, fb) →
    (s.sav.opened = false → Machine.exec (.saveProgramPass .openRecord x e) s = .next (s.repeatPassed.saveOpened fa fb).saveOn) ∧
    (s.drp.sealEpoch ≠ 0 → s.drp.sealStep = .sealQueued →
      Machine.exec (.saveProgramPass .sealRecord x e) s = .next (s.repeatPassed.sealRecordInSave fa fb).saveOn) ∧
    (s.drp.sealEpoch ≠ 0 → s.drp.sealStep = .commitQueued →
      Machine.exec (.saveProgramPass .sealCommit x e) s = .next (s.repeatPassed.sealInSave fa fb).saveOn)) ∧
  (∀ (x : Nat) (e : LineErrors) (fas : List Nat) (s : Machine.State), s.pstate = PState.SAVING → s.pwr.underway = false →
    (s.drp.sealEpoch ≠ 0 → s.drp.sealStep = .indexQueued →
      State.wordSpots s.segmentKeys.length s s.segmentKeys.length = some fas →
      ∀ t : Machine.State, t = s.repeatPassed.putSegment fas →
      Machine.exec (.saveProgramPass .sealIndex x e) s = .next (State.saveOn { t with drp := { t.drp with sealStep := .commitQueued } })) ∧
    (s.sav.mirrored = false → State.wordSpots 16 s 16 = some fas →
      Machine.exec (.saveProgramPass .mirror x e) s = .next (s.repeatPassed.mirrorSaved fas).saveOn) ∧
    (s.saveStep = 7 → State.wordSpots (indexKeys s.cutPages).length s (indexKeys s.cutPages).length = some fas →
      Machine.exec (.saveProgramPass .cutIndex x e) s = .next (s.repeatPassed.cutIndexed fas).saveOn)) ∧
  (∀ (item : SaveItem) (x : Nat) (e : LineErrors) (s : Machine.State), s.pstate = PState.SAVING → s.pwr.underway = false →
    s.itemPending item = true →
    (item = .openRecord ∨ item = .sealRecord ∨ item = .sealCommit) ∧ s.ringSpots (fun _ => true) = none ∨
      item = .mirror ∧ State.wordSpots 16 s 16 = none →
    Machine.exec (.saveProgramPass item x e) s = .next s.stopForSpace) ∧
  (∀ (page fa : Nat) (e : LineErrors) (role : Role) (s : Machine.State), s.pstate = PState.SAVING → s.pwr.underway = false →
    s.savRole page = some role → s.savTarget (s.heldPage page).isSome fa = true → s.feedRoom (faChannel fa) page = true →
    Machine.exec (.saveProgramPass (.page page) fa e) s = .next (
      if s.inOrder fa = true then (s.repeatPassed.savePage page fa e role).saveOn else s.refuseOrder fa)) ∧
  (∀ (item : SaveItem) (fa : Nat) (e : LineErrors) (s : Machine.State), s.pstate = PState.SAVING → s.pwr.underway = false →
    s.itemPending item = true → s.saveTarget item fa = true → (∀ page : Nat, item ≠ .page page) →
    Machine.exec (.saveProgramFail item ⟨fa, e⟩) s = .next (if s.inOrder fa = true then s.saveFailed fa 4 else s.refuseOrder fa)) ∧
  (∀ (page fa : Nat) (e : LineErrors) (role : Role) (f : FeedSlot) (s t u : Machine.State), s.pstate = PState.SAVING → s.pwr.underway = false →
    s.savRole page = some role → s.saveTarget (.page page) fa = true → s.feedPage (faChannel fa) page e role = (f, t) →
    u = { t with sav := { t.sav with held :=
      { f with channel := faChannel fa } :: t.sav.held.filter fun x => x.page != page } } →
    Machine.exec (.saveProgramFail (.page page) ⟨fa, e⟩) s = .next (
      if s.inOrder fa = true then (u.feedHeld (faChannel fa)).saveFailed fa 2 else s.refuseOrder fa)) ∧
  (∀ s : Machine.State, s.saveStep = 8 → s.sav.opened = true ∧ s.drp.sealEpoch = 0 ∧ s.cutPagesLeft = false ∧ s.sav.mirrored = true ∧
    s.sav.indexed = true) ∧
  (∀ (fa fb : Nat) (s t u v : Machine.State), s.pstate = PState.SAVING → s.pwr.underway = false → s.saveStep = 8 →
    s.ringSpots (fun _ => true) = some (fa, fb) →
    t = ((s.repeatPassed.enter PState.SAVED).endPanic.put Reg.SAV_STAT.PHASE 9).showLastSave.commitCut fa fb →
    u = t.each (List.range 8) (fun s c => if s.flag (Reg.DMC_STAT.UP c) = true then s.selfRefresh c else s) →
    v = u.record Ev.SAVE_COMMIT wide [] →
    Machine.exec .cutCommitPassed s = .next (State.writeLearned { v with evr := v.evr.programFirst }).protectFlash.afterSaved) ∧
  (∀ s : Machine.State, s.pstate = PState.RESUMING → s.sav.latched ≠ none → s.pwr.underway = false →
    Machine.exec .resumeTimeout s = .next (s.shutdown Off.RESUME_TIMEOUT s.pwr.stay))

/-- A slot that verifies starts the Keeper, else ROM recovery; SIDEBAND_UP and CMD_BOOT are set, a lockstep mismatch or an
uncorrectable word of Keeper SRAM (a free value says which) restarts the Keeper; at the end of a restart the events of the
Keeper that waited are recorded, a failed one is recorded and raises Foghorn, and the steps of a resume in place go on;
IMAGE_INDEXED judges the images by the codewords that decode and the key, reports the one chosen and serves it; the select
window closes; the directory starts the sweep. The model's own choices and readings in it: log entries 4, 5, 30, 31, 32, 109,
116, 134, 139 and 142. -/
def Obligations.StartAndImageEvents : Prop :=
  (∀ (disagree : List (Fin 8)) (refused : List SourceRefused) (mm : Bool) (lost : List (Fin 16)) (records : List (Fin 13)) (s : Machine.State), s.pstate = PState.KEEPER_BOOT → s.get Reg.PWR_STAT.SEQ = 2 →
    s.ready Reg.GLB_READY.KEEPER_UP = false → s.pwr.underway = false →
    Machine.exec (.keeperBootStart disagree refused ⟨mm, lost, records⟩) s = .next (
      if s.slotOrder.any s.slotVerifies = true then s.keeperUp (disagree.map (·.val)) refused mm (lost.map (·.val))
        (records.map (·.val))
      else { s with cpx := { s.cpx with rom := true } })) ∧
  (∀ s : Machine.State, s.ready Reg.GLB_READY.KEEPER_UP = true → s.pwr.noReturn = false →
    Machine.exec .sidebandUp s = .next ((s.putAll ((List.range 3).map fun p =>
      (Reg.TWI_STAT.UP p, ofBool (!s.flag (Reg.TWI_STAT.DISABLED p))))).setReady Reg.GLB_READY.SIDEBAND_UP true) ∧
    (s.ready Reg.GLB_READY.SIDEBAND_UP = true ∨ s.hif.ready ≠ [] →
      Machine.exec .cmdBootSet s = .next (s.setReady Reg.GLB_READY.CMD_BOOT true)) ∧
    (s.cpx.restarting = false → ∀ t : Machine.State,
      t = (((s.tick.count Reg.CPX_KP_STAT.LOCKSTEP (s.free % 2)).count Reg.CPX_KP_STAT.RESTARTS 1).record Ev.KEEPER_LOCKSTEP wide []).strike cpxUnit
        Ev.KEEPER_LOCKSTEP.sev →
      Machine.exec .keeperLockstep s = .next { t with cpx := { t.cpx with restarting := true, manual := false, restarts := 0 :: t.cpx.restarts } })) ∧
  (∀ (ok : Bool) (s t u : Machine.State), s.cpx.restarting = true →
    t = State.recordDeferred { s with cpx := { s.cpx with restarting := false, manual := false } } →
    u = (if ok = false ∨ s.cpx.manual = false ∧ 3 ≤ s.cpx.restarts.length then
        (t.record Ev.KEEPER_STATE_LOST wide []).foghorn Fog.COMMAND true 0 else t) →
    Machine.exec (.keeperRestartEnd ok) s = .next (
      if u.pstate = PState.SAVED ∧ u.pwr.underway = false then u.afterSaved else u.resumeExit)) ∧
  (∀ (keyOk key older capacity : Bool) (reads : List CodewordRead) (badCrc foreign bad : List Nat) (source reason : Nat) (img : Option Image)
    (save : Option SaveRec) (s t : Machine.State),
    s.ready Reg.GLB_READY.KEEPER_UP = true → s.get Reg.RSE_STAT.PHASE = 1 → s.fogged = false → s.pwr.underway = false →
    s.cpx.restarting = false → s.populated = true → key = s.keyRead keyOk →
    bad = ((reads.filter CodewordRead.bad).map CodewordRead.fa) ++ badCrc → t = s.judgeAll key reads bad foreign →
    save = newestSave t.flash.ring (t.readRing key bad) → decideImage t.flash.onFlash save t.flash.images = (source, reason, older, img) →
    capacity = (t.flash.images.any fun i => t.mediaReadable key bad i && !t.imageFits i) →
    Machine.exec (.imageIndexed keyOk reads badCrc foreign) s =
      .next (((t.reportImages save source reason older img).announceImage source reason older).serveImage source capacity)) ∧
  (∀ s : Machine.State, s.flag Reg.GLB_IMAGE.SELECT_OPEN = true → s.kst.selectWait ≠ 0xFFFF → s.fogged = false →
    s.pwr.underway = false → s.cpx.restarting = false → Machine.exec .selectWaitExpired s = .next s.closeWindow) ∧
  (∀ s t : Machine.State, s.pstate = PState.RESTORING → s.get Reg.RSE_STAT.PHASE = 3 → s.fogged = false →
    t = s.readDirectory.put Reg.RSE_STAT.PHASE 4 →
    Machine.exec .directoryLoaded s = .next (if t.skipsAny = true then t.record Ev.RESTORE_CHANNEL_WAIT wide [] else t).issueSweep)

/-- The page of the sweep, of the zero fill and of a fault-in is restored and its waiting requests are released; a recovery
writes its lines back from the newest record or poisons them, and performs the waiting requests; while the channel of the
record is FAILED it does not end. The model's own choices and readings in it: log entries 104, 116 and 129. -/
def Obligations.PagesAreRestoredAndRecovered : Prop :=
  (∀ (bad : Bool) (retries corrected page : Nat) (maps : List CodewordRead) (s t : Machine.State), s.get Reg.RSE_STAT.PHASE = 4 →
    s.fogged = false → (s.rse.sweeping = some page ∨ s.rse.sweeping = none ∧ s.sweepPage = some page) →
    t = { s with rse := { s.rse with sweeping := none } } → Machine.exec (.sweepPageDone bad retries ⟨corrected, maps⟩) s =
      .next ((t.restorePage page false bad (t.restoreRetries page retries 15) corrected maps).releasePage page).issueQueued.issueSweep.showRates) ∧
  (∀ (page : Nat) (s : Machine.State), s.get Reg.RSE_STAT.PHASE = 5 → s.fogged = false → s.sweepPage = some page →
    Machine.exec .zeroFillPage s = .next ((s.restorePage page false false 0 0 []).releasePage page).issueQueued) ∧
  (∀ (page retries corrected : Nat) (bad : Bool) (maps : List CodewordRead) (s : Machine.State), s.rse.faultIns.contains page = true →
    s.channelFailed page = false → s.pstate ≠ PState.SAVING → s.pstate ≠ PState.SAVED →
    Machine.exec (.faultInDone page bad retries ⟨corrected, maps⟩) s =
      .next ((((s.restorePage page true bad (s.restoreRetries page retries (s.get Reg.RSE_CFG.FI_RETRY)) corrected maps).raiseFree
        Reg.RSE_FI_MAX.MAX_NS).releasePage page).issueQueued.showRates.settle)) ∧
  (∀ (page retries corrected : Nat) (bad : Bool) (lines : List Nat) (s t u w : Machine.State),
    lines = s.rse.recovering.filter (fun l => l / 64 == page) → lines ≠ [] → s.recordWaits page = false →
    s.pstate ≠ PState.SAVING → s.pstate ≠ PState.SAVED →
    t = (match s.newestRecord page with
      | some r => if s.gone r.fa = true then s else s.flashRead r.fa corrected (min retries (s.get Reg.RSE_CFG.FI_RETRY)) bad
      | none => s) →
    u = { t with rse := { t.rse with recovering := t.rse.recovering.filter fun l => l / 64 != page } } →
    w = u.each lines (fun z l => z.rewriteLine l (s.recovered page bad)) →
    Machine.exec (.dramRecoveryDone page bad retries corrected) s =
      .next (State.settle ((w.atPage .recovery page).foldl (fun z r =>
        if r.write = true then (z.unwait r.id).carry r else (z.unwait r.id).readLine r) w)))

/-- The write whose turn it is enters while no stall holds, in Held within the credit that persisted pages have given it, in
Paced with what is left of that credit or else with a token, and after its wait, counted as an overrun in Held; a copy fills
its Carafe slot and a direct persist programs its page, and the writes behind them are performed; the end of the Carafe wait
abandons the sealing epoch; a tracking or mask error marks its pages. The model's own choices and readings in it: log entries
86, 92, 95 and 111. -/
def Obligations.WaitingWritesAndCarafe : Prop :=
  ((∀ (r : HostReq) (s : Machine.State), s.nextWaiter = some r → s.flag Reg.DRP_ADM.STALL = false → s.get Reg.DRP_ADM.BAND ≠ 1 →
     s.get Reg.DRP_ADM.BAND ≠ 2 → Machine.exec .waitingWriteAdmitted s = .next (s.admitWaiter r).settle) ∧
   (∀ (r : HostReq) (s : Machine.State), s.nextWaiter = some r → s.flag Reg.DRP_ADM.STALL = false → s.get Reg.DRP_ADM.BAND = 1 →
     s.drp.heldCredit = 0 → s.drp.tokens ≠ 0 → Machine.exec .waitingWriteAdmitted s =
       .next (State.admitWaiter { s with drp := { s.drp with tokens := s.drp.tokens - 1 } } r).settle) ∧
   (∀ (r : HostReq) (s : Machine.State), s.nextWaiter = some r → s.flag Reg.DRP_ADM.STALL = false → (s.get Reg.DRP_ADM.BAND = 1 ∨ s.get Reg.DRP_ADM.BAND = 2) →
     s.drp.heldCredit ≠ 0 → Machine.exec .waitingWriteAdmitted s =
       .next (State.admitWaiter { s with drp := { s.drp with heldCredit := s.drp.heldCredit - 1 } } r).settle) ∧
   (∀ (r : HostReq) (s : Machine.State), s.oldestWaiter = some r → s.flag Reg.DRP_ADM.STALL = false →
     Machine.exec .admissionTimeout s = .next (State.admitWaiter (if s.get Reg.DRP_ADM.BAND = 2 then
       (s.count Reg.DRP_ADM_OVR_CNT.OVR_CNT 1).record Ev.ADMISSION_OVERRUN wide [] else s) r).settle) ∧
   (∀ s : Machine.State, s.flag Reg.DRP_ADM.STALL = true →
     Machine.exec .waitingWriteAdmitted s = .next s ∧ Machine.exec .admissionTimeout s = .next s)) ∧
  ((∀ (page : Nat) (e : LineErrors) (s t u v : Machine.State) (d : Drp), s.drp.copying.contains page = true →
     t = s.readErrors (linesOf page e.corrected) (linesOf page e.uncorrectable) →
     u = ((t.accessPage (page * 4096) (t.copyFor page) true false).accessPage (t.slotAddress page) (t.copyFor page) true true).cleanPage
       (t.slotAddress page / 4096) →
     d = { u.drp with copying := (u.drp.copying.filter fun p => p != page), slots := NMap.insert u.drp.slots page (t.pageImage page) } →
     v = { u with drp := match d.gran (granOf page) with
       | none => d
       | some x => d.setGran (granOf page) { x with copied := setBitOf x.copied (bitIn page) } } →
     Machine.exec (.copyBeforeWriteDone page e) s = .next
       (((v.put Reg.DRP_CAR_USED.SLOTS v.slotsUsed).raiseFree Reg.DRP_CAR_MAXWAIT.MAX_WAIT_NS).performAt .copy page).settle) ∧
   (∀ (page fa : Nat) (e : LineErrors) (s t u v : Machine.State), s.drp.directs.contains page = true →
     s.dripTarget fa = true → s.inOrder fa = true →
     t = (s.readErrors (linesOf page e.corrected) (linesOf page e.uncorrectable)).accessPage (page * 4096) reqDrip true false →
     u = ((t.newLsn.putRecord t.flash.nextLsn page fa (t.pageImage page)).openAt fa 1).joinEpoch .sealing page t.flash.nextLsn →
     v = { u with drp := (Drp.takePage { u.drp with directs := u.drp.directs.filter fun p => p != page } page .sealing).settleGran (granOf page) } →
     Machine.exec (.directPersistDone page fa e) s = .next
       ((((v.chargeWear 4096).allowOne).raiseFree Reg.DRP_CAR_MAXWAIT.MAX_WAIT_NS).performAt .direct page).settle) ∧
   (∀ s : Machine.State, s.drp.sealEpoch ≠ 0 → (s.hif.reqs.any fun r => r.stage == Stage.copy || r.stage == Stage.direct) = true →
     Machine.exec .carafeWaitExpired s = .next (s.abandonNow 3)) ∧
   (∀ (word : Nat) (s t u : Machine.State) (d : Drp), s.drp.tracking = true → word < s.pop.dramGiB * 512 →
     t = s.strike drpUnit Ev.TRACK_UE.sev → u = (if t.drp.sealEpoch = 0 then t else t.abandonCopies 2) →
     d = (List.range 32).foldl (fun d i => Drp.setGran d (word * 32 + i) ⟨.dirty, 0xFFFF, 0, 0⟩) u.drp →
     Machine.exec (.trackUe word) s =
       .next ((State.count { u with drp := d } Reg.DRP_TRK_ERR.TRK_UE 1).record Ev.TRACK_UE wide []).takeDeferred.settle) ∧
   (∀ (line : Nat) (s t : Machine.State) (d : Drp), s.drp.tracking = true → line < s.pop.dramGiB * 512 →
     t = s.strike drpUnit Ev.MASK_UE.sev → d = (List.range 32).foldl (fun d i => Drp.fillMask d (line * 32 + i)) t.drp →
     Machine.exec (.maskUe line) s = .next ((State.count { t with drp := d } Reg.DRP_TRK_ERR.MASK_UE 1).record Ev.MASK_UE wide []).settle))

/-- Drip reads the next page and issues its program; a program that passes leaves the save set, one that fails goes to
another block, by Drip or in a save by SAV, which stops where nothing is left for it; the wear credit rises with the time
since it last rose, up to its depth, and is recorded (log entry 7); a fill zeroes the next page of its extent as a tracked
write. The model's own choices and readings in it: log entries 7, 8 and 38. -/
def Obligations.DripPagesAndFills : Prop :=
  (∀ (fa page : Nat) (role : Role) (e : LineErrors) (d : Drp) (s t : Machine.State), s.dripRuns = true →
    s.dripTarget fa = true → s.nextPage = some (page, role) → s.inOrder fa = true →
    t = s.readForProgram reqDrip page role e → d = t.drp.takePage page role →
    Machine.exec (.dripPageRead fa e) s = .next (State.openAt (State.newLsn { t with drp := { d with
      progs := d.progs ++ [⟨page, role, t.flash.nextLsn, fa, t.contents page role e.uncorrectable, [], false⟩], pointer := granOf page } }) fa 1)) ∧
  (∀ (page : Nat) (p : DripProg) (rest : List DripProg) (s t : Machine.State), takeFirst (fun p => p.page == page) s.drp.progs = some (p, rest) →
    t = s.dripPassed p rest →
    Machine.exec (.dripProgramPass page) s = .next (if p.bySav = true then t.savedPage else (t.chargeWear 4096).allowOne).settle) ∧
  (∀ (page fa : Nat) (p : DripProg) (rest : List DripProg) (s t : Machine.State), takeFirst (fun p => p.page == page) s.drp.progs = some (p, rest) →
    faBlock fa ≠ faBlock p.fa → s.inOrder fa = true → t = s.programFailed p.fa → (s.pstate = PState.SAVING → t.pageSpace true = true) →
    (s.saving = false → s.dripTarget fa = true → Machine.exec (.dripProgramFail page fa) s = .next (State.openAt { t with drp := { t.drp with
      progs := { p with fa, failed := p.failed ++ [faChannel p.fa], bySav := p.bySav } :: rest } } fa 1)) ∧
    (s.saving = true → s.savTarget true fa = true → s.pwr.underway = false →
      ∀ u : Machine.State, u = { t with drp := { t.drp with
        progs := { p with fa, failed := p.failed ++ [faChannel p.fa], bySav := true } :: rest } } →
      Machine.exec (.dripProgramFail page fa) s = .next (State.openAt (State.useReserve { u with sav := { u.sav with
        retries := u.sav.retries + 1 } } (if p.bySav = true then 1 else 0) 1) fa 2))) ∧
  (∀ (page fa : Nat) (p : DripProg) (rest : List DripProg) (s t : Machine.State), takeFirst (fun p => p.page == page) s.drp.progs = some (p, rest) →
    s.pstate = PState.SAVING → s.pwr.underway = false → t = s.programFailed p.fa → t.pageSpace true = false →
    Machine.exec (.dripProgramFail page fa) s = .next t.stopForSpace) ∧
  (∀ s t : Machine.State, s.ready Reg.GLB_READY.KEEPER_UP = true → s.saving = false → t = s.fillWear s.drp.fillUs →
    Machine.exec .wearCreditWrite s = .next (State.showWear { t with drp := { t.drp with fillUs := 600000000 } }).writeLearned) ∧
  (∀ (us : Nat) (s : Machine.State), (s.fillWear us).drp.credit =
    min s.wearDepth (s.drp.credit + s.get Reg.DRP_WEAR_CFG.AVG_RATE * 250 * us)) ∧
  (∀ (ext page : Nat) (x : Extent) (s t : Machine.State), NMap.find? s.rgn.exts ext = some x → page = ext * pagesPerExtent + x.fillNext →
    x.st = .sanitizing → x.fillEpoch = 0 → s.dripRuns = true → s.extReady ext = true → s.get Reg.DRP_ADM.BAND = 0 →
    s.flag Reg.DRP_ADM.STALL = false → s.drp.openEpoch ≠ 0 → s.drp.owedUncopied page = false → x.ld < 16 →
    t = (if s.drp.marked page = true then s else s.count (Reg.DRP_LD_NEWPG.NEW_PAGES x.ld) 1) →
    ∀ u : Machine.State, u = ((t.classifyPage page).accessPage (page * 4096) x.ld false true).putPage page ⟨[], 0⟩ →
    Machine.exec (.sanitizeFillPage ext) s = .next (State.settle { u with rgn := { u.rgn with exts := NMap.insert u.rgn.exts ext { x with
      fillNext := x.fillNext + 1, fillEpoch := if x.fillNext + 1 = pagesPerExtent then u.drp.openEpoch else 0, zero := false } } }))

/-- A boundary falls under local timing; the seal record, the index segment and the commit record pass in turn, each at the
places that the ring and the index blocks give it, and the epoch becomes durable; the place of a failed ring record is not
used again and it is redone, in a save counted as a repetition. A frame is an edge of BEACON_IN, which the source does no
more with; elsewhere it is repeated, judged by its code and its CRC-8, counted and followed, a missed window renumbers and
after two the lock is lost, the source emits its next number, and an accepted boundary seals or renumbers. The model's own
choices and readings in it: log entries 37, 94, 99, 107, 111, 115 and 143. -/
def Obligations.EpochStepsAndBeaconEvents : Prop :=
  ((∀ s : Machine.State, s.epochsRun = true → s.localTiming = true → Machine.exec .boundaryDue s = .next s.boundaryDue.settle) ∧
   (∀ (fa fb : Nat) (s t : Machine.State), s.drp.sealEpoch ≠ 0 → s.drp.sealStep = .sealQueued → s.saving = false →
     s.ringSpots (fun _ => true) = some (fa, fb) → t = s.repeatPassed.addSeal fa fb →
     Machine.exec .sealRecordPassed s =
       .next (State.chargeWear { t with drp := { t.drp with sealStep := .persisting } } recordBytes).advanceSeal) ∧
   (∀ (fas : List Nat) (s t : Machine.State), s.drp.sealEpoch ≠ 0 → s.drp.sealStep = .indexQueued → s.saving = false →
     State.wordSpots s.segmentKeys.length s s.segmentKeys.length = some fas → t = s.repeatPassed.putSegment fas →
     Machine.exec .indexSegmentPassed s = .next { t with drp := { t.drp with sealStep := .commitQueued } }) ∧
   (∀ (fa fb n : Nat) (s : Machine.State), s.drp.sealEpoch ≠ 0 → s.drp.sealStep = .commitQueued → s.saving = false →
     s.ringSpots (fun _ => true) = some (fa, fb) → n = s.repeatPassed.drp.sealEpoch →
     Machine.exec .epochDurable s =
       .next ((((s.repeatPassed.sealDurable fa fb).chargeWear recordBytes).completeBarriers n).freeSanitized).takeDeferred.settle) ∧
   (∀ (fa : Nat) (s : Machine.State), s.saving = false → s.drp.sealEpoch ≠ 0 →
     ((s.drp.sealStep = .sealQueued ∨ s.drp.sealStep = .commitQueued) ∧ s.ringTarget fa = true ∨
       s.drp.sealStep = .indexQueued ∧ s.indexTarget fa = true) →
     Machine.exec (.ringRecordProgramFail fa) s = .next (if s.inOrder fa = true then s.keeperFailed fa else s.refuseOrder fa)) ∧
   (∀ (fa : Nat) (item : SaveItem) (s : Machine.State), s.pstate = PState.SAVING → s.pwr.underway = false →
     item ∈ [SaveItem.openRecord, .sealRecord, .sealIndex, .sealCommit, .cutIndex, .cutCommit] → s.itemPending item = true →
     s.saveTarget item fa = true →
     Machine.exec (.ringRecordProgramFail fa) s = .next (if s.inOrder fa = true then s.saveFailed fa 4 else s.refuseOrder fa))) ∧
  ((∀ (n : BitVec 48) (crc : BitVec 8) (valid win : Bool) (s t : Machine.State), s.powered = true → s.get Reg.DRP_BND_CFG.TIMING ≠ 2 →
     t = s.beaconEdge.emit (.beacon n.toNat crc.toNat valid) →
     Machine.exec (.beaconFrame n crc valid win) s = .next (
       if t.ready Reg.GLB_READY.SIDEBAND_UP = false then t
       else if valid = false then t.count Reg.NCH_BCN_STAT.CODE_ERR 1
       else if t.fogged = true then t
       else if crc.toNat ≠ frameCrc n.toNat then t.count Reg.DRP_BCN_ERR.CRC_ERR 1
       else t.validFrame n.toNat win)) ∧
   (∀ (n : BitVec 48) (crc : BitVec 8) (valid win : Bool) (s : Machine.State), s.powered = true → s.get Reg.DRP_BND_CFG.TIMING = 2 →
     Machine.exec (.beaconFrame n crc valid win) s = .next s.beaconEdge) ∧
   (∀ (s t : Machine.State), s.ready Reg.GLB_READY.BEACON_LOCK = true → s.fogged = false →
     t = (if s.drp.openEpoch = 0 then s.count Reg.DRP_BCN_ERR.MISS 1
       else (s.count Reg.DRP_BCN_ERR.MISS 1).renumber (s.drp.bcnExpected + 1) false) →
     ∀ u w : Machine.State, u = { t with drp := { t.drp with bcnExpected := s.drp.bcnExpected + 1, bcnFromFrame := false } } →
     w = u.unlock.record Ev.BEACON_LOST wide [] →
     Machine.exec .beaconWindowMiss s = .next (
       if u.get Reg.DRP_BCN_STAT.MISS_RUN + 1 < 2 then u.put Reg.DRP_BCN_STAT.MISS_RUN (u.get Reg.DRP_BCN_STAT.MISS_RUN + 1)
       else if w.epochsRun = true then w.boundaryDue.settle else w)) ∧
   (∀ (n start : Nat) (s t : Machine.State), s.get Reg.DRP_BND_CFG.TIMING = 2 →
     s.ready Reg.GLB_READY.SIDEBAND_UP = true → s.ready Reg.GLB_READY.IMAGE_INDEXED = true → s.saving = false → s.pwr.noReturn = false →
       start = s.pair Reg.DRP_BCN_START_LO.START_LO Reg.DRP_BCN_START_HI.START_HI →
     n = (if s.drp.bcnNext ≠ 0 then s.drp.bcnNext else if s.drp.maxUsed < start then start else s.drp.maxUsed + 1) →
     t = (s.put Reg.DRP_BCN_STAT.SENDING 1).emit (.beacon n (frameCrc n) true) →
     ∀ u : Machine.State, u = { t with drp := { t.drp with bcnNext := n + 1 } } →
     Machine.exec .beaconSourceFrame s = .next (if u.fogged = true then u else u.validFrame n true)) ∧
   (∀ (n : Nat) (s t : Machine.State), s.drp.bcnAccepted = some n → t = { s with drp := { s.drp with bcnAccepted := none } } →
     Machine.exec .beaconAcceptedBoundary s = .next (
       if t.epochsRun = false then t
       else if t.drp.sealEpoch = 0 then (t.boundary n true).settle
       else (t.count Reg.DRP_BND_CNT.DEFER_CNT 1).renumber n true)))

/-- With the port up, block writes assemble packets, block reads return the reply in parts, the status byte and raw FIFO are
read and written, bus errors end the assembly or start recovery, and a host notify clears its bits once acknowledged. The
model's own choices and readings in it: log entries 61 and 80. -/
def Obligations.ManagementPortExchanges : Prop :=
  (∀ (data : Bytes) (pecOk : Bool) (s : Machine.State), s.twiTakes data = true →
    Machine.exec (.twiuBlockWriteFirst data pecOk) s = .next (s.fragment [] data pecOk)) ∧
  (∀ (data : Bytes) (pecOk : Bool) (s : Machine.State), s.twiTakes data = true → s.twi.partialPacket ≠ [] →
    Machine.exec (.twiuBlockWriteNext data pecOk) s = .next (s.fragment s.twi.partialPacket data pecOk)) ∧
  (∀ (data : Bytes) (s : Machine.State), s.twiTakes data = true → s.twi.partialPacket = [] →
    Machine.exec (.twiuBlockWriteNext data true) s = .next (s.count (Reg.TWI_ERR.FRAME 0) 1)) ∧
  (∀ s : Machine.State, s.portUp .twiu = true →
    Machine.exec .twiuReplyRead s = .next { s.emit (.twiu (leBytes 1 (s.twi.reply.take 255).length ++ s.twi.reply.take 255)) with
      twi := { s.twi with replyPos := (s.twi.reply.take 255).length } } ∧
    Machine.exec .twiuReplyReadNext s = .next (s.readReply s.twi.replyPos) ∧
    Machine.exec .twiuStatusRead s = .next (s.emit (.twiu (leBytes 1 s.twiStatus))) ∧
    Machine.exec .twiuSclTimeout s = .next ((s.setPartial []).count (Reg.TWI_ERR.TIMEOUT 0) 1) ∧
    Machine.exec .twiuSdaStuck s = .next (s.put (Reg.TWI_STAT.RECOVERING 0) 1)) ∧
  (∀ (data : Bytes) (s : Machine.State), s.cpx.rom = false → s.portUp .twiu = true →
    (s.twiTakes data = true → Machine.exec (.twiuRawWrite data) s = .next (s.setRx 0 ((s.rxFifo 0 ++ data).take 32))) ∧
    Machine.exec .twiuRawRead s = .next ((s.setTx 0 []).emit (.twiu (leBytes 1 (s.txFifo 0).length ++ s.txFifo 0))) ∧
    Machine.exec .twiuStartAbort s = .next (((s.setPartial []).count (Reg.TWI_ERR.START_ABORT 0) 1).record Ev.TWI_START_ABORT 0 [])) ∧
  (∀ s : Machine.State, s.twi.notify ≠ 0 → s.portUp .twiu = true → s.cpx.rom = false →
    Machine.exec (.hostNotify true false) s = .next { s.emit (.hostNotify s.twi.notify) with twi := { s.twi with notify := 0 } } ∧
    Machine.exec (.hostNotify false false) s = .next (s.emit (.hostNotify s.twi.notify)) ∧
    (∀ acked : Bool, Machine.exec (.hostNotify acked true) s =
      .next ((s.count (Reg.TWI_ERR.COLLISION 0) 1).record Ev.TWI_COLLISION 0 [])) ∧
    Machine.exec (.hostNotifyNackRetry true) s = .next { s.emit (.hostNotify s.twi.notify) with twi := { s.twi with notify := 0 } } ∧
    Machine.exec (.hostNotifyNackRetry false) s = .next (s.emit (.hostNotify s.twi.notify)))

/-- With the link up, an acknowledged frame gives way to the next and a refused or unanswered one is repeated; a packet is
discarded, delivered, relayed with its HOP reduced or taken as the reply of CHAIN_SEND; links are counted and recorded; a
packet shorter than its header is answered as such and any other goes to CMD. The model's own choices and readings in it: log
entries 61 and 81. -/
def Obligations.ChainFramesAndPackets : Prop :=
  (∀ (down : Bool) (s : Machine.State), s.chainLink down = true →
    Machine.exec (.chainFrame down [] true) s = .next (s.nextFrame down) ∧
    Machine.exec (.chainFrame down [] false) s = .next (s.repeatFrame down) ∧
    Machine.exec (.chainLinkDown down) s = .next
      (((s.put (chainBit down) 0).count Reg.NCH_CHAIN_ERR.LINK_DOWNS 1).record Ev.CHAIN_LINK_DOWN (Config.chainPort down).toNat [])) ∧
  (∀ (down : Bool) (packet : Bytes) (s : Machine.State), s.chainLink down = true → packet ≠ [] →
    Machine.exec (.chainFrame down packet false) s = .next ((s.count Reg.NCH_CHAIN_ERR.CRC_ERR 1).emit (.chainAnswer down true))) ∧
  (∀ (packet : Bytes) (s t : Machine.State), s.chainLink true = true → 16 ≤ packet.length → t = s.emit (.chainAnswer true false) →
    Machine.exec (.chainFrame true packet true) s = .next (
      if pkReply packet = false then (t.count Reg.NCH_CHAIN_CNT.DISCARD 1).record Ev.CHAIN_DISCARD wide []
      else if pkHop packet = 0 then t.endChainSend (pkTag packet) .done packet
      else t.chainSend false true (withRelayed (withHop packet (pkHop packet - 1))))) ∧
  (∀ (packet : Bytes) (s t : Machine.State), s.chainLink false = true → 16 ≤ packet.length → t = s.emit (.chainAnswer false false) →
    pkReply packet = false → pkDist packet ≠ 255 →
    Machine.exec (.chainFrame false packet true) s = .next (
      if pkDist packet = 0 then (t.count Reg.NCH_CHAIN_CNT.DISCARD 1).record Ev.CHAIN_DISCARD wide []
      else if pkHop packet = 0 then t.runPacket .chainUp (pkDist packet) packet
      else t.chainSend true true (withRelayed (withHop packet (pkHop packet - 1))))) ∧
  (∀ (down : Bool) (s : Machine.State), Machine.exec (.chainAckTimeout down) s = .next (s.repeatFrame down)) ∧
  (∀ (down : Bool) (s : Machine.State), s.chainLink down = false → s.ready Reg.GLB_READY.KEEPER_UP = true →
    Machine.exec (.chainLinkUp down) s = .next ((s.put (chainBit down) 1).record Ev.CHAIN_LINK_UP (Config.chainPort down).toNat [])) ∧
  (∀ (port : Port) (packet : Bytes) (s : Machine.State),
    Machine.exec (.malformedCommandPacket port packet) s =
      .next (if packet.length < 16 then s.shortPacket port packet else s.runPacket port 0 packet))

/-- A record write that passes, where the journals have room for the sectors it rotates, takes effect and completes its
command; one that fails is redone once and then fails for good; an erase that began ends blank, is journaled and completes,
is redone twice, and then fails its sector. The model's own choices and readings in it: log entries 56 and 102. -/
def Obligations.KeeperStoreWritesAndErasesEnd : Prop :=
  (∀ (rec : Nat) (w : RecWrite) (rest : List RecWrite) (s t : Machine.State), s.powered = true → s.flag Reg.KST_STAT.VSUP_HOLD = false →
    s.unitFailed kstUnit = false → takeFirst (fun w => w.record == rec) s.cmd.writes = some (w, rest) →
    t = s.journalSectors (s.targetSectors rec) → t.journalsFit = true →
    Machine.exec (.recordWriteDone rec true) s = .next ((((t.writeCopy rec true).endRetry rec).endWrite w rest .done).applyUpdate w.upd)) ∧
  (∀ (rec : Nat) (w : RecWrite) (rest : List RecWrite) (s t u : Machine.State), s.powered = true → s.flag Reg.KST_STAT.VSUP_HOLD = false →
    s.unitFailed kstUnit = false → takeFirst (fun w => w.record == rec) s.cmd.writes = some (w, rest) →
    t = s.journalSectors (s.targetSectors rec) → t.journalsFit = true →
    u = ((t.writeCopy rec false).endRetry rec).count Reg.KST_ERR.PROG_FAIL 1 →
    Machine.exec (.recordWriteDone rec false) s = .next (
      if u.cmd.retried.contains rec = true then (u.endWrite w rest .mediaError).failUpdate w.upd
      else (State.record { u with cmd := { u.cmd with retried := rec :: u.cmd.retried } } Ev.KST_PROG_FAIL wide []).raiseFault kstUnit
        Ev.KST_PROG_FAIL.sev)) ∧
  (∀ (sector : Nat) (e : KstErase) (s t : Machine.State), s.kst.erases.find? (fun e => e.sector == sector) = some e → e.begun = true →
    t = (((s.withoutErase sector).eraseSector sector).journalErase 2 sector).endErase e →
    Machine.exec (.kstEraseDone sector true) s = .next (t.beginErases.completeFor e.origin .done [])) ∧
  (∀ (sector : Nat) (e : KstErase) (s t u : Machine.State), s.kst.erases.find? (fun e => e.sector == sector) = some e → e.begun = true →
    t = s.count Reg.KST_ERR.ERASE_FAIL 1 → e.fails < 2 →
    u = State.record { t with kst := { t.kst with
      erases := t.kst.erases.map fun x => if x.sector = sector then { x with fails := x.fails + 1 } else x } } Ev.KST_ERASE_REDONE wide [] →
    Machine.exec (.kstEraseDone sector false) s = .next (u.strikeUnit kstUnit Ev.KST_ERASE_REDONE.sev (e.fails != 0))) ∧
  (∀ (sector : Nat) (e : KstErase) (s t u : Machine.State), s.kst.erases.find? (fun e => e.sector == sector) = some e → e.begun = true →
    2 ≤ e.fails → t = (((s.count Reg.KST_ERR.ERASE_FAIL 1).withoutErase sector).strike kstUnit Ev.KST_SECTOR_FAIL.sev).endErase e →
    u = State.put { t with kst := { t.kst with failed := insertNat t.kst.failed sector } } Reg.KST_STAT.DEGRADED 1 →
    Machine.exec (.kstEraseDone sector false) s = .next ((u.record Ev.KST_SECTOR_FAIL wide []).completeFor e.origin .mediaError []))

/-- A request that reaches its logical device waits before MEM_PARTIAL; after it a write is translated and served, a read of
a page not restored faults it in, a read of a restored line handles what it finds and returns the bytes and poison of the
line, or waits for its recovery, and a read that does not translate completes with poison and the fault. -/
def Obligations.HostRequestsAreServed : Prop :=
  (∀ (h : Fin 4) (ld : Fin 16) (lpa : Nat) (data : Bytes) (poison : Bool) (s t : Machine.State) (r : HostReq),
    s.reaches h ld = true → s.saving = false → t = { s with hif := { s.hif with nextId := s.hif.nextId + 1 } } →
    r = ⟨s.hif.nextId, h, ld, lpa, 0, true, data, poison, .admission, false, false⟩ →
    (s.ready Reg.GLB_READY.MEM_PARTIAL = false → Machine.exec (.hostWrite h ld lpa data poison) s = .next (t.wait r .memPartial)) ∧
    (s.ready Reg.GLB_READY.MEM_PARTIAL = true → Machine.exec (.hostWrite h ld lpa data poison) s = .next (t.serveWrite r))) ∧
  (∀ (h : Fin 4) (ld : Fin 16) (lpa : Nat) (found : LineRead) (s t : Machine.State) (r : HostReq),
    s.reaches h ld = true → t = { s with hif := { s.hif with nextId := s.hif.nextId + 1 } } →
    r = ⟨s.hif.nextId, h, ld, lpa, 0, false, [], false, .admission, false, false⟩ →
    (s.ready Reg.GLB_READY.MEM_PARTIAL = false → s.saving = false →
      Machine.exec (.hostRead h ld lpa found) s = .next (t.wait r .memPartial)) ∧
    (s.ready Reg.GLB_READY.MEM_PARTIAL = true → ∀ dpa : Nat, t.translate ld lpa = .inl dpa → t.pageRestored (dpa / 4096) = false →
      s.saving = false → Machine.exec (.hostRead h ld lpa found) s = .next (t.faultIn { r with dpa })) ∧
    (s.ready Reg.GLB_READY.MEM_PARTIAL = true → ∀ dpa : Nat, t.translate ld lpa = .inl dpa → t.pageRestored (dpa / 4096) = true →
      ∀ u : Machine.State, u = t.readFound (dpa / 64) found → Machine.exec (.hostRead h ld lpa found) s = .next (
        if u.pageRecovering (dpa / 64 / 64) = true then u.wait { r with dpa } .recovery
        else (u.access dpa ld false false).completeRead { r with dpa } (dramRead u.dram (dpa / 64 * 64) 64) (u.poisoned (dpa / 64)))) ∧
    (s.ready Reg.GLB_READY.MEM_PARTIAL = true → ∀ k : Nat, t.translate ld lpa = .inr k →
      Machine.exec (.hostRead h ld lpa found) s = .next ((t.translationFault h ld lpa k false).completeRead r [] true)))
end

