-- ==== Sys2Proof/Laws/Maps.lean ====
section
/-! SUPPORT. Finite maps: what a look-up finds after an entry is set. -/

namespace Sys2Proof.Machine

/-- A look-up after an entry is set. -/
theorem NMap.find?_insert {α : Type} (m : NMap α) (k j : Nat) (x : α) :
    NMap.find? (NMap.insert m k x) j = if j = k then some x else NMap.find? m j := by
  induction m with
  | nil => simp [NMap.insert, NMap.find?]
  | cons a m ih =>
    obtain ⟨b, y⟩ := a
    unfold NMap.insert
    split
    · simp [NMap.find?]
    · split
      · rename_i h1 h2; subst h2; simp only [NMap.find?]; split <;> rfl
      · rename_i h1 h2; simp only [NMap.find?, ih]
        by_cases h : j = b
        · subst h; simp [Ne.symm h2]
        · simp [h]

@[simp] theorem NMap.find?_insert_self {α : Type} (m : NMap α) (k : Nat) (x : α) :
    NMap.find? (NMap.insert m k x) k = some x := by simp [NMap.find?_insert]

theorem NMap.find?_insert_ne {α : Type} (m : NMap α) {k j : Nat} (x : α) (h : j ≠ k) :
    NMap.find? (NMap.insert m k x) j = NMap.find? m j := by simp [NMap.find?_insert, h]

/-- A look-up after another key is removed. -/
theorem NMap.find?_erase_ne {α : Type} (m : NMap α) {k j : Nat} (h : j ≠ k) :
    NMap.find? (NMap.erase m k) j = NMap.find? m j := by
  induction m with
  | nil => rfl
  | cons a m ih =>
    obtain ⟨b, y⟩ := a
    by_cases hb : k = b
    · subst hb; simp [NMap.erase, NMap.find?, h]
    · by_cases hj : j = b
      · subst hj; simp [NMap.erase, NMap.find?, hb]
      · simp [NMap.erase, NMap.find?, hb, hj, ih]

end Sys2Proof.Machine
end

