-- ==== Sys2Proof/Laws/State.lean ====
section
/-! SUPPORT. What each small update of the state leaves in every field, one lemma for a field and an update, so that no proof
unfolds a record update. -/

namespace Sys2Proof.Machine

variable (s : State)

/-! `put` -/

@[simp] theorem State.put_regs (f : Fld) (v : Nat) : (s.put f v).regs = s.regs.set f v := rfl
@[simp] theorem State.put_shadows (f : Fld) (v : Nat) : (s.put f v).shadows = s.shadows := rfl
@[simp] theorem State.put_stored (f : Fld) (v : Nat) : (s.put f v).stored = s.stored := rfl
@[simp] theorem State.put_caps (f : Fld) (v : Nat) : (s.put f v).caps = s.caps := rfl
@[simp] theorem State.put_freeCtr (f : Fld) (v : Nat) : (s.put f v).freeCtr = s.freeCtr := rfl
@[simp] theorem State.put_out (f : Fld) (v : Nat) : (s.put f v).out = s.out := rfl
@[simp] theorem State.put_evr (f : Fld) (v : Nat) : (s.put f v).evr = s.evr := rfl
@[simp] theorem State.put_cmd (f : Fld) (v : Nat) : (s.put f v).cmd = s.cmd := rfl
@[simp] theorem State.put_drp (f : Fld) (v : Nat) : (s.put f v).drp = s.drp := rfl
@[simp] theorem State.put_kst (f : Fld) (v : Nat) : (s.put f v).kst = s.kst := rfl
@[simp] theorem State.put_hif (f : Fld) (v : Nat) : (s.put f v).hif = s.hif := rfl
@[simp] theorem State.put_rgn (f : Fld) (v : Nat) : (s.put f v).rgn = s.rgn := rfl
@[simp] theorem State.put_twi (f : Fld) (v : Nat) : (s.put f v).twi = s.twi := rfl
@[simp] theorem State.put_flash (f : Fld) (v : Nat) : (s.put f v).flash = s.flash := rfl
@[simp] theorem State.put_rse (f : Fld) (v : Nat) : (s.put f v).rse = s.rse := rfl
@[simp] theorem State.put_sav (f : Fld) (v : Nat) : (s.put f v).sav = s.sav := rfl
@[simp] theorem State.put_pwr (f : Fld) (v : Nat) : (s.put f v).pwr = s.pwr := rfl
@[simp] theorem State.put_rsv (f : Fld) (v : Nat) : (s.put f v).rsv = s.rsv := rfl
@[simp] theorem State.put_adc (f : Fld) (v : Nat) : (s.put f v).adc = s.adc := rfl
@[simp] theorem State.put_dmc (f : Fld) (v : Nat) : (s.put f v).dmc = s.dmc := rfl
@[simp] theorem State.put_trn (f : Fld) (v : Nat) : (s.put f v).trn = s.trn := rfl
@[simp] theorem State.put_cpx (f : Fld) (v : Nat) : (s.put f v).cpx = s.cpx := rfl
@[simp] theorem State.put_dma (f : Fld) (v : Nat) : (s.put f v).dma = s.dma := rfl
@[simp] theorem State.put_pop (f : Fld) (v : Nat) : (s.put f v).pop = s.pop := rfl
@[simp] theorem State.put_dram (f : Fld) (v : Nat) : (s.put f v).dram = s.dram := rfl
@[simp] theorem State.put_poison (f : Fld) (v : Nat) : (s.put f v).poison = s.poison := rfl
@[simp] theorem State.put_faults (f : Fld) (v : Nat) : (s.put f v).faults = s.faults := rfl
@[simp] theorem State.put_pending (f : Fld) (v : Nat) : (s.put f v).pending = s.pending := rfl

/-! `putAll` -/

@[simp] theorem State.putAll_regs (l : List (Fld × Nat)) : (s.putAll l).regs = s.regs.setAll l := rfl
@[simp] theorem State.putAll_shadows (l : List (Fld × Nat)) : (s.putAll l).shadows = s.shadows := rfl
@[simp] theorem State.putAll_stored (l : List (Fld × Nat)) : (s.putAll l).stored = s.stored := rfl
@[simp] theorem State.putAll_caps (l : List (Fld × Nat)) : (s.putAll l).caps = s.caps := rfl
@[simp] theorem State.putAll_freeCtr (l : List (Fld × Nat)) : (s.putAll l).freeCtr = s.freeCtr := rfl
@[simp] theorem State.putAll_out (l : List (Fld × Nat)) : (s.putAll l).out = s.out := rfl
@[simp] theorem State.putAll_evr (l : List (Fld × Nat)) : (s.putAll l).evr = s.evr := rfl
@[simp] theorem State.putAll_cmd (l : List (Fld × Nat)) : (s.putAll l).cmd = s.cmd := rfl
@[simp] theorem State.putAll_drp (l : List (Fld × Nat)) : (s.putAll l).drp = s.drp := rfl
@[simp] theorem State.putAll_kst (l : List (Fld × Nat)) : (s.putAll l).kst = s.kst := rfl
@[simp] theorem State.putAll_hif (l : List (Fld × Nat)) : (s.putAll l).hif = s.hif := rfl
@[simp] theorem State.putAll_rgn (l : List (Fld × Nat)) : (s.putAll l).rgn = s.rgn := rfl
@[simp] theorem State.putAll_twi (l : List (Fld × Nat)) : (s.putAll l).twi = s.twi := rfl
@[simp] theorem State.putAll_flash (l : List (Fld × Nat)) : (s.putAll l).flash = s.flash := rfl
@[simp] theorem State.putAll_rse (l : List (Fld × Nat)) : (s.putAll l).rse = s.rse := rfl
@[simp] theorem State.putAll_sav (l : List (Fld × Nat)) : (s.putAll l).sav = s.sav := rfl
@[simp] theorem State.putAll_pwr (l : List (Fld × Nat)) : (s.putAll l).pwr = s.pwr := rfl
@[simp] theorem State.putAll_rsv (l : List (Fld × Nat)) : (s.putAll l).rsv = s.rsv := rfl
@[simp] theorem State.putAll_adc (l : List (Fld × Nat)) : (s.putAll l).adc = s.adc := rfl
@[simp] theorem State.putAll_dmc (l : List (Fld × Nat)) : (s.putAll l).dmc = s.dmc := rfl
@[simp] theorem State.putAll_trn (l : List (Fld × Nat)) : (s.putAll l).trn = s.trn := rfl
@[simp] theorem State.putAll_cpx (l : List (Fld × Nat)) : (s.putAll l).cpx = s.cpx := rfl
@[simp] theorem State.putAll_dma (l : List (Fld × Nat)) : (s.putAll l).dma = s.dma := rfl
@[simp] theorem State.putAll_pop (l : List (Fld × Nat)) : (s.putAll l).pop = s.pop := rfl
@[simp] theorem State.putAll_dram (l : List (Fld × Nat)) : (s.putAll l).dram = s.dram := rfl
@[simp] theorem State.putAll_poison (l : List (Fld × Nat)) : (s.putAll l).poison = s.poison := rfl
@[simp] theorem State.putAll_faults (l : List (Fld × Nat)) : (s.putAll l).faults = s.faults := rfl
@[simp] theorem State.putAll_pending (l : List (Fld × Nat)) : (s.putAll l).pending = s.pending := rfl

/-! `tick` -/

@[simp] theorem State.tick_regs : (s.tick).regs = s.regs := rfl
@[simp] theorem State.tick_shadows : (s.tick).shadows = s.shadows := rfl
@[simp] theorem State.tick_stored : (s.tick).stored = s.stored := rfl
@[simp] theorem State.tick_caps : (s.tick).caps = s.caps := rfl
@[simp] theorem State.tick_freeCtr : (s.tick).freeCtr = s.freeCtr + 1 := rfl
@[simp] theorem State.tick_out : (s.tick).out = s.out := rfl
@[simp] theorem State.tick_evr : (s.tick).evr = s.evr := rfl
@[simp] theorem State.tick_cmd : (s.tick).cmd = s.cmd := rfl
@[simp] theorem State.tick_drp : (s.tick).drp = s.drp := rfl
@[simp] theorem State.tick_kst : (s.tick).kst = s.kst := rfl
@[simp] theorem State.tick_hif : (s.tick).hif = s.hif := rfl
@[simp] theorem State.tick_rgn : (s.tick).rgn = s.rgn := rfl
@[simp] theorem State.tick_twi : (s.tick).twi = s.twi := rfl
@[simp] theorem State.tick_flash : (s.tick).flash = s.flash := rfl
@[simp] theorem State.tick_rse : (s.tick).rse = s.rse := rfl
@[simp] theorem State.tick_sav : (s.tick).sav = s.sav := rfl
@[simp] theorem State.tick_pwr : (s.tick).pwr = s.pwr := rfl
@[simp] theorem State.tick_rsv : (s.tick).rsv = s.rsv := rfl
@[simp] theorem State.tick_adc : (s.tick).adc = s.adc := rfl
@[simp] theorem State.tick_dmc : (s.tick).dmc = s.dmc := rfl
@[simp] theorem State.tick_trn : (s.tick).trn = s.trn := rfl
@[simp] theorem State.tick_cpx : (s.tick).cpx = s.cpx := rfl
@[simp] theorem State.tick_dma : (s.tick).dma = s.dma := rfl
@[simp] theorem State.tick_pop : (s.tick).pop = s.pop := rfl
@[simp] theorem State.tick_dram : (s.tick).dram = s.dram := rfl
@[simp] theorem State.tick_poison : (s.tick).poison = s.poison := rfl
@[simp] theorem State.tick_faults : (s.tick).faults = s.faults := rfl
@[simp] theorem State.tick_pending : (s.tick).pending = s.pending := rfl

/-! `emit` -/

@[simp] theorem State.emit_regs (o : Out) : (s.emit o).regs = s.regs := rfl
@[simp] theorem State.emit_shadows (o : Out) : (s.emit o).shadows = s.shadows := rfl
@[simp] theorem State.emit_stored (o : Out) : (s.emit o).stored = s.stored := rfl
@[simp] theorem State.emit_caps (o : Out) : (s.emit o).caps = s.caps := rfl
@[simp] theorem State.emit_freeCtr (o : Out) : (s.emit o).freeCtr = s.freeCtr := rfl
@[simp] theorem State.emit_out (o : Out) : (s.emit o).out = o :: s.out := rfl
@[simp] theorem State.emit_evr (o : Out) : (s.emit o).evr = s.evr := rfl
@[simp] theorem State.emit_cmd (o : Out) : (s.emit o).cmd = s.cmd := rfl
@[simp] theorem State.emit_drp (o : Out) : (s.emit o).drp = s.drp := rfl
@[simp] theorem State.emit_kst (o : Out) : (s.emit o).kst = s.kst := rfl
@[simp] theorem State.emit_hif (o : Out) : (s.emit o).hif = s.hif := rfl
@[simp] theorem State.emit_rgn (o : Out) : (s.emit o).rgn = s.rgn := rfl
@[simp] theorem State.emit_twi (o : Out) : (s.emit o).twi = s.twi := rfl
@[simp] theorem State.emit_flash (o : Out) : (s.emit o).flash = s.flash := rfl
@[simp] theorem State.emit_rse (o : Out) : (s.emit o).rse = s.rse := rfl
@[simp] theorem State.emit_sav (o : Out) : (s.emit o).sav = s.sav := rfl
@[simp] theorem State.emit_pwr (o : Out) : (s.emit o).pwr = s.pwr := rfl
@[simp] theorem State.emit_rsv (o : Out) : (s.emit o).rsv = s.rsv := rfl
@[simp] theorem State.emit_adc (o : Out) : (s.emit o).adc = s.adc := rfl
@[simp] theorem State.emit_dmc (o : Out) : (s.emit o).dmc = s.dmc := rfl
@[simp] theorem State.emit_trn (o : Out) : (s.emit o).trn = s.trn := rfl
@[simp] theorem State.emit_cpx (o : Out) : (s.emit o).cpx = s.cpx := rfl
@[simp] theorem State.emit_dma (o : Out) : (s.emit o).dma = s.dma := rfl
@[simp] theorem State.emit_pop (o : Out) : (s.emit o).pop = s.pop := rfl
@[simp] theorem State.emit_dram (o : Out) : (s.emit o).dram = s.dram := rfl
@[simp] theorem State.emit_poison (o : Out) : (s.emit o).poison = s.poison := rfl
@[simp] theorem State.emit_faults (o : Out) : (s.emit o).faults = s.faults := rfl
@[simp] theorem State.emit_pending (o : Out) : (s.emit o).pending = s.pending := rfl

/-! `setLd` -/

@[simp] theorem State.setLd_regs (ld : Nat) (d : LdState) : (s.setLd ld d).regs = s.regs := rfl
@[simp] theorem State.setLd_shadows (ld : Nat) (d : LdState) : (s.setLd ld d).shadows = s.shadows := rfl
@[simp] theorem State.setLd_stored (ld : Nat) (d : LdState) : (s.setLd ld d).stored = s.stored := rfl
@[simp] theorem State.setLd_caps (ld : Nat) (d : LdState) : (s.setLd ld d).caps = s.caps := rfl
@[simp] theorem State.setLd_freeCtr (ld : Nat) (d : LdState) : (s.setLd ld d).freeCtr = s.freeCtr := rfl
@[simp] theorem State.setLd_out (ld : Nat) (d : LdState) : (s.setLd ld d).out = s.out := rfl
@[simp] theorem State.setLd_evr (ld : Nat) (d : LdState) : (s.setLd ld d).evr = s.evr := rfl
@[simp] theorem State.setLd_cmd (ld : Nat) (d : LdState) : (s.setLd ld d).cmd = s.cmd := rfl
@[simp] theorem State.setLd_drp (ld : Nat) (d : LdState) : (s.setLd ld d).drp = s.drp := rfl
@[simp] theorem State.setLd_kst (ld : Nat) (d : LdState) : (s.setLd ld d).kst = s.kst := rfl
@[simp] theorem State.setLd_hif (ld : Nat) (d : LdState) : (s.setLd ld d).hif = { s.hif with lds := NMap.insert s.hif.lds ld d } := rfl
@[simp] theorem State.setLd_rgn (ld : Nat) (d : LdState) : (s.setLd ld d).rgn = s.rgn := rfl
@[simp] theorem State.setLd_twi (ld : Nat) (d : LdState) : (s.setLd ld d).twi = s.twi := rfl
@[simp] theorem State.setLd_flash (ld : Nat) (d : LdState) : (s.setLd ld d).flash = s.flash := rfl
@[simp] theorem State.setLd_rse (ld : Nat) (d : LdState) : (s.setLd ld d).rse = s.rse := rfl
@[simp] theorem State.setLd_sav (ld : Nat) (d : LdState) : (s.setLd ld d).sav = s.sav := rfl
@[simp] theorem State.setLd_pwr (ld : Nat) (d : LdState) : (s.setLd ld d).pwr = s.pwr := rfl
@[simp] theorem State.setLd_rsv (ld : Nat) (d : LdState) : (s.setLd ld d).rsv = s.rsv := rfl
@[simp] theorem State.setLd_adc (ld : Nat) (d : LdState) : (s.setLd ld d).adc = s.adc := rfl
@[simp] theorem State.setLd_dmc (ld : Nat) (d : LdState) : (s.setLd ld d).dmc = s.dmc := rfl
@[simp] theorem State.setLd_trn (ld : Nat) (d : LdState) : (s.setLd ld d).trn = s.trn := rfl
@[simp] theorem State.setLd_cpx (ld : Nat) (d : LdState) : (s.setLd ld d).cpx = s.cpx := rfl
@[simp] theorem State.setLd_dma (ld : Nat) (d : LdState) : (s.setLd ld d).dma = s.dma := rfl
@[simp] theorem State.setLd_pop (ld : Nat) (d : LdState) : (s.setLd ld d).pop = s.pop := rfl
@[simp] theorem State.setLd_dram (ld : Nat) (d : LdState) : (s.setLd ld d).dram = s.dram := rfl
@[simp] theorem State.setLd_poison (ld : Nat) (d : LdState) : (s.setLd ld d).poison = s.poison := rfl
@[simp] theorem State.setLd_faults (ld : Nat) (d : LdState) : (s.setLd ld d).faults = s.faults := rfl
@[simp] theorem State.setLd_pending (ld : Nat) (d : LdState) : (s.setLd ld d).pending = s.pending := rfl

/-! `putPair` -/

@[simp] theorem State.putPair_regs (lo hi : Fld) (n : Nat) : (s.putPair lo hi n).regs = (s.put lo n).regs.set hi (n / 2 ^ 32) := rfl
@[simp] theorem State.putPair_shadows (lo hi : Fld) (n : Nat) : (s.putPair lo hi n).shadows = s.shadows := rfl
@[simp] theorem State.putPair_stored (lo hi : Fld) (n : Nat) : (s.putPair lo hi n).stored = s.stored := rfl
@[simp] theorem State.putPair_caps (lo hi : Fld) (n : Nat) : (s.putPair lo hi n).caps = s.caps := rfl
@[simp] theorem State.putPair_freeCtr (lo hi : Fld) (n : Nat) : (s.putPair lo hi n).freeCtr = s.freeCtr := rfl
@[simp] theorem State.putPair_out (lo hi : Fld) (n : Nat) : (s.putPair lo hi n).out = s.out := rfl
@[simp] theorem State.putPair_evr (lo hi : Fld) (n : Nat) : (s.putPair lo hi n).evr = s.evr := rfl
@[simp] theorem State.putPair_cmd (lo hi : Fld) (n : Nat) : (s.putPair lo hi n).cmd = s.cmd := rfl
@[simp] theorem State.putPair_drp (lo hi : Fld) (n : Nat) : (s.putPair lo hi n).drp = s.drp := rfl
@[simp] theorem State.putPair_kst (lo hi : Fld) (n : Nat) : (s.putPair lo hi n).kst = s.kst := rfl
@[simp] theorem State.putPair_hif (lo hi : Fld) (n : Nat) : (s.putPair lo hi n).hif = s.hif := rfl
@[simp] theorem State.putPair_rgn (lo hi : Fld) (n : Nat) : (s.putPair lo hi n).rgn = s.rgn := rfl
@[simp] theorem State.putPair_twi (lo hi : Fld) (n : Nat) : (s.putPair lo hi n).twi = s.twi := rfl
@[simp] theorem State.putPair_flash (lo hi : Fld) (n : Nat) : (s.putPair lo hi n).flash = s.flash := rfl
@[simp] theorem State.putPair_rse (lo hi : Fld) (n : Nat) : (s.putPair lo hi n).rse = s.rse := rfl
@[simp] theorem State.putPair_sav (lo hi : Fld) (n : Nat) : (s.putPair lo hi n).sav = s.sav := rfl
@[simp] theorem State.putPair_pwr (lo hi : Fld) (n : Nat) : (s.putPair lo hi n).pwr = s.pwr := rfl
@[simp] theorem State.putPair_rsv (lo hi : Fld) (n : Nat) : (s.putPair lo hi n).rsv = s.rsv := rfl
@[simp] theorem State.putPair_adc (lo hi : Fld) (n : Nat) : (s.putPair lo hi n).adc = s.adc := rfl
@[simp] theorem State.putPair_dmc (lo hi : Fld) (n : Nat) : (s.putPair lo hi n).dmc = s.dmc := rfl
@[simp] theorem State.putPair_trn (lo hi : Fld) (n : Nat) : (s.putPair lo hi n).trn = s.trn := rfl
@[simp] theorem State.putPair_cpx (lo hi : Fld) (n : Nat) : (s.putPair lo hi n).cpx = s.cpx := rfl
@[simp] theorem State.putPair_dma (lo hi : Fld) (n : Nat) : (s.putPair lo hi n).dma = s.dma := rfl
@[simp] theorem State.putPair_pop (lo hi : Fld) (n : Nat) : (s.putPair lo hi n).pop = s.pop := rfl
@[simp] theorem State.putPair_dram (lo hi : Fld) (n : Nat) : (s.putPair lo hi n).dram = s.dram := rfl
@[simp] theorem State.putPair_poison (lo hi : Fld) (n : Nat) : (s.putPair lo hi n).poison = s.poison := rfl
@[simp] theorem State.putPair_faults (lo hi : Fld) (n : Nat) : (s.putPair lo hi n).faults = s.faults := rfl
@[simp] theorem State.putPair_pending (lo hi : Fld) (n : Nat) : (s.putPair lo hi n).pending = s.pending := rfl

/-! `count` -/

@[simp] theorem State.count_regs (f : Fld) (n : Nat) : (s.count f n).regs = s.regs.set f (satAdd f.w (s.get f) n) := rfl
@[simp] theorem State.count_shadows (f : Fld) (n : Nat) : (s.count f n).shadows = s.shadows := rfl
@[simp] theorem State.count_stored (f : Fld) (n : Nat) : (s.count f n).stored = s.stored := rfl
@[simp] theorem State.count_caps (f : Fld) (n : Nat) : (s.count f n).caps = s.caps := rfl
@[simp] theorem State.count_freeCtr (f : Fld) (n : Nat) : (s.count f n).freeCtr = s.freeCtr := rfl
@[simp] theorem State.count_out (f : Fld) (n : Nat) : (s.count f n).out = s.out := rfl
@[simp] theorem State.count_evr (f : Fld) (n : Nat) : (s.count f n).evr = s.evr := rfl
@[simp] theorem State.count_cmd (f : Fld) (n : Nat) : (s.count f n).cmd = s.cmd := rfl
@[simp] theorem State.count_drp (f : Fld) (n : Nat) : (s.count f n).drp = s.drp := rfl
@[simp] theorem State.count_kst (f : Fld) (n : Nat) : (s.count f n).kst = s.kst := rfl
@[simp] theorem State.count_hif (f : Fld) (n : Nat) : (s.count f n).hif = s.hif := rfl
@[simp] theorem State.count_rgn (f : Fld) (n : Nat) : (s.count f n).rgn = s.rgn := rfl
@[simp] theorem State.count_twi (f : Fld) (n : Nat) : (s.count f n).twi = s.twi := rfl
@[simp] theorem State.count_flash (f : Fld) (n : Nat) : (s.count f n).flash = s.flash := rfl
@[simp] theorem State.count_rse (f : Fld) (n : Nat) : (s.count f n).rse = s.rse := rfl
@[simp] theorem State.count_sav (f : Fld) (n : Nat) : (s.count f n).sav = s.sav := rfl
@[simp] theorem State.count_pwr (f : Fld) (n : Nat) : (s.count f n).pwr = s.pwr := rfl
@[simp] theorem State.count_rsv (f : Fld) (n : Nat) : (s.count f n).rsv = s.rsv := rfl
@[simp] theorem State.count_adc (f : Fld) (n : Nat) : (s.count f n).adc = s.adc := rfl
@[simp] theorem State.count_dmc (f : Fld) (n : Nat) : (s.count f n).dmc = s.dmc := rfl
@[simp] theorem State.count_trn (f : Fld) (n : Nat) : (s.count f n).trn = s.trn := rfl
@[simp] theorem State.count_cpx (f : Fld) (n : Nat) : (s.count f n).cpx = s.cpx := rfl
@[simp] theorem State.count_dma (f : Fld) (n : Nat) : (s.count f n).dma = s.dma := rfl
@[simp] theorem State.count_pop (f : Fld) (n : Nat) : (s.count f n).pop = s.pop := rfl
@[simp] theorem State.count_dram (f : Fld) (n : Nat) : (s.count f n).dram = s.dram := rfl
@[simp] theorem State.count_poison (f : Fld) (n : Nat) : (s.count f n).poison = s.poison := rfl
@[simp] theorem State.count_faults (f : Fld) (n : Nat) : (s.count f n).faults = s.faults := rfl
@[simp] theorem State.count_pending (f : Fld) (n : Nat) : (s.count f n).pending = s.pending := rfl

/-! `raise` -/

@[simp] theorem State.raise_regs (f : Fld) (n : Nat) : (s.raise f n).regs = s.regs.set f (max (s.get f) (min n (2 ^ f.w - 1))) := rfl
@[simp] theorem State.raise_shadows (f : Fld) (n : Nat) : (s.raise f n).shadows = s.shadows := rfl
@[simp] theorem State.raise_stored (f : Fld) (n : Nat) : (s.raise f n).stored = s.stored := rfl
@[simp] theorem State.raise_caps (f : Fld) (n : Nat) : (s.raise f n).caps = s.caps := rfl
@[simp] theorem State.raise_freeCtr (f : Fld) (n : Nat) : (s.raise f n).freeCtr = s.freeCtr := rfl
@[simp] theorem State.raise_out (f : Fld) (n : Nat) : (s.raise f n).out = s.out := rfl
@[simp] theorem State.raise_evr (f : Fld) (n : Nat) : (s.raise f n).evr = s.evr := rfl
@[simp] theorem State.raise_cmd (f : Fld) (n : Nat) : (s.raise f n).cmd = s.cmd := rfl
@[simp] theorem State.raise_drp (f : Fld) (n : Nat) : (s.raise f n).drp = s.drp := rfl
@[simp] theorem State.raise_kst (f : Fld) (n : Nat) : (s.raise f n).kst = s.kst := rfl
@[simp] theorem State.raise_hif (f : Fld) (n : Nat) : (s.raise f n).hif = s.hif := rfl
@[simp] theorem State.raise_rgn (f : Fld) (n : Nat) : (s.raise f n).rgn = s.rgn := rfl
@[simp] theorem State.raise_twi (f : Fld) (n : Nat) : (s.raise f n).twi = s.twi := rfl
@[simp] theorem State.raise_flash (f : Fld) (n : Nat) : (s.raise f n).flash = s.flash := rfl
@[simp] theorem State.raise_rse (f : Fld) (n : Nat) : (s.raise f n).rse = s.rse := rfl
@[simp] theorem State.raise_sav (f : Fld) (n : Nat) : (s.raise f n).sav = s.sav := rfl
@[simp] theorem State.raise_pwr (f : Fld) (n : Nat) : (s.raise f n).pwr = s.pwr := rfl
@[simp] theorem State.raise_rsv (f : Fld) (n : Nat) : (s.raise f n).rsv = s.rsv := rfl
@[simp] theorem State.raise_adc (f : Fld) (n : Nat) : (s.raise f n).adc = s.adc := rfl
@[simp] theorem State.raise_dmc (f : Fld) (n : Nat) : (s.raise f n).dmc = s.dmc := rfl
@[simp] theorem State.raise_trn (f : Fld) (n : Nat) : (s.raise f n).trn = s.trn := rfl
@[simp] theorem State.raise_cpx (f : Fld) (n : Nat) : (s.raise f n).cpx = s.cpx := rfl
@[simp] theorem State.raise_dma (f : Fld) (n : Nat) : (s.raise f n).dma = s.dma := rfl
@[simp] theorem State.raise_pop (f : Fld) (n : Nat) : (s.raise f n).pop = s.pop := rfl
@[simp] theorem State.raise_dram (f : Fld) (n : Nat) : (s.raise f n).dram = s.dram := rfl
@[simp] theorem State.raise_poison (f : Fld) (n : Nat) : (s.raise f n).poison = s.poison := rfl
@[simp] theorem State.raise_faults (f : Fld) (n : Nat) : (s.raise f n).faults = s.faults := rfl
@[simp] theorem State.raise_pending (f : Fld) (n : Nat) : (s.raise f n).pending = s.pending := rfl

/-! `putFree` -/

@[simp] theorem State.putFree_regs (f : Fld) : (s.putFree f).regs = s.regs.set f s.free := rfl
@[simp] theorem State.putFree_shadows (f : Fld) : (s.putFree f).shadows = s.shadows := rfl
@[simp] theorem State.putFree_stored (f : Fld) : (s.putFree f).stored = s.stored := rfl
@[simp] theorem State.putFree_caps (f : Fld) : (s.putFree f).caps = s.caps := rfl
@[simp] theorem State.putFree_freeCtr (f : Fld) : (s.putFree f).freeCtr = s.freeCtr + 1 := rfl
@[simp] theorem State.putFree_out (f : Fld) : (s.putFree f).out = s.out := rfl
@[simp] theorem State.putFree_evr (f : Fld) : (s.putFree f).evr = s.evr := rfl
@[simp] theorem State.putFree_cmd (f : Fld) : (s.putFree f).cmd = s.cmd := rfl
@[simp] theorem State.putFree_drp (f : Fld) : (s.putFree f).drp = s.drp := rfl
@[simp] theorem State.putFree_kst (f : Fld) : (s.putFree f).kst = s.kst := rfl
@[simp] theorem State.putFree_hif (f : Fld) : (s.putFree f).hif = s.hif := rfl
@[simp] theorem State.putFree_rgn (f : Fld) : (s.putFree f).rgn = s.rgn := rfl
@[simp] theorem State.putFree_twi (f : Fld) : (s.putFree f).twi = s.twi := rfl
@[simp] theorem State.putFree_flash (f : Fld) : (s.putFree f).flash = s.flash := rfl
@[simp] theorem State.putFree_rse (f : Fld) : (s.putFree f).rse = s.rse := rfl
@[simp] theorem State.putFree_sav (f : Fld) : (s.putFree f).sav = s.sav := rfl
@[simp] theorem State.putFree_pwr (f : Fld) : (s.putFree f).pwr = s.pwr := rfl
@[simp] theorem State.putFree_rsv (f : Fld) : (s.putFree f).rsv = s.rsv := rfl
@[simp] theorem State.putFree_adc (f : Fld) : (s.putFree f).adc = s.adc := rfl
@[simp] theorem State.putFree_dmc (f : Fld) : (s.putFree f).dmc = s.dmc := rfl
@[simp] theorem State.putFree_trn (f : Fld) : (s.putFree f).trn = s.trn := rfl
@[simp] theorem State.putFree_cpx (f : Fld) : (s.putFree f).cpx = s.cpx := rfl
@[simp] theorem State.putFree_dma (f : Fld) : (s.putFree f).dma = s.dma := rfl
@[simp] theorem State.putFree_pop (f : Fld) : (s.putFree f).pop = s.pop := rfl
@[simp] theorem State.putFree_dram (f : Fld) : (s.putFree f).dram = s.dram := rfl
@[simp] theorem State.putFree_poison (f : Fld) : (s.putFree f).poison = s.poison := rfl
@[simp] theorem State.putFree_faults (f : Fld) : (s.putFree f).faults = s.faults := rfl
@[simp] theorem State.putFree_pending (f : Fld) : (s.putFree f).pending = s.pending := rfl

end Sys2Proof.Machine
end

