-- ==== Sys2Proof/Laws/Fields.lean ====
section
/-! SUPPORT. Register fields: what a field reads after an update. -/

namespace Sys2Proof.Machine

/-- A field after a field is set: the value's low bits, or what it held. -/
theorem State.get_put (s : State) (f g : Fld) (v : Nat) :
    (s.put f v).get g = if g.key = f.key then v % 2 ^ f.w else s.get g := by
  simp only [State.get, State.put, RegFile.get, RegFile.set, NMap.find?_insert]
  split <;> rfl

@[simp] theorem State.get_put_self (s : State) (f : Fld) (v : Nat) : (s.put f v).get f = v % 2 ^ f.w := by
  simp [State.get_put]

theorem State.get_put_ne (s : State) {f g : Fld} (v : Nat) (h : g.key ≠ f.key) : (s.put f v).get g = s.get g := by
  simp [State.get_put, h]

/-- Fields that are not in the list keep their values. -/
theorem RegFile.get_setAll_of_notMem (l : List (Fld × Nat)) : ∀ (r : RegFile) (g : Fld), (∀ e ∈ l, g.key ≠ e.1.key) →
    (r.setAll l).get g = r.get g := by
  induction l with
  | nil => intro r g _; rfl
  | cons a l ih =>
    intro r g h
    have h1 : g.key ≠ a.1.key := h a (by simp)
    show (RegFile.setAll (r.set a.1 a.2) l).get g = r.get g
    rw [ih _ _ (fun e he => h e (by simp [he]))]
    simp [RegFile.get, RegFile.set, NMap.find?_insert, h1]

theorem State.get_putAll_of_notMem (s : State) (l : List (Fld × Nat)) (g : Fld) (h : ∀ e ∈ l, g.key ≠ e.1.key) :
    (s.putAll l).get g = s.get g := RegFile.get_setAll_of_notMem l s.regs g h

/-- Setting several fields is setting them one after another. -/
theorem State.putAll_cons (s : State) (e : Fld × Nat) (l : List (Fld × Nat)) : s.putAll (e :: l) = (s.put e.1 e.2).putAll l := rfl

@[simp] theorem State.putAll_nil (s : State) : s.putAll [] = s := rfl

theorem State.get_count (s : State) (f g : Fld) (n : Nat) :
    (s.count f n).get g = if g.key = f.key then satAdd f.w (s.get f) n else s.get g := by
  have h : satAdd f.w (s.get f) n < 2 ^ f.w := by
    have := Nat.two_pow_pos f.w
    simp only [satAdd]; omega
  simp [State.count, State.get_put, Nat.mod_eq_of_lt h]

/-! Updates that touch no field leave every field. -/

@[simp] theorem State.get_tick (s : State) (f : Fld) : s.tick.get f = s.get f := rfl
@[simp] theorem State.get_emit (s : State) (o : Out) (f : Fld) : (s.emit o).get f = s.get f := rfl
@[simp] theorem State.get_setLd (s : State) (ld : Nat) (d : LdState) (f : Fld) : (s.setLd ld d).get f = s.get f := rfl

theorem State.get_putFree_ne (s : State) {f g : Fld} (h : g.key ≠ f.key) : (s.putFree f).get g = s.get g :=
  State.get_put_ne s _ h

/-- What an update that every step of `each` keeps is kept by `each`. -/
theorem State.each_keeps {α β : Type} (p : State → β) (g : State → α → State) (hg : ∀ s a, p (g s a) = p s) (s : State)
    (l : List α) : p (s.each l g) = p s := by
  unfold State.each
  induction l generalizing s with
  | nil => rfl
  | cons a l ih => exact (ih (g s a)).trans (hg s a)

@[simp] theorem State.each_nil {α : Type} (s : State) (g : State → α → State) : s.each [] g = s := rfl
@[simp] theorem State.each_cons {α : Type} (s : State) (a : α) (l : List α) (g : State → α → State) :
    s.each (a :: l) g = (g s a).each l g := rfl

end Sys2Proof.Machine
end

