-- ==== Sys2Proof/Laws/Memory.lean ====
section
/-! SUPPORT. What the operations over a memory keep: its canonical form (log entry 3). -/

namespace Sys2Proof.Machine

open Host

/-- Every address of the list lies at or above a bound. -/
def Memory.from (n : Nat) (m : List Cell) : Prop := ∀ c ∈ m, n ≤ c.1

/-- The canonical form of a list with a cell in front. -/
theorem Memory.wf_cons (k : Nat) (b : Byte) (m : List Cell) :
    Memory.wf ((k, b) :: m) = true ↔ b ≠ 0 ∧ Memory.from (k + 1) m ∧ Memory.wf m = true := by
  induction m generalizing k b with
  | nil => simp [Memory.wf, Memory.from]
  | cons c m ih =>
    obtain ⟨k', b'⟩ := c
    have h := ih k' b'
    simp only [Memory.wf, Bool.and_eq_true, bne_iff_ne, decide_eq_true_eq]
    constructor
    · rintro ⟨⟨h1, h2⟩, h3⟩
      refine ⟨h1, ?_, h3⟩
      intro c hc
      rcases List.mem_cons.mp hc with rfl | hc
      · exact h2
      · have := (h.mp h3).2.1 c hc; omega
    · rintro ⟨h1, h2, h3⟩
      exact ⟨⟨h1, h2 _ List.mem_cons_self⟩, h3⟩

theorem dramPut_from {n a : Nat} {b : Byte} {m : List Cell} (h : Memory.from n m) (ha : n ≤ a) :
    Memory.from n (dramPut m a b) := by
  induction m with
  | nil => simp only [dramPut]; split <;> simp [Memory.from, ha]
  | cons c m ih =>
    obtain ⟨k, v⟩ := c
    have hk : n ≤ k := h _ List.mem_cons_self
    have ht : Memory.from n m := fun c hc => h c (List.mem_cons_of_mem _ hc)
    have hi := ih ht
    simp only [dramPut]
    split
    · split
      · exact h
      · intro c hc; rcases List.mem_cons.mp hc with rfl | hc
        · exact ha
        · exact h c hc
    · split
      · split
        · exact ht
        · intro c hc; rcases List.mem_cons.mp hc with rfl | hc
          · exact hk
          · exact ht c hc
      · intro c hc; rcases List.mem_cons.mp hc with rfl | hc
        · exact hk
        · exact hi c hc

/-- Writing a byte keeps the canonical form. -/
theorem dramPut_wf {m : List Cell} (h : Memory.wf m = true) (a : Nat) (b : Byte) : Memory.wf (dramPut m a b) = true := by
  induction m with
  | nil => simp only [dramPut]; split <;> simp_all [Memory.wf]
  | cons c m ih =>
    obtain ⟨k, v⟩ := c
    obtain ⟨h1, h2, h3⟩ := (Memory.wf_cons k v m).mp h
    have hi := ih h3
    simp only [dramPut]
    split
    · split
      · exact h
      · rename_i hlt hb
        refine (Memory.wf_cons _ _ _).mpr ⟨hb, ?_, h⟩
        intro c hc; rcases List.mem_cons.mp hc with rfl | hc
        · exact hlt
        · have := h2 c hc; omega
    · split
      · split
        · exact h3
        · rename_i hb
          exact (Memory.wf_cons _ _ _).mpr ⟨hb, h2, h3⟩
      · exact (Memory.wf_cons _ _ _).mpr ⟨h1, dramPut_from h2 (by omega), hi⟩

/-- Writing bytes keeps the canonical form. -/
theorem dramWrite_wf {m : List Cell} (h : Memory.wf m = true) (a : Nat) (l : Bytes) : Memory.wf (dramWrite m a l) = true := by
  induction l generalizing m a with
  | nil => exact h
  | cons b l ih => exact ih (dramPut_wf h a b) (a + 1)

/-- Keeping some cells keeps the canonical form. -/
theorem Memory.filter_wf {m : List Cell} (h : Memory.wf m = true) (p : Cell → Bool) : Memory.wf (m.filter p) = true := by
  induction m with
  | nil => rfl
  | cons c m ih =>
    obtain ⟨k, v⟩ := c
    obtain ⟨h1, h2, h3⟩ := (Memory.wf_cons k v m).mp h
    rw [List.filter_cons]
    split
    · exact (Memory.wf_cons _ _ _).mpr ⟨h1, fun c hc => h2 c (List.mem_of_mem_filter hc), ih h3⟩
    · exact ih h3

/-- Clearing a range keeps the canonical form. -/
theorem clearRange_wf {m : List Cell} (h : Memory.wf m = true) (a n : Nat) : Memory.wf (clearRange m a n) = true :=
  Memory.filter_wf h _

/-- Writing cells one after another keeps the canonical form. -/
theorem dramPut_foldl_wf {m : List Cell} (h : Memory.wf m = true) (l : List Cell) (base : Nat) :
    Memory.wf (l.foldl (fun m c => dramPut m (base + c.1) c.2) m) = true := by
  induction l generalizing m with
  | nil => exact h
  | cons c l ih => exact ih (dramPut_wf h _ _)

/-- Below every listed address a memory reads 0. -/
theorem dramByte_from {n x : Nat} {m : List Cell} (h : Memory.from n m) (hx : x < n) : dramByte m x = 0 := by
  induction m with
  | nil => rfl
  | cons c m ih =>
    obtain ⟨k, v⟩ := c
    have hk : n ≤ k := h _ List.mem_cons_self
    simp only [dramByte]
    rw [if_neg (by omega)]
    exact ih fun c hc => h c (List.mem_cons_of_mem _ hc)

/-- One byte after a write of one byte. -/
theorem dramByte_dramPut {m : List Cell} (h : Memory.wf m = true) (a x : Nat) (b : Byte) :
    dramByte (dramPut m a b) x = if x = a then b else dramByte m x := by
  induction m with
  | nil =>
    simp only [dramPut]
    split
    · rename_i hb; simp [dramByte, hb]
    · simp [dramByte]
  | cons c m ih =>
    obtain ⟨k, v⟩ := c
    obtain ⟨-, h2, h3⟩ := (Memory.wf_cons k v m).mp h
    simp only [dramPut]
    split
    · rename_i hak
      split
      · rename_i hb
        by_cases hx : x = a
        · subst hx
          rw [if_pos rfl, hb]
          simp only [dramByte, if_neg (Nat.ne_of_lt hak)]
          exact dramByte_from h2 (by omega)
        · rw [if_neg hx]
      · simp only [dramByte]
    · split
      · rename_i hak; subst hak
        split
        · rename_i hb
          by_cases hx : x = a
          · subst hx; rw [if_pos rfl, hb]; exact dramByte_from h2 (by omega)
          · simp [dramByte, hx]
        · by_cases hx : x = a <;> simp [dramByte, hx]
      · rename_i hk1 hk2
        simp only [dramByte, ih h3]
        by_cases hx : x = k
        · subst hx; simp [Ne.symm hk2]
        · simp [hx]

end Sys2Proof.Machine
end

