-- ==== Sys2Proof/Laws/Kept.lean ====
section
/-! SUPPORT. What every operation of the model keeps: the queue of waiting commands, and the canonical form of every memory. The
lemmas of the operations, file by file, are in Laws/Kept*.lean. -/

namespace Sys2Proof.Machine

open Host

/-- Which memories an operation may change. -/
structure Writes where
  dram : Bool
  sram : Bool
  user : Bool
  deriving DecidableEq, Repr

/-- From one state to another the queue stays, canonical memories stay canonical, and a memory that may not change stays. -/
structure Kept (w : Writes) (s t : State) : Prop where
  queue : t.pending = s.pending
  memory : s.memoryCanonical → t.memoryCanonical
  dram : w.dram = false → t.dram = s.dram
  sram : w.sram = false → t.cpx.ram = s.cpx.ram
  user : w.user = false → t.kst.user = s.kst.user

variable {w : Writes}

theorem Kept.refl (s : State) : Kept w s s := ⟨rfl, id, fun _ => rfl, fun _ => rfl, fun _ => rfl⟩

/-- A state whose queue and memories are those of a state kept. -/
theorem Kept.of {s₀ s t : State} (h : Kept w s₀ s) (hp : t.pending = s.pending) (hd : t.dram = s.dram)
    (hr : t.cpx.ram = s.cpx.ram) (hu : t.kst.user = s.kst.user) : Kept w s₀ t :=
  ⟨hp.trans h.queue, fun w => by
    obtain ⟨h1, h2, h3⟩ := h.memory w
    exact ⟨hd ▸ h1, hr ▸ h2, hu ▸ h3⟩, fun e => hd.trans (h.dram e), fun e => hr.trans (h.sram e), fun e => hu.trans (h.user e)⟩

theorem Kept.ite {s₀ a b : State} {c : Prop} [Decidable c] (ha : Kept w s₀ a) (hb : Kept w s₀ b) : Kept w s₀ (if c then a else b) := by
  split <;> assumption

theorem Kept.fold {α : Type _} {s₀ s : State} {l : List α} {g : State → α → State} (h : Kept w s₀ s)
    (hg : ∀ s a, Kept w s₀ s → Kept w s₀ (g s a)) : Kept w s₀ (l.foldl g s) := by
  induction l generalizing s with
  | nil => exact h
  | cons a l ih => exact ih (hg s a h)

theorem Kept.each {α : Type} {s₀ s : State} {l : List α} {g : State → α → State} (h : Kept w s₀ s)
    (hg : ∀ s a, Kept w s₀ s → Kept w s₀ (g s a)) : Kept w s₀ (s.each l g) := Kept.fold h hg

/-- A state written out whose queue and device memory are those of a state kept, and whose other memories are its. -/
theorem Kept.lit {s₀ s : State} (h : Kept w s₀ s)
    {r1 r2 r3 r4 r5 r6 r7 r8 r9 kst r11 r12 r13 r14 r15 r16 r17 r18 r19 r20 r21 cpx r23 r24 r26 r27}
    (hc : cpx.ram = s.cpx.ram) (hk : kst.user = s.kst.user) :
    Kept w s₀ ⟨r1, r2, r3, r4, r5, r6, r7, r8, r9, kst, r11, r12, r13, r14, r15, r16, r17, r18, r19, r20, r21, cpx, r23, r24, s.dram, r26, r27, s.pending⟩ :=
  .of h rfl rfl hc hk

/-- What is kept may be assumed. -/
theorem Kept.gen {s₀ x : State} {Q : Prop} (h : Kept w s₀ x) (hq : Kept w s₀ x → Q) : Q := hq h

/-- The same where application SRAM and the integrator area are those of two other states kept. -/
theorem Kept.mix {s₀ s u v : State} (h : Kept w s₀ s) (hu : Kept w s₀ u) (hv : Kept w s₀ v)
    {r1 r2 r3 r4 r5 r6 r7 r8 r9 kst r11 r12 r13 r14 r15 r16 r17 r18 r19 r20 r21 cpx r23 r24 r26 r27}
    (hc : cpx.ram = u.cpx.ram) (hk : kst.user = v.kst.user) :
    Kept w s₀ ⟨r1, r2, r3, r4, r5, r6, r7, r8, r9, kst, r11, r12, r13, r14, r15, r16, r17, r18, r19, r20, r21, cpx, r23, r24, s.dram, r26, r27, s.pending⟩ :=
  ⟨h.queue, fun w => ⟨(h.memory w).1, hc ▸ (hu.memory w).2.1, hk ▸ (hv.memory w).2.2⟩, h.dram, fun e => hc.trans (hu.sram e),
    fun e => hk.trans (hv.user e)⟩

/-- Device memory alone changes. -/
theorem Kept.withDram {s₀ s t : State} {b c : Bool} (h : Kept ⟨true, b, c⟩ s₀ s) (hd : Memory.wf s.dram = true → Memory.wf t.dram = true) (hp : t.pending = s.pending)
    (hr : t.cpx.ram = s.cpx.ram) (hu : t.kst.user = s.kst.user) : Kept ⟨true, b, c⟩ s₀ t :=
  ⟨hp.trans h.queue, fun w => by
    obtain ⟨h1, h2, h3⟩ := h.memory w
    exact ⟨hd h1, hr ▸ h2, hu ▸ h3⟩, fun e => (nomatch e), fun e => hr.trans (h.sram e), fun e => hu.trans (h.user e)⟩

/-- Application SRAM alone changes. -/
theorem Kept.withRam {s₀ s t : State} {b c : Bool} (h : Kept ⟨b, true, c⟩ s₀ s) (hr : Memory.wf s.cpx.ram = true → Memory.wf t.cpx.ram = true) (hp : t.pending = s.pending)
    (hd : t.dram = s.dram) (hu : t.kst.user = s.kst.user) : Kept ⟨b, true, c⟩ s₀ t :=
  ⟨hp.trans h.queue, fun w => by
    obtain ⟨h1, h2, h3⟩ := h.memory w
    exact ⟨hd ▸ h1, hr h2, hu ▸ h3⟩, fun e => hd.trans (h.dram e), fun e => (nomatch e), fun e => hu.trans (h.user e)⟩

/-- The integrator area alone changes. -/
theorem Kept.withUser {s₀ s t : State} {b c : Bool} (h : Kept ⟨b, c, true⟩ s₀ s) (hu : Memory.wf s.kst.user = true → Memory.wf t.kst.user = true) (hp : t.pending = s.pending)
    (hd : t.dram = s.dram) (hr : t.cpx.ram = s.cpx.ram) : Kept ⟨b, c, true⟩ s₀ t :=
  ⟨hp.trans h.queue, fun w => by
    obtain ⟨h1, h2, h3⟩ := h.memory w
    exact ⟨hd ▸ h1, hr ▸ h2, hu h3⟩, fun e => hd.trans (h.dram e), fun e => hr.trans (h.sram e), fun e => (nomatch e)⟩

/-- The outcome is a next state that keeps the queue and the memories. -/
def Answers (w : Writes) (s₀ : State) (r : Res) : Prop := ∃ t, r = .next t ∧ Kept w s₀ t

theorem Answers.next {s₀ t : State} (h : Kept w s₀ t) : Answers w s₀ (.next t) := ⟨t, rfl, h⟩

theorem Answers.idle {s₀ s : State} (h : Kept w s₀ s) : Answers w s₀ s.idle := ⟨s, rfl, h⟩

theorem Answers.ite {s₀ : State} {a b : Res} {c : Prop} [Decidable c] (ha : Answers w s₀ a) (hb : Answers w s₀ b) :
    Answers w s₀ (if c then a else b) := by
  split <;> assumption

end Sys2Proof.Machine
end

