-- ==== Sys2Proof/Laws/KeptOps.lean ====
section
/-! SUPPORT. What the shared operations keep. -/

namespace Sys2Proof.Machine

open Host

set_option linter.unusedTactic false
set_option linter.unreachableTactic false

variable {s₀ : State} {wd wr wu : Bool}

/-! ## Machine/Ops.lean -/

theorem State.put_kept (s : State) (f : Fld) (v : Nat) (hk : Kept ⟨wd, wr, wu⟩ s₀ s) : Kept ⟨wd, wr, wu⟩ s₀ (State.put s f v) := by
  unfold State.put
  with_reducible repeat' first
    | assumption | fail_if_no_progress (apply Kept.lit; rotate_left; with_unfolding_all rfl; with_unfolding_all rfl)

theorem State.putAll_kept (s : State) (l : List (Fld × Nat)) (hk : Kept ⟨wd, wr, wu⟩ s₀ s) : Kept ⟨wd, wr, wu⟩ s₀ (State.putAll s l) := by
  unfold State.putAll
  with_reducible repeat' first
    | assumption | fail_if_no_progress (apply Kept.lit; rotate_left; with_unfolding_all rfl; with_unfolding_all rfl)

theorem State.count_kept (s : State) (f : Fld) (n : Nat) (hk : Kept ⟨wd, wr, wu⟩ s₀ s) : Kept ⟨wd, wr, wu⟩ s₀ (State.count s f n) := by
  unfold State.count
  with_reducible repeat' first
    | assumption | apply State.put_kept

theorem State.raise_kept (s : State) (f : Fld) (n : Nat) (hk : Kept ⟨wd, wr, wu⟩ s₀ s) : Kept ⟨wd, wr, wu⟩ s₀ (State.raise s f n) := by
  unfold State.raise
  with_reducible repeat' first
    | assumption | apply State.put_kept

theorem State.putPair_kept (s : State) (lo hi : Fld) (n : Nat) (hk : Kept ⟨wd, wr, wu⟩ s₀ s) : Kept ⟨wd, wr, wu⟩ s₀ (State.putPair s lo hi n) := by
  unfold State.putPair
  with_reducible repeat' first
    | assumption | apply State.put_kept

theorem State.tick_kept (s : State) (hk : Kept ⟨wd, wr, wu⟩ s₀ s) : Kept ⟨wd, wr, wu⟩ s₀ (State.tick s) := by
  unfold State.tick
  with_reducible repeat' first
    | assumption | fail_if_no_progress (apply Kept.lit; rotate_left; with_unfolding_all rfl; with_unfolding_all rfl)

theorem State.freeBytes_kept (s : State) (n : Nat) (hk : Kept ⟨wd, wr, wu⟩ s₀ s) : Kept ⟨wd, wr, wu⟩ s₀ (State.freeBytes s n).2 := by
  unfold State.freeBytes
  with_reducible repeat' first
    | intro _ | assumption | apply Kept.ite
    | fail_if_no_progress (apply Kept.lit; rotate_left; with_unfolding_all rfl; with_unfolding_all rfl)

theorem State.putFree_kept (s : State) (f : Fld) (hk : Kept ⟨wd, wr, wu⟩ s₀ s) : Kept ⟨wd, wr, wu⟩ s₀ (State.putFree s f) := by
  unfold State.putFree
  with_reducible repeat' first
    | assumption | apply State.put_kept | apply State.tick_kept

theorem State.raiseFree_kept (s : State) (f : Fld) (hk : Kept ⟨wd, wr, wu⟩ s₀ s) : Kept ⟨wd, wr, wu⟩ s₀ (State.raiseFree s f) := by
  unfold State.raiseFree
  with_reducible repeat' first
    | intro _ | assumption | apply State.raise_kept | apply State.tick_kept | apply Kept.ite

theorem State.emit_kept (s : State) (o : Out) (hk : Kept ⟨wd, wr, wu⟩ s₀ s) : Kept ⟨wd, wr, wu⟩ s₀ (State.emit s o) := by
  unfold State.emit
  with_reducible repeat' first
    | assumption | fail_if_no_progress (apply Kept.lit; rotate_left; with_unfolding_all rfl; with_unfolding_all rfl)

theorem State.setLd_kept (s : State) (ld : Nat) (d : LdState) (hk : Kept ⟨wd, wr, wu⟩ s₀ s) : Kept ⟨wd, wr, wu⟩ s₀ (State.setLd s ld d) := by
  unfold State.setLd
  with_reducible repeat' first
    | assumption | apply Kept.ite
    | fail_if_no_progress (apply Kept.lit; rotate_left; with_unfolding_all rfl; with_unfolding_all rfl)

theorem State.signal_kept (s : State) (ld : Fin 16) (vector : Nat) (hk : Kept ⟨wd, wr, wu⟩ s₀ s) : Kept ⟨wd, wr, wu⟩ s₀ (State.signal s ld vector) := by
  unfold State.signal
  with_reducible repeat' first
    | assumption | apply State.emit_kept | apply Kept.ite

theorem State.signalAll_kept (s : State) (vector : Nat) (hk : Kept ⟨wd, wr, wu⟩ s₀ s) : Kept ⟨wd, wr, wu⟩ s₀ (State.signalAll s vector) := by
  unfold State.signalAll
  with_reducible repeat' first
    | intro _ | assumption | apply State.signal_kept | apply Kept.ite | apply Kept.each

theorem State.writeRegions_kept (s : State) (after : RegionEnd) (hk : Kept ⟨wd, wr, wu⟩ s₀ s) :
    Kept ⟨wd, wr, wu⟩ s₀ (State.writeRegions s after) := by
  unfold State.writeRegions
  with_reducible repeat' first
    | intro _ | assumption | apply Kept.ite
    | fail_if_no_progress (apply Kept.lit; rotate_left; with_unfolding_all rfl; with_unfolding_all rfl)

theorem State.cxlLog_kept (s : State) (log : Nat) (r : EvRecord) (lds : List (Fin 16)) (hk : Kept ⟨wd, wr, wu⟩ s₀ s) :
    Kept ⟨wd, wr, wu⟩ s₀ (State.cxlLog s log r lds) := by
  unfold State.cxlLog
  with_reducible repeat' first
    | (intro x; refine Kept.gen (w := ⟨wd, wr, wu⟩) (s₀ := s₀) (x := x) ?_ ?_; rotate_left; clear_value x; rotate_left; subst x) | (intro x; subst x)
    | intro _ | lift_lets | assumption | apply State.setLd_kept | apply State.put_kept | apply State.signal_kept
    | apply Kept.ite | apply Kept.each
    | fail_if_no_progress (apply Kept.lit; rotate_left; with_unfolding_all rfl; with_unfolding_all rfl)

theorem State.recorderInterrupt_kept (s : State) (hk : Kept ⟨wd, wr, wu⟩ s₀ s) : Kept ⟨wd, wr, wu⟩ s₀ (State.recorderInterrupt s) := by
  unfold State.recorderInterrupt
  with_reducible repeat' first
    | (intro x; refine Kept.gen (w := ⟨wd, wr, wu⟩) (s₀ := s₀) (x := x) ?_ ?_; rotate_left; clear_value x; rotate_left; subst x) | (intro x; subst x)
    | intro _ | lift_lets | assumption | apply State.emit_kept | apply Kept.ite

theorem State.place_kept (s : State) (r : EvRecord) (priv : Bool) (tied : Option (Fin 16)) (hk : Kept ⟨wd, wr, wu⟩ s₀ s) :
    Kept ⟨wd, wr, wu⟩ s₀ (State.place s r priv tied) := by
  unfold State.place
  with_reducible repeat' first
    | (intro x; refine Kept.gen (w := ⟨wd, wr, wu⟩) (s₀ := s₀) (x := x) ?_ ?_; rotate_left; clear_value x; rotate_left; subst x) | (intro x; subst x)
    | intro _ | lift_lets | assumption | apply State.count_kept | apply State.recorderInterrupt_kept | apply State.cxlLog_kept
    | apply State.signal_kept | apply Kept.ite | apply Kept.each
    | fail_if_no_progress (apply Kept.lit; rotate_left; with_unfolding_all rfl; with_unfolding_all rfl) | split

theorem State.newRecord_kept (s : State) (src : Source) (code data : Nat) (tied : Option (Fin 16)) (hk : Kept ⟨wd, wr, wu⟩ s₀ s) :
    Kept ⟨wd, wr, wu⟩ s₀ (State.newRecord s src code data tied) := by
  unfold State.newRecord
  with_reducible repeat' first
    | (intro x; refine Kept.gen (w := ⟨wd, wr, wu⟩) (s₀ := s₀) (x := x) ?_ ?_; rotate_left; clear_value x; rotate_left; subst x) | (intro x; subst x)
    | intro _ | lift_lets | assumption | apply State.count_kept | apply State.tick_kept | apply State.place_kept | apply Kept.ite
    | fail_if_no_progress (apply Kept.lit; rotate_left; with_unfolding_all rfl; with_unfolding_all rfl)

theorem State.recordNow_kept (s : State) (src : Source) (code data : Nat) (tied : Option (Fin 16)) (hk : Kept ⟨wd, wr, wu⟩ s₀ s) :
    Kept ⟨wd, wr, wu⟩ s₀ (State.recordNow s src code data tied) := by
  unfold State.recordNow
  with_reducible repeat' first
    | intro _ | assumption | apply State.newRecord_kept | apply Kept.ite
    | fail_if_no_progress (apply Kept.lit; rotate_left; with_unfolding_all rfl; with_unfolding_all rfl) | split

theorem State.recordFor_kept (s : State) (src : Source) (code : Nat) (vals : List (Nat × Nat)) (tied : Option (Fin 16)) (hk : Kept ⟨wd, wr, wu⟩ s₀ s) :
    Kept ⟨wd, wr, wu⟩ s₀ (State.recordFor s src code vals tied) := by
  unfold State.recordFor
  with_reducible repeat' first
    | (intro x; refine Kept.gen (w := ⟨wd, wr, wu⟩) (s₀ := s₀) (x := x) ?_ ?_; rotate_left; clear_value x; rotate_left; subst x) | (intro x; subst x)
    | intro _ | lift_lets | assumption | apply State.recordNow_kept | apply Kept.ite
    | fail_if_no_progress (apply Kept.lit; rotate_left; with_unfolding_all rfl; with_unfolding_all rfl)

theorem State.recordDeferred_kept (s : State) (hk : Kept ⟨wd, wr, wu⟩ s₀ s) : Kept ⟨wd, wr, wu⟩ s₀ (State.recordDeferred s) := by
  unfold State.recordDeferred
  with_reducible repeat' first
    | intro _ | assumption | apply State.recordNow_kept | apply Kept.ite | apply Kept.each
    | fail_if_no_progress (apply Kept.lit; rotate_left; with_unfolding_all rfl; with_unfolding_all rfl)

theorem State.record_kept (s : State) (src : Source) (code : Nat) (vals : List (Nat × Nat)) (hk : Kept ⟨wd, wr, wu⟩ s₀ s) :
    Kept ⟨wd, wr, wu⟩ s₀ (State.record s src code vals) := by
  unfold State.record
  with_reducible repeat' first
    | assumption | apply State.recordFor_kept

theorem State.setReady_kept (s : State) (f : Fld) (v : Bool) (hk : Kept ⟨wd, wr, wu⟩ s₀ s) : Kept ⟨wd, wr, wu⟩ s₀ (State.setReady s f v) := by
  unfold State.setReady
  with_reducible repeat' first
    | (intro x; refine Kept.gen (w := ⟨wd, wr, wu⟩) (s₀ := s₀) (x := x) ?_ ?_; rotate_left; clear_value x; rotate_left; subst x) | (intro x; subst x)
    | intro _ | lift_lets | assumption | apply State.put_kept | apply State.record_kept | apply State.signalAll_kept
    | apply Kept.ite | fail_if_no_progress (apply Kept.lit; rotate_left; with_unfolding_all rfl; with_unfolding_all rfl)

theorem State.enter_kept (s : State) (p : Nat) (hk : Kept ⟨wd, wr, wu⟩ s₀ s) : Kept ⟨wd, wr, wu⟩ s₀ (State.enter s p) := by
  unfold State.enter
  with_reducible repeat' first
    | assumption | apply State.put_kept | apply Kept.ite

theorem State.writeLatest_kept (s : State) (w : RecWrite) (hk : Kept ⟨wd, wr, wu⟩ s₀ s) : Kept ⟨wd, wr, wu⟩ s₀ (State.writeLatest s w) := by
  unfold State.writeLatest
  with_reducible repeat' first
    | (intro x; refine Kept.gen (w := ⟨wd, wr, wu⟩) (s₀ := s₀) (x := x) ?_ ?_; rotate_left; clear_value x; rotate_left; subst x) | (intro x; subst x)
    | intro _ | lift_lets | assumption | apply State.record_kept | apply Kept.ite
    | fail_if_no_progress (apply Kept.lit; rotate_left; with_unfolding_all rfl; with_unfolding_all rfl)

theorem State.writeLearned_kept (s : State) (hk : Kept ⟨wd, wr, wu⟩ s₀ s) : Kept ⟨wd, wr, wu⟩ s₀ (State.writeLearned s) := by
  unfold State.writeLearned
  with_reducible repeat' first
    | intro _ | assumption | apply State.writeLatest_kept | apply Kept.ite

theorem State.endSession_kept (s : State) (last : Nat) (hk : Kept ⟨wd, wr, wu⟩ s₀ s) : Kept ⟨wd, wr, wu⟩ s₀ (State.endSession s last) := by
  unfold State.endSession
  with_reducible repeat' first
    | assumption | apply State.putAll_kept

theorem State.abandonSession_kept (s : State) (last : Nat) (hk : Kept ⟨wd, wr, wu⟩ s₀ s) : Kept ⟨wd, wr, wu⟩ s₀ (State.abandonSession s last) := by
  unfold State.abandonSession
  with_reducible repeat' first
    | assumption | apply State.endSession_kept | apply State.record_kept | apply Kept.ite

theorem State.strikeUnit_kept (s : State) (u sev : Nat) (brief : Bool) (hk : Kept ⟨wd, wr, wu⟩ s₀ s) :
    Kept ⟨wd, wr, wu⟩ s₀ (State.strikeUnit s u sev brief) := by
  unfold State.strikeUnit
  with_reducible repeat' first
    | (intro x; refine Kept.gen (w := ⟨wd, wr, wu⟩) (s₀ := s₀) (x := x) ?_ ?_; rotate_left; clear_value x; rotate_left; subst x) | (intro x; subst x)
    | intro _ | lift_lets | assumption | apply State.record_kept | apply State.put_kept | apply State.abandonSession_kept
    | apply Kept.ite | fail_if_no_progress (apply Kept.lit; rotate_left; with_unfolding_all rfl; with_unfolding_all rfl)
    | split

theorem State.raiseFault_kept (s : State) (u sev : Nat) (hk : Kept ⟨wd, wr, wu⟩ s₀ s) : Kept ⟨wd, wr, wu⟩ s₀ (State.raiseFault s u sev) := by
  unfold State.raiseFault
  with_reducible repeat' first
    | intro _ | assumption | apply State.strikeUnit_kept | apply Kept.ite

theorem State.strike_kept (s : State) (u sev : Nat) (hk : Kept ⟨wd, wr, wu⟩ s₀ s) : Kept ⟨wd, wr, wu⟩ s₀ (State.strike s u sev) := by
  unfold State.strike
  with_reducible repeat' first
    | intro _ | assumption | apply State.strikeUnit_kept | apply Kept.ite

theorem State.endFault_kept (s : State) (u : Nat) (hk : Kept ⟨wd, wr, wu⟩ s₀ s) : Kept ⟨wd, wr, wu⟩ s₀ (State.endFault s u) := by
  unfold State.endFault
  with_reducible repeat' first
    | intro _ | assumption | apply Kept.ite
    | fail_if_no_progress (apply Kept.lit; rotate_left; with_unfolding_all rfl; with_unfolding_all rfl) | split

theorem State.chainSend_kept (s : State) (down relayed : Bool) (pk : Bytes) (hk : Kept ⟨wd, wr, wu⟩ s₀ s) :
    Kept ⟨wd, wr, wu⟩ s₀ (State.chainSend s down relayed pk) := by
  unfold State.chainSend
  with_reducible repeat' first
    | (intro x; refine Kept.gen (w := ⟨wd, wr, wu⟩) (s₀ := s₀) (x := x) ?_ ?_; rotate_left; clear_value x; rotate_left; subst x) | (intro x; subst x)
    | intro _ | lift_lets | assumption | apply State.count_kept | apply State.emit_kept | apply Kept.ite
    | fail_if_no_progress (apply Kept.lit; rotate_left; with_unfolding_all rfl; with_unfolding_all rfl)

theorem State.dropTwiReply_kept (s : State) (hk : Kept ⟨wd, wr, wu⟩ s₀ s) : Kept ⟨wd, wr, wu⟩ s₀ (State.dropTwiReply s) := by
  unfold State.dropTwiReply
  with_reducible repeat' first
    | (intro x; refine Kept.gen (w := ⟨wd, wr, wu⟩) (s₀ := s₀) (x := x) ?_ ?_; rotate_left; clear_value x; rotate_left; subst x) | (intro x; subst x)
    | intro _ | lift_lets | assumption | apply State.count_kept | apply Kept.ite
    | fail_if_no_progress (apply Kept.lit; rotate_left; with_unfolding_all rfl; with_unfolding_all rfl)

theorem State.reply_kept (s : State) (port : Port) (opcode : Nat) (tag : BitVec 32) (status dist : Nat) (payload : Bytes) (hk : Kept ⟨wd, wr, wu⟩ s₀ s) :
    Kept ⟨wd, wr, wu⟩ s₀ (State.reply s port opcode tag status dist payload) := by
  unfold State.reply
  with_reducible repeat' first
    | (intro x; refine Kept.gen (w := ⟨wd, wr, wu⟩) (s₀ := s₀) (x := x) ?_ ?_; rotate_left; clear_value x; rotate_left; subst x) | (intro x; subst x)
    | intro _ | lift_lets | assumption | apply State.emit_kept | apply State.dropTwiReply_kept | apply State.chainSend_kept
    | apply Kept.ite | fail_if_no_progress (apply Kept.lit; rotate_left; with_unfolding_all rfl; with_unfolding_all rfl) | split

theorem State.notifyPort_kept (s : State) (port : Port) (opcode : Nat) (tag : BitVec 32) (status dist : Nat) (result : Bytes) (hk : Kept ⟨wd, wr, wu⟩ s₀ s) :
    Kept ⟨wd, wr, wu⟩ s₀ (State.notifyPort s port opcode tag status dist result) := by
  unfold State.notifyPort
  with_reducible repeat' first
    | (intro x; refine Kept.gen (w := ⟨wd, wr, wu⟩) (s₀ := s₀) (x := x) ?_ ?_; rotate_left; clear_value x; rotate_left; subst x) | (intro x; subst x)
    | intro _ | lift_lets | assumption | apply State.emit_kept | apply State.signal_kept | apply State.chainSend_kept
    | apply Kept.ite | fail_if_no_progress (apply Kept.lit; rotate_left; with_unfolding_all rfl; with_unfolding_all rfl) | split

theorem State.dropResult_kept (s : State) (port : Port) (tag : BitVec 32) (hk : Kept ⟨wd, wr, wu⟩ s₀ s) :
    Kept ⟨wd, wr, wu⟩ s₀ (State.dropResult s port tag) := by
  unfold State.dropResult
  with_reducible repeat' first
    | intro _ | assumption | fail_if_no_progress (apply Kept.lit; rotate_left; with_unfolding_all rfl; with_unfolding_all rfl)

theorem State.notExecuting_kept (s : State) (port : Port) (tag : BitVec 32) (hk : Kept ⟨wd, wr, wu⟩ s₀ s) :
    Kept ⟨wd, wr, wu⟩ s₀ (State.notExecuting s port tag) := by
  unfold State.notExecuting
  with_reducible repeat' first
    | intro _ | assumption | fail_if_no_progress (apply Kept.lit; rotate_left; with_unfolding_all rfl; with_unfolding_all rfl)

theorem State.complete_kept (s : State) (port : Port) (tag : BitVec 32) (status : Nat) (result : Bytes) (hk : Kept ⟨wd, wr, wu⟩ s₀ s) :
    Kept ⟨wd, wr, wu⟩ s₀ (State.complete s port tag status result) := by
  unfold State.complete
  with_reducible repeat' first
    | (intro x; refine Kept.gen (w := ⟨wd, wr, wu⟩) (s₀ := s₀) (x := x) ?_ ?_; rotate_left; clear_value x; rotate_left; subst x) | (intro x; subst x)
    | intro _ | lift_lets | assumption | apply State.notExecuting_kept | apply State.dropResult_kept | apply State.notifyPort_kept
    | apply State.reply_kept | apply Kept.ite
    | fail_if_no_progress (apply Kept.lit; rotate_left; with_unfolding_all rfl; with_unfolding_all rfl) | split

theorem State.completeCode_kept (s : State) (origin : Option (Port × BitVec 32)) (status : Nat) (result : Bytes) (hk : Kept ⟨wd, wr, wu⟩ s₀ s) :
    Kept ⟨wd, wr, wu⟩ s₀ (State.completeCode s origin status result) := by
  unfold State.completeCode
  with_reducible repeat' first
    | intro _ | assumption | apply State.complete_kept | apply Kept.ite | split

theorem State.completeFor_kept (s : State) (origin : Option (Port × BitVec 32)) (status : Status) (result : Bytes) (hk : Kept ⟨wd, wr, wu⟩ s₀ s) :
    Kept ⟨wd, wr, wu⟩ s₀ (State.completeFor s origin status result) := by
  unfold State.completeFor
  with_reducible repeat' first
    | intro _ | assumption | apply State.completeCode_kept | apply Kept.ite

theorem State.acceptReply_kept (s : State) (op : Nat) (port : Port) (tag : BitVec 32) (dist : Nat) (hk : Kept ⟨wd, wr, wu⟩ s₀ s) :
    Kept ⟨wd, wr, wu⟩ s₀ (State.acceptReply s op port tag dist) := by
  unfold State.acceptReply
  with_reducible repeat' first
    | assumption | apply State.reply_kept
    | fail_if_no_progress (apply Kept.lit; rotate_left; with_unfolding_all rfl; with_unfolding_all rfl)

theorem State.acceptLate_kept (s : State) (port : Port) (tag : BitVec 32) (hk : Kept ⟨wd, wr, wu⟩ s₀ s) :
    Kept ⟨wd, wr, wu⟩ s₀ (State.acceptLate s port tag) := by
  unfold State.acceptLate
  with_reducible repeat' first
    | intro _ | assumption | apply State.acceptReply_kept | apply Kept.ite | split

/-! ## Machine/Journal.lean -/

theorem State.putJournal_kept (s : State) (j : Nat) (l : List JrnlSector) (hk : Kept ⟨wd, wr, wu⟩ s₀ s) :
    Kept ⟨wd, wr, wu⟩ s₀ (State.putJournal s j l) := by
  unfold State.putJournal
  exact hk.of rfl rfl rfl (by dsimp only; split <;> rfl)

theorem State.appendEntry_kept (s : State) (j kind sector : Nat) (hk : Kept ⟨wd, wr, wu⟩ s₀ s) :
    Kept ⟨wd, wr, wu⟩ s₀ (State.appendEntry s j kind sector) := by
  unfold State.appendEntry
  with_reducible repeat' first
    | (intro x; refine Kept.gen (w := ⟨wd, wr, wu⟩) (s₀ := s₀) (x := x) ?_ ?_; rotate_left; clear_value x; rotate_left; subst x) | (intro x; subst x)
    | intro _ | lift_lets | assumption | apply State.putJournal_kept | apply Kept.ite
    | fail_if_no_progress (apply Kept.lit; rotate_left; with_unfolding_all rfl; with_unfolding_all rfl) | split

theorem State.tidyJournals_kept (fuel : Nat) (s : State) (hk : Kept ⟨wd, wr, wu⟩ s₀ s) : Kept ⟨wd, wr, wu⟩ s₀ (State.tidyJournals fuel s) := by
  induction fuel generalizing s with
  | zero => exact hk
  | succ fuel ih =>
    unfold State.tidyJournals
    split
    · exact hk
    · split
      · exact hk
      · exact ih _ (State.appendEntry_kept _ _ _ _ (State.putJournal_kept _ _ _ (State.appendEntry_kept _ _ _ _ hk)))

theorem State.journalErase_kept (s : State) (kind sector : Nat) (hk : Kept ⟨wd, wr, wu⟩ s₀ s) :
    Kept ⟨wd, wr, wu⟩ s₀ (State.journalErase s kind sector) := by
  unfold State.journalErase
  with_reducible repeat' first
    | intro _ | assumption | apply State.tidyJournals_kept | apply State.appendEntry_kept | apply Kept.ite

theorem State.journalSectors_kept (s : State) (l : List Nat) (hk : Kept ⟨wd, wr, wu⟩ s₀ s) : Kept ⟨wd, wr, wu⟩ s₀ (State.journalSectors s l) := by
  unfold State.journalSectors
  with_reducible repeat' first
    | intro _ | assumption | apply State.journalErase_kept | apply Kept.ite | apply Kept.each

theorem State.writeCopy_kept (s : State) (rec : Nat) (ok : Bool) (hk : Kept ⟨wd, wr, wu⟩ s₀ s) : Kept ⟨wd, wr, wu⟩ s₀ (State.writeCopy s rec ok) := by
  unfold State.writeCopy
  with_reducible repeat' first
    | (intro x; refine Kept.gen (w := ⟨wd, wr, wu⟩) (s₀ := s₀) (x := x) ?_ ?_; rotate_left; clear_value x; rotate_left; subst x) | (intro x; subst x)
    | intro _ | lift_lets | assumption | apply Kept.ite
    | fail_if_no_progress (apply Kept.lit; rotate_left; with_unfolding_all rfl; with_unfolding_all rfl)

theorem State.endRetry_kept (s : State) (rec : Nat) (hk : Kept ⟨wd, wr, wu⟩ s₀ s) : Kept ⟨wd, wr, wu⟩ s₀ (State.endRetry s rec) := by
  unfold State.endRetry
  with_reducible repeat' first
    | intro _ | assumption | apply State.endFault_kept | apply Kept.ite

theorem State.endUpdate_kept (s : State) (st : Status) (hk : Kept ⟨wd, wr, wu⟩ s₀ s) : Kept ⟨wd, wr, wu⟩ s₀ (State.endUpdate s st) := by
  unfold State.endUpdate
  with_reducible repeat' first
    | (intro x; refine Kept.gen (w := ⟨wd, wr, wu⟩) (s₀ := s₀) (x := x) ?_ ?_; rotate_left; clear_value x; rotate_left; subst x) | (intro x; subst x)
    | intro _ | lift_lets | assumption | apply State.put_kept | apply State.record_kept | apply State.completeFor_kept
    | fail_if_no_progress (apply Kept.lit; rotate_left; with_unfolding_all rfl; with_unfolding_all rfl)

theorem State.withoutMark_kept (s : State) (hk : Kept ⟨wd, wr, wu⟩ s₀ s) : Kept ⟨wd, wr, wu⟩ s₀ (State.withoutMark s) := by
  unfold State.withoutMark
  with_reducible repeat' first
    | (intro x; refine Kept.gen (w := ⟨wd, wr, wu⟩) (s₀ := s₀) (x := x) ?_ ?_; rotate_left; clear_value x; rotate_left; subst x) | (intro x; subst x)
    | intro _ | lift_lets | assumption | apply State.endRetry_kept | apply Kept.ite
    | fail_if_no_progress (apply Kept.lit; rotate_left; with_unfolding_all rfl; with_unfolding_all rfl)

/-! ## Machine/SaveSet.lean -/

theorem State.poisonLine_kept (s : State) (line : Nat) (hk : Kept ⟨wd, wr, wu⟩ s₀ s) : Kept ⟨wd, wr, wu⟩ s₀ (State.poisonLine s line) := by
  unfold State.poisonLine
  with_reducible repeat' first
    | assumption | fail_if_no_progress (apply Kept.lit; rotate_left; with_unfolding_all rfl; with_unfolding_all rfl)

theorem State.cleanLine_kept (s : State) (line : Nat) (hk : Kept ⟨wd, wr, wu⟩ s₀ s) : Kept ⟨wd, wr, wu⟩ s₀ (State.cleanLine s line) := by
  unfold State.cleanLine
  with_reducible repeat' first
    | intro _ | assumption | apply Kept.ite
    | fail_if_no_progress (apply Kept.lit; rotate_left; with_unfolding_all rfl; with_unfolding_all rfl)

theorem State.cleanPage_kept (s : State) (page : Nat) (hk : Kept ⟨wd, wr, wu⟩ s₀ s) : Kept ⟨wd, wr, wu⟩ s₀ (State.cleanPage s page) := by
  unfold State.cleanPage
  with_reducible repeat' first
    | intro _ | assumption | apply Kept.ite
    | fail_if_no_progress (apply Kept.lit; rotate_left; with_unfolding_all rfl; with_unfolding_all rfl)

theorem State.putPage_kept (s : State) (page : Nat) (p : PageImage) (hk : Kept ⟨true, wr, wu⟩ s₀ s) : Kept ⟨true, wr, wu⟩ s₀ (State.putPage s page p) := by
  unfold State.putPage
  exact hk.withDram (fun w => dramPut_foldl_wf (clearRange_wf w _ _) _ _) rfl rfl rfl

/-! ## Machine/Banks.lean -/

theorem State.showBanks_kept (s : State) (channels : List Nat) (d : Dmc) (hk : Kept ⟨wd, wr, wu⟩ s₀ s) :
    Kept ⟨wd, wr, wu⟩ s₀ (State.showBanks s channels d) := by
  unfold State.showBanks
  with_reducible repeat' first
    | intro _ | assumption | apply State.put_kept | apply State.count_kept | apply Kept.ite | apply Kept.each
    | fail_if_no_progress (apply Kept.lit; rotate_left; with_unfolding_all rfl; with_unfolding_all rfl)

theorem State.arriveAll_kept (s : State) (l : List DmcReq) (hk : Kept ⟨wd, wr, wu⟩ s₀ s) : Kept ⟨wd, wr, wu⟩ s₀ (State.arriveAll s l) := by
  unfold State.arriveAll
  with_reducible repeat' first
    | (intro x; refine Kept.gen (w := ⟨wd, wr, wu⟩) (s₀ := s₀) (x := x) ?_ ?_; rotate_left; clear_value x; rotate_left; subst x) | (intro x; subst x)
    | intro _ | lift_lets | assumption | apply State.showBanks_kept | apply Kept.ite | apply Kept.fold
    | fail_if_no_progress (apply Kept.lit; rotate_left; with_unfolding_all rfl; with_unfolding_all rfl)

theorem State.accessLines_kept (s : State) (lines : List Nat) (id : Nat) (copy write : Bool) (hk : Kept ⟨wd, wr, wu⟩ s₀ s) :
    Kept ⟨wd, wr, wu⟩ s₀ (State.accessLines s lines id copy write) := by
  unfold State.accessLines
  with_reducible repeat' first
    | (intro x; refine Kept.gen (w := ⟨wd, wr, wu⟩) (s₀ := s₀) (x := x) ?_ ?_; rotate_left; clear_value x; rotate_left; subst x) | (intro x; subst x)
    | intro _ | lift_lets | assumption | apply State.arriveAll_kept | apply Kept.ite | apply Kept.fold
    | fail_if_no_progress (apply Kept.lit; rotate_left; with_unfolding_all rfl; with_unfolding_all rfl)

theorem State.access_kept (s : State) (dpa id : Nat) (copy write : Bool) (hk : Kept ⟨wd, wr, wu⟩ s₀ s) :
    Kept ⟨wd, wr, wu⟩ s₀ (State.access s dpa id copy write) := by
  unfold State.access
  with_reducible repeat' first
    | intro _ | assumption | apply State.accessLines_kept | apply Kept.ite

theorem State.accessPage_kept (s : State) (dpa id : Nat) (copy write : Bool) (hk : Kept ⟨wd, wr, wu⟩ s₀ s) :
    Kept ⟨wd, wr, wu⟩ s₀ (State.accessPage s dpa id copy write) := by
  unfold State.accessPage
  with_reducible repeat' first
    | intro _ | assumption | apply State.accessLines_kept | apply Kept.ite

theorem State.quiet_kept (s : State) (c : Nat) (hk : Kept ⟨wd, wr, wu⟩ s₀ s) : Kept ⟨wd, wr, wu⟩ s₀ (State.quiet s c) := by
  unfold State.quiet
  with_reducible repeat' first
    | (intro x; refine Kept.gen (w := ⟨wd, wr, wu⟩) (s₀ := s₀) (x := x) ?_ ?_; rotate_left; clear_value x; rotate_left; subst x) | (intro x; subst x)
    | intro _ | lift_lets | assumption | apply State.showBanks_kept | apply Kept.ite

theorem State.closeRows_kept (s : State) (p : Nat → OpenRow → Bool) (hk : Kept ⟨wd, wr, wu⟩ s₀ s) : Kept ⟨wd, wr, wu⟩ s₀ (State.closeRows s p) := by
  unfold State.closeRows
  with_reducible repeat' first
    | intro _ | assumption | apply Kept.ite
    | fail_if_no_progress (apply Kept.lit; rotate_left; with_unfolding_all rfl; with_unfolding_all rfl)

theorem State.issueRefresh_kept (s : State) (c rank bank : Nat) (hk : Kept ⟨wd, wr, wu⟩ s₀ s) :
    Kept ⟨wd, wr, wu⟩ s₀ (State.issueRefresh s c rank bank) := by
  unfold State.issueRefresh
  with_reducible repeat' first
    | (intro x; refine Kept.gen (w := ⟨wd, wr, wu⟩) (s₀ := s₀) (x := x) ?_ ?_; rotate_left; clear_value x; rotate_left; subst x) | (intro x; subst x)
    | intro _ | lift_lets | assumption | apply State.closeRows_kept | apply Kept.ite
    | fail_if_no_progress (apply Kept.lit; rotate_left; with_unfolding_all rfl; with_unfolding_all rfl)

theorem State.postpone_kept (s : State) (c rank bank : Nat) (hk : Kept ⟨wd, wr, wu⟩ s₀ s) : Kept ⟨wd, wr, wu⟩ s₀ (State.postpone s c rank bank) := by
  unfold State.postpone
  with_reducible repeat' first
    | intro _ | assumption | apply State.count_kept | apply Kept.ite
    | fail_if_no_progress (apply Kept.lit; rotate_left; with_unfolding_all rfl; with_unfolding_all rfl)

theorem State.makeUp_kept (s : State) (c : Nat) (hk : Kept ⟨wd, wr, wu⟩ s₀ s) : Kept ⟨wd, wr, wu⟩ s₀ (State.makeUp s c) := by
  unfold State.makeUp
  with_reducible repeat' first
    | (intro x; refine Kept.gen (w := ⟨wd, wr, wu⟩) (s₀ := s₀) (x := x) ?_ ?_; rotate_left; clear_value x; rotate_left; subst x) | (intro x; subst x)
    | intro _ | lift_lets | assumption | apply State.issueRefresh_kept | apply State.put_kept | apply Kept.ite
    | apply Kept.each | fail_if_no_progress (apply Kept.lit; rotate_left; with_unfolding_all rfl; with_unfolding_all rfl)

theorem State.showPanic_kept (s : State) (c : Nat) (panic : Bool) (hk : Kept ⟨wd, wr, wu⟩ s₀ s) :
    Kept ⟨wd, wr, wu⟩ s₀ (State.showPanic s c panic) := by
  unfold State.showPanic
  with_reducible repeat' first
    | (intro x; refine Kept.gen (w := ⟨wd, wr, wu⟩) (s₀ := s₀) (x := x) ?_ ?_; rotate_left; clear_value x; rotate_left; subst x) | (intro x; subst x)
    | intro _ | lift_lets | assumption | apply State.put_kept | apply State.makeUp_kept | apply Kept.ite

theorem State.endPanic_kept (s : State) (hk : Kept ⟨wd, wr, wu⟩ s₀ s) : Kept ⟨wd, wr, wu⟩ s₀ (State.endPanic s) := by
  unfold State.endPanic
  with_reducible repeat' first
    | intro _ | assumption | apply State.showPanic_kept | apply Kept.ite | apply Kept.each

theorem State.setFeed_kept (s : State) (n empty : Nat) (dram : List Nat) (hk : Kept ⟨wd, wr, wu⟩ s₀ s) :
    Kept ⟨wd, wr, wu⟩ s₀ (State.setFeed s n empty dram) := by
  unfold State.setFeed
  with_reducible repeat' first
    | (intro x; refine Kept.gen (w := ⟨wd, wr, wu⟩) (s₀ := s₀) (x := x) ?_ ?_; rotate_left; clear_value x; rotate_left; subst x) | (intro x; subst x)
    | intro _ | lift_lets | assumption | apply Kept.ite | apply Kept.fold
    | fail_if_no_progress (apply Kept.lit; rotate_left; with_unfolding_all rfl; with_unfolding_all rfl)

theorem State.judgePanic_kept (s : State) (hk : Kept ⟨wd, wr, wu⟩ s₀ s) : Kept ⟨wd, wr, wu⟩ s₀ (State.judgePanic s) := by
  unfold State.judgePanic
  with_reducible repeat' first
    | intro _ | assumption | apply State.showPanic_kept | apply Kept.ite | apply Kept.each

theorem State.selfRefresh_kept (s : State) (c : Nat) (hk : Kept ⟨wd, wr, wu⟩ s₀ s) : Kept ⟨wd, wr, wu⟩ s₀ (State.selfRefresh s c) := by
  unfold State.selfRefresh
  with_reducible repeat' first
    | intro _ | assumption | apply State.quiet_kept | apply State.closeRows_kept | apply State.put_kept | apply Kept.ite

theorem State.sideAccess_kept (s : State) (line : Nat) (write : Bool) (hk : Kept ⟨wd, wr, wu⟩ s₀ s) :
    Kept ⟨wd, wr, wu⟩ s₀ (State.sideAccess s line write) := by
  unfold State.sideAccess
  with_reducible repeat' first
    | (intro x; refine Kept.gen (w := ⟨wd, wr, wu⟩) (s₀ := s₀) (x := x) ?_ ?_; rotate_left; clear_value x; rotate_left; subst x) | (intro x; subst x)
    | intro _ | lift_lets | assumption | apply State.accessLines_kept | apply Kept.ite

theorem State.sideTable_kept (s : State) (page : Nat) (hk : Kept ⟨wd, wr, wu⟩ s₀ s) : Kept ⟨wd, wr, wu⟩ s₀ (State.sideTable s page) := by
  unfold State.sideTable
  with_reducible repeat' first
    | (intro x; refine Kept.gen (w := ⟨wd, wr, wu⟩) (s₀ := s₀) (x := x) ?_ ?_; rotate_left; clear_value x; rotate_left; subst x) | (intro x; subst x)
    | intro _ | lift_lets | assumption | apply State.tick_kept | apply State.sideAccess_kept | apply Kept.ite
    | fail_if_no_progress (apply Kept.lit; rotate_left; with_unfolding_all rfl; with_unfolding_all rfl)

/-! ## Machine/Epochs.lean -/

theorem State.showWear_kept (s : State) (hk : Kept ⟨wd, wr, wu⟩ s₀ s) : Kept ⟨wd, wr, wu⟩ s₀ (State.showWear s) := by
  unfold State.showWear
  with_reducible repeat' first
    | (intro x; refine Kept.gen (w := ⟨wd, wr, wu⟩) (s₀ := s₀) (x := x) ?_ ?_; rotate_left; clear_value x; rotate_left; subst x) | (intro x; subst x)
    | intro _ | lift_lets | assumption | apply State.put_kept | apply State.tick_kept | apply Kept.ite

theorem State.setOverCap_kept (s : State) (v : Bool) (hk : Kept ⟨wd, wr, wu⟩ s₀ s) : Kept ⟨wd, wr, wu⟩ s₀ (State.setOverCap s v) := by
  unfold State.setOverCap
  with_reducible repeat' first
    | intro _ | assumption | apply State.put_kept | apply State.showWear_kept | apply Kept.ite

theorem State.refresh_kept (s : State) (hk : Kept ⟨wd, wr, wu⟩ s₀ s) : Kept ⟨wd, wr, wu⟩ s₀ (State.refresh s) := by
  unfold State.refresh
  with_reducible repeat' first
    | (intro x; refine Kept.gen (w := ⟨wd, wr, wu⟩) (s₀ := s₀) (x := x) ?_ ?_; rotate_left; clear_value x; rotate_left; subst x) | (intro x; subst x)
    | intro _ | lift_lets | assumption | apply State.setOverCap_kept | apply State.putAll_kept | apply State.count_kept
    | apply State.record_kept | apply Kept.ite
    | fail_if_no_progress (apply Kept.lit; rotate_left; with_unfolding_all rfl; with_unfolding_all rfl)

theorem State.setBudget_kept (s : State) (steps csave limiter : Nat) (under : Bool) (hk : Kept ⟨wd, wr, wu⟩ s₀ s) :
    Kept ⟨wd, wr, wu⟩ s₀ (State.setBudget s steps csave limiter under) := by
  unfold State.setBudget
  with_reducible repeat' first
    | (intro x; refine Kept.gen (w := ⟨wd, wr, wu⟩) (s₀ := s₀) (x := x) ?_ ?_; rotate_left; clear_value x; rotate_left; subst x) | (intro x; subst x)
    | intro _ | lift_lets | assumption | apply State.putAll_kept | apply State.setOverCap_kept | apply State.record_kept
    | apply State.refresh_kept | apply Kept.ite
    | fail_if_no_progress (apply Kept.lit; rotate_left; with_unfolding_all rfl; with_unfolding_all rfl)

theorem State.noFigureBudget_kept (s : State) (hk : Kept ⟨wd, wr, wu⟩ s₀ s) : Kept ⟨wd, wr, wu⟩ s₀ (State.noFigureBudget s) := by
  unfold State.noFigureBudget
  with_reducible repeat' first
    | (intro x; refine Kept.gen (w := ⟨wd, wr, wu⟩) (s₀ := s₀) (x := x) ?_ ?_; rotate_left; clear_value x; rotate_left; subst x) | (intro x; subst x)
    | intro _ | lift_lets | assumption | apply State.setBudget_kept

theorem State.showCeiling_kept (s : State) (hk : Kept ⟨wd, wr, wu⟩ s₀ s) : Kept ⟨wd, wr, wu⟩ s₀ (State.showCeiling s) := by
  unfold State.showCeiling
  with_reducible repeat' first
    | assumption | apply State.put_kept | apply Kept.ite

theorem State.policyOnWaiters_kept (s : State) (hk : Kept ⟨wd, wr, wu⟩ s₀ s) : Kept ⟨wd, wr, wu⟩ s₀ (State.policyOnWaiters s) := by
  unfold State.policyOnWaiters
  with_reducible repeat' first
    | (intro x; refine Kept.gen (w := ⟨wd, wr, wu⟩) (s₀ := s₀) (x := x) ?_ ?_; rotate_left; clear_value x; rotate_left; subst x) | (intro x; subst x)
    | intro _ | lift_lets | assumption | apply State.put_kept | apply Kept.ite
    | fail_if_no_progress (apply Kept.lit; rotate_left; with_unfolding_all rfl; with_unfolding_all rfl)

theorem State.disarm_kept (s : State) (hk : Kept ⟨wd, wr, wu⟩ s₀ s) : Kept ⟨wd, wr, wu⟩ s₀ (State.disarm s) := by
  unfold State.disarm
  with_reducible repeat' first
    | (intro x; refine Kept.gen (w := ⟨wd, wr, wu⟩) (s₀ := s₀) (x := x) ?_ ?_; rotate_left; clear_value x; rotate_left; subst x) | (intro x; subst x)
    | intro _ | lift_lets | assumption | apply State.setReady_kept | apply State.put_kept | apply State.policyOnWaiters_kept
    | apply State.enter_kept | apply Kept.ite

theorem State.loseReserve_kept (s : State) (term : Nat) (hk : Kept ⟨wd, wr, wu⟩ s₀ s) : Kept ⟨wd, wr, wu⟩ s₀ (State.loseReserve s term) := by
  unfold State.loseReserve
  with_reducible repeat' first
    | (intro x; refine Kept.gen (w := ⟨wd, wr, wu⟩) (s₀ := s₀) (x := x) ?_ ?_; rotate_left; clear_value x; rotate_left; subst x) | (intro x; subst x)
    | intro _ | lift_lets | assumption | apply State.record_kept | apply State.disarm_kept | apply State.setReady_kept
    | apply State.noFigureBudget_kept | apply Kept.ite
    | fail_if_no_progress (apply Kept.lit; rotate_left; with_unfolding_all rfl; with_unfolding_all rfl)

theorem State.recompute_kept (s : State) (hk : Kept ⟨wd, wr, wu⟩ s₀ s) : Kept ⟨wd, wr, wu⟩ s₀ (State.recompute s) := by
  unfold State.recompute
  with_reducible repeat' first
    | (intro x; refine Kept.gen (w := ⟨wd, wr, wu⟩) (s₀ := s₀) (x := x) ?_ ?_; rotate_left; clear_value x; rotate_left; subst x) | (intro x; subst x)
    | intro _ | lift_lets | assumption | apply State.noFigureBudget_kept | apply State.showCeiling_kept
    | apply State.putAll_kept | apply State.loseReserve_kept | apply State.setBudget_kept | apply Kept.ite
    | fail_if_no_progress (apply Kept.lit; rotate_left; with_unfolding_all rfl; with_unfolding_all rfl) | split

theorem State.showEpochs_kept (s : State) (hk : Kept ⟨wd, wr, wu⟩ s₀ s) : Kept ⟨wd, wr, wu⟩ s₀ (State.showEpochs s) := by
  unfold State.showEpochs
  with_reducible repeat' first
    | (intro x; refine Kept.gen (w := ⟨wd, wr, wu⟩) (s₀ := s₀) (x := x) ?_ ?_; rotate_left; clear_value x; rotate_left; subst x) | (intro x; subst x)
    | intro _ | lift_lets | assumption | apply State.putPair_kept | apply State.putAll_kept

theorem State.takeShadow_kept (s : State) (f : Fld) (hk : Kept ⟨wd, wr, wu⟩ s₀ s) : Kept ⟨wd, wr, wu⟩ s₀ (State.takeShadow s f) := by
  unfold State.takeShadow
  with_reducible repeat' first
    | assumption | fail_if_no_progress (apply Kept.lit; rotate_left; with_unfolding_all rfl; with_unfolding_all rfl) | split

theorem State.unlock_kept (s : State) (hk : Kept ⟨wd, wr, wu⟩ s₀ s) : Kept ⟨wd, wr, wu⟩ s₀ (State.unlock s) := by
  unfold State.unlock
  with_reducible repeat' first
    | (intro x; refine Kept.gen (w := ⟨wd, wr, wu⟩) (s₀ := s₀) (x := x) ?_ ?_; rotate_left; clear_value x; rotate_left; subst x) | (intro x; subst x)
    | intro _ | lift_lets | assumption | apply State.setReady_kept | apply State.putAll_kept | apply Kept.ite
    | fail_if_no_progress (apply Kept.lit; rotate_left; with_unfolding_all rfl; with_unfolding_all rfl)

theorem State.takeShadows_kept (s : State) (hk : Kept ⟨wd, wr, wu⟩ s₀ s) : Kept ⟨wd, wr, wu⟩ s₀ (State.takeShadows s) := by
  unfold State.takeShadows
  with_reducible repeat' first
    | (intro x; refine Kept.gen (w := ⟨wd, wr, wu⟩) (s₀ := s₀) (x := x) ?_ ?_; rotate_left; clear_value x; rotate_left; subst x) | (intro x; subst x)
    | intro _ | lift_lets | assumption | apply State.takeShadow_kept | apply State.put_kept | apply State.unlock_kept
    | apply State.recompute_kept | apply Kept.ite
    | fail_if_no_progress (apply Kept.lit; rotate_left; with_unfolding_all rfl; with_unfolding_all rfl)

theorem State.boundary_kept (s : State) (n : Nat) (rack : Bool) (hk : Kept ⟨wd, wr, wu⟩ s₀ s) : Kept ⟨wd, wr, wu⟩ s₀ (State.boundary s n rack) := by
  unfold State.boundary
  with_reducible repeat' first
    | (intro x; refine Kept.gen (w := ⟨wd, wr, wu⟩) (s₀ := s₀) (x := x) ?_ ?_; rotate_left; clear_value x; rotate_left; subst x) | (intro x; subst x)
    | intro _ | lift_lets | assumption | apply State.takeShadows_kept | apply State.showEpochs_kept | apply State.refresh_kept
    | apply Kept.ite | fail_if_no_progress (apply Kept.lit; rotate_left; with_unfolding_all rfl; with_unfolding_all rfl)

theorem State.boundaryDue_kept (s : State) (hk : Kept ⟨wd, wr, wu⟩ s₀ s) : Kept ⟨wd, wr, wu⟩ s₀ (State.boundaryDue s) := by
  unfold State.boundaryDue
  with_reducible repeat' first
    | (intro x; refine Kept.gen (w := ⟨wd, wr, wu⟩) (s₀ := s₀) (x := x) ?_ ?_; rotate_left; clear_value x; rotate_left; subst x) | (intro x; subst x)
    | intro _ | lift_lets | assumption | apply State.boundary_kept | apply State.count_kept | apply State.showEpochs_kept
    | apply Kept.ite | fail_if_no_progress (apply Kept.lit; rotate_left; with_unfolding_all rfl; with_unfolding_all rfl)

theorem State.renumber_kept (s : State) (n : Nat) (rack : Bool) (hk : Kept ⟨wd, wr, wu⟩ s₀ s) : Kept ⟨wd, wr, wu⟩ s₀ (State.renumber s n rack) := by
  unfold State.renumber
  with_reducible repeat' first
    | assumption | apply State.count_kept | apply State.showEpochs_kept
    | fail_if_no_progress (apply Kept.lit; rotate_left; with_unfolding_all rfl; with_unfolding_all rfl)

theorem State.takeDeferred_kept (s : State) (hk : Kept ⟨wd, wr, wu⟩ s₀ s) : Kept ⟨wd, wr, wu⟩ s₀ (State.takeDeferred s) := by
  unfold State.takeDeferred
  with_reducible repeat' first
    | assumption | apply State.boundary_kept | apply Kept.ite

theorem State.abandonSeal_kept (s : State) (cause : Nat) (hk : Kept ⟨wd, wr, wu⟩ s₀ s) : Kept ⟨wd, wr, wu⟩ s₀ (State.abandonSeal s cause) := by
  unfold State.abandonSeal
  with_reducible repeat' first
    | (intro x; refine Kept.gen (w := ⟨wd, wr, wu⟩) (s₀ := s₀) (x := x) ?_ ?_; rotate_left; clear_value x; rotate_left; subst x) | (intro x; subst x)
    | intro _ | lift_lets | assumption | apply State.put_kept | apply State.count_kept | apply State.record_kept
    | apply State.showEpochs_kept | apply State.refresh_kept | apply Kept.ite
    | fail_if_no_progress (apply Kept.lit; rotate_left; with_unfolding_all rfl; with_unfolding_all rfl)

theorem State.abandon_kept (s : State) (cause : Nat) (hk : Kept ⟨wd, wr, wu⟩ s₀ s) : Kept ⟨wd, wr, wu⟩ s₀ (State.abandon s cause) := by
  unfold State.abandon
  with_reducible repeat' first
    | intro _ | assumption | apply State.abandonSeal_kept | apply State.takeDeferred_kept | apply Kept.ite

theorem State.advanceSeal_kept (s : State) (hk : Kept ⟨wd, wr, wu⟩ s₀ s) : Kept ⟨wd, wr, wu⟩ s₀ (State.advanceSeal s) := by
  unfold State.advanceSeal
  with_reducible repeat' first
    | intro _ | assumption | apply Kept.ite
    | fail_if_no_progress (apply Kept.lit; rotate_left; with_unfolding_all rfl; with_unfolding_all rfl)

theorem State.openFirst_kept (s : State) (hk : Kept ⟨wd, wr, wu⟩ s₀ s) : Kept ⟨wd, wr, wu⟩ s₀ (State.openFirst s) := by
  unfold State.openFirst
  with_reducible repeat' first
    | (intro x; refine Kept.gen (w := ⟨wd, wr, wu⟩) (s₀ := s₀) (x := x) ?_ ?_; rotate_left; clear_value x; rotate_left; subst x) | (intro x; subst x)
    | intro _ | lift_lets | assumption | apply State.takeShadows_kept | apply State.showEpochs_kept | apply Kept.ite
    | fail_if_no_progress (apply Kept.lit; rotate_left; with_unfolding_all rfl; with_unfolding_all rfl)

/-! ## Machine/HostPath.lean -/

theorem State.translationFault_kept (s : State) (h : Fin 4) (ld : Fin 16) (lpa kind : Nat) (write : Bool) (hk : Kept ⟨wd, wr, wu⟩ s₀ s) :
    Kept ⟨wd, wr, wu⟩ s₀ (State.translationFault s h ld lpa kind write) := by
  unfold State.translationFault
  with_reducible repeat' first
    | (intro x; refine Kept.gen (w := ⟨wd, wr, wu⟩) (s₀ := s₀) (x := x) ?_ ?_; rotate_left; clear_value x; rotate_left; subst x) | (intro x; subst x)
    | intro _ | lift_lets | assumption | apply State.count_kept | apply State.putAll_kept | apply State.putPair_kept
    | apply State.recordFor_kept | apply Kept.ite

theorem State.wait_kept (s : State) (r : HostReq) (stage : Stage) (hk : Kept ⟨wd, wr, wu⟩ s₀ s) : Kept ⟨wd, wr, wu⟩ s₀ (State.wait s r stage) := by
  unfold State.wait
  with_reducible repeat' first
    | assumption | apply Kept.ite
    | fail_if_no_progress (apply Kept.lit; rotate_left; with_unfolding_all rfl; with_unfolding_all rfl)

theorem State.unwait_kept (s : State) (id : Nat) (hk : Kept ⟨wd, wr, wu⟩ s₀ s) : Kept ⟨wd, wr, wu⟩ s₀ (State.unwait s id) := by
  unfold State.unwait
  with_reducible repeat' first
    | intro _ | assumption | apply Kept.ite
    | fail_if_no_progress (apply Kept.lit; rotate_left; with_unfolding_all rfl; with_unfolding_all rfl)

theorem State.overTime_kept (s : State) (h : Nat) (hk : Kept ⟨wd, wr, wu⟩ s₀ s) : Kept ⟨wd, wr, wu⟩ s₀ (State.overTime s h) := by
  unfold State.overTime
  with_reducible repeat' first
    | assumption | apply State.count_kept | apply State.tick_kept | apply Kept.ite

theorem State.responded_kept (s : State) (r : HostReq) (hk : Kept ⟨wd, wr, wu⟩ s₀ s) : Kept ⟨wd, wr, wu⟩ s₀ (State.responded s r) := by
  unfold State.responded
  with_reducible repeat' first
    | intro _ | assumption | apply State.overTime_kept | apply State.put_kept | apply State.raiseFree_kept | apply Kept.ite

theorem State.cut_kept (s : State) (hk : Kept ⟨wd, wr, wu⟩ s₀ s) : Kept ⟨wd, wr, wu⟩ s₀ (State.cut s) := by
  unfold State.cut
  with_reducible repeat' first
    | (intro x; refine Kept.gen (w := ⟨wd, wr, wu⟩) (s₀ := s₀) (x := x) ?_ ?_; rotate_left; clear_value x; rotate_left; subst x) | (intro x; subst x)
    | intro _ | lift_lets | assumption | apply State.enter_kept | apply State.putAll_kept | apply State.record_kept
    | apply State.setReady_kept | apply State.recompute_kept | apply State.showEpochs_kept | apply State.endPanic_kept
    | apply Kept.ite | fail_if_no_progress (apply Kept.lit; rotate_left; with_unfolding_all rfl; with_unfolding_all rfl)

theorem State.cutIfFlushed_kept (s : State) (hk : Kept ⟨wd, wr, wu⟩ s₀ s) : Kept ⟨wd, wr, wu⟩ s₀ (State.cutIfFlushed s) := by
  unfold State.cutIfFlushed
  with_reducible repeat' first
    | intro _ | assumption | apply State.cut_kept | apply Kept.ite

theorem State.gpf2Check_kept (s : State) (h : Fin 4) (hk : Kept ⟨wd, wr, wu⟩ s₀ s) : Kept ⟨wd, wr, wu⟩ s₀ (State.gpf2Check s h) := by
  unfold State.gpf2Check
  with_reducible repeat' first
    | (intro x; refine Kept.gen (w := ⟨wd, wr, wu⟩) (s₀ := s₀) (x := x) ?_ ?_; rotate_left; clear_value x; rotate_left; subst x) | (intro x; subst x)
    | intro _ | lift_lets | assumption | apply State.emit_kept | apply State.put_kept | apply State.cutIfFlushed_kept
    | apply Kept.ite | fail_if_no_progress (apply Kept.lit; rotate_left; with_unfolding_all rfl; with_unfolding_all rfl)
    | split

theorem State.completeWrite_kept (s : State) (r : HostReq) (hk : Kept ⟨wd, wr, wu⟩ s₀ s) : Kept ⟨wd, wr, wu⟩ s₀ (State.completeWrite s r) := by
  unfold State.completeWrite
  with_reducible repeat' first
    | intro _ | assumption | apply State.emit_kept | apply State.responded_kept | apply State.gpf2Check_kept | apply Kept.ite

theorem State.completeRead_kept (s : State) (r : HostReq) (data : Bytes) (poison : Bool) (hk : Kept ⟨wd, wr, wu⟩ s₀ s) :
    Kept ⟨wd, wr, wu⟩ s₀ (State.completeRead s r data poison) := by
  unfold State.completeRead
  with_reducible repeat' first
    | assumption | apply State.emit_kept | apply State.responded_kept | apply Kept.ite

theorem State.storeLine_kept (s : State) (r : HostReq) (hk : Kept ⟨true, wr, wu⟩ s₀ s) : Kept ⟨true, wr, wu⟩ s₀ (State.storeLine s r) := by
  unfold State.storeLine HostReq.bytes
  with_reducible repeat' first
    | (intro x; refine Kept.gen (w := ⟨true, wr, wu⟩) (s₀ := s₀) (x := x) ?_ ?_; rotate_left; clear_value x; rotate_left; subst x) | (intro x; subst x)
    | intro _ | lift_lets | assumption | (refine Kept.withDram ?_ (fun w => dramWrite_wf w _ _) rfl rfl rfl)
    | apply State.access_kept | apply State.poisonLine_kept | apply State.cleanLine_kept | apply State.setLd_kept
    | apply State.recordFor_kept | apply State.completeWrite_kept | apply Kept.ite
    | fail_if_no_progress (apply Kept.lit; rotate_left; with_unfolding_all rfl; with_unfolding_all rfl)

theorem State.store_kept (s : State) (r : HostReq) (hk : Kept ⟨true, wr, wu⟩ s₀ s) : Kept ⟨true, wr, wu⟩ s₀ (State.store s r) := by
  unfold State.store
  with_reducible repeat' first
    | intro _ | assumption | apply State.wait_kept | apply State.storeLine_kept | apply Kept.ite

theorem State.releaseUnit_kept (s : State) (c : Nat) (hk : Kept ⟨true, wr, wu⟩ s₀ s) : Kept ⟨true, wr, wu⟩ s₀ (State.releaseUnit s c) := by
  unfold State.releaseUnit
  with_reducible repeat' first
    | intro _ | assumption | apply State.unwait_kept | apply State.storeLine_kept | apply Kept.ite | apply Kept.fold

theorem State.classifyPage_kept (s : State) (page : Nat) (hk : Kept ⟨wd, wr, wu⟩ s₀ s) : Kept ⟨wd, wr, wu⟩ s₀ (State.classifyPage s page) := by
  unfold State.classifyPage
  with_reducible repeat' first
    | (intro x; refine Kept.gen (w := ⟨wd, wr, wu⟩) (s₀ := s₀) (x := x) ?_ ?_; rotate_left; clear_value x; rotate_left; subst x) | (intro x; subst x)
    | intro _ | lift_lets | assumption | apply State.sideTable_kept | apply Kept.ite
    | fail_if_no_progress (apply Kept.lit; rotate_left; with_unfolding_all rfl; with_unfolding_all rfl) | split

theorem State.carry_kept (s : State) (r : HostReq) (hk : Kept ⟨true, wr, wu⟩ s₀ s) : Kept ⟨true, wr, wu⟩ s₀ (State.carry s r) := by
  unfold State.carry
  with_reducible repeat' first
    | (intro x; refine Kept.gen (w := ⟨true, wr, wu⟩) (s₀ := s₀) (x := x) ?_ ?_; rotate_left; clear_value x; rotate_left; subst x) | (intro x; subst x)
    | intro _ | lift_lets | assumption | apply State.classifyPage_kept | apply State.store_kept | apply State.wait_kept
    | apply State.put_kept | apply State.count_kept | apply State.refresh_kept | apply Kept.ite
    | fail_if_no_progress (apply Kept.lit; rotate_left; with_unfolding_all rfl; with_unfolding_all rfl)

theorem State.faultIn_kept (s : State) (r : HostReq) (hk : Kept ⟨wd, wr, wu⟩ s₀ s) : Kept ⟨wd, wr, wu⟩ s₀ (State.faultIn s r) := by
  unfold State.faultIn
  with_reducible repeat' first
    | (intro x; refine Kept.gen (w := ⟨wd, wr, wu⟩) (s₀ := s₀) (x := x) ?_ ?_; rotate_left; clear_value x; rotate_left; subst x) | (intro x; subst x)
    | intro _ | lift_lets | assumption | apply State.wait_kept | apply State.record_kept | apply State.count_kept
    | apply State.put_kept | apply Kept.ite
    | fail_if_no_progress (apply Kept.lit; rotate_left; with_unfolding_all rfl; with_unfolding_all rfl)

theorem State.perform_kept (s : State) (r : HostReq) (hk : Kept ⟨true, wr, wu⟩ s₀ s) : Kept ⟨true, wr, wu⟩ s₀ (State.perform s r) := by
  unfold State.perform
  with_reducible repeat' first
    | (intro x; refine Kept.gen (w := ⟨true, wr, wu⟩) (s₀ := s₀) (x := x) ?_ ?_; rotate_left; clear_value x; rotate_left; subst x) | (intro x; subst x)
    | intro _ | lift_lets | assumption | apply State.faultIn_kept | apply State.wait_kept | apply State.carry_kept
    | apply Kept.ite

theorem State.countUnprotected_kept (s : State) (r : HostReq) (hk : Kept ⟨wd, wr, wu⟩ s₀ s) : Kept ⟨wd, wr, wu⟩ s₀ (State.countUnprotected s r) := by
  unfold State.countUnprotected
  with_reducible repeat' first
    | assumption | apply State.count_kept | apply State.put_kept | apply Kept.ite

theorem State.admitReq_kept (s : State) (r : HostReq) (hk : Kept ⟨true, wr, wu⟩ s₀ s) : Kept ⟨true, wr, wu⟩ s₀ (State.admitReq s r) := by
  unfold State.admitReq
  with_reducible repeat' first
    | assumption | apply State.countUnprotected_kept | apply State.count_kept | apply State.perform_kept

theorem State.admission_kept (s : State) (r : HostReq) (hk : Kept ⟨true, wr, wu⟩ s₀ s) : Kept ⟨true, wr, wu⟩ s₀ (State.admission s r) := by
  unfold State.admission
  with_reducible repeat' first
    | intro _ | assumption | apply State.wait_kept | apply State.countUnprotected_kept | apply State.perform_kept
    | apply State.admitReq_kept | apply Kept.ite
    | fail_if_no_progress (apply Kept.lit; rotate_left; with_unfolding_all rfl; with_unfolding_all rfl)

theorem State.serveWrite_kept (s : State) (r : HostReq) (hk : Kept ⟨true, wr, wu⟩ s₀ s) : Kept ⟨true, wr, wu⟩ s₀ (State.serveWrite s r) := by
  unfold State.serveWrite
  with_reducible repeat' first
    | (intro x; refine Kept.gen (w := ⟨true, wr, wu⟩) (s₀ := s₀) (x := x) ?_ ?_; rotate_left; clear_value x; rotate_left; subst x) | (intro x; subst x)
    | intro _ | lift_lets | assumption | apply State.translationFault_kept | apply State.completeWrite_kept
    | apply State.admission_kept | apply State.wait_kept | apply State.put_kept | apply Kept.ite
    | fail_if_no_progress (apply Kept.lit; rotate_left; with_unfolding_all rfl; with_unfolding_all rfl) | split

theorem State.serveHeld_kept (s : State) (r : HostReq) (hk : Kept ⟨true, wr, wu⟩ s₀ s) : Kept ⟨true, wr, wu⟩ s₀ (State.serveHeld s r) := by
  unfold State.serveHeld
  with_reducible repeat' first
    | intro _ | assumption | apply State.admission_kept | apply State.translationFault_kept | apply State.completeWrite_kept
    | apply Kept.ite

theorem State.releaseHeld_kept (s : State) (unprotected : Bool) (hk : Kept ⟨true, wr, wu⟩ s₀ s) :
    Kept ⟨true, wr, wu⟩ s₀ (State.releaseHeld s unprotected) := by
  unfold State.releaseHeld
  with_reducible repeat' first
    | (intro x; refine Kept.gen (w := ⟨true, wr, wu⟩) (s₀ := s₀) (x := x) ?_ ?_; rotate_left; clear_value x; rotate_left; subst x) | (intro x; subst x)
    | intro _ | lift_lets | assumption | apply State.serveHeld_kept | apply State.put_kept | apply Kept.ite | apply Kept.each
    | fail_if_no_progress (apply Kept.lit; rotate_left; with_unfolding_all rfl; with_unfolding_all rfl)

theorem State.rejudge_kept (s : State) (page : Nat) (hk : Kept ⟨true, wr, wu⟩ s₀ s) : Kept ⟨true, wr, wu⟩ s₀ (State.rejudge s page) := by
  unfold State.rejudge
  with_reducible repeat' first
    | (intro x; refine Kept.gen (w := ⟨true, wr, wu⟩) (s₀ := s₀) (x := x) ?_ ?_; rotate_left; clear_value x; rotate_left; subst x) | (intro x; subst x)
    | intro _ | lift_lets | assumption | apply State.admission_kept | apply State.countUnprotected_kept | apply State.perform_kept
    | apply Kept.ite | apply Kept.each
    | fail_if_no_progress (apply Kept.lit; rotate_left; with_unfolding_all rfl; with_unfolding_all rfl)

theorem State.admitWaiter_kept (s : State) (r : HostReq) (hk : Kept ⟨true, wr, wu⟩ s₀ s) : Kept ⟨true, wr, wu⟩ s₀ (State.admitWaiter s r) := by
  unfold State.admitWaiter
  with_reducible repeat' first
    | (intro x; refine Kept.gen (w := ⟨true, wr, wu⟩) (s₀ := s₀) (x := x) ?_ ?_; rotate_left; clear_value x; rotate_left; subst x) | (intro x; subst x)
    | intro _ | lift_lets | assumption | apply State.unwait_kept | apply State.raiseFree_kept | apply State.admitReq_kept
    | apply State.rejudge_kept | apply Kept.ite
    | fail_if_no_progress (apply Kept.lit; rotate_left; with_unfolding_all rfl; with_unfolding_all rfl)

theorem State.drainFree_kept (n : Nat) (s : State) (hk : Kept ⟨true, wr, wu⟩ s₀ s) : Kept ⟨true, wr, wu⟩ s₀ (State.drainFree n s) := by
  induction n generalizing s with
  | zero => exact hk
  | succ n ih =>
    unfold State.drainFree
    refine .ite ?_ hk
    split
    · exact ih _ (State.admitWaiter_kept _ _ hk)
    · exact hk

theorem State.advanceSave_kept (s : State) (hk : Kept ⟨wd, wr, wu⟩ s₀ s) : Kept ⟨wd, wr, wu⟩ s₀ (State.advanceSave s) := by
  unfold State.advanceSave
  with_reducible repeat' first
    | (intro x; refine Kept.gen (w := ⟨wd, wr, wu⟩) (s₀ := s₀) (x := x) ?_ ?_; rotate_left; clear_value x; rotate_left; subst x) | (intro x; subst x)
    | intro _ | lift_lets | assumption | apply State.put_kept | apply Kept.ite
    | fail_if_no_progress (apply Kept.lit; rotate_left; with_unfolding_all rfl; with_unfolding_all rfl)

theorem State.settle_kept (s : State) (hk : Kept ⟨true, wr, wu⟩ s₀ s) : Kept ⟨true, wr, wu⟩ s₀ (State.settle s) := by
  have hd : ∀ (n : Nat) (s : State), Kept ⟨true, wr, wu⟩ s₀ s → Kept ⟨true, wr, wu⟩ s₀ (State.drainFree n s) := by
    intro n
    induction n with
    | zero => intro s hs; exact hs
    | succ n ih =>
      intro s hs
      unfold State.drainFree
      refine Kept.ite ?_ hs
      split
      · exact ih _ (State.admitWaiter_kept _ _ hs)
      · exact hs
  unfold State.settle
  with_reducible repeat' first
    | (intro x; refine Kept.gen (w := ⟨true, wr, wu⟩) (s₀ := s₀) (x := x) ?_ ?_; rotate_left; clear_value x; rotate_left; subst x) | (intro x; subst x)
    | intro _ | lift_lets | assumption | apply State.refresh_kept | apply hd | apply State.advanceSeal_kept
    | apply State.advanceSave_kept

theorem State.clearStage_kept (s : State) (stage : Stage) (page : Nat) (hk : Kept ⟨wd, wr, wu⟩ s₀ s) :
    Kept ⟨wd, wr, wu⟩ s₀ (State.clearStage s stage page) := by
  unfold State.clearStage
  with_reducible repeat' first
    | intro _ | assumption | apply Kept.ite
    | fail_if_no_progress (apply Kept.lit; rotate_left; with_unfolding_all rfl; with_unfolding_all rfl)

/-! ## Machine/Dram.lean -/

theorem State.listPoison_kept (s : State) (line : Nat) (hk : Kept ⟨wd, wr, wu⟩ s₀ s) : Kept ⟨wd, wr, wu⟩ s₀ (State.listPoison s line) := by
  unfold State.listPoison
  split
  · exact hk
  · dsimp only
    exact .ite hk (.ite (State.recordFor_kept _ _ _ _ _ (State.setLd_kept _ _ _ hk)) (State.setLd_kept _ _ _ hk))

theorem State.retireRank_kept (s : State) (c lrank reason : Nat) (hk : Kept ⟨wd, wr, wu⟩ s₀ s) :
    Kept ⟨wd, wr, wu⟩ s₀ (State.retireRank s c lrank reason) := by
  unfold State.retireRank
  with_reducible repeat' first
    | (intro x; refine Kept.gen (w := ⟨wd, wr, wu⟩) (s₀ := s₀) (x := x) ?_ ?_; rotate_left; clear_value x; rotate_left; subst x) | (intro x; subst x)
    | intro _ | lift_lets | assumption | apply State.putAll_kept | apply State.record_kept | apply Kept.ite
    | fail_if_no_progress (apply Kept.lit; rotate_left; with_unfolding_all rfl; with_unfolding_all rfl) | split

theorem State.locate_kept (s : State) (c kind prank o : Nat) (hk : Kept ⟨wd, wr, wu⟩ s₀ s) :
    Kept ⟨wd, wr, wu⟩ s₀ (State.locate s c kind prank o) := by
  unfold State.locate
  with_reducible repeat' first
    | (intro x; refine Kept.gen (w := ⟨wd, wr, wu⟩) (s₀ := s₀) (x := x) ?_ ?_; rotate_left; clear_value x; rotate_left; subst x) | (intro x; subst x)
    | intro _ | lift_lets | assumption | apply State.count_kept | apply State.putAll_kept | apply State.tick_kept
    | apply Kept.ite

theorem State.dmcFault_kept (s : State) (c sev : Nat) (hk : Kept ⟨true, wr, wu⟩ s₀ s) : Kept ⟨true, wr, wu⟩ s₀ (State.dmcFault s c sev) := by
  unfold State.dmcFault
  with_reducible repeat' first
    | (intro x; refine Kept.gen (w := ⟨true, wr, wu⟩) (s₀ := s₀) (x := x) ?_ ?_; rotate_left; clear_value x; rotate_left; subst x) | (intro x; subst x)
    | intro _ | lift_lets | assumption | apply State.raiseFault_kept | apply State.releaseUnit_kept | apply Kept.ite
    | fail_if_no_progress (apply Kept.lit; rotate_left; with_unfolding_all rfl; with_unfolding_all rfl)

theorem State.spoilLine_kept (s : State) (line : Nat) (hk : Kept ⟨wd, wr, wu⟩ s₀ s) : Kept ⟨wd, wr, wu⟩ s₀ (State.spoilLine s line) := by
  unfold State.spoilLine
  with_reducible repeat' first
    | (intro x; refine Kept.gen (w := ⟨wd, wr, wu⟩) (s₀ := s₀) (x := x) ?_ ?_; rotate_left; clear_value x; rotate_left; subst x) | (intro x; subst x)
    | intro _ | lift_lets | assumption | apply State.poisonLine_kept | apply State.listPoison_kept | apply Kept.ite
    | fail_if_no_progress (apply Kept.lit; rotate_left; with_unfolding_all rfl; with_unfolding_all rfl)

theorem State.ueSeen_kept (s : State) (line : Nat) (hk : Kept ⟨true, wr, wu⟩ s₀ s) : Kept ⟨true, wr, wu⟩ s₀ (State.ueSeen s line) := by
  unfold State.ueSeen
  with_reducible repeat' first
    | (intro x; refine Kept.gen (w := ⟨true, wr, wu⟩) (s₀ := s₀) (x := x) ?_ ?_; rotate_left; clear_value x; rotate_left; subst x) | (intro x; subst x)
    | intro _ | lift_lets | assumption | apply State.locate_kept | apply State.putPair_kept | apply State.recordFor_kept
    | apply State.dmcFault_kept | apply Kept.ite

theorem State.ueRetire_kept (s : State) (line : Nat) (hk : Kept ⟨wd, wr, wu⟩ s₀ s) : Kept ⟨wd, wr, wu⟩ s₀ (State.ueRetire s line) := by
  unfold State.ueRetire
  with_reducible repeat' first
    | intro _ | assumption | apply State.retireRank_kept | apply Kept.ite

theorem State.uncorrectable_kept (s : State) (line : Nat) (hk : Kept ⟨true, wr, wu⟩ s₀ s) : Kept ⟨true, wr, wu⟩ s₀ (State.uncorrectable s line) := by
  unfold State.uncorrectable
  with_reducible repeat' first
    | (intro x; refine Kept.gen (w := ⟨true, wr, wu⟩) (s₀ := s₀) (x := x) ?_ ?_; rotate_left; clear_value x; rotate_left; subst x) | (intro x; subst x)
    | intro _ | lift_lets | assumption | apply State.ueSeen_kept | apply State.spoilLine_kept | apply State.endFault_kept
    | apply State.ueRetire_kept | apply Kept.ite
    | fail_if_no_progress (apply Kept.lit; rotate_left; with_unfolding_all rfl; with_unfolding_all rfl)

theorem State.uncorrectables_kept (s : State) (lines : List Nat) (hk : Kept ⟨true, wr, wu⟩ s₀ s) :
    Kept ⟨true, wr, wu⟩ s₀ (State.uncorrectables s lines) := by
  unfold State.uncorrectables
  with_reducible repeat' first
    | intro _ | assumption | apply State.uncorrectable_kept | apply Kept.ite | apply Kept.each

theorem State.correctable_kept (s : State) (c : Nat) (lrank : Option Nat) (hk : Kept ⟨wd, wr, wu⟩ s₀ s) :
    Kept ⟨wd, wr, wu⟩ s₀ (State.correctable s c lrank) := by
  unfold State.correctable
  with_reducible repeat' first
    | (intro x; refine Kept.gen (w := ⟨wd, wr, wu⟩) (s₀ := s₀) (x := x) ?_ ?_; rotate_left; clear_value x; rotate_left; subst x) | (intro x; subst x)
    | intro _ | lift_lets | assumption | apply State.count_kept | apply State.retireRank_kept | apply Kept.ite
    | fail_if_no_progress (apply Kept.lit; rotate_left; with_unfolding_all rfl; with_unfolding_all rfl) | split

theorem State.correctLine_kept (s : State) (line : Nat) (hk : Kept ⟨wd, wr, wu⟩ s₀ s) : Kept ⟨wd, wr, wu⟩ s₀ (State.correctLine s line) := by
  unfold State.correctLine
  with_reducible repeat' first
    | intro _ | assumption | apply State.correctable_kept | apply Kept.ite

theorem State.readErrors_kept (s : State) (corrected uncorrectable : List Nat) (hk : Kept ⟨true, wr, wu⟩ s₀ s) :
    Kept ⟨true, wr, wu⟩ s₀ (State.readErrors s corrected uncorrectable) := by
  unfold State.readErrors
  with_reducible repeat' first
    | intro _ | assumption | apply State.correctLine_kept | apply State.uncorrectables_kept | apply Kept.ite | apply Kept.each

theorem State.startRetirement_kept (s : State) (c lrank reason : Nat) (hk : Kept ⟨wd, wr, wu⟩ s₀ s) :
    Kept ⟨wd, wr, wu⟩ s₀ (State.startRetirement s c lrank reason) := by
  unfold State.startRetirement
  with_reducible repeat' first
    | (intro x; refine Kept.gen (w := ⟨wd, wr, wu⟩) (s₀ := s₀) (x := x) ?_ ?_; rotate_left; clear_value x; rotate_left; subst x) | (intro x; subst x)
    | intro _ | lift_lets | assumption | apply State.putAll_kept | apply State.record_kept | apply Kept.ite
    | fail_if_no_progress (apply Kept.lit; rotate_left; with_unfolding_all rfl; with_unfolding_all rfl)

theorem State.advanceMigration_kept (s : State) (c : Nat) (hk : Kept ⟨true, wr, wu⟩ s₀ s) : Kept ⟨true, wr, wu⟩ s₀ (State.advanceMigration s c) := by
  unfold State.advanceMigration
  with_reducible repeat' first
    | (intro x; refine Kept.gen (w := ⟨true, wr, wu⟩) (s₀ := s₀) (x := x) ?_ ?_; rotate_left; clear_value x; rotate_left; subst x) | (intro x; subst x)
    | intro _ | lift_lets | assumption | apply State.put_kept | apply State.releaseUnit_kept | apply State.quiet_kept
    | apply State.closeRows_kept | apply State.putAll_kept | apply State.record_kept | apply Kept.ite
    | fail_if_no_progress (apply Kept.lit; rotate_left; with_unfolding_all rfl; with_unfolding_all rfl)

theorem State.holdMigration_kept (s : State) (c : Nat) (hk : Kept ⟨true, wr, wu⟩ s₀ s) : Kept ⟨true, wr, wu⟩ s₀ (State.holdMigration s c) := by
  unfold State.holdMigration
  with_reducible repeat' first
    | (intro x; refine Kept.gen (w := ⟨true, wr, wu⟩) (s₀ := s₀) (x := x) ?_ ?_; rotate_left; clear_value x; rotate_left; subst x) | (intro x; subst x)
    | intro _ | lift_lets | assumption | apply State.advanceMigration_kept | apply State.put_kept | apply Kept.ite

/-! ## Machine/FlashLog.lean -/

theorem State.setBlock_kept (s : State) (b : Nat) (x : Block) (hk : Kept ⟨wd, wr, wu⟩ s₀ s) : Kept ⟨wd, wr, wu⟩ s₀ (State.setBlock s b x) := by
  unfold State.setBlock
  with_reducible repeat' first
    | assumption | fail_if_no_progress (apply Kept.lit; rotate_left; with_unfolding_all rfl; with_unfolding_all rfl)

theorem State.refuseOrder_kept (s : State) (fa : Nat) (hk : Kept ⟨wd, wr, wu⟩ s₀ s) : Kept ⟨wd, wr, wu⟩ s₀ (State.refuseOrder s fa) := by
  unfold State.refuseOrder
  with_reducible repeat' first
    | assumption | apply State.count_kept | apply State.record_kept

theorem State.suspendErase_kept (s : State) (lun : Nat) (hk : Kept ⟨wd, wr, wu⟩ s₀ s) : Kept ⟨wd, wr, wu⟩ s₀ (State.suspendErase s lun) := by
  unfold State.suspendErase
  with_reducible repeat' first
    | (intro x; refine Kept.gen (w := ⟨wd, wr, wu⟩) (s₀ := s₀) (x := x) ?_ ?_; rotate_left; clear_value x; rotate_left; subst x) | (intro x; subst x)
    | intro _ | lift_lets | assumption | apply State.count_kept | apply Kept.ite | split

theorem State.suspendPrograms_kept (s : State) (lun : Nat) (hk : Kept ⟨wd, wr, wu⟩ s₀ s) : Kept ⟨wd, wr, wu⟩ s₀ (State.suspendPrograms s lun) := by
  unfold State.suspendPrograms
  with_reducible repeat' first
    | intro _ | assumption | apply State.count_kept | apply Kept.ite

theorem State.openAt_kept (s : State) (fa owner : Nat) (hk : Kept ⟨wd, wr, wu⟩ s₀ s) : Kept ⟨wd, wr, wu⟩ s₀ (State.openAt s fa owner) := by
  unfold State.openAt
  with_reducible repeat' first
    | (intro x; refine Kept.gen (w := ⟨wd, wr, wu⟩) (s₀ := s₀) (x := x) ?_ ?_; rotate_left; clear_value x; rotate_left; subst x) | (intro x; subst x)
    | intro _ | lift_lets | assumption | apply State.suspendErase_kept | apply State.setBlock_kept | apply Kept.ite
    | fail_if_no_progress (apply Kept.lit; rotate_left; with_unfolding_all rfl; with_unfolding_all rfl)

theorem State.closePage_kept (s : State) (b : Nat) (hk : Kept ⟨wd, wr, wu⟩ s₀ s) : Kept ⟨wd, wr, wu⟩ s₀ (State.closePage s b) := by
  unfold State.closePage
  with_reducible repeat' first
    | (intro x; refine Kept.gen (w := ⟨wd, wr, wu⟩) (s₀ := s₀) (x := x) ?_ ?_; rotate_left; clear_value x; rotate_left; subst x) | (intro x; subst x)
    | intro _ | lift_lets | assumption | apply State.setBlock_kept | apply Kept.ite
    | fail_if_no_progress (apply Kept.lit; rotate_left; with_unfolding_all rfl; with_unfolding_all rfl)

theorem State.dropSweep_kept (s : State) (hk : Kept ⟨wd, wr, wu⟩ s₀ s) : Kept ⟨wd, wr, wu⟩ s₀ (State.dropSweep s) := by
  unfold State.dropSweep
  with_reducible repeat' first
    | intro _ | assumption | apply State.faultIn_kept | apply Kept.ite
    | fail_if_no_progress (apply Kept.lit; rotate_left; with_unfolding_all rfl; with_unfolding_all rfl) | split

theorem State.sweepSkips_kept (s : State) (n : Nat) (hk : Kept ⟨wd, wr, wu⟩ s₀ s) : Kept ⟨wd, wr, wu⟩ s₀ (State.sweepSkips s n) := by
  unfold State.sweepSkips
  with_reducible repeat' first
    | (intro x; refine Kept.gen (w := ⟨wd, wr, wu⟩) (s₀ := s₀) (x := x) ?_ ?_; rotate_left; clear_value x; rotate_left; subst x) | (intro x; subst x)
    | intro _ | lift_lets | assumption | apply State.dropSweep_kept | apply State.record_kept | apply Kept.ite

theorem State.showFailedFc_kept (s : State) (hk : Kept ⟨wd, wr, wu⟩ s₀ s) : Kept ⟨wd, wr, wu⟩ s₀ (State.showFailedFc s) := by
  unfold State.showFailedFc
  with_reducible repeat' first
    | intro _ | assumption | apply State.put_kept | apply Kept.ite

theorem State.nfcFault_kept (s : State) (n sev : Nat) (brief : Bool) (hk : Kept ⟨wd, wr, wu⟩ s₀ s) :
    Kept ⟨wd, wr, wu⟩ s₀ (State.nfcFault s n sev brief) := by
  unfold State.nfcFault
  with_reducible repeat' first
    | (intro x; refine Kept.gen (w := ⟨wd, wr, wu⟩) (s₀ := s₀) (x := x) ?_ ?_; rotate_left; clear_value x; rotate_left; subst x) | (intro x; subst x)
    | intro _ | lift_lets | assumption | apply State.strikeUnit_kept | apply State.put_kept | apply State.sweepSkips_kept
    | apply State.showFailedFc_kept | apply Kept.ite

theorem State.flashRead_kept (s : State) (fa corrected retries : Nat) (bad : Bool) (hk : Kept ⟨wd, wr, wu⟩ s₀ s) :
    Kept ⟨wd, wr, wu⟩ s₀ (State.flashRead s fa corrected retries bad) := by
  unfold State.flashRead
  with_reducible repeat' first
    | (intro x; refine Kept.gen (w := ⟨wd, wr, wu⟩) (s₀ := s₀) (x := x) ?_ ?_; rotate_left; clear_value x; rotate_left; subst x) | (intro x; subst x)
    | intro _ | lift_lets | assumption | apply State.suspendErase_kept | apply State.count_kept | apply State.record_kept
    | apply State.nfcFault_kept | apply State.raise_kept | apply State.setBlock_kept | apply Kept.ite
    | fail_if_no_progress (apply Kept.lit; rotate_left; with_unfolding_all rfl; with_unfolding_all rfl)

theorem State.flashReads_kept (s : State) (l : List CodewordRead) (hk : Kept ⟨wd, wr, wu⟩ s₀ s) : Kept ⟨wd, wr, wu⟩ s₀ (State.flashReads s l) := by
  unfold State.flashReads
  with_reducible repeat' first
    | intro _ | assumption | apply State.flashRead_kept | apply Kept.ite | apply Kept.each

theorem State.newLsn_kept (s : State) (hk : Kept ⟨wd, wr, wu⟩ s₀ s) : Kept ⟨wd, wr, wu⟩ s₀ (State.newLsn s) := by
  unfold State.newLsn
  with_reducible repeat' first
    | assumption | fail_if_no_progress (apply Kept.lit; rotate_left; with_unfolding_all rfl; with_unfolding_all rfl)

theorem State.putRecord_kept (s : State) (lsn page fa : Nat) (image : PageImage) (hk : Kept ⟨wd, wr, wu⟩ s₀ s) :
    Kept ⟨wd, wr, wu⟩ s₀ (State.putRecord s lsn page fa image) := by
  unfold State.putRecord
  with_reducible repeat' first
    | intro _ | assumption | apply Kept.ite
    | fail_if_no_progress (apply Kept.lit; rotate_left; with_unfolding_all rfl; with_unfolding_all rfl)

theorem State.putCell_kept (s : State) (fa : Nat) (w : KeeperWord) (hk : Kept ⟨wd, wr, wu⟩ s₀ s) : Kept ⟨wd, wr, wu⟩ s₀ (State.putCell s fa w) := by
  unfold State.putCell
  with_reducible repeat' first
    | intro _ | assumption | apply Kept.ite
    | fail_if_no_progress (apply Kept.lit; rotate_left; with_unfolding_all rfl; with_unfolding_all rfl)

theorem State.writeRingList_kept (s : State) (hk : Kept ⟨wd, wr, wu⟩ s₀ s) : Kept ⟨wd, wr, wu⟩ s₀ (State.writeRingList s) := by
  unfold State.writeRingList
  with_reducible repeat' first
    | intro _ | assumption | apply State.writeLatest_kept | apply Kept.ite

theorem State.releaseBlocks_kept (s : State) (hk : Kept ⟨wd, wr, wu⟩ s₀ s) : Kept ⟨wd, wr, wu⟩ s₀ (State.releaseBlocks s) := by
  unfold State.releaseBlocks
  with_reducible repeat' first
    | (intro x; refine Kept.gen (w := ⟨wd, wr, wu⟩) (s₀ := s₀) (x := x) ?_ ?_; rotate_left; clear_value x; rotate_left; subst x) | (intro x; subst x)
    | intro _ | lift_lets | assumption | apply State.writeRingList_kept | apply State.count_kept | apply State.record_kept
    | apply Kept.ite | apply Kept.each
    | fail_if_no_progress (apply Kept.lit; rotate_left; with_unfolding_all rfl; with_unfolding_all rfl)

theorem State.showReserve_kept (s : State) (hk : Kept ⟨wd, wr, wu⟩ s₀ s) : Kept ⟨wd, wr, wu⟩ s₀ (State.showReserve s) := by
  unfold State.showReserve
  with_reducible repeat' first
    | (intro x; refine Kept.gen (w := ⟨wd, wr, wu⟩) (s₀ := s₀) (x := x) ?_ ?_; rotate_left; clear_value x; rotate_left; subst x) | (intro x; subst x)
    | intro _ | lift_lets | assumption | apply State.putAll_kept | apply Kept.ite
    | fail_if_no_progress (apply Kept.lit; rotate_left; with_unfolding_all rfl; with_unfolding_all rfl)

theorem State.reserveChanged_kept (s : State) (hk : Kept ⟨wd, wr, wu⟩ s₀ s) : Kept ⟨wd, wr, wu⟩ s₀ (State.reserveChanged s) := by
  unfold State.reserveChanged
  with_reducible repeat' first
    | (intro x; refine Kept.gen (w := ⟨wd, wr, wu⟩) (s₀ := s₀) (x := x) ?_ ?_; rotate_left; clear_value x; rotate_left; subst x) | (intro x; subst x)
    | intro _ | lift_lets | assumption | apply State.showReserve_kept | apply State.recompute_kept | apply Kept.ite

theorem State.useReserve_kept (s : State) (pages again : Nat) (hk : Kept ⟨wd, wr, wu⟩ s₀ s) :
    Kept ⟨wd, wr, wu⟩ s₀ (State.useReserve s pages again) := by
  unfold State.useReserve
  with_reducible repeat' first
    | intro _ | assumption | apply State.reserveChanged_kept | apply Kept.ite
    | fail_if_no_progress (apply Kept.lit; rotate_left; with_unfolding_all rfl; with_unfolding_all rfl)

theorem State.useRecords_kept (s : State) (slots : Nat) (hk : Kept ⟨wd, wr, wu⟩ s₀ s) : Kept ⟨wd, wr, wu⟩ s₀ (State.useRecords s slots) := by
  unfold State.useRecords
  with_reducible repeat' first
    | intro _ | assumption | apply Kept.ite
    | fail_if_no_progress (apply Kept.lit; rotate_left; with_unfolding_all rfl; with_unfolding_all rfl)

theorem State.fillReserve_kept (s : State) (lun : Nat) (hk : Kept ⟨wd, wr, wu⟩ s₀ s) : Kept ⟨wd, wr, wu⟩ s₀ (State.fillReserve s lun) := by
  unfold State.fillReserve
  with_reducible repeat' first
    | (intro x; refine Kept.gen (w := ⟨wd, wr, wu⟩) (s₀ := s₀) (x := x) ?_ ?_; rotate_left; clear_value x; rotate_left; subst x) | (intro x; subst x)
    | intro _ | lift_lets | assumption | apply State.setBlock_kept | apply Kept.ite | apply Kept.each

theorem State.keepReserve_kept (s : State) (hk : Kept ⟨wd, wr, wu⟩ s₀ s) : Kept ⟨wd, wr, wu⟩ s₀ (State.keepReserve s) := by
  unfold State.keepReserve
  with_reducible repeat' first
    | (intro x; refine Kept.gen (w := ⟨wd, wr, wu⟩) (s₀ := s₀) (x := x) ?_ ?_; rotate_left; clear_value x; rotate_left; subst x) | (intro x; subst x)
    | intro _ | lift_lets | assumption | apply State.fillReserve_kept | apply State.reserveChanged_kept | apply Kept.ite
    | apply Kept.each | fail_if_no_progress (apply Kept.lit; rotate_left; with_unfolding_all rfl; with_unfolding_all rfl)

theorem State.loseBlock_kept (s : State) (x : Block) (hk : Kept ⟨wd, wr, wu⟩ s₀ s) : Kept ⟨wd, wr, wu⟩ s₀ (State.loseBlock s x) := by
  unfold State.loseBlock
  with_reducible repeat' first
    | intro _ | assumption | apply State.useRecords_kept | apply Kept.ite
    | fail_if_no_progress (apply Kept.lit; rotate_left; with_unfolding_all rfl; with_unfolding_all rfl)

theorem State.programFailed_kept (s : State) (fa : Nat) (hk : Kept ⟨wd, wr, wu⟩ s₀ s) : Kept ⟨wd, wr, wu⟩ s₀ (State.programFailed s fa) := by
  unfold State.programFailed
  with_reducible repeat' first
    | (intro x; refine Kept.gen (w := ⟨wd, wr, wu⟩) (s₀ := s₀) (x := x) ?_ ?_; rotate_left; clear_value x; rotate_left; subst x) | (intro x; subst x)
    | intro _ | lift_lets | assumption | apply State.count_kept | apply State.loseBlock_kept | apply State.setBlock_kept
    | apply State.nfcFault_kept | apply State.releaseBlocks_kept | apply Kept.ite
    | fail_if_no_progress (apply Kept.lit; rotate_left; with_unfolding_all rfl; with_unfolding_all rfl)

theorem State.listRing_kept (s : State) (l : List Nat) (hk : Kept ⟨wd, wr, wu⟩ s₀ s) : Kept ⟨wd, wr, wu⟩ s₀ (State.listRing s l) := by
  unfold State.listRing
  with_reducible repeat' first
    | (intro x; refine Kept.gen (w := ⟨wd, wr, wu⟩) (s₀ := s₀) (x := x) ?_ ?_; rotate_left; clear_value x; rotate_left; subst x) | (intro x; subst x)
    | intro _ | lift_lets | assumption | apply State.journalSectors_kept | apply State.writeCopy_kept | apply State.record_kept
    | apply Kept.ite | fail_if_no_progress (apply Kept.lit; rotate_left; with_unfolding_all rfl; with_unfolding_all rfl)

theorem State.addRingBlocks_kept (s : State) (l : List Nat) (hk : Kept ⟨wd, wr, wu⟩ s₀ s) : Kept ⟨wd, wr, wu⟩ s₀ (State.addRingBlocks s l) := by
  unfold State.addRingBlocks
  with_reducible repeat' first
    | (intro x; refine Kept.gen (w := ⟨wd, wr, wu⟩) (s₀ := s₀) (x := x) ?_ ?_; rotate_left; clear_value x; rotate_left; subst x) | (intro x; subst x)
    | intro _ | lift_lets | assumption | apply State.listRing_kept | apply Kept.ite | apply Kept.fold

theorem State.keeperPage_kept (s : State) (fa n : Nat) (hk : Kept ⟨wd, wr, wu⟩ s₀ s) : Kept ⟨wd, wr, wu⟩ s₀ (State.keeperPage s fa n) := by
  unfold State.keeperPage
  with_reducible repeat' first
    | (intro x; refine Kept.gen (w := ⟨wd, wr, wu⟩) (s₀ := s₀) (x := x) ?_ ?_; rotate_left; clear_value x; rotate_left; subst x) | (intro x; subst x)
    | intro _ | lift_lets | assumption | apply State.openAt_kept | apply State.closePage_kept | apply State.useRecords_kept
    | apply Kept.ite | apply Kept.each

theorem State.ringCopy_kept (s : State) (r : RingRec) (flags fa : Nat) (hk : Kept ⟨wd, wr, wu⟩ s₀ s) :
    Kept ⟨wd, wr, wu⟩ s₀ (State.ringCopy s r flags fa) := by
  unfold State.ringCopy
  with_reducible repeat' first
    | intro _ | assumption | apply State.keeperPage_kept | apply State.putCell_kept | apply Kept.ite

theorem State.addRing_kept (s : State) (fa fb : Nat) (body : RingBody) (hk : Kept ⟨wd, wr, wu⟩ s₀ s) :
    Kept ⟨wd, wr, wu⟩ s₀ (State.addRing s fa fb body) := by
  unfold State.addRing
  with_reducible repeat' first
    | (intro x; refine Kept.gen (w := ⟨wd, wr, wu⟩) (s₀ := s₀) (x := x) ?_ ?_; rotate_left; clear_value x; rotate_left; subst x) | (intro x; subst x)
    | intro _ | lift_lets | assumption | apply State.newLsn_kept | apply State.ringCopy_kept | apply State.addRingBlocks_kept
    | apply Kept.ite | fail_if_no_progress (apply Kept.lit; rotate_left; with_unfolding_all rfl; with_unfolding_all rfl)

theorem State.keeperFailed_kept (s : State) (fa : Nat) (hk : Kept ⟨wd, wr, wu⟩ s₀ s) : Kept ⟨wd, wr, wu⟩ s₀ (State.keeperFailed s fa) := by
  unfold State.keeperFailed
  with_reducible repeat' first
    | (intro x; refine Kept.gen (w := ⟨wd, wr, wu⟩) (s₀ := s₀) (x := x) ?_ ?_; rotate_left; clear_value x; rotate_left; subst x) | (intro x; subst x)
    | intro _ | lift_lets | assumption | apply State.programFailed_kept | apply Kept.ite
    | fail_if_no_progress (apply Kept.lit; rotate_left; with_unfolding_all rfl; with_unfolding_all rfl)

theorem State.repeatPassed_kept (s : State) (hk : Kept ⟨wd, wr, wu⟩ s₀ s) : Kept ⟨wd, wr, wu⟩ s₀ (State.repeatPassed s) := by
  unfold State.repeatPassed
  with_reducible repeat' first
    | intro _ | assumption | apply State.endFault_kept | apply Kept.ite | apply Kept.each
    | fail_if_no_progress (apply Kept.lit; rotate_left; with_unfolding_all rfl; with_unfolding_all rfl)

theorem State.putCodewords_kept (s : State) (fas : List Nat) (hk : Kept ⟨wd, wr, wu⟩ s₀ s) : Kept ⟨wd, wr, wu⟩ s₀ (State.putCodewords s fas) := by
  unfold State.putCodewords
  with_reducible repeat' first
    | (intro x; refine Kept.gen (w := ⟨wd, wr, wu⟩) (s₀ := s₀) (x := x) ?_ ?_; rotate_left; clear_value x; rotate_left; subst x) | (intro x; subst x)
    | intro _ | lift_lets | assumption | apply State.keeperPage_kept | apply Kept.ite | apply Kept.each
    | fail_if_no_progress (apply Kept.lit; rotate_left; with_unfolding_all rfl; with_unfolding_all rfl)

theorem State.putWords_kept (s : State) (index : NMap Nat) (words : Words) (keys : List Nat) (hk : Kept ⟨wd, wr, wu⟩ s₀ s) :
    Kept ⟨wd, wr, wu⟩ s₀ (State.putWords s index words keys) := by
  unfold State.putWords
  with_reducible repeat' first
    | intro _ | assumption | apply State.putCell_kept | apply Kept.ite | apply Kept.each | split

theorem State.stopGc_kept (s : State) (hk : Kept ⟨wd, wr, wu⟩ s₀ s) : Kept ⟨wd, wr, wu⟩ s₀ (State.stopGc s) := by
  unfold State.stopGc
  with_reducible repeat' first
    | (intro x; refine Kept.gen (w := ⟨wd, wr, wu⟩) (s₀ := s₀) (x := x) ?_ ?_; rotate_left; clear_value x; rotate_left; subst x) | (intro x; subst x)
    | intro _ | lift_lets | assumption | apply State.suspendErase_kept | apply State.put_kept | apply Kept.ite | apply Kept.fold
    | fail_if_no_progress (apply Kept.lit; rotate_left; with_unfolding_all rfl; with_unfolding_all rfl) | split

theorem State.showRetained_kept (s : State) (hk : Kept ⟨wd, wr, wu⟩ s₀ s) : Kept ⟨wd, wr, wu⟩ s₀ (State.showRetained s) := by
  unfold State.showRetained
  with_reducible repeat' first
    | intro _ | assumption | apply State.putAll_kept | apply State.cut_kept

theorem State.moveRecord_kept (s : State) (r : RingRec) (hk : Kept ⟨wd, wr, wu⟩ s₀ s) : Kept ⟨wd, wr, wu⟩ s₀ (State.moveRecord s r) := by
  unfold State.moveRecord
  with_reducible repeat' first
    | (intro x; refine Kept.gen (w := ⟨wd, wr, wu⟩) (s₀ := s₀) (x := x) ?_ ?_; rotate_left; clear_value x; rotate_left; subst x) | (intro x; subst x)
    | intro _ | lift_lets | assumption | apply State.ringCopy_kept | apply State.addRingBlocks_kept | apply Kept.ite
    | fail_if_no_progress (apply Kept.lit; rotate_left; with_unfolding_all rfl; with_unfolding_all rfl) | split

theorem State.moveRing_kept (s : State) (hk : Kept ⟨wd, wr, wu⟩ s₀ s) : Kept ⟨wd, wr, wu⟩ s₀ (State.moveRing s) := by
  unfold State.moveRing
  with_reducible repeat' first
    | intro _ | assumption | apply State.moveRecord_kept | apply Kept.ite | apply Kept.each

theorem State.putSegment_kept (s : State) (fas : List Nat) (hk : Kept ⟨wd, wr, wu⟩ s₀ s) : Kept ⟨wd, wr, wu⟩ s₀ (State.putSegment s fas) := by
  unfold State.putSegment
  with_reducible repeat' first
    | (intro x; refine Kept.gen (w := ⟨wd, wr, wu⟩) (s₀ := s₀) (x := x) ?_ ?_; rotate_left; clear_value x; rotate_left; subst x) | (intro x; subst x)
    | intro _ | lift_lets | assumption | apply State.putCodewords_kept | apply State.putWords_kept | apply State.moveRing_kept
    | apply Kept.ite | fail_if_no_progress (apply Kept.lit; rotate_left; with_unfolding_all rfl; with_unfolding_all rfl)

theorem State.addSeal_kept (s : State) (fa fb : Nat) (hk : Kept ⟨wd, wr, wu⟩ s₀ s) : Kept ⟨wd, wr, wu⟩ s₀ (State.addSeal s fa fb) := by
  unfold State.addSeal
  with_reducible repeat' first
    | intro _ | assumption | apply State.addRing_kept | apply Kept.ite
    | fail_if_no_progress (apply Kept.lit; rotate_left; with_unfolding_all rfl; with_unfolding_all rfl)

theorem State.retainEpoch_kept (s : State) (fa commit ref : Nat) (hk : Kept ⟨wd, wr, wu⟩ s₀ s) :
    Kept ⟨wd, wr, wu⟩ s₀ (State.retainEpoch s fa commit ref) := by
  unfold State.retainEpoch
  with_reducible repeat' first
    | (intro x; refine Kept.gen (w := ⟨wd, wr, wu⟩) (s₀ := s₀) (x := x) ?_ ?_; rotate_left; clear_value x; rotate_left; subst x) | (intro x; subst x)
    | intro _ | lift_lets | assumption | apply State.releaseBlocks_kept | apply State.showRetained_kept | apply Kept.ite
    | fail_if_no_progress (apply Kept.lit; rotate_left; with_unfolding_all rfl; with_unfolding_all rfl)

theorem State.sealDurable_kept (s : State) (fa fb : Nat) (hk : Kept ⟨wd, wr, wu⟩ s₀ s) : Kept ⟨wd, wr, wu⟩ s₀ (State.sealDurable s fa fb) := by
  unfold State.sealDurable
  with_reducible repeat' first
    | (intro x; refine Kept.gen (w := ⟨wd, wr, wu⟩) (s₀ := s₀) (x := x) ?_ ?_; rotate_left; clear_value x; rotate_left; subst x) | (intro x; subst x)
    | intro _ | lift_lets | assumption | apply State.addRing_kept | apply State.putPair_kept | apply State.put_kept
    | apply State.putFree_kept | apply State.raise_kept | apply State.retainEpoch_kept | apply State.showEpochs_kept
    | apply Kept.ite | fail_if_no_progress (apply Kept.lit; rotate_left; with_unfolding_all rfl; with_unfolding_all rfl)

theorem State.completeBarriers_kept (s : State) (n : Nat) (hk : Kept ⟨wd, wr, wu⟩ s₀ s) : Kept ⟨wd, wr, wu⟩ s₀ (State.completeBarriers s n) := by
  unfold State.completeBarriers
  with_reducible repeat' first
    | (intro x; refine Kept.gen (w := ⟨wd, wr, wu⟩) (s₀ := s₀) (x := x) ?_ ?_; rotate_left; clear_value x; rotate_left; subst x) | (intro x; subst x)
    | intro _ | lift_lets | assumption | apply State.complete_kept | apply Kept.each
    | fail_if_no_progress (apply Kept.lit; rotate_left; with_unfolding_all rfl; with_unfolding_all rfl)

theorem State.freeSanitized_kept (s : State) (hk : Kept ⟨wd, wr, wu⟩ s₀ s) : Kept ⟨wd, wr, wu⟩ s₀ (State.freeSanitized s) := by
  unfold State.freeSanitized
  with_reducible repeat' first
    | (intro x; refine Kept.gen (w := ⟨wd, wr, wu⟩) (s₀ := s₀) (x := x) ?_ ?_; rotate_left; clear_value x; rotate_left; subst x) | (intro x; subst x)
    | intro _ | lift_lets | assumption | apply State.writeRegions_kept | apply Kept.ite
    | fail_if_no_progress (apply Kept.lit; rotate_left; with_unfolding_all rfl; with_unfolding_all rfl)

/-! ## Machine/Drip.lean -/

theorem State.joinEpoch_kept (s : State) (role : Role) (page lsn : Nat) (hk : Kept ⟨wd, wr, wu⟩ s₀ s) :
    Kept ⟨wd, wr, wu⟩ s₀ (State.joinEpoch s role page lsn) := by
  unfold State.joinEpoch
  with_reducible repeat' first
    | intro _ | assumption | apply Kept.ite
    | fail_if_no_progress (apply Kept.lit; rotate_left; with_unfolding_all rfl; with_unfolding_all rfl) | split

theorem State.fillWear_kept (s : State) (us : Nat) (hk : Kept ⟨wd, wr, wu⟩ s₀ s) : Kept ⟨wd, wr, wu⟩ s₀ (State.fillWear s us) := by
  unfold State.fillWear
  with_reducible repeat' first
    | intro _ | assumption | apply Kept.ite
    | fail_if_no_progress (apply Kept.lit; rotate_left; with_unfolding_all rfl; with_unfolding_all rfl)

theorem State.wearTime_kept (s : State) (hk : Kept ⟨wd, wr, wu⟩ s₀ s) : Kept ⟨wd, wr, wu⟩ s₀ (State.wearTime s) := by
  unfold State.wearTime
  with_reducible repeat' first
    | intro _ | assumption | apply State.fillWear_kept | apply State.tick_kept | apply Kept.ite

theorem State.chargeWear_kept (s : State) (bytes : Int) (hk : Kept ⟨wd, wr, wu⟩ s₀ s) : Kept ⟨wd, wr, wu⟩ s₀ (State.chargeWear s bytes) := by
  unfold State.chargeWear
  with_reducible repeat' first
    | (intro x; refine Kept.gen (w := ⟨wd, wr, wu⟩) (s₀ := s₀) (x := x) ?_ ?_; rotate_left; clear_value x; rotate_left; subst x) | (intro x; subst x)
    | intro _ | lift_lets | assumption | apply State.wearTime_kept | apply State.showWear_kept | apply Kept.ite
    | fail_if_no_progress (apply Kept.lit; rotate_left; with_unfolding_all rfl; with_unfolding_all rfl)

theorem State.allowOne_kept (s : State) (hk : Kept ⟨wd, wr, wu⟩ s₀ s) : Kept ⟨wd, wr, wu⟩ s₀ (State.allowOne s) := by
  unfold State.allowOne
  with_reducible repeat' first
    | (intro x; refine Kept.gen (w := ⟨wd, wr, wu⟩) (s₀ := s₀) (x := x) ?_ ?_; rotate_left; clear_value x; rotate_left; subst x) | (intro x; subst x)
    | intro _ | lift_lets | assumption | apply Kept.ite
    | fail_if_no_progress (apply Kept.lit; rotate_left; with_unfolding_all rfl; with_unfolding_all rfl) | split

theorem State.readForProgram_kept (s : State) (id page : Nat) (role : Role) (errors : LineErrors) (hk : Kept ⟨true, wr, wu⟩ s₀ s) :
    Kept ⟨true, wr, wu⟩ s₀ (State.readForProgram s id page role errors) := by
  unfold State.readForProgram
  with_reducible repeat' first
    | (intro x; refine Kept.gen (w := ⟨true, wr, wu⟩) (s₀ := s₀) (x := x) ?_ ?_; rotate_left; clear_value x; rotate_left; subst x) | (intro x; subst x)
    | intro _ | lift_lets | assumption | apply State.sideTable_kept | apply State.readErrors_kept
    | apply State.uncorrectable_kept | apply State.accessPage_kept | apply Kept.ite

theorem State.performAll_kept (s : State) (l : List HostReq) (hk : Kept ⟨true, wr, wu⟩ s₀ s) : Kept ⟨true, wr, wu⟩ s₀ (State.performAll s l) := by
  unfold State.performAll
  with_reducible repeat' first
    | intro _ | assumption | apply State.unwait_kept | apply State.store_kept | apply Kept.ite | apply Kept.each

theorem State.performAt_kept (s : State) (stage : Stage) (page : Nat) (hk : Kept ⟨true, wr, wu⟩ s₀ s) :
    Kept ⟨true, wr, wu⟩ s₀ (State.performAt s stage page) := by
  unfold State.performAt
  with_reducible repeat' first
    | intro _ | assumption | apply State.performAll_kept | apply Kept.ite

theorem State.abandonCopies_kept (s : State) (cause : Nat) (hk : Kept ⟨true, wr, wu⟩ s₀ s) :
    Kept ⟨true, wr, wu⟩ s₀ (State.abandonCopies s cause) := by
  unfold State.abandonCopies
  with_reducible repeat' first
    | (intro x; refine Kept.gen (w := ⟨true, wr, wu⟩) (s₀ := s₀) (x := x) ?_ ?_; rotate_left; clear_value x; rotate_left; subst x) | (intro x; subst x)
    | intro _ | lift_lets | assumption | apply State.raiseFree_kept | apply State.performAll_kept
    | apply State.abandonSeal_kept | apply Kept.ite

theorem State.abandonNow_kept (s : State) (cause : Nat) (hk : Kept ⟨true, wr, wu⟩ s₀ s) : Kept ⟨true, wr, wu⟩ s₀ (State.abandonNow s cause) := by
  unfold State.abandonNow
  with_reducible repeat' first
    | intro _ | assumption | apply State.abandonCopies_kept | apply State.takeDeferred_kept | apply State.settle_kept
    | apply Kept.ite

theorem State.dripPassed_kept (s : State) (p : DripProg) (rest : List DripProg) (hk : Kept ⟨wd, wr, wu⟩ s₀ s) :
    Kept ⟨wd, wr, wu⟩ s₀ (State.dripPassed s p rest) := by
  unfold State.dripPassed
  with_reducible repeat' first
    | (intro x; refine Kept.gen (w := ⟨wd, wr, wu⟩) (s₀ := s₀) (x := x) ?_ ?_; rotate_left; clear_value x; rotate_left; subst x) | (intro x; subst x)
    | intro _ | lift_lets | assumption | apply State.putRecord_kept | apply State.joinEpoch_kept | apply State.endFault_kept
    | apply State.put_kept | apply State.putFree_kept | apply Kept.ite | apply Kept.each
    | fail_if_no_progress (apply Kept.lit; rotate_left; with_unfolding_all rfl; with_unfolding_all rfl)

theorem State.savedPage_kept (s : State) (hk : Kept ⟨wd, wr, wu⟩ s₀ s) : Kept ⟨wd, wr, wu⟩ s₀ (State.savedPage s) := by
  unfold State.savedPage
  with_reducible repeat' first
    | (intro x; refine Kept.gen (w := ⟨wd, wr, wu⟩) (s₀ := s₀) (x := x) ?_ ?_; rotate_left; clear_value x; rotate_left; subst x) | (intro x; subst x)
    | intro _ | lift_lets | assumption | apply State.put_kept | apply State.useReserve_kept | apply Kept.ite
    | fail_if_no_progress (apply Kept.lit; rotate_left; with_unfolding_all rfl; with_unfolding_all rfl)

theorem State.acceptFrame_kept (s : State) (n : Nat) (hk : Kept ⟨wd, wr, wu⟩ s₀ s) : Kept ⟨wd, wr, wu⟩ s₀ (State.acceptFrame s n) := by
  unfold State.acceptFrame
  with_reducible repeat' first
    | intro _ | assumption | apply State.put_kept | apply Kept.ite
    | fail_if_no_progress (apply Kept.lit; rotate_left; with_unfolding_all rfl; with_unfolding_all rfl)

theorem State.frameError_kept (s : State) (n : Nat) (inWindow : Bool) (hk : Kept ⟨wd, wr, wu⟩ s₀ s) :
    Kept ⟨wd, wr, wu⟩ s₀ (State.frameError s n inWindow) := by
  unfold State.frameError
  with_reducible repeat' first
    | intro _ | assumption | apply State.count_kept | apply Kept.ite

theorem State.frameUnlocked_kept (s : State) (n : Nat) (inWindow : Bool) (hk : Kept ⟨wd, wr, wu⟩ s₀ s) :
    Kept ⟨wd, wr, wu⟩ s₀ (State.frameUnlocked s n inWindow) := by
  unfold State.frameUnlocked
  with_reducible repeat' first
    | (intro x; refine Kept.gen (w := ⟨wd, wr, wu⟩) (s₀ := s₀) (x := x) ?_ ?_; rotate_left; clear_value x; rotate_left; subst x) | (intro x; subst x)
    | intro _ | lift_lets | assumption | apply State.frameError_kept | apply State.put_kept | apply State.setReady_kept
    | apply State.showEpochs_kept | apply State.acceptFrame_kept | apply Kept.ite
    | fail_if_no_progress (apply Kept.lit; rotate_left; with_unfolding_all rfl; with_unfolding_all rfl)

theorem State.frameLocked_kept (s : State) (n : Nat) (inWindow : Bool) (hk : Kept ⟨wd, wr, wu⟩ s₀ s) :
    Kept ⟨wd, wr, wu⟩ s₀ (State.frameLocked s n inWindow) := by
  unfold State.frameLocked
  with_reducible repeat' first
    | assumption | apply State.count_kept | apply State.acceptFrame_kept | apply Kept.ite

theorem State.validFrame_kept (s : State) (n : Nat) (inWindow : Bool) (hk : Kept ⟨wd, wr, wu⟩ s₀ s) :
    Kept ⟨wd, wr, wu⟩ s₀ (State.validFrame s n inWindow) := by
  unfold State.validFrame
  with_reducible repeat' first
    | (intro x; refine Kept.gen (w := ⟨wd, wr, wu⟩) (s₀ := s₀) (x := x) ?_ ?_; rotate_left; clear_value x; rotate_left; subst x) | (intro x; subst x)
    | intro _ | lift_lets | assumption | apply State.putPair_kept | apply State.frameLocked_kept | apply State.frameError_kept
    | apply State.frameUnlocked_kept | apply Kept.ite
    | fail_if_no_progress (apply Kept.lit; rotate_left; with_unfolding_all rfl; with_unfolding_all rfl)

theorem State.beaconEdge_kept (s : State) (hk : Kept ⟨wd, wr, wu⟩ s₀ s) : Kept ⟨wd, wr, wu⟩ s₀ (State.beaconEdge s) := by
  unfold State.beaconEdge
  with_reducible repeat' first
    | intro _ | assumption | apply State.put_kept | apply Kept.ite
    | fail_if_no_progress (apply Kept.lit; rotate_left; with_unfolding_all rfl; with_unfolding_all rfl)

/-! ## Machine/HostMem.lean -/

theorem State.newReq_kept (s : State) (h : Fin 4) (ld : Fin 16) (lpa : Nat) (write : Bool) (data : Bytes) (poison : Bool)
    (hk : Kept ⟨wd, wr, wu⟩ s₀ s) : Kept ⟨wd, wr, wu⟩ s₀ (State.newReq s h ld lpa write data poison).1 := hk.of rfl rfl rfl rfl

theorem State.readLine_kept (s : State) (r : HostReq) (hk : Kept ⟨wd, wr, wu⟩ s₀ s) : Kept ⟨wd, wr, wu⟩ s₀ (State.readLine s r) := by
  unfold State.readLine
  with_reducible repeat' first
    | (intro x; refine Kept.gen (w := ⟨wd, wr, wu⟩) (s₀ := s₀) (x := x) ?_ ?_; rotate_left; clear_value x; rotate_left; subst x) | (intro x; subst x)
    | intro _ | lift_lets | assumption | apply State.access_kept | apply State.completeRead_kept | apply Kept.ite

theorem State.readFound_kept (s : State) (line : Nat) (found : LineRead) (hk : Kept ⟨true, wr, wu⟩ s₀ s) :
    Kept ⟨true, wr, wu⟩ s₀ (State.readFound s line found) := by
  unfold State.readFound
  with_reducible repeat' first
    | intro _ | assumption | apply State.correctLine_kept | apply State.uncorrectable_kept | apply State.uncorrectables_kept
    | apply Kept.ite | split

theorem State.readRestored_kept (s : State) (r : HostReq) (found : LineRead) (hk : Kept ⟨true, wr, wu⟩ s₀ s) :
    Kept ⟨true, wr, wu⟩ s₀ (State.readRestored s r found) := by
  unfold State.readRestored
  with_reducible repeat' first
    | (intro x; refine Kept.gen (w := ⟨true, wr, wu⟩) (s₀ := s₀) (x := x) ?_ ?_; rotate_left; clear_value x; rotate_left; subst x) | (intro x; subst x)
    | intro _ | lift_lets | assumption | apply State.readFound_kept | apply State.wait_kept | apply State.recovery_kept
    | apply State.readLine_kept | apply Kept.ite

theorem State.serveRead_kept (s : State) (r : HostReq) (found : LineRead) (hk : Kept ⟨true, wr, wu⟩ s₀ s) :
    Kept ⟨true, wr, wu⟩ s₀ (State.serveRead s r found) := by
  unfold State.serveRead
  with_reducible repeat' first
    | (intro x; refine Kept.gen (w := ⟨true, wr, wu⟩) (s₀ := s₀) (x := x) ?_ ?_; rotate_left; clear_value x; rotate_left; subst x) | (intro x; subst x)
    | intro _ | lift_lets | assumption | apply State.translationFault_kept | apply State.completeRead_kept
    | apply State.readRestored_kept | apply State.wait_kept | apply State.faultIn_kept | apply Kept.ite
    | fail_if_no_progress (apply Kept.lit; rotate_left; with_unfolding_all rfl; with_unfolding_all rfl) | split

/-! ## Machine/Reserve.lean -/

theorem State.loadFigure_kept (s : State) (hk : Kept ⟨wd, wr, wu⟩ s₀ s) : Kept ⟨wd, wr, wu⟩ s₀ (State.loadFigure s) := by
  unfold State.loadFigure
  with_reducible repeat' first
    | (intro x; refine Kept.gen (w := ⟨wd, wr, wu⟩) (s₀ := s₀) (x := x) ?_ ?_; rotate_left; clear_value x; rotate_left; subst x) | (intro x; subst x)
    | intro _ | lift_lets | assumption | apply State.put_kept | apply Kept.ite
    | fail_if_no_progress (apply Kept.lit; rotate_left; with_unfolding_all rfl; with_unfolding_all rfl)

theorem State.showReserveOk_kept (s : State) (hk : Kept ⟨wd, wr, wu⟩ s₀ s) : Kept ⟨wd, wr, wu⟩ s₀ (State.showReserveOk s) := by
  unfold State.showReserveOk
  with_reducible repeat' first
    | assumption | apply State.put_kept | apply State.setReady_kept

theorem State.takeFigure_kept (s : State) (hk : Kept ⟨wd, wr, wu⟩ s₀ s) : Kept ⟨wd, wr, wu⟩ s₀ (State.takeFigure s) := by
  unfold State.takeFigure
  with_reducible repeat' first
    | assumption | apply State.loadFigure_kept | apply State.recompute_kept | apply State.showReserveOk_kept

theorem State.startCharge_kept (s : State) (hk : Kept ⟨wd, wr, wu⟩ s₀ s) : Kept ⟨wd, wr, wu⟩ s₀ (State.startCharge s) := by
  unfold State.startCharge
  with_reducible repeat' first
    | assumption | apply State.putAll_kept | apply Kept.ite

theorem State.pauseCharge_kept (s : State) (hk : Kept ⟨wd, wr, wu⟩ s₀ s) : Kept ⟨wd, wr, wu⟩ s₀ (State.pauseCharge s) := by
  unfold State.pauseCharge
  with_reducible repeat' first
    | (intro x; refine Kept.gen (w := ⟨wd, wr, wu⟩) (s₀ := s₀) (x := x) ?_ ?_; rotate_left; clear_value x; rotate_left; subst x) | (intro x; subst x)
    | intro _ | lift_lets | assumption | apply State.putAll_kept | apply Kept.ite
    | fail_if_no_progress (apply Kept.lit; rotate_left; with_unfolding_all rfl; with_unfolding_all rfl)

theorem State.stepCharger_kept (s : State) (hk : Kept ⟨wd, wr, wu⟩ s₀ s) : Kept ⟨wd, wr, wu⟩ s₀ (State.stepCharger s) := by
  unfold State.stepCharger
  with_reducible repeat' first
    | intro _ | assumption | apply State.putAll_kept | apply State.startCharge_kept | apply State.pauseCharge_kept
    | apply State.put_kept | apply Kept.ite | split

theorem State.startRest_kept (s : State) (origin : Option (Port × BitVec 32)) (hk : Kept ⟨wd, wr, wu⟩ s₀ s) :
    Kept ⟨wd, wr, wu⟩ s₀ (State.startRest s origin) := by
  unfold State.startRest
  with_reducible repeat' first
    | assumption | apply State.put_kept | apply State.pauseCharge_kept
    | fail_if_no_progress (apply Kept.lit; rotate_left; with_unfolding_all rfl; with_unfolding_all rfl)

theorem State.endRest_kept (s : State) (how : Nat) (hk : Kept ⟨wd, wr, wu⟩ s₀ s) : Kept ⟨wd, wr, wu⟩ s₀ (State.endRest s how) := by
  unfold State.endRest
  with_reducible repeat' first
    | (intro x; refine Kept.gen (w := ⟨wd, wr, wu⟩) (s₀ := s₀) (x := x) ?_ ?_; rotate_left; clear_value x; rotate_left; subst x) | (intro x; subst x)
    | intro _ | lift_lets | assumption | apply State.putAll_kept | apply State.record_kept | apply State.completeFor_kept
    | apply Kept.ite | fail_if_no_progress (apply Kept.lit; rotate_left; with_unfolding_all rfl; with_unfolding_all rfl)

theorem State.defaultLearned_kept (s : State) (hk : Kept ⟨wd, wr, wu⟩ s₀ s) : Kept ⟨wd, wr, wu⟩ s₀ (State.defaultLearned s) := by
  unfold State.defaultLearned
  with_reducible repeat' first
    | (intro x; refine Kept.gen (w := ⟨wd, wr, wu⟩) (s₀ := s₀) (x := x) ?_ ?_; rotate_left; clear_value x; rotate_left; subst x) | (intro x; subst x)
    | intro _ | lift_lets | assumption | apply State.putAll_kept | apply State.record_kept | apply State.writeLearned_kept
    | fail_if_no_progress (apply Kept.lit; rotate_left; with_unfolding_all rfl; with_unfolding_all rfl)

theorem State.detectPack_kept (s : State) (hk : Kept ⟨wd, wr, wu⟩ s₀ s) : Kept ⟨wd, wr, wu⟩ s₀ (State.detectPack s) := by
  unfold State.detectPack
  with_reducible repeat' first
    | (intro x; refine Kept.gen (w := ⟨wd, wr, wu⟩) (s₀ := s₀) (x := x) ?_ ?_; rotate_left; clear_value x; rotate_left; subst x) | (intro x; subst x)
    | intro _ | lift_lets | assumption | apply State.putAll_kept | apply State.record_kept | apply State.defaultLearned_kept
    | apply Kept.ite

theorem State.packGone_kept (s : State) (hk : Kept ⟨wd, wr, wu⟩ s₀ s) : Kept ⟨wd, wr, wu⟩ s₀ (State.packGone s) := by
  unfold State.packGone
  with_reducible repeat' first
    | (intro x; refine Kept.gen (w := ⟨wd, wr, wu⟩) (s₀ := s₀) (x := x) ?_ ?_; rotate_left; clear_value x; rotate_left; subst x) | (intro x; subst x)
    | intro _ | lift_lets | assumption | apply State.putAll_kept | apply State.endRest_kept | apply State.loseReserve_kept
    | apply State.showReserveOk_kept | apply Kept.ite
    | fail_if_no_progress (apply Kept.lit; rotate_left; with_unfolding_all rfl; with_unfolding_all rfl)

theorem State.losePack_kept (s : State) (hk : Kept ⟨wd, wr, wu⟩ s₀ s) : Kept ⟨wd, wr, wu⟩ s₀ (State.losePack s) := by
  unfold State.losePack
  with_reducible repeat' first
    | (intro x; refine Kept.gen (w := ⟨wd, wr, wu⟩) (s₀ := s₀) (x := x) ?_ ?_; rotate_left; clear_value x; rotate_left; subst x) | (intro x; subst x)
    | intro _ | lift_lets | assumption | apply State.put_kept | apply State.record_kept | apply State.strike_kept
    | apply State.packGone_kept | apply Kept.ite

theorem State.takeSample_kept (s : State) (mv : Nat) (ma tenthC : Int) (hk : Kept ⟨wd, wr, wu⟩ s₀ s) :
    Kept ⟨wd, wr, wu⟩ s₀ (State.takeSample s mv ma tenthC) := by
  unfold State.takeSample
  with_reducible repeat' first
    | (intro x; refine Kept.gen (w := ⟨wd, wr, wu⟩) (s₀ := s₀) (x := x) ?_ ?_; rotate_left; clear_value x; rotate_left; subst x) | (intro x; subst x)
    | intro _ | lift_lets | assumption | apply State.putAll_kept
    | fail_if_no_progress (apply Kept.lit; rotate_left; with_unfolding_all rfl; with_unfolding_all rfl)

theorem State.ageWindows_kept (s : State) (hk : Kept ⟨wd, wr, wu⟩ s₀ s) : Kept ⟨wd, wr, wu⟩ s₀ (State.ageWindows s) := by
  unfold State.ageWindows
  with_reducible repeat' first
    | (intro x; refine Kept.gen (w := ⟨wd, wr, wu⟩) (s₀ := s₀) (x := x) ?_ ?_; rotate_left; clear_value x; rotate_left; subst x) | (intro x; subst x)
    | intro _ | lift_lets | assumption | apply State.put_kept | apply Kept.ite
    | fail_if_no_progress (apply Kept.lit; rotate_left; with_unfolding_all rfl; with_unfolding_all rfl)

theorem State.secondPasses_kept (s : State) (hk : Kept ⟨wd, wr, wu⟩ s₀ s) : Kept ⟨wd, wr, wu⟩ s₀ (State.secondPasses s) := by
  unfold State.secondPasses
  with_reducible repeat' first
    | (intro x; refine Kept.gen (w := ⟨wd, wr, wu⟩) (s₀ := s₀) (x := x) ?_ ?_; rotate_left; clear_value x; rotate_left; subst x) | (intro x; subst x)
    | intro _ | lift_lets | assumption | apply State.count_kept | apply State.put_kept | apply State.putAll_kept
    | apply State.ageWindows_kept | apply Kept.ite
    | fail_if_no_progress (apply Kept.lit; rotate_left; with_unfolding_all rfl; with_unfolding_all rfl)

theorem State.judgeRest_kept (s : State) (hk : Kept ⟨wd, wr, wu⟩ s₀ s) : Kept ⟨wd, wr, wu⟩ s₀ (State.judgeRest s) := by
  unfold State.judgeRest
  with_reducible repeat' first
    | (intro x; refine Kept.gen (w := ⟨wd, wr, wu⟩) (s₀ := s₀) (x := x) ?_ ?_; rotate_left; clear_value x; rotate_left; subst x) | (intro x; subst x)
    | intro _ | lift_lets | assumption | apply State.record_kept | apply State.put_kept | apply State.startRest_kept
    | apply Kept.ite

theorem State.trial_kept (s : State) (hk : Kept ⟨wd, wr, wu⟩ s₀ s) : Kept ⟨wd, wr, wu⟩ s₀ (State.trial s) := by
  unfold State.trial
  with_reducible repeat' first
    | (intro x; refine Kept.gen (w := ⟨wd, wr, wu⟩) (s₀ := s₀) (x := x) ?_ ?_; rotate_left; clear_value x; rotate_left; subst x) | (intro x; subst x)
    | intro _ | lift_lets | assumption | apply State.put_kept | apply State.loadFigure_kept | apply State.recompute_kept
    | apply Kept.ite

theorem State.nowArmed_kept (s : State) (hk : Kept ⟨true, wr, wu⟩ s₀ s) : Kept ⟨true, wr, wu⟩ s₀ (State.nowArmed s) := by
  unfold State.nowArmed
  with_reducible repeat' first
    | (intro x; refine Kept.gen (w := ⟨true, wr, wu⟩) (s₀ := s₀) (x := x) ?_ ?_; rotate_left; clear_value x; rotate_left; subst x) | (intro x; subst x)
    | intro _ | lift_lets | assumption | apply State.setReady_kept | apply State.enter_kept | apply State.releaseHeld_kept
    | apply State.settle_kept | apply Kept.ite

theorem State.tryArm_kept (s : State) (hk : Kept ⟨true, wr, wu⟩ s₀ s) {t : State} (h : s.tryArm = some t) : Kept ⟨true, wr, wu⟩ s₀ t := by
  unfold State.tryArm at h
  by_cases hm : s.trial.mayArm = true
  · exact Option.some.inj ((if_pos hm).symm.trans h) ▸ State.nowArmed_kept _ (State.trial_kept _ hk)
  · exact nomatch (if_neg hm).symm.trans h

/-! ## Machine/Bus.lean -/

theorem State.dropCapture_kept (s : State) (r : Req) (off : Nat) (hk : Kept ⟨wd, wr, wu⟩ s₀ s) : Kept ⟨wd, wr, wu⟩ s₀ (State.dropCapture s r off) := by
  unfold State.dropCapture
  with_reducible repeat' first
    | intro _ | assumption | fail_if_no_progress (apply Kept.lit; rotate_left; with_unfolding_all rfl; with_unfolding_all rfl)

theorem State.capture_kept (s : State) (r : Req) (off : Nat) (words : List Nat) (hk : Kept ⟨wd, wr, wu⟩ s₀ s) :
    Kept ⟨wd, wr, wu⟩ s₀ (State.capture s r off words) := by
  unfold State.capture
  with_reducible repeat' first
    | (intro x; refine Kept.gen (w := ⟨wd, wr, wu⟩) (s₀ := s₀) (x := x) ?_ ?_; rotate_left; clear_value x; rotate_left; subst x) | (intro x; subst x)
    | intro _ | lift_lets | assumption | apply State.dropCapture_kept
    | fail_if_no_progress (apply Kept.lit; rotate_left; with_unfolding_all rfl; with_unfolding_all rfl)

theorem State.readCaptures_kept (s : State) (r : Req) (off : Nat) (hk : Kept ⟨wd, wr, wu⟩ s₀ s) : Kept ⟨wd, wr, wu⟩ s₀ (State.readCaptures s r off) := by
  unfold State.readCaptures
  with_reducible repeat' first
    | (intro x; refine Kept.gen (w := ⟨wd, wr, wu⟩) (s₀ := s₀) (x := x) ?_ ?_; rotate_left; clear_value x; rotate_left; subst x) | (intro x; subst x)
    | intro _ | lift_lets | assumption | apply State.capture_kept | apply State.dropCapture_kept | apply Kept.ite | split

theorem State.readEffects_kept (s : State) (off : Nat) (hk : Kept ⟨wd, wr, wu⟩ s₀ s) : Kept ⟨wd, wr, wu⟩ s₀ (State.readEffects s off) := by
  unfold State.readEffects
  with_reducible repeat' first
    | intro _ | assumption | apply State.put_kept | apply Kept.ite
    | fail_if_no_progress (apply Kept.lit; rotate_left; with_unfolding_all rfl; with_unfolding_all rfl) | split

theorem State.busRead_kept (s : State) (r : Req) (off size : Nat) (hk : Kept ⟨wd, wr, wu⟩ s₀ s) :
    Kept ⟨wd, wr, wu⟩ s₀ (State.busRead s r off size).2 := by
  unfold State.busRead
  extract_lets reg
  split
  · exact hk
  · extract_lets fs
    split
    · exact hk
    · exact State.readEffects_kept _ _ (.each (State.readCaptures_kept _ _ _ hk) fun t f ht => .ite (State.put_kept _ _ _ ht) ht)

theorem State.locked_kept (s : State) (hk : Kept ⟨wd, wr, wu⟩ s₀ s) : Kept ⟨wd, wr, wu⟩ s₀ (State.locked s) := by
  unfold State.locked
  with_reducible repeat' first
    | assumption | apply State.record_kept

theorem State.writeField_kept (s : State) (off : Nat) (f : FieldDef) (v : Nat) (hk : Kept ⟨wd, wr, wu⟩ s₀ s) :
    Kept ⟨wd, wr, wu⟩ s₀ (State.writeField s off f v) := by
  unfold State.writeField
  with_reducible repeat' first
    | (intro x; refine Kept.gen (w := ⟨wd, wr, wu⟩) (s₀ := s₀) (x := x) ?_ ?_; rotate_left; clear_value x; rotate_left; subst x) | (intro x; subst x)
    | intro _ | lift_lets | assumption | apply State.put_kept | apply State.boundary_kept | apply State.locked_kept
    | apply Kept.ite | apply Kept.fold
    | fail_if_no_progress (apply Kept.lit; rotate_left; with_unfolding_all rfl; with_unfolding_all rfl) | split

theorem State.accessDenied_kept (s : State) (hk : Kept ⟨wd, wr, wu⟩ s₀ s) : Kept ⟨wd, wr, wu⟩ s₀ (State.accessDenied s) := by
  unfold State.accessDenied
  with_reducible repeat' first
    | assumption | apply State.record_kept

theorem State.writeFields_kept (s : State) (off v : Nat) (fs : List FieldDef) (hk : Kept ⟨wd, wr, wu⟩ s₀ s) :
    Kept ⟨wd, wr, wu⟩ s₀ (State.writeFields s off v fs) := by
  unfold State.writeFields
  with_reducible repeat' first
    | intro _ | assumption | apply State.writeField_kept | apply Kept.ite | apply Kept.each

/-! ## Machine/Cores.lean -/

theorem State.dmaHalt_kept (s : State) (n cause : Nat) (hk : Kept ⟨wd, wr, wu⟩ s₀ s) : Kept ⟨wd, wr, wu⟩ s₀ (State.dmaHalt s n cause) := by
  unfold State.dmaHalt
  with_reducible repeat' first
    | assumption | apply State.putAll_kept
    | fail_if_no_progress (apply Kept.lit; rotate_left; with_unfolding_all rfl; with_unfolding_all rfl)

theorem State.dmaError_kept (s : State) (n kind : Nat) (write desc : Bool) (addr : Option Nat) (hk : Kept ⟨wd, wr, wu⟩ s₀ s) :
    Kept ⟨wd, wr, wu⟩ s₀ (State.dmaError s n kind write desc addr) := by
  unfold State.dmaError
  with_reducible repeat' first
    | (intro x; refine Kept.gen (w := ⟨wd, wr, wu⟩) (s₀ := s₀) (x := x) ?_ ?_; rotate_left; clear_value x; rotate_left; subst x) | (intro x; subst x)
    | intro _ | lift_lets | assumption | apply State.putAll_kept | apply State.putPair_kept | apply State.record_kept
    | apply State.raiseFault_kept | apply Kept.ite
    | fail_if_no_progress (apply Kept.lit; rotate_left; with_unfolding_all rfl; with_unfolding_all rfl) | split

theorem State.dmaFogPause_kept (s : State) (hk : Kept ⟨wd, wr, wu⟩ s₀ s) : Kept ⟨wd, wr, wu⟩ s₀ (State.dmaFogPause s) := by
  unfold State.dmaFogPause
  with_reducible repeat' first
    | intro _ | assumption | apply State.put_kept | apply Kept.ite | apply Kept.each

theorem State.dmaFwStop_kept (s : State) (hk : Kept ⟨wd, wr, wu⟩ s₀ s) : Kept ⟨wd, wr, wu⟩ s₀ (State.dmaFwStop s) := by
  unfold State.dmaFwStop
  with_reducible repeat' first
    | intro _ | assumption | apply State.dmaHalt_kept | apply Kept.ite | apply Kept.each

theorem State.abortFwCommands_kept (s : State) (hk : Kept ⟨wd, wr, wu⟩ s₀ s) : Kept ⟨wd, wr, wu⟩ s₀ (State.abortFwCommands s) := by
  unfold State.abortFwCommands
  with_reducible repeat' first
    | (intro x; refine Kept.gen (w := ⟨wd, wr, wu⟩) (s₀ := s₀) (x := x) ?_ ?_; rotate_left; clear_value x; rotate_left; subst x) | (intro x; subst x)
    | intro _ | lift_lets | assumption | apply State.complete_kept | apply Kept.each
    | fail_if_no_progress (apply Kept.lit; rotate_left; with_unfolding_all rfl; with_unfolding_all rfl)

theorem State.closeWindows_kept (s : State) (hk : Kept ⟨wd, wr, wu⟩ s₀ s) : Kept ⟨wd, wr, wu⟩ s₀ (State.closeWindows s) := by
  unfold State.closeWindows
  with_reducible repeat' first
    | intro _ | assumption | apply State.put_kept | apply Kept.each

theorem State.stopFw_kept (s : State) (cause : Nat) (hk : Kept ⟨wd, wr, wu⟩ s₀ s) : Kept ⟨wd, wr, wu⟩ s₀ (State.stopFw s cause) := by
  unfold State.stopFw
  with_reducible repeat' first
    | (intro x; refine Kept.gen (w := ⟨wd, wr, wu⟩) (s₀ := s₀) (x := x) ?_ ?_; rotate_left; clear_value x; rotate_left; subst x) | (intro x; subst x)
    | intro _ | lift_lets | assumption | apply State.setReady_kept | apply State.released_kept | apply State.putAll_kept
    | apply State.count_kept | apply State.record_kept | apply State.foghorn_kept | apply State.dmaFwStop_kept
    | apply State.abandonSession_kept | apply State.abortFwCommands_kept | apply State.closeWindows_kept | apply Kept.ite
    | fail_if_no_progress (apply Kept.lit; rotate_left; with_unfolding_all rfl; with_unfolding_all rfl)
    | (apply Kept.mix; rotate_left 3; with_unfolding_all rfl; with_unfolding_all rfl; rotate_right 3)

theorem State.openWindow_kept (s : State) (n base size ac : Nat) (dma x w r : Bool) (hk : Kept ⟨wd, wr, wu⟩ s₀ s) :
    Kept ⟨wd, wr, wu⟩ s₀ (State.openWindow s n base size ac dma x w r) := by
  unfold State.openWindow
  with_reducible repeat' first
    | assumption | apply State.putAll_kept

theorem State.releaseFw_kept (s : State) (hk : Kept ⟨wd, wr, wu⟩ s₀ s) : Kept ⟨wd, wr, wu⟩ s₀ (State.releaseFw s) := by
  unfold State.releaseFw
  with_reducible repeat' first
    | (intro x; refine Kept.gen (w := ⟨wd, wr, wu⟩) (s₀ := s₀) (x := x) ?_ ?_; rotate_left; clear_value x; rotate_left; subst x) | (intro x; subst x)
    | intro _ | lift_lets | assumption | apply State.openWindow_kept | apply State.putAll_kept | apply State.released_kept
    | fail_if_no_progress (apply Kept.lit; rotate_left; with_unfolding_all rfl; with_unfolding_all rfl)
    | (apply Kept.mix; rotate_left 3; with_unfolding_all rfl; with_unfolding_all rfl; rotate_right 3)

theorem State.restartFw_kept (s : State) (hk : Kept ⟨wd, wr, wu⟩ s₀ s) : Kept ⟨wd, wr, wu⟩ s₀ (State.restartFw s) := by
  unfold State.restartFw
  with_reducible repeat' first
    | intro _ | assumption | apply State.count_kept | apply State.releaseFw_kept | apply Kept.ite
    | fail_if_no_progress (apply Kept.lit; rotate_left; with_unfolding_all rfl; with_unfolding_all rfl)

theorem State.fenceDenied_kept (s : State) (who : Fencer) (kind : AccessKind) (a : Nat) (hk : Kept ⟨wd, wr, wu⟩ s₀ s) :
    Kept ⟨wd, wr, wu⟩ s₀ (State.fenceDenied s who kind a) := by
  unfold State.fenceDenied
  with_reducible repeat' first
    | (intro x; refine Kept.gen (w := ⟨wd, wr, wu⟩) (s₀ := s₀) (x := x) ?_ ?_; rotate_left; clear_value x; rotate_left; subst x) | (intro x; subst x)
    | intro _ | lift_lets | assumption | apply State.count_kept | apply State.putAll_kept | apply State.putPair_kept
    | apply State.record_kept | apply State.stopFw_kept | apply Kept.ite
    | fail_if_no_progress (apply Kept.lit; rotate_left; with_unfolding_all rfl; with_unfolding_all rfl) | split

theorem State.dmaFetch_kept (s : State) (n a : Nat) (drain : Bool) (hk : Kept ⟨wd, wr, wu⟩ s₀ s) : Kept ⟨wd, wr, wu⟩ s₀ (State.dmaFetch s n a drain) := by
  unfold State.dmaFetch
  with_reducible repeat' first
    | (intro x; refine Kept.gen (w := ⟨wd, wr, wu⟩) (s₀ := s₀) (x := x) ?_ ?_; rotate_left; clear_value x; rotate_left; subst x) | (intro x; subst x)
    | intro _ | lift_lets | assumption | apply State.put_kept | apply State.fenceDenied_kept | apply State.dmaError_kept
    | apply State.putPair_kept | apply State.putAll_kept | apply Kept.ite
    | fail_if_no_progress (apply Kept.lit; rotate_left; with_unfolding_all rfl; with_unfolding_all rfl)

theorem State.dmaComplete_kept (s : State) (n : Nat) (j : DmaJob) (hk : Kept ⟨wd, wr, wu⟩ s₀ s) : Kept ⟨wd, wr, wu⟩ s₀ (State.dmaComplete s n j) := by
  unfold State.dmaComplete
  with_reducible repeat' first
    | (intro x; refine Kept.gen (w := ⟨wd, wr, wu⟩) (s₀ := s₀) (x := x) ?_ ?_; rotate_left; clear_value x; rotate_left; subst x) | (intro x; subst x)
    | intro _ | lift_lets | assumption | apply State.count_kept | apply State.put_kept | apply State.emit_kept
    | apply State.dmaFetch_kept | apply Kept.ite
    | fail_if_no_progress (apply Kept.lit; rotate_left; with_unfolding_all rfl; with_unfolding_all rfl)
    | fail_if_no_progress beta_reduce

theorem State.dmaOp_kept (s : State) (n op : Nat) (hk : Kept ⟨wd, wr, wu⟩ s₀ s) : Kept ⟨wd, wr, wu⟩ s₀ (State.dmaOp s n op) := by
  unfold State.dmaOp
  with_reducible repeat' first
    | (intro x; refine Kept.gen (w := ⟨wd, wr, wu⟩) (s₀ := s₀) (x := x) ?_ ?_; rotate_left; clear_value x; rotate_left; subst x) | (intro x; subst x)
    | intro _ | lift_lets | assumption | apply State.endFault_kept | apply State.putAll_kept | apply State.dmaFetch_kept
    | apply State.put_kept | apply State.dmaHalt_kept | apply Kept.ite
    | fail_if_no_progress (apply Kept.lit; rotate_left; with_unfolding_all rfl; with_unfolding_all rfl) | split

theorem State.dmaRequest_kept (s : State) (lines : Nat) (hk : Kept ⟨wd, wr, wu⟩ s₀ s) : Kept ⟨wd, wr, wu⟩ s₀ (State.dmaRequest s lines) := by
  unfold State.dmaRequest
  with_reducible repeat' first
    | assumption | fail_if_no_progress (apply Kept.lit; rotate_left; with_unfolding_all rfl; with_unfolding_all rfl)

end Sys2Proof.Machine
end

