-- ==== Sys2Proof/Laws/KeptBlocks.lean ====
section
/-! SUPPORT. What the operations of the single blocks keep. -/

namespace Sys2Proof.Machine

open Host

set_option linter.unusedTactic false
set_option linter.unreachableTactic false

variable {s₀ : State} {wd wr wu : Bool}

/-! ## Machine/Links.lean -/

theorem State.showLinks_kept (s : State) (hk : Kept ⟨wd, wr, wu⟩ s₀ s) : Kept ⟨wd, wr, wu⟩ s₀ (State.showLinks s) := by
  unfold State.showLinks
  with_reducible repeat' first
    | (intro x; refine Kept.gen (w := ⟨wd, wr, wu⟩) (s₀ := s₀) (x := x) ?_ ?_; rotate_left; clear_value x; rotate_left; subst x) | (intro x; subst x)
    | intro _ | lift_lets | assumption | apply State.put_kept | apply State.setReady_kept | apply Kept.each
    | fail_if_no_progress beta_reduce

theorem State.showHeld_kept (s : State) (hk : Kept ⟨wd, wr, wu⟩ s₀ s) : Kept ⟨wd, wr, wu⟩ s₀ (State.showHeld s) := by
  unfold State.showHeld
  with_reducible repeat' first
    | intro _ | assumption | apply State.put_kept

theorem State.linkDown_kept (s : State) (h : Nat) (hk : Kept ⟨wd, wr, wu⟩ s₀ s) : Kept ⟨wd, wr, wu⟩ s₀ (State.linkDown s h) := by
  unfold State.linkDown
  with_reducible repeat' first
    | (intro x; refine Kept.gen (w := ⟨wd, wr, wu⟩) (s₀ := s₀) (x := x) ?_ ?_; rotate_left; clear_value x; rotate_left; subst x) | (intro x; subst x)
    | intro _ | lift_lets | assumption | apply State.putAll_kept | apply State.record_kept | apply State.showHeld_kept
    | apply State.showLinks_kept | apply Kept.ite
    | fail_if_no_progress (apply Kept.lit; rotate_left; with_unfolding_all rfl; with_unfolding_all rfl)

theorem State.allLinksDown_kept (s : State) (hk : Kept ⟨wd, wr, wu⟩ s₀ s) : Kept ⟨wd, wr, wu⟩ s₀ (State.allLinksDown s) := by
  unfold State.allLinksDown
  with_reducible repeat' first
    | intro _ | assumption | apply State.linkDown_kept | apply Kept.each

theorem State.stopPll_kept (s : State) (n : Nat) (hk : Kept ⟨wd, wr, wu⟩ s₀ s) : Kept ⟨wd, wr, wu⟩ s₀ (State.stopPll s n) := by
  unfold State.stopPll
  with_reducible repeat' first
    | assumption | apply State.putAll_kept

theorem State.startPll_kept (s : State) (n : Nat) (hk : Kept ⟨wd, wr, wu⟩ s₀ s) : Kept ⟨wd, wr, wu⟩ s₀ (State.startPll s n) := by
  unfold State.startPll
  with_reducible repeat' first
    | assumption | apply State.put_kept | apply Kept.ite

theorem State.driveWp_kept (s : State) (h : Nat) (l : Bool) (hk : Kept ⟨wd, wr, wu⟩ s₀ s) : Kept ⟨wd, wr, wu⟩ s₀ (State.driveWp s h l) := by
  unfold State.driveWp
  with_reducible repeat' first
    | assumption | apply State.emit_kept | apply Kept.ite

theorem State.protectFlash_kept (s : State) (hk : Kept ⟨wd, wr, wu⟩ s₀ s) : Kept ⟨wd, wr, wu⟩ s₀ (State.protectFlash s) :=
  State.driveWp_kept _ _ _ (State.driveWp_kept _ _ _ hk)

theorem State.enableFlash_kept (s : State) (hk : Kept ⟨wd, wr, wu⟩ s₀ s) : Kept ⟨wd, wr, wu⟩ s₀ (State.enableFlash s) :=
  State.driveWp_kept _ _ _ (State.driveWp_kept _ _ _ hk)

theorem State.domainOff_kept (s : State) (d : Nat) (hk : Kept ⟨wd, wr, wu⟩ s₀ s) : Kept ⟨wd, wr, wu⟩ s₀ (State.domainOff s d) := by
  unfold State.domainOff
  with_reducible repeat' first
    | (intro x; refine Kept.gen (w := ⟨wd, wr, wu⟩) (s₀ := s₀) (x := x) ?_ ?_; rotate_left; clear_value x; rotate_left; subst x) | (intro x; subst x)
    | intro _ | lift_lets | assumption | apply State.putAll_kept | apply State.stopPll_kept | apply State.driveWp_kept | apply Kept.ite

theorem State.domainStart_kept (s : State) (d : Nat) (hk : Kept ⟨wd, wr, wu⟩ s₀ s) : Kept ⟨wd, wr, wu⟩ s₀ (State.domainStart s d) := by
  unfold State.domainStart
  with_reducible repeat' first
    | (intro x; refine Kept.gen (w := ⟨wd, wr, wu⟩) (s₀ := s₀) (x := x) ?_ ?_; rotate_left; clear_value x; rotate_left; subst x) | (intro x; subst x)
    | intro _ | lift_lets | assumption | apply State.startPll_kept | apply State.put_kept | apply Kept.ite

theorem State.domainUp_kept (s : State) (d : Nat) (hk : Kept ⟨wd, wr, wu⟩ s₀ s) : Kept ⟨wd, wr, wu⟩ s₀ (State.domainUp s d) := by
  unfold State.domainUp
  with_reducible repeat' first
    | (intro x; refine Kept.gen (w := ⟨wd, wr, wu⟩) (s₀ := s₀) (x := x) ?_ ?_; rotate_left; clear_value x; rotate_left; subst x) | (intro x; subst x)
    | intro _ | lift_lets | assumption | apply State.startPll_kept | apply State.putAll_kept

theorem State.shutdown_kept (s : State) (cause : Nat) (stay : Bool) (hk : Kept ⟨wd, wr, wu⟩ s₀ s) :
    Kept ⟨wd, wr, wu⟩ s₀ (State.shutdown s cause stay) := by
  unfold State.shutdown
  with_reducible repeat' first
    | (intro x; refine Kept.gen (w := ⟨wd, wr, wu⟩) (s₀ := s₀) (x := x) ?_ ?_; rotate_left; clear_value x; rotate_left; subst x) | (intro x; subst x)
    | intro _ | lift_lets | assumption | apply State.putAll_kept | apply State.put_kept | apply Kept.ite
    | fail_if_no_progress (apply Kept.lit; rotate_left; with_unfolding_all rfl; with_unfolding_all rfl)

/-! ## Machine/Save.lean -/

theorem State.abortCommands_kept (s : State) (hk : Kept ⟨wd, wr, wu⟩ s₀ s) : Kept ⟨wd, wr, wu⟩ s₀ (State.abortCommands s) := by
  unfold State.abortCommands
  with_reducible repeat' first
    | (intro x; refine Kept.gen (w := ⟨wd, wr, wu⟩) (s₀ := s₀) (x := x) ?_ ?_; rotate_left; clear_value x; rotate_left; subst x) | (intro x; subst x)
    | intro _ | lift_lets | assumption | apply State.complete_kept | apply State.withoutMark_kept | apply State.endUpdate_kept
    | apply State.put_kept | apply Kept.ite | apply Kept.each
    | fail_if_no_progress (apply Kept.lit; rotate_left; with_unfolding_all rfl; with_unfolding_all rfl)

theorem State.sendNotices_kept (s : State) (src : Nat) (hk : Kept ⟨wd, wr, wu⟩ s₀ s) : Kept ⟨wd, wr, wu⟩ s₀ (State.sendNotices s src) := by
  unfold State.sendNotices
  with_reducible repeat' first
    | (intro x; refine Kept.gen (w := ⟨wd, wr, wu⟩) (s₀ := s₀) (x := x) ?_ ?_; rotate_left; clear_value x; rotate_left; subst x) | (intro x; subst x)
    | intro _ | lift_lets | assumption | apply State.emit_kept | apply State.signal_kept | apply Kept.ite | apply Kept.each
    | fail_if_no_progress (apply Kept.lit; rotate_left; with_unfolding_all rfl; with_unfolding_all rfl)

theorem State.stopSweep_kept (s : State) (hk : Kept ⟨wd, wr, wu⟩ s₀ s) : Kept ⟨wd, wr, wu⟩ s₀ (State.stopSweep s) := by
  unfold State.stopSweep
  with_reducible repeat' first
    | (intro x; refine Kept.gen (w := ⟨wd, wr, wu⟩) (s₀ := s₀) (x := x) ?_ ?_; rotate_left; clear_value x; rotate_left; subst x) | (intro x; subst x)
    | intro _ | lift_lets | assumption | apply State.faultIn_kept | apply Kept.ite
    | fail_if_no_progress (apply Kept.lit; rotate_left; with_unfolding_all rfl; with_unfolding_all rfl) | split

theorem State.atFoghorn_kept (s : State) (hk : Kept ⟨true, wr, wu⟩ s₀ s) : Kept ⟨true, wr, wu⟩ s₀ (State.atFoghorn s) := by
  unfold State.atFoghorn
  with_reducible repeat' first
    | (intro x; refine Kept.gen (w := ⟨true, wr, wu⟩) (s₀ := s₀) (x := x) ?_ ?_; rotate_left; clear_value x; rotate_left; subst x) | (intro x; subst x)
    | intro _ | lift_lets | assumption | apply State.stopFw_kept | apply State.dmaFogPause_kept
    | apply State.abandonSession_kept | apply State.abortCommands_kept | apply State.stopSweep_kept | apply State.put_kept
    | apply State.holdMigration_kept | apply State.stopGc_kept | apply State.endRest_kept | apply State.pauseCharge_kept
    | apply Kept.ite | apply Kept.each
    | fail_if_no_progress (apply Kept.lit; rotate_left; with_unfolding_all rfl; with_unfolding_all rfl)

theorem State.recordFoghorn_kept (s : State) (src : Nat) (hk : Kept ⟨wd, wr, wu⟩ s₀ s) : Kept ⟨wd, wr, wu⟩ s₀ (State.recordFoghorn s src) := by
  unfold State.recordFoghorn
  with_reducible repeat' first
    | intro _ | assumption | apply State.record_kept | apply Kept.ite

theorem State.assertFoghorn_kept (s : State) (src : Nat) (stay : Bool) (cap : Nat) (hk : Kept ⟨true, wr, wu⟩ s₀ s) :
    Kept ⟨true, wr, wu⟩ s₀ (State.assertFoghorn s src stay cap) := by
  unfold State.assertFoghorn
  with_reducible repeat' first
    | (intro x; refine Kept.gen (w := ⟨true, wr, wu⟩) (s₀ := s₀) (x := x) ?_ ?_; rotate_left; clear_value x; rotate_left; subst x) | (intro x; subst x)
    | intro _ | lift_lets | assumption | apply State.putAll_kept | apply State.emit_kept | apply State.put_kept
    | apply State.recordFoghorn_kept | apply State.atFoghorn_kept | apply State.sendNotices_kept | apply State.shutdown_kept
    | apply State.cut_kept | apply State.cutIfFlushed_kept | apply Kept.ite | apply Kept.each
    | fail_if_no_progress (apply Kept.lit; rotate_left; with_unfolding_all rfl; with_unfolding_all rfl)

theorem State.withdrawResume_kept (s : State) (hk : Kept ⟨wd, wr, wu⟩ s₀ s) : Kept ⟨wd, wr, wu⟩ s₀ (State.withdrawResume s) := by
  unfold State.withdrawResume
  with_reducible repeat' first
    | (intro x; refine Kept.gen (w := ⟨wd, wr, wu⟩) (s₀ := s₀) (x := x) ?_ ?_; rotate_left; clear_value x; rotate_left; subst x) | (intro x; subst x)
    | intro _ | lift_lets | assumption | apply State.put_kept | apply State.shutdown_kept | apply Kept.ite
    | fail_if_no_progress (apply Kept.lit; rotate_left; with_unfolding_all rfl; with_unfolding_all rfl)

theorem State.latchFoghorn_kept (s : State) (src : Nat) (stay : Bool) (cap : Nat) (hk : Kept ⟨wd, wr, wu⟩ s₀ s) :
    Kept ⟨wd, wr, wu⟩ s₀ (State.latchFoghorn s src stay cap) := by
  unfold State.latchFoghorn
  with_reducible repeat' first
    | (intro x; refine Kept.gen (w := ⟨wd, wr, wu⟩) (s₀ := s₀) (x := x) ?_ ?_; rotate_left; clear_value x; rotate_left; subst x) | (intro x; subst x)
    | intro _ | lift_lets | assumption | apply State.put_kept | apply State.record_kept | apply Kept.ite
    | fail_if_no_progress (apply Kept.lit; rotate_left; with_unfolding_all rfl; with_unfolding_all rfl) | split

theorem State.seeSource_kept (s : State) (src : Nat) (hk : Kept ⟨wd, wr, wu⟩ s₀ s) : Kept ⟨wd, wr, wu⟩ s₀ (State.seeSource s src) := by
  unfold State.seeSource
  with_reducible repeat' first
    | intro _ | assumption | apply State.put_kept | apply Kept.ite

theorem State.foghorn_kept (s : State) (src : Nat) (stay : Bool) (cap : Nat) (hk : Kept ⟨true, wr, wu⟩ s₀ s) :
    Kept ⟨true, wr, wu⟩ s₀ (State.foghorn s src stay cap) := by
  unfold State.foghorn
  with_reducible repeat' first
    | (intro x; refine Kept.gen (w := ⟨true, wr, wu⟩) (s₀ := s₀) (x := x) ?_ ?_; rotate_left; clear_value x; rotate_left; subst x) | (intro x; subst x)
    | intro _ | lift_lets | assumption | apply State.seeSource_kept | apply State.recordFoghorn_kept
    | apply State.latchFoghorn_kept | apply State.withdrawResume_kept | apply State.putAll_kept | apply State.emit_kept
    | apply State.shutdown_kept | apply State.assertFoghorn_kept | apply Kept.ite

theorem State.abortSave_kept (s : State) (endCode rail : Nat) (ev : Source) (stay : Bool) (hk : Kept ⟨wd, wr, wu⟩ s₀ s) :
    Kept ⟨wd, wr, wu⟩ s₀ (State.abortSave s endCode rail ev stay) := by
  unfold State.abortSave
  with_reducible repeat' first
    | (intro x; refine Kept.gen (w := ⟨wd, wr, wu⟩) (s₀ := s₀) (x := x) ?_ ?_; rotate_left; clear_value x; rotate_left; subst x) | (intro x; subst x)
    | intro _ | lift_lets | assumption | apply State.endPanic_kept | apply State.putAll_kept | apply State.protectFlash_kept
    | apply State.record_kept | apply State.shutdown_kept | apply Kept.ite

theorem State.stopForSpace_kept (s : State) (hk : Kept ⟨wd, wr, wu⟩ s₀ s) : Kept ⟨wd, wr, wu⟩ s₀ (State.stopForSpace s) := by
  unfold State.stopForSpace
  with_reducible repeat' first
    | intro _ | assumption | apply State.abortSave_kept | apply Kept.ite

theorem State.saveOn_kept (s : State) (hk : Kept ⟨true, wr, wu⟩ s₀ s) : Kept ⟨true, wr, wu⟩ s₀ (State.saveOn s) := by
  unfold State.saveOn
  with_reducible repeat' first
    | (intro x; refine Kept.gen (w := ⟨true, wr, wu⟩) (s₀ := s₀) (x := x) ?_ ?_; rotate_left; clear_value x; rotate_left; subst x) | (intro x; subst x)
    | intro _ | lift_lets | assumption | apply State.settle_kept | apply State.stopForSpace_kept | apply Kept.ite

theorem State.joinSave_kept (s : State) (role : Role) (page lsn : Nat) (hk : Kept ⟨wd, wr, wu⟩ s₀ s) :
    Kept ⟨wd, wr, wu⟩ s₀ (State.joinSave s role page lsn) := by
  unfold State.joinSave
  with_reducible repeat' first
    | intro _ | assumption | apply State.joinEpoch_kept | apply Kept.ite
    | fail_if_no_progress (apply Kept.lit; rotate_left; with_unfolding_all rfl; with_unfolding_all rfl) | split

theorem State.feedPage_kept (s : State) (channel page : Nat) (errors : LineErrors) (role : Role) (hk : Kept ⟨true, wr, wu⟩ s₀ s) :
    Kept ⟨true, wr, wu⟩ s₀ (State.feedPage s channel page errors role).2 := by
  unfold State.feedPage
  with_reducible repeat' first
    | (intro x; refine Kept.gen (w := ⟨true, wr, wu⟩) (s₀ := s₀) (x := x) ?_ ?_; rotate_left; clear_value x; rotate_left; subst x) | (intro x; subst x)
    | intro _ | lift_lets | assumption | apply State.readForProgram_kept | apply State.uncorrectable_kept | apply Kept.ite
    | split

theorem State.feedEmptied_kept (s : State) (n page : Nat) (role : Role) (hk : Kept ⟨wd, wr, wu⟩ s₀ s) :
    Kept ⟨wd, wr, wu⟩ s₀ (State.feedEmptied s n page role) := by
  unfold State.feedEmptied
  with_reducible repeat' first
    | (intro x; refine Kept.gen (w := ⟨wd, wr, wu⟩) (s₀ := s₀) (x := x) ?_ ?_; rotate_left; clear_value x; rotate_left; subst x) | (intro x; subst x)
    | intro _ | lift_lets | assumption | apply State.tick_kept | apply State.setFeed_kept | apply State.judgePanic_kept
    | apply State.endPanic_kept | apply Kept.ite

theorem State.savePage_kept (s : State) (page fa : Nat) (errors : LineErrors) (role : Role) (hk : Kept ⟨true, wr, wu⟩ s₀ s) :
    Kept ⟨true, wr, wu⟩ s₀ (State.savePage s page fa errors role) := by
  unfold State.savePage
  with_reducible repeat' first
    | (intro x; refine Kept.gen (w := ⟨true, wr, wu⟩) (s₀ := s₀) (x := x) ?_ ?_; rotate_left; clear_value x; rotate_left; subst x) | (intro x; subst x)
    | intro _ | lift_lets | assumption | apply State.feedPage_kept | apply State.newLsn_kept | apply State.putRecord_kept
    | apply State.openAt_kept | apply State.joinSave_kept | apply State.put_kept | apply State.feedEmptied_kept
    | apply State.savedPage_kept | apply Kept.ite
    | fail_if_no_progress (apply Kept.lit; rotate_left; with_unfolding_all rfl; with_unfolding_all rfl)

theorem State.saveOpened_kept (s : State) (fa fb : Nat) (hk : Kept ⟨wd, wr, wu⟩ s₀ s) : Kept ⟨wd, wr, wu⟩ s₀ (State.saveOpened s fa fb) := by
  unfold State.saveOpened
  with_reducible repeat' first
    | (intro x; refine Kept.gen (w := ⟨wd, wr, wu⟩) (s₀ := s₀) (x := x) ?_ ?_; rotate_left; clear_value x; rotate_left; subst x) | (intro x; subst x)
    | intro _ | lift_lets | assumption | apply State.addRing_kept | apply Kept.ite
    | fail_if_no_progress (apply Kept.lit; rotate_left; with_unfolding_all rfl; with_unfolding_all rfl)

theorem State.sealRecordInSave_kept (s : State) (fa fb : Nat) (hk : Kept ⟨wd, wr, wu⟩ s₀ s) :
    Kept ⟨wd, wr, wu⟩ s₀ (State.sealRecordInSave s fa fb) := by
  unfold State.sealRecordInSave
  with_reducible repeat' first
    | (intro x; refine Kept.gen (w := ⟨wd, wr, wu⟩) (s₀ := s₀) (x := x) ?_ ?_; rotate_left; clear_value x; rotate_left; subst x) | (intro x; subst x)
    | intro _ | lift_lets | assumption | apply State.addSeal_kept | apply State.chargeWear_kept | apply Kept.ite
    | fail_if_no_progress (apply Kept.lit; rotate_left; with_unfolding_all rfl; with_unfolding_all rfl)

theorem State.sealInSave_kept (s : State) (fa fb : Nat) (hk : Kept ⟨wd, wr, wu⟩ s₀ s) : Kept ⟨wd, wr, wu⟩ s₀ (State.sealInSave s fa fb) := by
  unfold State.sealInSave
  with_reducible repeat' first
    | (intro x; refine Kept.gen (w := ⟨wd, wr, wu⟩) (s₀ := s₀) (x := x) ?_ ?_; rotate_left; clear_value x; rotate_left; subst x) | (intro x; subst x)
    | intro _ | lift_lets | assumption | apply State.sealDurable_kept | apply State.chargeWear_kept | apply State.record_kept
    | apply State.put_kept | apply Kept.ite
    | fail_if_no_progress (apply Kept.lit; rotate_left; with_unfolding_all rfl; with_unfolding_all rfl)

theorem State.cutIndexed_kept (s : State) (fas : List Nat) (hk : Kept ⟨wd, wr, wu⟩ s₀ s) : Kept ⟨wd, wr, wu⟩ s₀ (State.cutIndexed s fas) := by
  unfold State.cutIndexed
  with_reducible repeat' first
    | (intro x; refine Kept.gen (w := ⟨wd, wr, wu⟩) (s₀ := s₀) (x := x) ?_ ?_; rotate_left; clear_value x; rotate_left; subst x) | (intro x; subst x)
    | intro _ | lift_lets | assumption | apply State.putCodewords_kept | apply State.putWords_kept | apply Kept.ite
    | fail_if_no_progress (apply Kept.lit; rotate_left; with_unfolding_all rfl; with_unfolding_all rfl)

theorem State.mirrorSaved_kept (s : State) (fas : List Nat) (hk : Kept ⟨wd, wr, wu⟩ s₀ s) : Kept ⟨wd, wr, wu⟩ s₀ (State.mirrorSaved s fas) := by
  unfold State.mirrorSaved
  with_reducible repeat' first
    | (intro x; refine Kept.gen (w := ⟨wd, wr, wu⟩) (s₀ := s₀) (x := x) ?_ ?_; rotate_left; clear_value x; rotate_left; subst x) | (intro x; subst x)
    | intro _ | lift_lets | assumption | apply State.putCodewords_kept | apply State.putCell_kept | apply Kept.ite
    | apply Kept.each | fail_if_no_progress (apply Kept.lit; rotate_left; with_unfolding_all rfl; with_unfolding_all rfl)

theorem State.saveFailed_kept (s : State) (fa owner : Nat) (hk : Kept ⟨true, wr, wu⟩ s₀ s) :
    Kept ⟨true, wr, wu⟩ s₀ (State.saveFailed s fa owner) := by
  unfold State.saveFailed
  with_reducible repeat' first
    | (intro x; refine Kept.gen (w := ⟨true, wr, wu⟩) (s₀ := s₀) (x := x) ?_ ?_; rotate_left; clear_value x; rotate_left; subst x) | (intro x; subst x)
    | intro _ | lift_lets | assumption | apply State.openAt_kept | apply State.keeperFailed_kept | apply State.useReserve_kept
    | apply State.showFailedFc_kept | apply State.saveOn_kept | apply Kept.ite
    | fail_if_no_progress (apply Kept.lit; rotate_left; with_unfolding_all rfl; with_unfolding_all rfl)

theorem State.feedHeld_kept (s : State) (n : Nat) (hk : Kept ⟨wd, wr, wu⟩ s₀ s) : Kept ⟨wd, wr, wu⟩ s₀ (State.feedHeld s n) := by
  unfold State.feedHeld
  with_reducible repeat' first
    | (intro x; refine Kept.gen (w := ⟨wd, wr, wu⟩) (s₀ := s₀) (x := x) ?_ ?_; rotate_left; clear_value x; rotate_left; subst x) | (intro x; subst x)
    | intro _ | lift_lets | assumption | apply State.setFeed_kept | apply State.judgePanic_kept | apply Kept.ite | split

theorem State.showLastSave_kept (s : State) (hk : Kept ⟨wd, wr, wu⟩ s₀ s) : Kept ⟨wd, wr, wu⟩ s₀ (State.showLastSave s) := by
  unfold State.showLastSave
  with_reducible repeat' first
    | (intro x; refine Kept.gen (w := ⟨wd, wr, wu⟩) (s₀ := s₀) (x := x) ?_ ?_; rotate_left; clear_value x; rotate_left; subst x) | (intro x; subst x)
    | intro _ | lift_lets | assumption | apply State.putAll_kept | apply State.sealDurable_kept | apply State.putPair_kept
    | apply State.putFree_kept | apply Kept.ite

theorem State.retainCut_kept (s : State) (fa commit : Nat) (hk : Kept ⟨wd, wr, wu⟩ s₀ s) : Kept ⟨wd, wr, wu⟩ s₀ (State.retainCut s fa commit) := by
  unfold State.retainCut
  with_reducible repeat' first
    | (intro x; refine Kept.gen (w := ⟨wd, wr, wu⟩) (s₀ := s₀) (x := x) ?_ ?_; rotate_left; clear_value x; rotate_left; subst x) | (intro x; subst x)
    | intro _ | lift_lets | assumption | apply State.releaseBlocks_kept | apply State.showRetained_kept | apply Kept.ite
    | fail_if_no_progress (apply Kept.lit; rotate_left; with_unfolding_all rfl; with_unfolding_all rfl)

theorem State.commitCut_kept (s : State) (fa fb : Nat) (hk : Kept ⟨wd, wr, wu⟩ s₀ s) : Kept ⟨wd, wr, wu⟩ s₀ (State.commitCut s fa fb) := by
  unfold State.commitCut
  with_reducible repeat' first
    | (intro x; refine Kept.gen (w := ⟨wd, wr, wu⟩) (s₀ := s₀) (x := x) ?_ ?_; rotate_left; clear_value x; rotate_left; subst x) | (intro x; subst x)
    | intro _ | lift_lets | assumption | apply State.addRing_kept | apply State.retainCut_kept | apply State.chargeWear_kept
    | apply Kept.ite

theorem State.reportResumed_kept (s : State) (hk : Kept ⟨wd, wr, wu⟩ s₀ s) : Kept ⟨wd, wr, wu⟩ s₀ (State.reportResumed s) := by
  unfold State.reportResumed
  with_reducible repeat' first
    | assumption | apply State.putAll_kept | apply State.putPair_kept

theorem State.dropShadow_kept (s : State) (f : Fld) (hk : Kept ⟨wd, wr, wu⟩ s₀ s) : Kept ⟨wd, wr, wu⟩ s₀ (State.dropShadow s f) := by
  unfold State.dropShadow
  with_reducible repeat' first
    | intro _ | assumption | apply Kept.ite
    | fail_if_no_progress (apply Kept.lit; rotate_left; with_unfolding_all rfl; with_unfolding_all rfl)

theorem State.restartTracking_kept (s : State) (hk : Kept ⟨wd, wr, wu⟩ s₀ s) : Kept ⟨wd, wr, wu⟩ s₀ (State.restartTracking s) := by
  unfold State.restartTracking
  with_reducible repeat' first
    | (intro x; refine Kept.gen (w := ⟨wd, wr, wu⟩) (s₀ := s₀) (x := x) ?_ ?_; rotate_left; clear_value x; rotate_left; subst x) | (intro x; subst x)
    | intro _ | lift_lets | assumption | apply State.unlock_kept | apply State.put_kept | apply State.dropShadow_kept
    | apply State.setOverCap_kept | apply State.openFirst_kept | apply Kept.ite
    | fail_if_no_progress (apply Kept.lit; rotate_left; with_unfolding_all rfl; with_unfolding_all rfl)

theorem State.endReserve_kept (s : State) (hk : Kept ⟨wd, wr, wu⟩ s₀ s) : Kept ⟨wd, wr, wu⟩ s₀ (State.endReserve s) := by
  unfold State.endReserve
  with_reducible repeat' first
    | intro _ | assumption | apply Kept.ite
    | fail_if_no_progress (apply Kept.lit; rotate_left; with_unfolding_all rfl; with_unfolding_all rfl)

theorem State.resume_kept (s : State) (hk : Kept ⟨wd, wr, wu⟩ s₀ s) : Kept ⟨wd, wr, wu⟩ s₀ (State.resume s) := by
  unfold State.resume
  with_reducible repeat' first
    | (intro x; refine Kept.gen (w := ⟨wd, wr, wu⟩) (s₀ := s₀) (x := x) ?_ ?_; rotate_left; clear_value x; rotate_left; subst x) | (intro x; subst x)
    | intro _ | lift_lets | assumption | apply State.enter_kept | apply State.enableFlash_kept | apply State.put_kept
    | apply State.reportResumed_kept | apply State.restartTracking_kept | apply State.endReserve_kept
    | apply State.keepReserve_kept | apply State.loadFigure_kept | apply State.recompute_kept | apply State.domainStart_kept
    | apply Kept.ite | apply Kept.each
    | fail_if_no_progress (apply Kept.lit; rotate_left; with_unfolding_all rfl; with_unfolding_all rfl)

theorem State.tellResumed_kept (s : State) (h : Fin 4) (hk : Kept ⟨wd, wr, wu⟩ s₀ s) : Kept ⟨wd, wr, wu⟩ s₀ (State.tellResumed s h) := by
  unfold State.tellResumed
  with_reducible repeat' first
    | (intro x; refine Kept.gen (w := ⟨wd, wr, wu⟩) (s₀ := s₀) (x := x) ?_ ?_; rotate_left; clear_value x; rotate_left; subst x) | (intro x; subst x)
    | intro _ | lift_lets | assumption | apply State.emit_kept | apply State.signal_kept | apply Kept.ite | apply Kept.each
    | fail_if_no_progress (apply Kept.lit; rotate_left; with_unfolding_all rfl; with_unfolding_all rfl)

theorem State.dropBarriers_kept (s : State) (hk : Kept ⟨wd, wr, wu⟩ s₀ s) : Kept ⟨wd, wr, wu⟩ s₀ (State.dropBarriers s) := by
  unfold State.dropBarriers
  with_reducible repeat' first
    | intro _ | assumption | fail_if_no_progress (apply Kept.lit; rotate_left; with_unfolding_all rfl; with_unfolding_all rfl)

theorem State.unarmed_kept (s : State) (hk : Kept ⟨wd, wr, wu⟩ s₀ s) : Kept ⟨wd, wr, wu⟩ s₀ (State.unarmed s) := by
  unfold State.unarmed
  with_reducible repeat' first
    | intro _ | assumption | apply State.put_kept | apply State.recompute_kept | apply State.enter_kept | apply Kept.ite

theorem State.armOrNot_kept (s : State) (hk : Kept ⟨true, wr, wu⟩ s₀ s) : Kept ⟨true, wr, wu⟩ s₀ (State.armOrNot s) := by
  unfold State.armOrNot
  refine .ite (State.unarmed_kept s hk) ?_
  split
  · exact State.tryArm_kept s hk (by assumption)
  · exact State.unarmed_kept s hk

theorem State.resumeExit_kept (s : State) (hk : Kept ⟨true, wr, wu⟩ s₀ s) : Kept ⟨true, wr, wu⟩ s₀ (State.resumeExit s) := by
  unfold State.resumeExit
  with_reducible repeat' first
    | (intro x; refine Kept.gen (w := ⟨true, wr, wu⟩) (s₀ := s₀) (x := x) ?_ ?_; rotate_left; clear_value x; rotate_left; subst x) | (intro x; subst x)
    | intro _ | lift_lets | assumption | apply State.putAll_kept | apply State.emit_kept | apply State.put_kept
    | apply State.dropBarriers_kept | apply State.packGone_kept | apply State.armOrNot_kept | apply State.record_kept
    | apply State.showCeiling_kept | apply State.tellResumed_kept | apply State.assertFoghorn_kept | apply Kept.ite
    | apply Kept.each | fail_if_no_progress (apply Kept.lit; rotate_left; with_unfolding_all rfl; with_unfolding_all rfl)
    | split

theorem State.afterSaved_kept (s : State) (hk : Kept ⟨wd, wr, wu⟩ s₀ s) : Kept ⟨wd, wr, wu⟩ s₀ (State.afterSaved s) := by
  unfold State.afterSaved
  with_reducible repeat' first
    | intro _ | assumption | apply State.shutdown_kept | apply State.resume_kept | apply Kept.ite

/-! ## Machine/Power.lean -/

theorem State.railAct_kept (s : State) (critical reserve : Bool) (label : Nat) (hk : Kept ⟨true, wr, wu⟩ s₀ s) :
    Kept ⟨true, wr, wu⟩ s₀ (State.railAct s critical reserve label) := by
  unfold State.railAct
  with_reducible repeat' first
    | (intro x; refine Kept.gen (w := ⟨true, wr, wu⟩) (s₀ := s₀) (x := x) ?_ ?_; rotate_left; clear_value x; rotate_left; subst x) | (intro x; subst x)
    | intro _ | lift_lets | assumption | apply State.shutdown_kept | apply State.abortSave_kept | apply State.put_kept
    | apply State.showReserveOk_kept | apply State.loseReserve_kept | apply State.foghorn_kept | apply Kept.ite
    | fail_if_no_progress (apply Kept.lit; rotate_left; with_unfolding_all rfl; with_unfolding_all rfl)

theorem State.railFault_kept (s : State) (n : Nat) (hk : Kept ⟨true, wr, wu⟩ s₀ s) : Kept ⟨true, wr, wu⟩ s₀ (State.railFault s n) := by
  unfold State.railFault
  with_reducible repeat' first
    | (intro x; refine Kept.gen (w := ⟨true, wr, wu⟩) (s₀ := s₀) (x := x) ?_ ?_; rotate_left; clear_value x; rotate_left; subst x) | (intro x; subst x)
    | intro _ | lift_lets | assumption | apply State.putAll_kept | apply State.record_kept | apply State.strike_kept
    | apply State.railAct_kept | apply Kept.ite

theorem State.railWarn_kept (s : State) (n : Nat) (hk : Kept ⟨wd, wr, wu⟩ s₀ s) : Kept ⟨wd, wr, wu⟩ s₀ (State.railWarn s n) := by
  unfold State.railWarn
  with_reducible repeat' first
    | (intro x; refine Kept.gen (w := ⟨wd, wr, wu⟩) (s₀ := s₀) (x := x) ?_ ?_; rotate_left; clear_value x; rotate_left; subst x) | (intro x; subst x)
    | intro _ | lift_lets | assumption | apply State.putAll_kept | apply State.record_kept | apply Kept.ite

theorem State.railWell_kept (s : State) (n : Nat) (hk : Kept ⟨wd, wr, wu⟩ s₀ s) : Kept ⟨wd, wr, wu⟩ s₀ (State.railWell s n) := by
  unfold State.railWell
  with_reducible repeat' first
    | (intro x; refine Kept.gen (w := ⟨wd, wr, wu⟩) (s₀ := s₀) (x := x) ?_ ?_; rotate_left; clear_value x; rotate_left; subst x) | (intro x; subst x)
    | intro _ | lift_lets | assumption | apply State.put_kept | apply State.recompute_kept | apply State.showReserveOk_kept
    | apply Kept.ite

theorem State.railSample_kept (s : State) (n mv : Nat) (ovr : Bool) (hk : Kept ⟨true, wr, wu⟩ s₀ s) :
    Kept ⟨true, wr, wu⟩ s₀ (State.railSample s n mv ovr) := by
  unfold State.railSample
  with_reducible repeat' first
    | (intro x; refine Kept.gen (w := ⟨true, wr, wu⟩) (s₀ := s₀) (x := x) ?_ ?_; rotate_left; clear_value x; rotate_left; subst x) | (intro x; subst x)
    | intro _ | lift_lets | assumption | apply State.put_kept | apply State.railWarn_kept | apply State.putAll_kept
    | apply State.railFault_kept | apply State.railWell_kept | apply Kept.ite
    | fail_if_no_progress (apply Kept.lit; rotate_left; with_unfolding_all rfl; with_unfolding_all rfl)

theorem State.coldReset_kept (s : State) (hk : Kept ⟨true, true, wu⟩ s₀ s) : Kept ⟨true, true, wu⟩ s₀ (State.coldReset s) := by
  have h1 : (State.coldReset s).dram = [] := by unfold State.coldReset State.reset; rfl
  have h2 : (State.coldReset s).cpx.ram = [] := by unfold State.coldReset State.reset; rfl
  have h3 : (State.coldReset s).pending = s.pending := by unfold State.coldReset State.reset; rfl
  have h4 : (State.coldReset s).kst.user = s.kst.user := by unfold State.coldReset State.reset; rfl
  exact ⟨h3.trans hk.queue, fun w => ⟨by rw [h1]; rfl, by rw [h2]; rfl, by rw [h4]; exact (hk.memory w).2.2⟩,
    fun e => (nomatch e), fun e => (nomatch e), fun e => h4.trans (hk.user e)⟩

theorem State.powerOff_kept (s : State) (hk : Kept ⟨true, true, wu⟩ s₀ s) : Kept ⟨true, true, wu⟩ s₀ (State.powerOff s) := by
  unfold State.powerOff
  with_reducible repeat' first
    | (intro x; refine Kept.gen (w := ⟨true, true, wu⟩) (s₀ := s₀) (x := x) ?_ ?_; rotate_left; clear_value x; rotate_left; subst x) | (intro x; subst x)
    | intro _ | lift_lets | assumption | apply State.putAll_kept | apply State.emit_kept | apply State.enter_kept
    | apply State.coldReset_kept | apply Kept.ite
    | fail_if_no_progress (apply Kept.lit; rotate_left; with_unfolding_all rfl; with_unfolding_all rfl)

theorem State.sense_kept (s : State) (n : Nat) (l : List (Fin 16 × Nat)) (hk : Kept ⟨wd, wr, wu⟩ s₀ s) :
    Kept ⟨wd, wr, wu⟩ s₀ (State.sense s n l) := by
  unfold State.sense
  with_reducible repeat' first
    | intro _ | assumption | apply State.put_kept | apply Kept.ite | split

theorem State.disableRail_kept (s : State) (n : Nat) (hk : Kept ⟨wd, wr, wu⟩ s₀ s) : Kept ⟨wd, wr, wu⟩ s₀ (State.disableRail s n) := by
  unfold State.disableRail
  with_reducible repeat' first
    | (intro x; refine Kept.gen (w := ⟨wd, wr, wu⟩) (s₀ := s₀) (x := x) ?_ ?_; rotate_left; clear_value x; rotate_left; subst x) | (intro x; subst x)
    | intro _ | lift_lets | assumption | apply State.putAll_kept | apply State.emit_kept | apply Kept.ite

theorem State.railDown_kept (s : State) (n : Nat) (before after : List (Fin 16 × Nat)) (hk : Kept ⟨wd, wr, wu⟩ s₀ s) :
    Kept ⟨wd, wr, wu⟩ s₀ (State.railDown s n before after) := by
  unfold State.railDown
  with_reducible repeat' first
    | (intro x; refine Kept.gen (w := ⟨wd, wr, wu⟩) (s₀ := s₀) (x := x) ?_ ?_; rotate_left; clear_value x; rotate_left; subst x) | (intro x; subst x)
    | intro _ | lift_lets | assumption | apply State.sense_kept | apply State.disableRail_kept | apply State.put_kept
    | apply State.record_kept | apply Kept.ite

theorem State.dropWrites_kept (s : State) (hk : Kept ⟨wd, wr, wu⟩ s₀ s) : Kept ⟨wd, wr, wu⟩ s₀ (State.dropWrites s) := by
  unfold State.dropWrites
  with_reducible repeat' first
    | (intro x; refine Kept.gen (w := ⟨wd, wr, wu⟩) (s₀ := s₀) (x := x) ?_ ?_; rotate_left; clear_value x; rotate_left; subst x) | (intro x; subst x)
    | intro _ | lift_lets | assumption | apply State.record_kept | apply Kept.ite | apply Kept.each
    | fail_if_no_progress (apply Kept.lit; rotate_left; with_unfolding_all rfl; with_unfolding_all rfl)

theorem State.enableRail_kept (s : State) (n : Nat) (hk : Kept ⟨wd, wr, wu⟩ s₀ s) : Kept ⟨wd, wr, wu⟩ s₀ (State.enableRail s n) := by
  unfold State.enableRail
  with_reducible repeat' first
    | (intro x; refine Kept.gen (w := ⟨wd, wr, wu⟩) (s₀ := s₀) (x := x) ?_ ?_; rotate_left; clear_value x; rotate_left; subst x) | (intro x; subst x)
    | intro _ | lift_lets | assumption | apply State.put_kept | apply State.emit_kept | apply Kept.ite

theorem State.enableRails_kept (s : State) (l : List Nat) (hk : Kept ⟨wd, wr, wu⟩ s₀ s) : Kept ⟨wd, wr, wu⟩ s₀ (State.enableRails s l) := by
  unfold State.enableRails
  with_reducible repeat' first
    | (intro x; refine Kept.gen (w := ⟨wd, wr, wu⟩) (s₀ := s₀) (x := x) ?_ ?_; rotate_left; clear_value x; rotate_left; subst x) | (intro x; subst x)
    | intro _ | lift_lets | assumption | apply State.enableRail_kept | apply State.put_kept | apply Kept.ite | apply Kept.each
    | split

theorem State.dropRail_kept (s : State) (n : Nat) (hk : Kept ⟨wd, wr, wu⟩ s₀ s) : Kept ⟨wd, wr, wu⟩ s₀ (State.dropRail s n) := by
  unfold State.dropRail
  with_reducible repeat' first
    | (intro x; refine Kept.gen (w := ⟨wd, wr, wu⟩) (s₀ := s₀) (x := x) ?_ ?_; rotate_left; clear_value x; rotate_left; subst x) | (intro x; subst x)
    | intro _ | lift_lets | assumption | apply State.disableRail_kept | apply State.put_kept | apply Kept.ite
    | fail_if_no_progress (apply Kept.lit; rotate_left; with_unfolding_all rfl; with_unfolding_all rfl)

theorem State.powerOn_kept (s : State) (source : Nat) (hk : Kept ⟨wd, wr, wu⟩ s₀ s) : Kept ⟨wd, wr, wu⟩ s₀ (State.powerOn s source) := by
  unfold State.powerOn
  with_reducible repeat' first
    | (intro x; refine Kept.gen (w := ⟨wd, wr, wu⟩) (s₀ := s₀) (x := x) ?_ ?_; rotate_left; clear_value x; rotate_left; subst x) | (intro x; subst x)
    | intro _ | lift_lets | assumption | apply State.put_kept | apply State.enter_kept | apply State.putAll_kept
    | apply State.enableRails_kept | apply Kept.ite
    | fail_if_no_progress (apply Kept.lit; rotate_left; with_unfolding_all rfl; with_unfolding_all rfl)

theorem State.released_kept (s : State) (hk : Kept ⟨wd, wr, wu⟩ s₀ s) : Kept ⟨wd, wr, wu⟩ s₀ (State.released s) := by
  unfold State.released
  with_reducible repeat' first
    | (intro x; refine Kept.gen (w := ⟨wd, wr, wu⟩) (s₀ := s₀) (x := x) ?_ ?_; rotate_left; clear_value x; rotate_left; subst x) | (intro x; subst x)
    | intro _ | lift_lets | assumption | apply State.putAll_kept | apply Kept.ite
    | fail_if_no_progress (apply Kept.lit; rotate_left; with_unfolding_all rfl; with_unfolding_all rfl)

theorem State.resetTwiD_kept (s : State) (hk : Kept ⟨wd, wr, wu⟩ s₀ s) : Kept ⟨wd, wr, wu⟩ s₀ (State.resetTwiD s) := by
  unfold State.resetTwiD
  with_reducible repeat' first
    | (intro x; refine Kept.gen (w := ⟨wd, wr, wu⟩) (s₀ := s₀) (x := x) ?_ ?_; rotate_left; clear_value x; rotate_left; subst x) | (intro x; subst x)
    | intro _ | lift_lets | assumption | apply State.putAll_kept | apply Kept.ite | apply Kept.each
    | fail_if_no_progress (apply Kept.lit; rotate_left; with_unfolding_all rfl; with_unfolding_all rfl)

theorem State.failChannels_kept (s : State) (first : Nat) (hk : Kept ⟨wd, wr, wu⟩ s₀ s) : Kept ⟨wd, wr, wu⟩ s₀ (State.failChannels s first) := by
  unfold State.failChannels
  with_reducible repeat' first
    | (intro x; refine Kept.gen (w := ⟨wd, wr, wu⟩) (s₀ := s₀) (x := x) ?_ ?_; rotate_left; clear_value x; rotate_left; subst x) | (intro x; subst x)
    | intro _ | lift_lets | assumption | apply State.putAll_kept | apply State.sweepSkips_kept | apply State.showFailedFc_kept
    | apply Kept.ite | apply Kept.each
    | fail_if_no_progress (apply Kept.lit; rotate_left; with_unfolding_all rfl; with_unfolding_all rfl)

theorem State.awaitRelock_kept (s : State) (hk : Kept ⟨wd, wr, wu⟩ s₀ s) : Kept ⟨wd, wr, wu⟩ s₀ (State.awaitRelock s) := by
  unfold State.awaitRelock
  with_reducible repeat' first
    | intro _ | assumption | apply Kept.ite
    | fail_if_no_progress (apply Kept.lit; rotate_left; with_unfolding_all rfl; with_unfolding_all rfl)

theorem State.loseLock_kept (s : State) (n : Nat) (hk : Kept ⟨true, wr, wu⟩ s₀ s) : Kept ⟨true, wr, wu⟩ s₀ (State.loseLock s n) := by
  unfold State.loseLock
  with_reducible repeat' first
    | (intro x; refine Kept.gen (w := ⟨true, wr, wu⟩) (s₀ := s₀) (x := x) ?_ ?_; rotate_left; clear_value x; rotate_left; subst x) | (intro x; subst x)
    | intro _ | lift_lets | assumption | apply State.putAll_kept | apply State.count_kept | apply State.record_kept
    | apply State.raiseFault_kept | apply State.foghorn_kept | apply State.stopFw_kept | apply State.awaitRelock_kept
    | apply State.tick_kept | apply State.railAct_kept | apply State.failChannels_kept | apply State.linkDown_kept
    | apply Kept.ite | split

theorem State.settleDomain_kept (s : State) (d : Nat) (hk : Kept ⟨wd, wr, wu⟩ s₀ s) : Kept ⟨wd, wr, wu⟩ s₀ (State.settleDomain s d) := by
  unfold State.settleDomain
  with_reducible repeat' first
    | intro _ | assumption | apply State.tick_kept | apply State.raise_kept | apply State.domainOff_kept | apply Kept.ite

theorem State.lowerDomain_kept (s : State) (d : Nat) (hk : Kept ⟨wd, wr, wu⟩ s₀ s) : Kept ⟨wd, wr, wu⟩ s₀ (State.lowerDomain s d) := by
  unfold State.lowerDomain
  with_reducible repeat' first
    | intro _ | assumption | apply State.domainOff_kept | apply State.put_kept | apply Kept.ite

/-! ## Machine/Boot.lean -/

theorem State.writeBoot_kept (s : State) (upd : RecUpdate) (hk : Kept ⟨wd, wr, wu⟩ s₀ s) : Kept ⟨wd, wr, wu⟩ s₀ (State.writeBoot s upd) := by
  unfold State.writeBoot
  with_reducible repeat' first
    | assumption | fail_if_no_progress (apply Kept.lit; rotate_left; with_unfolding_all rfl; with_unfolding_all rfl)

theorem State.rejectSlot_kept (s : State) (n : Nat) (hk : Kept ⟨wd, wr, wu⟩ s₀ s) : Kept ⟨wd, wr, wu⟩ s₀ (State.rejectSlot s n) := by
  unfold State.rejectSlot
  with_reducible repeat' first
    | assumption | apply State.tick_kept | apply State.record_kept

theorem State.bootSlot_kept (s : State) (n : Nat) (rejected : List Nat) (hk : Kept ⟨wd, wr, wu⟩ s₀ s) :
    Kept ⟨wd, wr, wu⟩ s₀ (State.bootSlot s n rejected) := by
  unfold State.bootSlot
  extract_lets active check version first s1 s2 s3 s4
  have h1 : Kept ⟨wd, wr, wu⟩ s₀ s1 := .ite (State.record_kept _ _ _ _ hk) hk
  have h2 : Kept ⟨wd, wr, wu⟩ s₀ s2 := Kept.each h1 fun s n h => State.rejectSlot_kept s n h
  have h3 : Kept ⟨wd, wr, wu⟩ s₀ s3 := State.record_kept _ _ _ _ h2
  have h4 : Kept ⟨wd, wr, wu⟩ s₀ s4 := .ite (State.count_kept _ _ _ h3) (.ite (State.writeBoot_kept _ _ h3) h3)
  exact (State.put_kept s4 Reg.CPX_KP_STAT.SLOT n h4).of rfl rfl rfl rfl

theorem State.eraseSector_kept (s : State) (sector : Nat) (hk : Kept ⟨wd, wr, true⟩ s₀ s) : Kept ⟨wd, wr, true⟩ s₀ (State.eraseSector s sector) := by
  unfold State.eraseSector
  extract_lets a inside user
  have hu : ∀ (n : Nat) (t : State), Kept ⟨wd, wr, true⟩ s₀ t → Kept ⟨wd, wr, true⟩ s₀ (user n t) := fun n t ht =>
    ht.withUser (fun w => clearRange_wf w _ _) rfl rfl rfl
  have ha := State.put_kept s Reg.KST_VER_A.VERSION 0 hk
  have hb := State.put_kept s Reg.KST_VER_B.VERSION 0 hk
  exact .ite (hu _ _ hk) (.ite (hu _ _ hk) (.ite (ha.of rfl rfl rfl rfl) (.ite (hb.of rfl rfl rfl rfl) hk)))

theorem State.redoErases_kept (s : State) (hk : Kept ⟨wd, wr, true⟩ s₀ s) : Kept ⟨wd, wr, true⟩ s₀ (State.redoErases s) := by
  unfold State.redoErases
  with_reducible repeat' first
    | intro _ | assumption | apply State.eraseSector_kept | apply State.count_kept | apply State.record_kept
    | apply State.journalErase_kept | apply Kept.ite | apply Kept.each

theorem State.newKey_kept (s : State) (hk : Kept ⟨wd, wr, wu⟩ s₀ s) : Kept ⟨wd, wr, wu⟩ s₀ (State.newKey s) := by
  unfold State.newKey
  with_reducible repeat' first
    | (intro x; refine Kept.gen (w := ⟨wd, wr, wu⟩) (s₀ := s₀) (x := x) ?_ ?_; rotate_left; clear_value x; rotate_left; subst x) | (intro x; subst x)
    | intro _ | lift_lets | assumption | apply State.put_kept | apply Kept.ite
    | fail_if_no_progress (apply Kept.lit; rotate_left; with_unfolding_all rfl; with_unfolding_all rfl)

theorem State.releaseAll_kept (s : State) (hk : Kept ⟨wd, wr, wu⟩ s₀ s) : Kept ⟨wd, wr, wu⟩ s₀ (State.releaseAll s) := by
  unfold State.releaseAll
  with_reducible repeat' first
    | (intro x; refine Kept.gen (w := ⟨wd, wr, wu⟩) (s₀ := s₀) (x := x) ?_ ?_; rotate_left; clear_value x; rotate_left; subst x) | (intro x; subst x)
    | intro _ | lift_lets | assumption | apply State.count_kept | apply State.record_kept | apply State.put_kept
    | apply State.keepReserve_kept | apply Kept.ite | apply Kept.each
    | fail_if_no_progress (apply Kept.lit; rotate_left; with_unfolding_all rfl; with_unfolding_all rfl)

theorem State.finishScrub_kept (s : State) (hk : Kept ⟨wd, wr, wu⟩ s₀ s) : Kept ⟨wd, wr, wu⟩ s₀ (State.finishScrub s) := by
  unfold State.finishScrub
  with_reducible repeat' first
    | (intro x; refine Kept.gen (w := ⟨wd, wr, wu⟩) (s₀ := s₀) (x := x) ?_ ?_; rotate_left; clear_value x; rotate_left; subst x) | (intro x; subst x)
    | intro _ | lift_lets | assumption | apply State.newKey_kept | apply State.journalSectors_kept
    | apply State.releaseAll_kept | apply State.appendEntry_kept | apply State.record_kept | apply Kept.ite

theorem State.cryptoErase_kept (s : State) (hk : Kept ⟨wd, wr, wu⟩ s₀ s) : Kept ⟨wd, wr, wu⟩ s₀ (State.cryptoErase s) := by
  unfold State.cryptoErase
  with_reducible repeat' first
    | intro _ | assumption | apply State.appendEntry_kept | apply State.finishScrub_kept | apply Kept.ite

theorem State.loseRecord_kept (s : State) (rec : Nat) (hk : Kept ⟨wd, wr, wu⟩ s₀ s) : Kept ⟨wd, wr, wu⟩ s₀ (State.loseRecord s rec) := by
  unfold State.loseRecord
  with_reducible repeat' first
    | (intro x; refine Kept.gen (w := ⟨wd, wr, wu⟩) (s₀ := s₀) (x := x) ?_ ?_; rotate_left; clear_value x; rotate_left; subst x) | (intro x; subst x)
    | intro _ | lift_lets | assumption | apply State.put_kept | apply Kept.ite
    | fail_if_no_progress (apply Kept.lit; rotate_left; with_unfolding_all rfl; with_unfolding_all rfl) | split

theorem State.defaultRecord_kept (s : State) (rec : Nat) (hk : Kept ⟨wd, wr, wu⟩ s₀ s) : Kept ⟨wd, wr, wu⟩ s₀ (State.defaultRecord s rec) := by
  unfold State.defaultRecord
  with_reducible repeat' first
    | (intro x; refine Kept.gen (w := ⟨wd, wr, wu⟩) (s₀ := s₀) (x := x) ?_ ?_; rotate_left; clear_value x; rotate_left; subst x) | (intro x; subst x)
    | intro _ | lift_lets | assumption | apply State.record_kept | apply Kept.ite
    | fail_if_no_progress (apply Kept.lit; rotate_left; with_unfolding_all rfl; with_unfolding_all rfl)

theorem State.defaultRecords_kept (s : State) (hk : Kept ⟨wd, wr, wu⟩ s₀ s) : Kept ⟨wd, wr, wu⟩ s₀ (State.defaultRecords s) := by
  unfold State.defaultRecords
  with_reducible repeat' first
    | (intro x; refine Kept.gen (w := ⟨wd, wr, wu⟩) (s₀ := s₀) (x := x) ?_ ?_; rotate_left; clear_value x; rotate_left; subst x) | (intro x; subst x)
    | intro _ | lift_lets | assumption | apply State.defaultRecord_kept | apply State.defaultLearned_kept | apply State.put_kept
    | apply Kept.ite | apply Kept.each
    | fail_if_no_progress (apply Kept.lit; rotate_left; with_unfolding_all rfl; with_unfolding_all rfl)

theorem State.migrate_kept (s : State) (hk : Kept ⟨wd, wr, wu⟩ s₀ s) : Kept ⟨wd, wr, wu⟩ s₀ (State.migrate s) := by
  unfold State.migrate
  with_reducible repeat' first
    | (intro x; refine Kept.gen (w := ⟨wd, wr, wu⟩) (s₀ := s₀) (x := x) ?_ ?_; rotate_left; clear_value x; rotate_left; subst x) | (intro x; subst x)
    | intro _ | lift_lets | assumption | apply State.put_kept | apply State.record_kept | apply Kept.ite | apply Kept.each

theorem State.startRecorder_kept (s : State) (keyOk : Bool) (lost : List Nat) (hk : Kept ⟨wd, wr, wu⟩ s₀ s) :
    Kept ⟨wd, wr, wu⟩ s₀ (State.startRecorder s keyOk lost) := by
  unfold State.startRecorder
  with_reducible repeat' first
    | (intro x; refine Kept.gen (w := ⟨wd, wr, wu⟩) (s₀ := s₀) (x := x) ?_ ?_; rotate_left; clear_value x; rotate_left; subst x) | (intro x; subst x)
    | intro _ | lift_lets | assumption | apply State.put_kept | apply Kept.ite | apply Kept.fold
    | fail_if_no_progress (apply Kept.lit; rotate_left; with_unfolding_all rfl; with_unfolding_all rfl)

theorem State.logPower_kept (s : State) (hk : Kept ⟨wd, wr, wu⟩ s₀ s) : Kept ⟨wd, wr, wu⟩ s₀ (State.logPower s) := by
  unfold State.logPower
  with_reducible repeat' first
    | (intro x; refine Kept.gen (w := ⟨wd, wr, wu⟩) (s₀ := s₀) (x := x) ?_ ?_; rotate_left; clear_value x; rotate_left; subst x) | (intro x; subst x)
    | intro _ | lift_lets | assumption | apply State.record_kept | apply Kept.ite
    | fail_if_no_progress (apply Kept.lit; rotate_left; with_unfolding_all rfl; with_unfolding_all rfl)

theorem State.loadLearned_kept (s : State) (hk : Kept ⟨wd, wr, wu⟩ s₀ s) : Kept ⟨wd, wr, wu⟩ s₀ (State.loadLearned s) := by
  unfold State.loadLearned
  with_reducible repeat' first
    | (intro x; refine Kept.gen (w := ⟨wd, wr, wu⟩) (s₀ := s₀) (x := x) ?_ ?_; rotate_left; clear_value x; rotate_left; subst x) | (intro x; subst x)
    | intro _ | lift_lets | assumption | apply State.putAll_kept | apply Kept.ite
    | fail_if_no_progress (apply Kept.lit; rotate_left; with_unfolding_all rfl; with_unfolding_all rfl) | split

theorem State.startRestClock_kept (s : State) (hk : Kept ⟨wd, wr, wu⟩ s₀ s) : Kept ⟨wd, wr, wu⟩ s₀ (State.startRestClock s) := by
  unfold State.startRestClock
  with_reducible repeat' first
    | (intro x; refine Kept.gen (w := ⟨wd, wr, wu⟩) (s₀ := s₀) (x := x) ?_ ?_; rotate_left; clear_value x; rotate_left; subst x) | (intro x; subst x)
    | intro _ | lift_lets | assumption | apply State.put_kept | apply State.putAll_kept | apply State.record_kept
    | apply State.writeLearned_kept | apply Kept.ite

theorem State.noteUse_kept (s : State) (slots : List Nat) (hk : Kept ⟨wd, wr, wu⟩ s₀ s) : Kept ⟨wd, wr, wu⟩ s₀ (State.noteUse s slots) := by
  unfold State.noteUse
  with_reducible repeat' first
    | intro _ | assumption | apply Kept.ite
    | fail_if_no_progress (apply Kept.lit; rotate_left; with_unfolding_all rfl; with_unfolding_all rfl)

theorem State.showSets_kept (s : State) (hk : Kept ⟨wd, wr, wu⟩ s₀ s) : Kept ⟨wd, wr, wu⟩ s₀ (State.showSets s) := by
  unfold State.showSets
  with_reducible repeat' first
    | intro _ | assumption | apply State.put_kept | apply Kept.each | split

theorem State.mapRanks_kept (s : State) (used : Nat) (retired : Option Nat) (c : Nat) (hk : Kept ⟨wd, wr, wu⟩ s₀ s) :
    Kept ⟨wd, wr, wu⟩ s₀ (State.mapRanks s used retired c) := by
  unfold State.mapRanks
  with_reducible repeat' first
    | intro _ | assumption | apply State.put_kept | apply Kept.ite | apply Kept.each

theorem State.dmcUp_kept (s : State) (bin src c : Nat) (hk : Kept ⟨wd, wr, wu⟩ s₀ s) : Kept ⟨wd, wr, wu⟩ s₀ (State.dmcUp s bin src c) := by
  unfold State.dmcUp
  with_reducible repeat' first
    | (intro x; refine Kept.gen (w := ⟨wd, wr, wu⟩) (s₀ := s₀) (x := x) ?_ ?_; rotate_left; clear_value x; rotate_left; subst x) | (intro x; subst x)
    | intro _ | lift_lets | assumption | apply State.putAll_kept | apply State.mapRanks_kept | apply Kept.ite

theorem State.dropDramRails_kept (s : State) (a n : Nat) (hk : Kept ⟨wd, wr, wu⟩ s₀ s) : Kept ⟨wd, wr, wu⟩ s₀ (State.dropDramRails s a n) := by
  unfold State.dropDramRails
  with_reducible repeat' first
    | (intro x; refine Kept.gen (w := ⟨wd, wr, wu⟩) (s₀ := s₀) (x := x) ?_ ?_; rotate_left; clear_value x; rotate_left; subst x) | (intro x; subst x)
    | intro _ | lift_lets | assumption | apply State.dropRail_kept | apply Kept.ite

theorem State.bringUpDram_kept (s : State) (disagree : List Nat) (refused : List SourceRefused) (hk : Kept ⟨wd, wr, wu⟩ s₀ s) :
    Kept ⟨wd, wr, wu⟩ s₀ (State.bringUpDram s disagree refused) := by
  unfold State.bringUpDram
  with_reducible repeat' first
    | (intro x; refine Kept.gen (w := ⟨wd, wr, wu⟩) (s₀ := s₀) (x := x) ?_ ?_; rotate_left; clear_value x; rotate_left; subst x) | (intro x; subst x)
    | intro _ | lift_lets | assumption | apply State.showSets_kept | apply State.mapRanks_kept | apply State.record_kept
    | apply State.dropDramRails_kept | apply State.place_kept | apply State.putAll_kept | apply State.domainUp_kept
    | apply State.dmcUp_kept | apply State.noteUse_kept | apply Kept.ite | apply Kept.each | apply Kept.fold
    | fail_if_no_progress (apply Kept.lit; rotate_left; with_unfolding_all rfl; with_unfolding_all rfl) | split

theorem State.labelLun_kept (s : State) (lun : Nat) (hk : Kept ⟨wd, wr, wu⟩ s₀ s) : Kept ⟨wd, wr, wu⟩ s₀ (State.labelLun s lun) := by
  unfold State.labelLun
  with_reducible repeat' first
    | (intro x; refine Kept.gen (w := ⟨wd, wr, wu⟩) (s₀ := s₀) (x := x) ?_ ?_; rotate_left; clear_value x; rotate_left; subst x) | (intro x; subst x)
    | intro _ | lift_lets | assumption | apply State.newLsn_kept | apply State.setBlock_kept | apply Kept.ite | apply Kept.each
    | fail_if_no_progress (apply Kept.lit; rotate_left; with_unfolding_all rfl; with_unfolding_all rfl)

theorem State.showCapacity_kept (s : State) (hk : Kept ⟨wd, wr, wu⟩ s₀ s) : Kept ⟨wd, wr, wu⟩ s₀ (State.showCapacity s) := by
  unfold State.showCapacity
  with_reducible repeat' first
    | (intro x; refine Kept.gen (w := ⟨wd, wr, wu⟩) (s₀ := s₀) (x := x) ?_ ?_; rotate_left; clear_value x; rotate_left; subst x) | (intro x; subst x)
    | intro _ | lift_lets | assumption | apply State.putAll_kept | apply Kept.ite

theorem State.measureRate_kept (s : State) (hk : Kept ⟨wd, wr, wu⟩ s₀ s) : Kept ⟨wd, wr, wu⟩ s₀ (State.measureRate s) := by
  unfold State.measureRate
  with_reducible repeat' first
    | (intro x; refine Kept.gen (w := ⟨wd, wr, wu⟩) (s₀ := s₀) (x := x) ?_ ?_; rotate_left; clear_value x; rotate_left; subst x) | (intro x; subst x)
    | intro _ | lift_lets | assumption | apply State.tick_kept | apply State.put_kept | apply Kept.ite

theorem State.bringUpFlash_kept (s : State) (mismatch : Bool) (hk : Kept ⟨wd, wr, wu⟩ s₀ s) :
    Kept ⟨wd, wr, wu⟩ s₀ (State.bringUpFlash s mismatch) := by
  unfold State.bringUpFlash
  with_reducible repeat' first
    | (intro x; refine Kept.gen (w := ⟨wd, wr, wu⟩) (s₀ := s₀) (x := x) ?_ ?_; rotate_left; clear_value x; rotate_left; subst x) | (intro x; subst x)
    | intro _ | lift_lets | assumption | apply State.putAll_kept | apply State.record_kept | apply State.domainUp_kept
    | apply State.enableFlash_kept | apply State.labelLun_kept | apply State.showCapacity_kept | apply State.keepReserve_kept
    | apply State.measureRate_kept | apply State.showCeiling_kept | apply Kept.ite | apply Kept.each
    | fail_if_no_progress (apply Kept.lit; rotate_left; with_unfolding_all rfl; with_unfolding_all rfl) | split

theorem State.loadNext_kept (s : State) (hk : Kept ⟨wd, wr, wu⟩ s₀ s) : Kept ⟨wd, wr, wu⟩ s₀ (State.loadNext s) := by
  unfold State.loadNext
  with_reducible repeat' first
    | (intro x; refine Kept.gen (w := ⟨wd, wr, wu⟩) (s₀ := s₀) (x := x) ?_ ?_; rotate_left; clear_value x; rotate_left; subst x) | (intro x; subst x)
    | intro _ | lift_lets | assumption | apply State.putAll_kept | apply Kept.each

theorem State.keeperUp_kept (s : State) (disagree : List Nat) (refused : List SourceRefused) (mismatch : Bool) (lost records : List Nat) (hk : Kept ⟨wd, wr, true⟩ s₀ s) :
    Kept ⟨wd, wr, true⟩ s₀ (State.keeperUp s disagree refused mismatch lost records) := by
  unfold State.keeperUp
  with_reducible repeat' first
    | (intro x; refine Kept.gen (w := ⟨wd, wr, true⟩) (s₀ := s₀) (x := x) ?_ ?_; rotate_left; clear_value x; rotate_left; subst x) | (intro x; subst x)
    | intro _ | lift_lets | assumption | apply State.loseRecord_kept | apply State.redoErases_kept | apply State.loadNext_kept
    | apply State.loadLearned_kept | apply State.startRecorder_kept | apply State.logPower_kept | apply State.bootSlot_kept
    | apply State.defaultRecords_kept | apply State.migrate_kept | apply State.domainUp_kept | apply State.putAll_kept
    | apply State.bringUpDram_kept | apply State.bringUpFlash_kept | apply State.startRestClock_kept
    | apply State.finishScrub_kept | apply State.put_kept | apply State.setReady_kept | apply State.recompute_kept
    | apply State.showWear_kept | apply Kept.ite | apply Kept.each
    | fail_if_no_progress (apply Kept.lit; rotate_left; with_unfolding_all rfl; with_unfolding_all rfl) | split

/-! ## Machine/Restore.lean -/

theorem State.fillStatic_kept (s : State) (ld : Nat) (hk : Kept ⟨wd, wr, wu⟩ s₀ s) : Kept ⟨wd, wr, wu⟩ s₀ (State.fillStatic s ld) := by
  unfold State.fillStatic
  with_reducible repeat' first
    | (intro x; refine Kept.gen (w := ⟨wd, wr, wu⟩) (s₀ := s₀) (x := x) ?_ ?_; rotate_left; clear_value x; rotate_left; subst x) | (intro x; subst x)
    | intro _ | lift_lets | assumption | apply Kept.ite
    | fail_if_no_progress (apply Kept.lit; rotate_left; with_unfolding_all rfl; with_unfolding_all rfl)

theorem State.rebuildRegions_kept (s : State) (index : NMap Nat) (hk : Kept ⟨wd, wr, wu⟩ s₀ s) :
    Kept ⟨wd, wr, wu⟩ s₀ (State.rebuildRegions s index) := by
  unfold State.rebuildRegions
  with_reducible repeat' first
    | (intro x; refine Kept.gen (w := ⟨wd, wr, wu⟩) (s₀ := s₀) (x := x) ?_ ?_; rotate_left; clear_value x; rotate_left; subst x) | (intro x; subst x)
    | intro _ | lift_lets | assumption | apply State.record_kept | apply State.fillStatic_kept | apply Kept.ite
    | apply Kept.fold | fail_if_no_progress (apply Kept.lit; rotate_left; with_unfolding_all rfl; with_unfolding_all rfl)

theorem State.rebuildPoison_kept (s : State) (index : NMap Nat) (hk : Kept ⟨wd, wr, wu⟩ s₀ s) :
    Kept ⟨wd, wr, wu⟩ s₀ (State.rebuildPoison s index) := by
  unfold State.rebuildPoison
  with_reducible repeat' first
    | (intro x; refine Kept.gen (w := ⟨wd, wr, wu⟩) (s₀ := s₀) (x := x) ?_ ?_; rotate_left; clear_value x; rotate_left; subst x) | (intro x; subst x)
    | intro _ | lift_lets | assumption | apply State.setLd_kept | apply State.listPoison_kept | apply Kept.ite
    | apply Kept.each | fail_if_no_progress (apply Kept.lit; rotate_left; with_unfolding_all rfl; with_unfolding_all rfl)

theorem State.sizeCarafe_kept (s : State) (hk : Kept ⟨wd, wr, wu⟩ s₀ s) : Kept ⟨wd, wr, wu⟩ s₀ (State.sizeCarafe s) := by
  unfold State.sizeCarafe
  with_reducible repeat' first
    | (intro x; refine Kept.gen (w := ⟨wd, wr, wu⟩) (s₀ := s₀) (x := x) ?_ ?_; rotate_left; clear_value x; rotate_left; subst x) | (intro x; subst x)
    | intro _ | lift_lets | assumption | apply State.put_kept | apply State.record_kept | split

theorem State.lastSaveUnread_kept (s : State) (hk : Kept ⟨wd, wr, wu⟩ s₀ s) : Kept ⟨wd, wr, wu⟩ s₀ (State.lastSaveUnread s) := by
  unfold State.lastSaveUnread
  with_reducible repeat' first
    | intro _ | assumption | apply State.put_kept | apply State.putFree_kept | apply Kept.ite | apply Kept.each

theorem State.loadLastSave_kept (s : State) (save : Option SaveRec) (hk : Kept ⟨wd, wr, wu⟩ s₀ s) :
    Kept ⟨wd, wr, wu⟩ s₀ (State.loadLastSave s save) := by
  unfold State.loadLastSave
  with_reducible repeat' first
    | (intro x; refine Kept.gen (w := ⟨wd, wr, wu⟩) (s₀ := s₀) (x := x) ?_ ?_; rotate_left; clear_value x; rotate_left; subst x) | (intro x; subst x)
    | intro _ | lift_lets | assumption | apply State.putPair_kept | apply State.put_kept | apply State.putAll_kept
    | apply State.sealDurable_kept | apply State.lastSaveUnread_kept | apply Kept.ite | split

theorem State.setImageEpoch_kept (s : State) (n : Nat) (hk : Kept ⟨wd, wr, wu⟩ s₀ s) : Kept ⟨wd, wr, wu⟩ s₀ (State.setImageEpoch s n) := by
  unfold State.setImageEpoch
  with_reducible repeat' first
    | assumption | apply State.putPair_kept

theorem State.chooseImage_kept (s : State) (img : Image) (hk : Kept ⟨wd, wr, wu⟩ s₀ s) : Kept ⟨wd, wr, wu⟩ s₀ (State.chooseImage s img) := by
  unfold State.chooseImage
  with_reducible repeat' first
    | (intro x; refine Kept.gen (w := ⟨wd, wr, wu⟩) (s₀ := s₀) (x := x) ?_ ?_; rotate_left; clear_value x; rotate_left; subst x) | (intro x; subst x)
    | intro _ | lift_lets | assumption | apply State.setImageEpoch_kept | apply State.rebuildRegions_kept
    | apply State.rebuildPoison_kept | apply Kept.ite
    | fail_if_no_progress (apply Kept.lit; rotate_left; with_unfolding_all rfl; with_unfolding_all rfl)

theorem State.startTracking_kept (s : State) (hk : Kept ⟨wd, wr, wu⟩ s₀ s) : Kept ⟨wd, wr, wu⟩ s₀ (State.startTracking s) := by
  unfold State.startTracking
  with_reducible repeat' first
    | intro _ | assumption | apply State.showWear_kept | apply State.recompute_kept | apply Kept.ite
    | fail_if_no_progress (apply Kept.lit; rotate_left; with_unfolding_all rfl; with_unfolding_all rfl)

theorem State.keepRegions_kept (s : State) (hk : Kept ⟨wd, wr, wu⟩ s₀ s) : Kept ⟨wd, wr, wu⟩ s₀ (State.keepRegions s) := by
  unfold State.keepRegions
  with_reducible repeat' first
    | (intro x; refine Kept.gen (w := ⟨wd, wr, wu⟩) (s₀ := s₀) (x := x) ?_ ?_; rotate_left; clear_value x; rotate_left; subst x) | (intro x; subst x)
    | intro _ | lift_lets | assumption | apply State.record_kept | apply State.writeRegions_kept | apply Kept.ite
    | fail_if_no_progress (apply Kept.lit; rotate_left; with_unfolding_all rfl; with_unfolding_all rfl)

theorem State.startFill_kept (s : State) (hk : Kept ⟨wd, wr, wu⟩ s₀ s) : Kept ⟨wd, wr, wu⟩ s₀ (State.startFill s) := by
  unfold State.startFill
  with_reducible repeat' first
    | (intro x; refine Kept.gen (w := ⟨wd, wr, wu⟩) (s₀ := s₀) (x := x) ?_ ?_; rotate_left; clear_value x; rotate_left; subst x) | (intro x; subst x)
    | intro _ | lift_lets | assumption | apply State.rebuildRegions_kept | apply State.keepRegions_kept
    | apply State.enter_kept | apply State.openFirst_kept | apply State.put_kept | apply Kept.ite
    | fail_if_no_progress (apply Kept.lit; rotate_left; with_unfolding_all rfl; with_unfolding_all rfl)

theorem State.closeWindow_kept (s : State) (hk : Kept ⟨wd, wr, wu⟩ s₀ s) : Kept ⟨wd, wr, wu⟩ s₀ (State.closeWindow s) := by
  unfold State.closeWindow
  with_reducible repeat' first
    | (intro x; refine Kept.gen (w := ⟨wd, wr, wu⟩) (s₀ := s₀) (x := x) ?_ ?_; rotate_left; clear_value x; rotate_left; subst x) | (intro x; subst x)
    | intro _ | lift_lets | assumption | apply State.keepRegions_kept | apply State.enter_kept | apply State.putAll_kept
    | apply State.openFirst_kept | apply Kept.ite
    | fail_if_no_progress (apply Kept.lit; rotate_left; with_unfolding_all rfl; with_unfolding_all rfl)

theorem State.commitSlot_kept (s : State) (hk : Kept ⟨wd, wr, wu⟩ s₀ s) : Kept ⟨wd, wr, wu⟩ s₀ (State.commitSlot s) := by
  unfold State.commitSlot
  with_reducible repeat' first
    | (intro x; refine Kept.gen (w := ⟨wd, wr, wu⟩) (s₀ := s₀) (x := x) ?_ ?_; rotate_left; clear_value x; rotate_left; subst x) | (intro x; subst x)
    | intro _ | lift_lets | assumption | apply State.raise_kept | apply State.writeBoot_kept | apply Kept.ite
    | fail_if_no_progress (apply Kept.lit; rotate_left; with_unfolding_all rfl; with_unfolding_all rfl)

theorem State.startKey_kept (s : State) (key onFlash : Bool) (hk : Kept ⟨wd, wr, wu⟩ s₀ s) : Kept ⟨wd, wr, wu⟩ s₀ (State.startKey s key onFlash) := by
  unfold State.startKey
  with_reducible repeat' first
    | intro _ | assumption | apply State.newKey_kept | apply Kept.ite
    | fail_if_no_progress (apply Kept.lit; rotate_left; with_unfolding_all rfl; with_unfolding_all rfl)

theorem State.rebuildBlocks_kept (s : State) (hk : Kept ⟨wd, wr, wu⟩ s₀ s) : Kept ⟨wd, wr, wu⟩ s₀ (State.rebuildBlocks s) := by
  unfold State.rebuildBlocks
  with_reducible repeat' first
    | (intro x; refine Kept.gen (w := ⟨wd, wr, wu⟩) (s₀ := s₀) (x := x) ?_ ?_; rotate_left; clear_value x; rotate_left; subst x) | (intro x; subst x)
    | intro _ | lift_lets | assumption | apply State.closePage_kept | apply State.releaseBlocks_kept | apply Kept.ite
    | apply Kept.each | fail_if_no_progress (apply Kept.lit; rotate_left; with_unfolding_all rfl; with_unfolding_all rfl)

theorem State.judgeAll_kept (s : State) (key : Bool) (reads : List CodewordRead) (unreadable foreign : List Nat) (hk : Kept ⟨wd, wr, wu⟩ s₀ s) :
    Kept ⟨wd, wr, wu⟩ s₀ (State.judgeAll s key reads unreadable foreign) := by
  unfold State.judgeAll
  with_reducible repeat' first
    | (intro x; refine Kept.gen (w := ⟨wd, wr, wu⟩) (s₀ := s₀) (x := x) ?_ ?_; rotate_left; clear_value x; rotate_left; subst x) | (intro x; subst x)
    | intro _ | lift_lets | assumption | apply State.startKey_kept | apply State.flashReads_kept | apply State.record_kept
    | apply State.rebuildBlocks_kept | apply Kept.ite | apply Kept.each
    | fail_if_no_progress (apply Kept.lit; rotate_left; with_unfolding_all rfl; with_unfolding_all rfl)

theorem State.reportImages_kept (s : State) (save : Option SaveRec) (source reason : Nat) (older : Bool) (img : Option Image) (hk : Kept ⟨wd, wr, wu⟩ s₀ s) :
    Kept ⟨wd, wr, wu⟩ s₀ (State.reportImages s save source reason older img) := by
  unfold State.reportImages
  with_reducible repeat' first
    | (intro x; refine Kept.gen (w := ⟨wd, wr, wu⟩) (s₀ := s₀) (x := x) ?_ ?_; rotate_left; clear_value x; rotate_left; subst x) | (intro x; subst x)
    | intro _ | lift_lets | assumption | apply State.sizeCarafe_kept | apply State.loadLastSave_kept | apply State.putPair_kept
    | apply State.showRetained_kept | apply State.putAll_kept | apply State.putFree_kept | apply State.chooseImage_kept
    | apply Kept.ite | fail_if_no_progress (apply Kept.lit; rotate_left; with_unfolding_all rfl; with_unfolding_all rfl)
    | split

theorem State.announceImage_kept (s : State) (source reason : Nat) (older : Bool) (hk : Kept ⟨wd, wr, wu⟩ s₀ s) :
    Kept ⟨wd, wr, wu⟩ s₀ (State.announceImage s source reason older) := by
  unfold State.announceImage
  with_reducible repeat' first
    | (intro x; refine Kept.gen (w := ⟨wd, wr, wu⟩) (s₀ := s₀) (x := x) ?_ ?_; rotate_left; clear_value x; rotate_left; subst x) | (intro x; subst x)
    | intro _ | lift_lets | assumption | apply State.setReady_kept | apply State.record_kept | apply State.commitSlot_kept
    | apply State.startTracking_kept | apply Kept.ite

theorem State.serveImage_kept (s : State) (source : Nat) (capacity : Bool) (hk : Kept ⟨wd, wr, wu⟩ s₀ s) :
    Kept ⟨wd, wr, wu⟩ s₀ (State.serveImage s source capacity) := by
  unfold State.serveImage
  with_reducible repeat' first
    | (intro x; refine Kept.gen (w := ⟨wd, wr, wu⟩) (s₀ := s₀) (x := x) ?_ ?_; rotate_left; clear_value x; rotate_left; subst x) | (intro x; subst x)
    | intro _ | lift_lets | assumption | apply State.startFill_kept | apply State.putAll_kept | apply State.enter_kept
    | apply State.record_kept | apply State.closeWindow_kept | apply Kept.ite

theorem State.serveEarly_kept (s : State) (hk : Kept ⟨true, wr, wu⟩ s₀ s) : Kept ⟨true, wr, wu⟩ s₀ (State.serveEarly s) := by
  unfold State.serveEarly
  with_reducible repeat' first
    | (intro x; refine Kept.gen (w := ⟨true, wr, wu⟩) (s₀ := s₀) (x := x) ?_ ?_; rotate_left; clear_value x; rotate_left; subst x) | (intro x; subst x)
    | intro _ | lift_lets | assumption | apply State.serveWrite_kept | apply State.serveRead_kept | apply Kept.ite
    | apply Kept.each | fail_if_no_progress (apply Kept.lit; rotate_left; with_unfolding_all rfl; with_unfolding_all rfl)

theorem State.zeroFilled_kept (s : State) (e : Nat) (hk : Kept ⟨wd, wr, wu⟩ s₀ s) : Kept ⟨wd, wr, wu⟩ s₀ (State.zeroFilled s e) := by
  unfold State.zeroFilled
  with_reducible repeat' first
    | (intro x; refine Kept.gen (w := ⟨wd, wr, wu⟩) (s₀ := s₀) (x := x) ?_ ?_; rotate_left; clear_value x; rotate_left; subst x) | (intro x; subst x)
    | intro _ | lift_lets | assumption | apply Kept.ite
    | fail_if_no_progress (apply Kept.lit; rotate_left; with_unfolding_all rfl; with_unfolding_all rfl) | split

theorem State.memFull_kept (s : State) (hk : Kept ⟨wd, wr, wu⟩ s₀ s) : Kept ⟨wd, wr, wu⟩ s₀ (State.memFull s) := by
  unfold State.memFull
  with_reducible repeat' first
    | (intro x; refine Kept.gen (w := ⟨wd, wr, wu⟩) (s₀ := s₀) (x := x) ?_ ?_; rotate_left; clear_value x; rotate_left; subst x) | (intro x; subst x)
    | intro _ | lift_lets | assumption | apply State.putFree_kept | apply State.put_kept | apply State.setReady_kept
    | apply State.endPanic_kept | apply State.record_kept | apply State.enter_kept | apply Kept.ite
    | fail_if_no_progress (apply Kept.lit; rotate_left; with_unfolding_all rfl; with_unfolding_all rfl)

theorem State.pageDone_kept (s : State) (page : Nat) (hk : Kept ⟨true, wr, wu⟩ s₀ s) : Kept ⟨true, wr, wu⟩ s₀ (State.pageDone s page) := by
  unfold State.pageDone
  with_reducible repeat' first
    | (intro x; refine Kept.gen (w := ⟨true, wr, wu⟩) (s₀ := s₀) (x := x) ?_ ?_; rotate_left; clear_value x; rotate_left; subst x) | (intro x; subst x)
    | intro _ | lift_lets | assumption | apply State.count_kept | apply State.zeroFilled_kept | apply State.put_kept
    | apply State.setReady_kept | apply State.memFull_kept | apply State.serveEarly_kept | apply Kept.ite
    | fail_if_no_progress (apply Kept.lit; rotate_left; with_unfolding_all rfl; with_unfolding_all rfl)

theorem State.putRestored_kept (s : State) (page : Nat) (p : PageImage) (hk : Kept ⟨true, wr, wu⟩ s₀ s) :
    Kept ⟨true, wr, wu⟩ s₀ (State.putRestored s page p) := by
  unfold State.putRestored
  with_reducible repeat' first
    | intro _ | assumption | apply State.putPage_kept | apply State.listPoison_kept | apply Kept.ite | apply Kept.each

theorem State.recordUnread_kept (s : State) (page : Nat) (hk : Kept ⟨wd, wr, wu⟩ s₀ s) : Kept ⟨wd, wr, wu⟩ s₀ (State.recordUnread s page) := by
  unfold State.recordUnread
  with_reducible repeat' first
    | intro _ | assumption | apply Kept.ite
    | fail_if_no_progress (apply Kept.lit; rotate_left; with_unfolding_all rfl; with_unfolding_all rfl)

theorem State.restoreUnread_kept (s : State) (page : Nat) (hk : Kept ⟨true, wr, wu⟩ s₀ s) : Kept ⟨true, wr, wu⟩ s₀ (State.restoreUnread s page) := by
  unfold State.restoreUnread
  with_reducible repeat' first
    | (intro x; refine Kept.gen (w := ⟨true, wr, wu⟩) (s₀ := s₀) (x := x) ?_ ?_; rotate_left; clear_value x; rotate_left; subst x) | (intro x; subst x)
    | intro _ | lift_lets | assumption | apply State.count_kept | apply State.recordFor_kept | apply State.strike_kept
    | apply State.putRestored_kept | apply State.recordUnread_kept | apply State.pageDone_kept | apply Kept.ite

theorem State.restorePage_kept (s : State) (page : Nat) (fault uncorrectable : Bool) (retries corrected : Nat) (maps : List CodewordRead) (hk : Kept ⟨true, wr, wu⟩ s₀ s) :
    Kept ⟨true, wr, wu⟩ s₀ (State.restorePage s page fault uncorrectable retries corrected maps) := by
  unfold State.restorePage
  with_reducible repeat' first
    | (intro x; refine Kept.gen (w := ⟨true, wr, wu⟩) (s₀ := s₀) (x := x) ?_ ?_; rotate_left; clear_value x; rotate_left; subst x) | (intro x; subst x)
    | intro _ | lift_lets | assumption | apply State.count_kept | apply State.accessPage_kept
    | apply State.suspendPrograms_kept | apply State.flashReads_kept | apply State.restoreUnread_kept
    | apply State.putPage_kept | apply State.pageDone_kept | apply State.putRestored_kept | apply State.flashRead_kept
    | apply Kept.ite | apply Kept.each | split

theorem State.releasePage_kept (s : State) (page : Nat) (hk : Kept ⟨true, wr, wu⟩ s₀ s) : Kept ⟨true, wr, wu⟩ s₀ (State.releasePage s page) := by
  unfold State.releasePage
  with_reducible repeat' first
    | (intro x; refine Kept.gen (w := ⟨true, wr, wu⟩) (s₀ := s₀) (x := x) ?_ ?_; rotate_left; clear_value x; rotate_left; subst x) | (intro x; subst x)
    | intro _ | lift_lets | assumption | apply State.faultIn_kept | apply State.unwait_kept | apply State.carry_kept
    | apply State.readRestored_kept | apply Kept.ite | apply Kept.each
    | fail_if_no_progress (apply Kept.lit; rotate_left; with_unfolding_all rfl; with_unfolding_all rfl)

theorem State.issueQueued_kept (s : State) (hk : Kept ⟨wd, wr, wu⟩ s₀ s) : Kept ⟨wd, wr, wu⟩ s₀ (State.issueQueued s) := by
  unfold State.issueQueued
  with_reducible repeat' first
    | (intro x; refine Kept.gen (w := ⟨wd, wr, wu⟩) (s₀ := s₀) (x := x) ?_ ?_; rotate_left; clear_value x; rotate_left; subst x) | (intro x; subst x)
    | intro _ | lift_lets | assumption | apply State.unwait_kept | apply State.faultIn_kept | apply Kept.ite | split
    | fail_if_no_progress beta_reduce

theorem State.issueSweep_kept (s : State) (hk : Kept ⟨wd, wr, wu⟩ s₀ s) : Kept ⟨wd, wr, wu⟩ s₀ (State.issueSweep s) := by
  unfold State.issueSweep
  with_reducible repeat' first
    | intro _ | assumption | apply Kept.ite
    | fail_if_no_progress (apply Kept.lit; rotate_left; with_unfolding_all rfl; with_unfolding_all rfl)

theorem State.readDirectory_kept (s : State) (hk : Kept ⟨wd, wr, wu⟩ s₀ s) : Kept ⟨wd, wr, wu⟩ s₀ (State.readDirectory s) := by
  unfold State.readDirectory
  with_reducible repeat' first
    | intro _ | assumption | apply State.tick_kept | apply State.flashRead_kept | apply Kept.ite | apply Kept.each

theorem State.showRates_kept (s : State) (hk : Kept ⟨wd, wr, wu⟩ s₀ s) : Kept ⟨wd, wr, wu⟩ s₀ (State.showRates s) := by
  unfold State.showRates
  with_reducible repeat' first
    | intro _ | assumption | apply State.putFree_kept | apply State.put_kept | apply State.tick_kept | apply Kept.ite

theorem State.putLine_kept (s : State) (line : Nat) (p : PageImage) (hk : Kept ⟨true, wr, wu⟩ s₀ s) : Kept ⟨true, wr, wu⟩ s₀ (State.putLine s line p) := by
  unfold State.putLine
  exact hk.withDram (fun w => dramPut_foldl_wf (clearRange_wf w _ _) _ _) rfl rfl rfl

theorem State.rewriteLine_kept (s : State) (line : Nat) (p : PageImage) (hk : Kept ⟨true, wr, wu⟩ s₀ s) :
    Kept ⟨true, wr, wu⟩ s₀ (State.rewriteLine s line p) := by
  unfold State.rewriteLine
  with_reducible repeat' first
    | (intro x; refine Kept.gen (w := ⟨true, wr, wu⟩) (s₀ := s₀) (x := x) ?_ ?_; rotate_left; clear_value x; rotate_left; subst x) | (intro x; subst x)
    | intro _ | lift_lets | assumption | apply State.access_kept | apply State.spoilLine_kept | apply State.putLine_kept
    | apply State.cleanLine_kept | apply State.count_kept | apply State.endFault_kept | apply Kept.ite

theorem State.acceptLoss_kept (s : State) (scrub : Bool) (hk : Kept ⟨wd, wr, wu⟩ s₀ s) : Kept ⟨wd, wr, wu⟩ s₀ (State.acceptLoss s scrub) := by
  unfold State.acceptLoss
  with_reducible repeat' first
    | (intro x; refine Kept.gen (w := ⟨wd, wr, wu⟩) (s₀ := s₀) (x := x) ?_ ?_; rotate_left; clear_value x; rotate_left; subst x) | (intro x; subst x)
    | intro _ | lift_lets | assumption | apply State.cryptoErase_kept | apply State.releaseBlocks_kept
    | apply State.writeRingList_kept | apply State.putAll_kept | apply State.setImageEpoch_kept | apply State.showRetained_kept
    | apply State.put_kept | apply State.record_kept | apply State.startFill_kept | apply Kept.ite
    | fail_if_no_progress (apply Kept.lit; rotate_left; with_unfolding_all rfl; with_unfolding_all rfl)

/-! ## Machine/Hif.lean -/

theorem State.setExt_kept (s : State) (e : Nat) (x : Extent) (hk : Kept ⟨wd, wr, wu⟩ s₀ s) : Kept ⟨wd, wr, wu⟩ s₀ (State.setExt s e x) := by
  unfold State.setExt
  with_reducible repeat' first
    | assumption | fail_if_no_progress (apply Kept.lit; rotate_left; with_unfolding_all rfl; with_unfolding_all rfl)

theorem State.dcLog_kept (s : State) (ld : Fin 16) (add : Bool) (lpas : List Nat) (hk : Kept ⟨wd, wr, wu⟩ s₀ s) :
    Kept ⟨wd, wr, wu⟩ s₀ (State.dcLog s ld add lpas) := by
  unfold State.dcLog
  with_reducible repeat' first
    | intro _ | assumption | apply State.cxlLog_kept | apply Kept.ite

theorem State.offer_kept (s : State) (ld : Fin 16) (exts : List Nat) (origin : Option (Port × BitVec 32)) (hk : Kept ⟨wd, wr, wu⟩ s₀ s) :
    Kept ⟨wd, wr, wu⟩ s₀ (State.offer s ld exts origin) := by
  unfold State.offer
  with_reducible repeat' first
    | (intro x; refine Kept.gen (w := ⟨wd, wr, wu⟩) (s₀ := s₀) (x := x) ?_ ?_; rotate_left; clear_value x; rotate_left; subst x) | (intro x; subst x)
    | intro _ | lift_lets | assumption | apply State.setExt_kept | apply State.writeRegions_kept | apply State.dcOffered_kept
    | apply Kept.ite | apply Kept.each
    | fail_if_no_progress (apply Kept.lit; rotate_left; with_unfolding_all rfl; with_unfolding_all rfl)

theorem State.dcOffered_kept (s : State) (ld : Nat) (exts : List Nat) (hk : Kept ⟨wd, wr, wu⟩ s₀ s) :
    Kept ⟨wd, wr, wu⟩ s₀ (State.dcOffered s ld exts) := by
  unfold State.dcOffered
  with_reducible repeat' first
    | (intro x; refine Kept.gen (w := ⟨wd, wr, wu⟩) (s₀ := s₀) (x := x) ?_ ?_; rotate_left; clear_value x; rotate_left; subst x) | (intro x; subst x)
    | intro _ | lift_lets | assumption | apply State.acceptLate_kept | apply State.dcLog_kept | apply Kept.ite
    | fail_if_no_progress (apply Kept.lit; rotate_left; with_unfolding_all rfl; with_unfolding_all rfl) | split

theorem State.askRelease_kept (s : State) (ld : Fin 16) (exts : List Nat) (sanitize force : Bool) (origin : Option (Port × BitVec 32)) (hk : Kept ⟨wd, wr, wu⟩ s₀ s) :
    Kept ⟨wd, wr, wu⟩ s₀ (State.askRelease s ld exts sanitize force origin) := by
  unfold State.askRelease
  with_reducible repeat' first
    | (intro x; refine Kept.gen (w := ⟨wd, wr, wu⟩) (s₀ := s₀) (x := x) ?_ ?_; rotate_left; clear_value x; rotate_left; subst x) | (intro x; subst x)
    | intro _ | lift_lets | assumption | apply State.setExt_kept | apply State.writeRegions_kept | apply State.dcLog_kept
    | apply Kept.ite | apply Kept.each
    | fail_if_no_progress (apply Kept.lit; rotate_left; with_unfolding_all rfl; with_unfolding_all rfl)

theorem State.withdraw_kept (s : State) (e : Nat) (hk : Kept ⟨wd, wr, wu⟩ s₀ s) : Kept ⟨wd, wr, wu⟩ s₀ (State.withdraw s e) := by
  unfold State.withdraw
  with_reducible repeat' first
    | (intro x; refine Kept.gen (w := ⟨wd, wr, wu⟩) (s₀ := s₀) (x := x) ?_ ?_; rotate_left; clear_value x; rotate_left; subst x) | (intro x; subst x)
    | intro _ | lift_lets | assumption | apply State.setExt_kept
    | fail_if_no_progress (apply Kept.lit; rotate_left; with_unfolding_all rfl; with_unfolding_all rfl)

theorem State.listExtentPoison_kept (s : State) (e : Nat) (hk : Kept ⟨wd, wr, wu⟩ s₀ s) : Kept ⟨wd, wr, wu⟩ s₀ (State.listExtentPoison s e) := by
  unfold State.listExtentPoison
  with_reducible repeat' first
    | (intro x; refine Kept.gen (w := ⟨wd, wr, wu⟩) (s₀ := s₀) (x := x) ?_ ?_; rotate_left; clear_value x; rotate_left; subst x) | (intro x; subst x)
    | intro _ | lift_lets | assumption | apply State.listPoison_kept | apply Kept.ite | apply Kept.each

theorem State.releaseExtent_kept (s : State) (e : Nat) (sanitize : Bool) (hk : Kept ⟨wd, wr, wu⟩ s₀ s) :
    Kept ⟨wd, wr, wu⟩ s₀ (State.releaseExtent s e sanitize) := by
  unfold State.releaseExtent
  with_reducible repeat' first
    | (intro x; refine Kept.gen (w := ⟨wd, wr, wu⟩) (s₀ := s₀) (x := x) ?_ ?_; rotate_left; clear_value x; rotate_left; subst x) | (intro x; subst x)
    | intro _ | lift_lets | assumption | apply State.setLd_kept | apply State.setExt_kept | apply Kept.ite
    | fail_if_no_progress (apply Kept.lit; rotate_left; with_unfolding_all rfl; with_unfolding_all rfl)

theorem State.dropOp_kept (s : State) (o : DcOp) (hk : Kept ⟨wd, wr, wu⟩ s₀ s) : Kept ⟨wd, wr, wu⟩ s₀ (State.dropOp s o) := by
  unfold State.dropOp
  with_reducible repeat' first
    | assumption | fail_if_no_progress (apply Kept.lit; rotate_left; with_unfolding_all rfl; with_unfolding_all rfl)

theorem State.dcMapped_kept (s : State) (ld : Nat) (exts : List Nat) (hk : Kept ⟨wd, wr, wu⟩ s₀ s) : Kept ⟨wd, wr, wu⟩ s₀ (State.dcMapped s ld exts) := by
  unfold State.dcMapped
  with_reducible repeat' first
    | (intro x; refine Kept.gen (w := ⟨wd, wr, wu⟩) (s₀ := s₀) (x := x) ?_ ?_; rotate_left; clear_value x; rotate_left; subst x) | (intro x; subst x)
    | intro _ | lift_lets | assumption | apply State.setExt_kept | apply State.listExtentPoison_kept | apply State.recordFor_kept
    | apply State.dropOp_kept | apply State.completeFor_kept | apply Kept.each
    | fail_if_no_progress (apply Kept.lit; rotate_left; with_unfolding_all rfl; with_unfolding_all rfl) | split

theorem State.dcReleased_kept (s : State) (ld : Nat) (hk : Kept ⟨wd, wr, wu⟩ s₀ s) : Kept ⟨wd, wr, wu⟩ s₀ (State.dcReleased s ld) := by
  unfold State.dcReleased
  with_reducible repeat' first
    | (intro x; refine Kept.gen (w := ⟨wd, wr, wu⟩) (s₀ := s₀) (x := x) ?_ ?_; rotate_left; clear_value x; rotate_left; subst x) | (intro x; subst x)
    | intro _ | lift_lets | assumption | apply State.dropOp_kept | apply State.completeFor_kept | apply Kept.each

theorem State.endDc_kept (s : State) (o : DcOp) (status : Status) (exts : List Nat) (hk : Kept ⟨wd, wr, wu⟩ s₀ s) :
    Kept ⟨wd, wr, wu⟩ s₀ (State.endDc s o status exts) := by
  unfold State.endDc
  with_reducible repeat' first
    | intro _ | assumption | apply State.writeRegions_kept | apply Kept.ite

/-! ## Machine/Flash.lean -/

theorem State.gcResult_kept (s : State) (result block : Nat) (hk : Kept ⟨wd, wr, wu⟩ s₀ s) : Kept ⟨wd, wr, wu⟩ s₀ (State.gcResult s result block) := by
  unfold State.gcResult
  with_reducible repeat' first
    | assumption | apply State.putAll_kept

theorem State.relocated_kept (s : State) (b : Nat) (hk : Kept ⟨wd, wr, wu⟩ s₀ s) : Kept ⟨wd, wr, wu⟩ s₀ (State.relocated s b) := by
  unfold State.relocated
  with_reducible repeat' first
    | (intro x; refine Kept.gen (w := ⟨wd, wr, wu⟩) (s₀ := s₀) (x := x) ?_ ?_; rotate_left; clear_value x; rotate_left; subst x) | (intro x; subst x)
    | intro _ | lift_lets | assumption | apply State.gcResult_kept | apply State.releaseBlocks_kept
    | fail_if_no_progress (apply Kept.lit; rotate_left; with_unfolding_all rfl; with_unfolding_all rfl) | split

theorem State.gcRequest_kept (s : State) (op b : Nat) (hk : Kept ⟨wd, wr, wu⟩ s₀ s) : Kept ⟨wd, wr, wu⟩ s₀ (State.gcRequest s op b) := by
  unfold State.gcRequest
  with_reducible repeat' first
    | (intro x; refine Kept.gen (w := ⟨wd, wr, wu⟩) (s₀ := s₀) (x := x) ?_ ?_; rotate_left; clear_value x; rotate_left; subst x) | (intro x; subst x)
    | intro _ | lift_lets | assumption | apply State.gcResult_kept | apply State.setBlock_kept | apply State.relocated_kept
    | apply Kept.ite | fail_if_no_progress (apply Kept.lit; rotate_left; with_unfolding_all rfl; with_unfolding_all rfl)

theorem State.copyRecord_kept (s : State) (b lsn fa corrected retries : Nat) (bad : Bool) (rest : List Nat) (hk : Kept ⟨wd, wr, wu⟩ s₀ s) :
    Kept ⟨wd, wr, wu⟩ s₀ (State.copyRecord s b lsn fa corrected retries bad rest) := by
  unfold State.copyRecord
  with_reducible repeat' first
    | (intro x; refine Kept.gen (w := ⟨wd, wr, wu⟩) (s₀ := s₀) (x := x) ?_ ?_; rotate_left; clear_value x; rotate_left; subst x) | (intro x; subst x)
    | intro _ | lift_lets | assumption | apply State.flashRead_kept | apply State.openAt_kept | apply Kept.ite
    | fail_if_no_progress (apply Kept.lit; rotate_left; with_unfolding_all rfl; with_unfolding_all rfl) | split

theorem State.eraseOver_kept (s : State) (b : Nat) (hk : Kept ⟨wd, wr, wu⟩ s₀ s) : Kept ⟨wd, wr, wu⟩ s₀ (State.eraseOver s b) := by
  unfold State.eraseOver
  with_reducible repeat' first
    | intro _ | assumption | apply State.gcResult_kept
    | fail_if_no_progress (apply Kept.lit; rotate_left; with_unfolding_all rfl; with_unfolding_all rfl) | split

theorem State.journalBlock_kept (s : State) (b kind fa fb : Nat) (hk : Kept ⟨wd, wr, wu⟩ s₀ s) :
    Kept ⟨wd, wr, wu⟩ s₀ (State.journalBlock s b kind fa fb) := by
  unfold State.journalBlock
  with_reducible repeat' first
    | (intro x; refine Kept.gen (w := ⟨wd, wr, wu⟩) (s₀ := s₀) (x := x) ?_ ?_; rotate_left; clear_value x; rotate_left; subst x) | (intro x; subst x)
    | intro _ | lift_lets | assumption | apply State.addRing_kept | apply Kept.ite
    | fail_if_no_progress (apply Kept.lit; rotate_left; with_unfolding_all rfl; with_unfolding_all rfl)

theorem State.placeErased_kept (s : State) (b : Nat) (hk : Kept ⟨true, wr, wu⟩ s₀ s) : Kept ⟨true, wr, wu⟩ s₀ (State.placeErased s b) := by
  unfold State.placeErased
  with_reducible repeat' first
    | intro _ | assumption | apply State.setBlock_kept | apply State.keepReserve_kept | apply State.settle_kept
    | apply Kept.ite

theorem State.retireBlock_kept (s : State) (b : Nat) (hk : Kept ⟨wd, wr, wu⟩ s₀ s) : Kept ⟨wd, wr, wu⟩ s₀ (State.retireBlock s b) := by
  unfold State.retireBlock
  with_reducible repeat' first
    | intro _ | assumption | apply State.setBlock_kept | apply State.count_kept | apply State.record_kept | apply Kept.ite

theorem State.scorch_kept (s : State) (lun : Nat) (t : Int) (hk : Kept ⟨wd, wr, wu⟩ s₀ s) : Kept ⟨wd, wr, wu⟩ s₀ (State.scorch s lun t) := by
  unfold State.scorch
  with_reducible repeat' first
    | (intro x; refine Kept.gen (w := ⟨wd, wr, wu⟩) (s₀ := s₀) (x := x) ?_ ?_; rotate_left; clear_value x; rotate_left; subst x) | (intro x; subst x)
    | intro _ | lift_lets | assumption | apply State.put_kept | apply State.record_kept | apply Kept.ite
    | fail_if_no_progress (apply Kept.lit; rotate_left; with_unfolding_all rfl; with_unfolding_all rfl)

theorem State.issueAll_kept (s : State) (hk : Kept ⟨wd, wr, wu⟩ s₀ s) : Kept ⟨wd, wr, wu⟩ s₀ (State.issueAll s) := by
  unfold State.issueAll
  with_reducible repeat' first
    | intro _ | assumption | apply State.issueQueued_kept | apply Kept.each

/-! ## Machine/Dmc.lean -/

theorem State.commandError_kept (s : State) (c lrank : Nat) (lost : List Nat) (hk : Kept ⟨true, wr, wu⟩ s₀ s) :
    Kept ⟨true, wr, wu⟩ s₀ (State.commandError s c lrank lost) := by
  unfold State.commandError
  with_reducible repeat' first
    | (intro x; refine Kept.gen (w := ⟨true, wr, wu⟩) (s₀ := s₀) (x := x) ?_ ?_; rotate_left; clear_value x; rotate_left; subst x) | (intro x; subst x)
    | intro _ | lift_lets | assumption | apply State.tick_kept | apply State.locate_kept | apply State.record_kept
    | apply State.dmcFault_kept | apply State.spoilLine_kept | apply State.endFault_kept | apply State.retireRank_kept
    | apply Kept.ite | apply Kept.each

theorem State.lateError_kept (s : State) (line : Nat) (hk : Kept ⟨true, wr, wu⟩ s₀ s) : Kept ⟨true, wr, wu⟩ s₀ (State.lateError s line) := by
  unfold State.lateError
  with_reducible repeat' first
    | intro _ | assumption | apply State.ueSeen_kept | apply State.endFault_kept | apply State.ueRetire_kept | apply Kept.ite

theorem State.refilled_kept (s : State) (c : Nat) (feeds : List (Fin 32 × Fin 9)) (hk : Kept ⟨wd, wr, wu⟩ s₀ s) :
    Kept ⟨wd, wr, wu⟩ s₀ (State.refilled s c feeds) := by
  unfold State.refilled
  with_reducible repeat' first
    | intro _ | assumption | apply State.setFeed_kept | apply Kept.ite | apply Kept.each

theorem State.throttle_kept (s : State) (c id rank bank : Nat) (hk : Kept ⟨wd, wr, wu⟩ s₀ s) : Kept ⟨wd, wr, wu⟩ s₀ (State.throttle s c id rank bank) := by
  unfold State.throttle
  with_reducible repeat' first
    | (intro x; refine Kept.gen (w := ⟨wd, wr, wu⟩) (s₀ := s₀) (x := x) ?_ ?_; rotate_left; clear_value x; rotate_left; subst x) | (intro x; subst x)
    | intro _ | lift_lets | assumption | apply State.put_kept | apply State.count_kept | apply State.record_kept | apply Kept.ite
    | fail_if_no_progress (apply Kept.lit; rotate_left; with_unfolding_all rfl; with_unfolding_all rfl)

theorem State.countFallen_kept (s : State) (c id : Nat) (hk : Kept ⟨wd, wr, wu⟩ s₀ s) : Kept ⟨wd, wr, wu⟩ s₀ (State.countFallen s c id) := by
  unfold State.countFallen
  with_reducible repeat' first
    | (intro x; refine Kept.gen (w := ⟨wd, wr, wu⟩) (s₀ := s₀) (x := x) ?_ ?_; rotate_left; clear_value x; rotate_left; subst x) | (intro x; subst x)
    | intro _ | lift_lets | assumption | apply State.tick_kept | apply Kept.ite
    | fail_if_no_progress (apply Kept.lit; rotate_left; with_unfolding_all rfl; with_unfolding_all rfl) | split

theorem State.spareError_kept (s : State) (c o : Nat) (hk : Kept ⟨true, wr, wu⟩ s₀ s) : Kept ⟨true, wr, wu⟩ s₀ (State.spareError s c o) := by
  unfold State.spareError
  with_reducible repeat' first
    | (intro x; refine Kept.gen (w := ⟨true, wr, wu⟩) (s₀ := s₀) (x := x) ?_ ?_; rotate_left; clear_value x; rotate_left; subst x) | (intro x; subst x)
    | intro _ | lift_lets | assumption | apply State.locate_kept | apply State.record_kept | apply State.dmcFault_kept
    | apply State.endFault_kept | apply Kept.ite

theorem State.accessSpare_kept (s : State) (c o : Nat) (hk : Kept ⟨wd, wr, wu⟩ s₀ s) : Kept ⟨wd, wr, wu⟩ s₀ (State.accessSpare s c o) := by
  unfold State.accessSpare
  with_reducible repeat' first
    | (intro x; refine Kept.gen (w := ⟨wd, wr, wu⟩) (s₀ := s₀) (x := x) ?_ ?_; rotate_left; clear_value x; rotate_left; subst x) | (intro x; subst x)
    | intro _ | lift_lets | assumption | apply State.arriveAll_kept | apply Kept.ite

/-! ## Machine/Trn.lean -/

theorem State.trnReject_kept (s : State) (hk : Kept ⟨wd, wr, wu⟩ s₀ s) : Kept ⟨wd, wr, wu⟩ s₀ (State.trnReject s) := by
  unfold State.trnReject
  with_reducible repeat' first
    | assumption | apply State.put_kept

theorem State.trnStart_kept (s : State) (c : Nat) (hk : Kept ⟨wd, wr, wu⟩ s₀ s) : Kept ⟨wd, wr, wu⟩ s₀ (State.trnStart s c) := by
  unfold State.trnStart
  with_reducible repeat' first
    | (intro x; refine Kept.gen (w := ⟨wd, wr, wu⟩) (s₀ := s₀) (x := x) ?_ ?_; rotate_left; clear_value x; rotate_left; subst x) | (intro x; subst x)
    | intro _ | lift_lets | assumption | apply State.trnReject_kept | apply State.putAll_kept | apply Kept.ite
    | fail_if_no_progress (apply Kept.lit; rotate_left; with_unfolding_all rfl; with_unfolding_all rfl)

theorem State.nextStep_kept (s : State) (c : Nat) (hk : Kept ⟨wd, wr, wu⟩ s₀ s) : Kept ⟨wd, wr, wu⟩ s₀ (State.nextStep s c) := by
  unfold State.nextStep
  with_reducible repeat' first
    | (intro x; refine Kept.gen (w := ⟨wd, wr, wu⟩) (s₀ := s₀) (x := x) ?_ ?_; rotate_left; clear_value x; rotate_left; subst x) | (intro x; subst x)
    | intro _ | lift_lets | assumption | apply State.put_kept | apply State.putAll_kept | apply Kept.ite | split

theorem State.sliceActivates_kept (s : State) (n : Nat) (hk : Kept ⟨wd, wr, wu⟩ s₀ s) : Kept ⟨wd, wr, wu⟩ s₀ (State.sliceActivates s n) := by
  unfold State.sliceActivates
  with_reducible repeat' first
    | (intro x; refine Kept.gen (w := ⟨wd, wr, wu⟩) (s₀ := s₀) (x := x) ?_ ?_; rotate_left; clear_value x; rotate_left; subst x) | (intro x; subst x)
    | intro _ | lift_lets | assumption | apply State.tick_kept | apply State.count_kept | apply Kept.ite | apply Kept.each
    | fail_if_no_progress (apply Kept.lit; rotate_left; with_unfolding_all rfl; with_unfolding_all rfl)

theorem State.trnCommit_kept (s : State) (verified : Bool) (hk : Kept ⟨wd, wr, wu⟩ s₀ s) : Kept ⟨wd, wr, wu⟩ s₀ (State.trnCommit s verified) := by
  unfold State.trnCommit
  with_reducible repeat' first
    | (intro x; refine Kept.gen (w := ⟨wd, wr, wu⟩) (s₀ := s₀) (x := x) ?_ ?_; rotate_left; clear_value x; rotate_left; subst x) | (intro x; subst x)
    | intro _ | lift_lets | assumption | apply State.putAll_kept | apply State.endSession_kept | apply State.setReady_kept
    | apply State.record_kept | apply Kept.ite
    | fail_if_no_progress (apply Kept.lit; rotate_left; with_unfolding_all rfl; with_unfolding_all rfl)

theorem State.dropSet_kept (s : State) (k : Nat) (hk : Kept ⟨wd, wr, wu⟩ s₀ s) : Kept ⟨wd, wr, wu⟩ s₀ (State.dropSet s k) := by
  unfold State.dropSet
  with_reducible repeat' first
    | (intro x; refine Kept.gen (w := ⟨wd, wr, wu⟩) (s₀ := s₀) (x := x) ?_ ?_; rotate_left; clear_value x; rotate_left; subst x) | (intro x; subst x)
    | intro _ | lift_lets | assumption | apply State.showSets_kept | apply State.put_kept | apply Kept.ite
    | fail_if_no_progress (apply Kept.lit; rotate_left; with_unfolding_all rfl; with_unfolding_all rfl)

theorem State.setRoom_kept (s : State) (bin : Nat) (hk : Kept ⟨wd, wr, wu⟩ s₀ s) : Kept ⟨wd, wr, wu⟩ s₀ (State.setRoom s bin) := by
  unfold State.setRoom
  with_reducible repeat' first
    | intro _ | assumption | apply State.dropSet_kept | apply Kept.ite | split

theorem State.writeSet_kept (s : State) (bin signature : Nat) (entries : List DelayEntry) (origin : Option (Port × BitVec 32)) (hk : Kept ⟨wd, wr, wu⟩ s₀ s) :
    Kept ⟨wd, wr, wu⟩ s₀ (State.writeSet s bin signature entries origin) := by
  unfold State.writeSet
  with_reducible repeat' first
    | (intro x; refine Kept.gen (w := ⟨wd, wr, wu⟩) (s₀ := s₀) (x := x) ?_ ?_; rotate_left; clear_value x; rotate_left; subst x) | (intro x; subst x)
    | intro _ | lift_lets | assumption | apply State.setRoom_kept | apply State.record_kept | apply Kept.ite | apply Kept.fold
    | fail_if_no_progress (apply Kept.lit; rotate_left; with_unfolding_all rfl; with_unfolding_all rfl) | split

theorem State.setWritten_kept (s : State) (k : Nat) (d : DelaySet) (hk : Kept ⟨wd, wr, wu⟩ s₀ s) : Kept ⟨wd, wr, wu⟩ s₀ (State.setWritten s k d) := by
  unfold State.setWritten
  with_reducible repeat' first
    | (intro x; refine Kept.gen (w := ⟨wd, wr, wu⟩) (s₀ := s₀) (x := x) ?_ ?_; rotate_left; clear_value x; rotate_left; subst x) | (intro x; subst x)
    | intro _ | lift_lets | assumption | apply State.setRoom_kept | apply State.dropSet_kept | apply State.showSets_kept
    | apply State.put_kept | apply State.noteUse_kept | apply State.record_kept | apply Kept.ite | apply Kept.each
    | fail_if_no_progress (apply Kept.lit; rotate_left; with_unfolding_all rfl; with_unfolding_all rfl)

theorem State.trnStore_kept (s : State) (hk : Kept ⟨wd, wr, wu⟩ s₀ s) : Kept ⟨wd, wr, wu⟩ s₀ (State.trnStore s) := by
  unfold State.trnStore
  with_reducible repeat' first
    | intro _ | assumption | apply State.trnReject_kept | apply State.writeSet_kept | apply Kept.ite

theorem State.nextBin_kept (s : State) (bin : Nat) (hk : Kept ⟨wd, wr, wu⟩ s₀ s) : Kept ⟨wd, wr, wu⟩ s₀ (State.nextBin s bin) := by
  unfold State.nextBin
  with_reducible repeat' first
    | (intro x; refine Kept.gen (w := ⟨wd, wr, wu⟩) (s₀ := s₀) (x := x) ?_ ?_; rotate_left; clear_value x; rotate_left; subst x) | (intro x; subst x)
    | intro _ | lift_lets | assumption | apply State.trnReject_kept | apply State.put_kept | apply Kept.ite
    | fail_if_no_progress (apply Kept.lit; rotate_left; with_unfolding_all rfl; with_unfolding_all rfl)

/-! ## Machine/Adc.lean -/

theorem State.setConv_kept (s : State) (b : Bool) (x : Converter) (hk : Kept ⟨wd, wr, wu⟩ s₀ s) : Kept ⟨wd, wr, wu⟩ s₀ (State.setConv s b x) := by
  unfold State.setConv
  with_reducible repeat' first
    | assumption | apply Kept.ite
    | fail_if_no_progress (apply Kept.lit; rotate_left; with_unfolding_all rfl; with_unfolding_all rfl)

theorem State.takeAdcShadows_kept (s : State) (hk : Kept ⟨wd, wr, wu⟩ s₀ s) : Kept ⟨wd, wr, wu⟩ s₀ (State.takeAdcShadows s) := by
  unfold State.takeAdcShadows
  with_reducible repeat' first
    | (intro x; refine Kept.gen (w := ⟨wd, wr, wu⟩) (s₀ := s₀) (x := x) ?_ ?_; rotate_left; clear_value x; rotate_left; subst x) | (intro x; subst x)
    | intro _ | lift_lets | assumption | apply State.takeShadow_kept | apply Kept.each | apply Kept.fold

theorem State.cycleEnd_kept (s : State) (hk : Kept ⟨wd, wr, wu⟩ s₀ s) : Kept ⟨wd, wr, wu⟩ s₀ (State.cycleEnd s) := by
  unfold State.cycleEnd
  with_reducible repeat' first
    | (intro x; refine Kept.gen (w := ⟨wd, wr, wu⟩) (s₀ := s₀) (x := x) ?_ ?_; rotate_left; clear_value x; rotate_left; subst x) | (intro x; subst x)
    | intro _ | lift_lets | assumption | apply State.takeAdcShadows_kept | apply Kept.ite
    | fail_if_no_progress (apply Kept.lit; rotate_left; with_unfolding_all rfl; with_unfolding_all rfl)

theorem State.slotDone_kept (s : State) (b : Bool) (n : Nat) (hk : Kept ⟨wd, wr, wu⟩ s₀ s) : Kept ⟨wd, wr, wu⟩ s₀ (State.slotDone s b n) := by
  unfold State.slotDone
  with_reducible repeat' first
    | (intro x; refine Kept.gen (w := ⟨wd, wr, wu⟩) (s₀ := s₀) (x := x) ?_ ?_; rotate_left; clear_value x; rotate_left; subst x) | (intro x; subst x)
    | intro _ | lift_lets | assumption | apply State.setConv_kept | apply State.cycleEnd_kept | apply Kept.ite
    | fail_if_no_progress (apply Kept.lit; rotate_left; with_unfolding_all rfl; with_unfolding_all rfl)
    | fail_if_no_progress beta_reduce

theorem State.putResult_kept (s : State) (base : Nat) (w : Nat) (hk : Kept ⟨wd, wr, wu⟩ s₀ s) : Kept ⟨wd, wr, wu⟩ s₀ (State.putResult s base w) := by
  unfold State.putResult
  with_reducible repeat' first
    | assumption | apply State.putAll_kept

theorem State.queueResult_kept (s : State) (w : Nat) (hk : Kept ⟨wd, wr, wu⟩ s₀ s) : Kept ⟨wd, wr, wu⟩ s₀ (State.queueResult s w) := by
  unfold State.queueResult
  with_reducible repeat' first
    | assumption | apply State.count_kept | apply State.record_kept | apply Kept.ite
    | fail_if_no_progress (apply Kept.lit; rotate_left; with_unfolding_all rfl; with_unfolding_all rfl)

theorem State.overRange_kept (s : State) (input code : Nat) (ovr : Bool) (hk : Kept ⟨wd, wr, wu⟩ s₀ s) :
    Kept ⟨wd, wr, wu⟩ s₀ (State.overRange s input code ovr) := by
  unfold State.overRange
  with_reducible repeat' first
    | assumption | apply State.count_kept | apply State.record_kept | apply Kept.ite

theorem State.recovery_kept (s : State) (b ovr ab : Bool) (hk : Kept ⟨wd, wr, wu⟩ s₀ s) : Kept ⟨wd, wr, wu⟩ s₀ (State.recovery s b ovr ab) := by
  unfold State.recovery
  with_reducible repeat' first
    | (intro x; refine Kept.gen (w := ⟨wd, wr, wu⟩) (s₀ := s₀) (x := x) ?_ ?_; rotate_left; clear_value x; rotate_left; subst x) | (intro x; subst x)
    | intro _ | lift_lets | assumption | apply State.setConv_kept | apply Kept.ite
    | fail_if_no_progress (apply Kept.lit; rotate_left; with_unfolding_all rfl; with_unfolding_all rfl)
    | fail_if_no_progress beta_reduce

theorem State.railGap_kept (s : State) (n : Nat) (hk : Kept ⟨wd, wr, wu⟩ s₀ s) : Kept ⟨wd, wr, wu⟩ s₀ (State.railGap s n) := by
  unfold State.railGap
  with_reducible repeat' first
    | (intro x; refine Kept.gen (w := ⟨wd, wr, wu⟩) (s₀ := s₀) (x := x) ?_ ?_; rotate_left; clear_value x; rotate_left; subst x) | (intro x; subst x)
    | intro _ | lift_lets | assumption | apply State.tick_kept | apply State.raise_kept | apply State.record_kept | apply Kept.ite

theorem State.useResult_kept (s : State) (n mv : Nat) (ovr recov : Bool) (hk : Kept ⟨true, wr, wu⟩ s₀ s) :
    Kept ⟨true, wr, wu⟩ s₀ (State.useResult s n mv ovr recov) := by
  unfold State.useResult
  with_reducible repeat' first
    | intro _ | assumption | apply State.railGap_kept | apply State.railSample_kept | apply State.put_kept | apply Kept.ite
    | fail_if_no_progress (apply Kept.lit; rotate_left; with_unfolding_all rfl; with_unfolding_all rfl)

theorem State.urgentWrite_kept (s : State) (v : Nat) (hk : Kept ⟨wd, wr, wu⟩ s₀ s) : Kept ⟨wd, wr, wu⟩ s₀ (State.urgentWrite s v) := by
  unfold State.urgentWrite
  with_reducible repeat' first
    | (intro x; refine Kept.gen (w := ⟨wd, wr, wu⟩) (s₀ := s₀) (x := x) ?_ ?_; rotate_left; clear_value x; rotate_left; subst x) | (intro x; subst x)
    | intro _ | lift_lets | assumption | apply State.count_kept | apply State.setConv_kept | apply Kept.ite
    | fail_if_no_progress (apply Kept.lit; rotate_left; with_unfolding_all rfl; with_unfolding_all rfl)

theorem State.answerRead_kept (s : State) (r : Req) (off size : Nat) (hk : Kept ⟨wd, wr, wu⟩ s₀ s) :
    Kept ⟨wd, wr, wu⟩ s₀ (State.answerRead s r off size) := by
  exact State.emit_kept _ _ (State.busRead_kept s r off size hk)

/-! ## Machine/Kst.lean -/

theorem State.takeField_kept (s : State) (f : Fld) (v : Nat) (hk : Kept ⟨wd, wr, wu⟩ s₀ s) : Kept ⟨wd, wr, wu⟩ s₀ (State.takeField s f v) := by
  unfold State.takeField
  with_reducible repeat' first
    | (intro x; refine Kept.gen (w := ⟨wd, wr, wu⟩) (s₀ := s₀) (x := x) ?_ ?_; rotate_left; clear_value x; rotate_left; subst x) | (intro x; subst x)
    | intro _ | lift_lets | assumption | apply State.idle_answers | apply State.put_kept | apply State.locked_kept
    | apply Kept.ite | fail_if_no_progress (apply Kept.lit; rotate_left; with_unfolding_all rfl; with_unfolding_all rfl)
    | split

theorem State.refigured_kept (s : State) (hk : Kept ⟨true, wr, wu⟩ s₀ s) : Kept ⟨true, wr, wu⟩ s₀ (State.refigured s) := by
  unfold State.refigured
  with_reducible repeat' first
    | intro _ | assumption | apply State.showWear_kept | apply State.recompute_kept | apply State.settle_kept | apply Kept.ite
    | fail_if_no_progress (apply Kept.lit; rotate_left; with_unfolding_all rfl; with_unfolding_all rfl)

theorem State.configured_kept (s : State) (oldPolicy : Nat) (hk : Kept ⟨true, wr, wu⟩ s₀ s) :
    Kept ⟨true, wr, wu⟩ s₀ (State.configured s oldPolicy) := by
  unfold State.configured
  with_reducible repeat' first
    | (intro x; refine Kept.gen (w := ⟨true, wr, wu⟩) (s₀ := s₀) (x := x) ?_ ?_; rotate_left; clear_value x; rotate_left; subst x) | (intro x; subst x)
    | intro _ | lift_lets | assumption | apply State.refigured_kept | apply State.releaseHeld_kept | apply Kept.ite

theorem State.chargeWritten_kept (s : State) (hk : Kept ⟨wd, wr, wu⟩ s₀ s) : Kept ⟨wd, wr, wu⟩ s₀ (State.chargeWritten s) := by
  unfold State.chargeWritten
  with_reducible repeat' first
    | (intro x; refine Kept.gen (w := ⟨wd, wr, wu⟩) (s₀ := s₀) (x := x) ?_ ?_; rotate_left; clear_value x; rotate_left; subst x) | (intro x; subst x)
    | intro _ | lift_lets | assumption | apply State.putAll_kept | apply State.stepCharger_kept | apply Kept.ite

theorem State.takeFields_kept (s : State) (l : List (Fld × Nat)) (wait : Option Nat) (hk : Kept ⟨true, wr, wu⟩ s₀ s) :
    Kept ⟨true, wr, wu⟩ s₀ (State.takeFields s l wait) := by
  unfold State.takeFields
  with_reducible repeat' first
    | (intro x; refine Kept.gen (w := ⟨true, wr, wu⟩) (s₀ := s₀) (x := x) ?_ ?_; rotate_left; clear_value x; rotate_left; subst x) | (intro x; subst x)
    | intro _ | lift_lets | assumption | apply State.takeField_kept | apply State.chargeWritten_kept
    | apply State.configured_kept | apply Kept.ite | apply Kept.each
    | fail_if_no_progress (apply Kept.lit; rotate_left; with_unfolding_all rfl; with_unfolding_all rfl) | split

theorem State.baseDone_kept (s : State) (hk : Kept ⟨wd, wr, wu⟩ s₀ s) : Kept ⟨wd, wr, wu⟩ s₀ (State.baseDone s) := by
  unfold State.baseDone
  with_reducible repeat' first
    | (intro x; refine Kept.gen (w := ⟨wd, wr, wu⟩) (s₀ := s₀) (x := x) ?_ ?_; rotate_left; clear_value x; rotate_left; subst x) | (intro x; subst x)
    | intro _ | lift_lets | assumption | apply State.place_kept | apply Kept.each
    | fail_if_no_progress (apply Kept.lit; rotate_left; with_unfolding_all rfl; with_unfolding_all rfl)

theorem State.setRoute_kept (s : State) (source vector mask : Nat) (hk : Kept ⟨wd, wr, wu⟩ s₀ s) :
    Kept ⟨wd, wr, wu⟩ s₀ (State.setRoute s source vector mask) := by
  unfold State.setRoute
  with_reducible repeat' first
    | (intro x; refine Kept.gen (w := ⟨wd, wr, wu⟩) (s₀ := s₀) (x := x) ?_ ?_; rotate_left; clear_value x; rotate_left; subst x) | (intro x; subst x)
    | intro _ | lift_lets | assumption | apply Kept.ite
    | fail_if_no_progress (apply Kept.lit; rotate_left; with_unfolding_all rfl; with_unfolding_all rfl)

theorem State.setLdConfig_kept (s : State) (ld : Nat) (bound sanitize : Bool) (head stat dcMax : Nat) (bifur : Option Nat) (hk : Kept ⟨wd, wr, wu⟩ s₀ s) :
    Kept ⟨wd, wr, wu⟩ s₀ (State.setLdConfig s ld bound sanitize head stat dcMax bifur) := by
  unfold State.setLdConfig
  with_reducible repeat' first
    | (intro x; refine Kept.gen (w := ⟨wd, wr, wu⟩) (s₀ := s₀) (x := x) ?_ ?_; rotate_left; clear_value x; rotate_left; subst x) | (intro x; subst x)
    | intro _ | lift_lets | assumption | apply State.takeField_kept | apply Kept.ite
    | fail_if_no_progress (apply Kept.lit; rotate_left; with_unfolding_all rfl; with_unfolding_all rfl) | split

theorem State.setPassword_kept (s : State) (g : Nat) (digest : Option Bytes) (hk : Kept ⟨wd, wr, wu⟩ s₀ s) :
    Kept ⟨wd, wr, wu⟩ s₀ (State.setPassword s g digest) := by
  unfold State.setPassword
  with_reducible repeat' first
    | (intro x; refine Kept.gen (w := ⟨wd, wr, wu⟩) (s₀ := s₀) (x := x) ?_ ?_; rotate_left; clear_value x; rotate_left; subst x) | (intro x; subst x)
    | intro _ | lift_lets | assumption
    | fail_if_no_progress (apply Kept.lit; rotate_left; with_unfolding_all rfl; with_unfolding_all rfl) | split

theorem State.bootCommitted_kept (s : State) (n : Nat) (hk : Kept ⟨wd, wr, wu⟩ s₀ s) : Kept ⟨wd, wr, wu⟩ s₀ (State.bootCommitted s n) := by
  unfold State.bootCommitted
  with_reducible repeat' first
    | (intro x; refine Kept.gen (w := ⟨wd, wr, wu⟩) (s₀ := s₀) (x := x) ?_ ?_; rotate_left; clear_value x; rotate_left; subst x) | (intro x; subst x)
    | intro _ | lift_lets | assumption | apply State.putAll_kept | apply State.put_kept | apply State.record_kept
    | apply Kept.ite | fail_if_no_progress (apply Kept.lit; rotate_left; with_unfolding_all rfl; with_unfolding_all rfl)

theorem State.regionsWritten_kept (s : State) (after : RegionEnd) (hk : Kept ⟨wd, wr, wu⟩ s₀ s) :
    Kept ⟨wd, wr, wu⟩ s₀ (State.regionsWritten s after) := by
  unfold State.regionsWritten
  with_reducible repeat' first
    | intro _ | assumption | apply State.dcMapped_kept | apply State.dcReleased_kept | apply State.emit_kept
    | apply State.dcOffered_kept | apply State.completeCode_kept | apply State.record_kept | apply Kept.ite | apply Kept.each
    | split

theorem State.regionsFailed_kept (s : State) (after : RegionEnd) (hk : Kept ⟨wd, wr, wu⟩ s₀ s) :
    Kept ⟨wd, wr, wu⟩ s₀ (State.regionsFailed s after) := by
  unfold State.regionsFailed
  with_reducible repeat' first
    | (intro x; refine Kept.gen (w := ⟨wd, wr, wu⟩) (s₀ := s₀) (x := x) ?_ ?_; rotate_left; clear_value x; rotate_left; subst x) | (intro x; subst x)
    | intro _ | lift_lets | assumption | apply State.dcReleased_kept | apply State.emit_kept | apply State.dcMapped_kept
    | apply State.withdraw_kept | apply State.dropOp_kept | apply State.completeFor_kept | apply State.dcOffered_kept
    | apply Kept.ite | apply Kept.each | split

theorem State.slotMarked_kept (s : State) (n : Nat) (hk : Kept ⟨wd, wr, wu⟩ s₀ s) : Kept ⟨wd, wr, wu⟩ s₀ (State.slotMarked s n) := by
  unfold State.slotMarked
  with_reducible repeat' first
    | (intro x; refine Kept.gen (w := ⟨wd, wr, wu⟩) (s₀ := s₀) (x := x) ?_ ?_; rotate_left; clear_value x; rotate_left; subst x) | (intro x; subst x)
    | intro _ | lift_lets | assumption | apply State.putAll_kept | apply State.endUpdate_kept | apply State.done_kept
    | apply State.put_kept | apply Kept.ite

theorem State.applyUpdate_kept (s : State) (u : RecUpdate) (hk : Kept ⟨true, wr, wu⟩ s₀ s) : Kept ⟨true, wr, wu⟩ s₀ (State.applyUpdate s u) := by
  unfold State.applyUpdate
  with_reducible repeat' first
    | intro _ | assumption | apply State.takeFields_kept | apply State.setRoute_kept | apply State.baseDone_kept
    | apply State.setLdConfig_kept | apply State.takeField_kept | apply State.record_kept | apply State.emit_kept
    | apply State.setPassword_kept | apply State.startRetirement_kept | apply State.regionsWritten_kept
    | apply State.bootCommitted_kept | apply State.setWritten_kept | apply State.slotMarked_kept | apply Kept.ite
    | apply Kept.fold | fail_if_no_progress (apply Kept.lit; rotate_left; with_unfolding_all rfl; with_unfolding_all rfl)
    | split

theorem State.failUpdate_kept (s : State) (u : RecUpdate) (hk : Kept ⟨wd, wr, wu⟩ s₀ s) : Kept ⟨wd, wr, wu⟩ s₀ (State.failUpdate s u) := by
  unfold State.failUpdate
  with_reducible repeat' first
    | intro _ | assumption | apply State.emit_kept | apply State.regionsFailed_kept | apply State.endUpdate_kept
    | apply State.put_kept | apply Kept.ite | split

theorem State.endWrite_kept (s : State) (w : RecWrite) (rest : List RecWrite) (status : Status) (hk : Kept ⟨wd, wr, wu⟩ s₀ s) :
    Kept ⟨wd, wr, wu⟩ s₀ (State.endWrite s w rest status) := by
  unfold State.endWrite
  with_reducible repeat' first
    | assumption | apply State.record_kept | apply State.completeFor_kept
    | fail_if_no_progress (apply Kept.lit; rotate_left; with_unfolding_all rfl; with_unfolding_all rfl)

theorem State.beginErase_kept (s : State) (e : KstErase) (hk : Kept ⟨wd, wr, wu⟩ s₀ s) : Kept ⟨wd, wr, wu⟩ s₀ (State.beginErase s e) := by
  unfold State.beginErase
  with_reducible repeat' first
    | (intro x; refine Kept.gen (w := ⟨wd, wr, wu⟩) (s₀ := s₀) (x := x) ?_ ?_; rotate_left; clear_value x; rotate_left; subst x) | (intro x; subst x)
    | intro _ | lift_lets | assumption | apply State.journalErase_kept | apply Kept.ite
    | fail_if_no_progress (apply Kept.lit; rotate_left; with_unfolding_all rfl; with_unfolding_all rfl)

theorem State.beginErases_kept (s : State) (hk : Kept ⟨wd, wr, wu⟩ s₀ s) : Kept ⟨wd, wr, wu⟩ s₀ (State.beginErases s) := by
  unfold State.beginErases
  with_reducible repeat' first
    | intro _ | assumption | apply State.beginErase_kept | apply Kept.ite | apply Kept.each

theorem State.startErase_kept (s : State) (sector : Nat) (origin : Option (Port × BitVec 32)) (hk : Kept ⟨wd, wr, wu⟩ s₀ s) :
    Kept ⟨wd, wr, wu⟩ s₀ (State.startErase s sector origin) := by
  unfold State.startErase
  with_reducible repeat' first
    | intro _ | assumption | apply State.beginErases_kept | apply Kept.ite
    | fail_if_no_progress (apply Kept.lit; rotate_left; with_unfolding_all rfl; with_unfolding_all rfl)

theorem State.withoutErase_kept (s : State) (sector : Nat) (hk : Kept ⟨wd, wr, wu⟩ s₀ s) : Kept ⟨wd, wr, wu⟩ s₀ (State.withoutErase s sector) := by
  unfold State.withoutErase
  with_reducible repeat' first
    | intro _ | assumption | fail_if_no_progress (apply Kept.lit; rotate_left; with_unfolding_all rfl; with_unfolding_all rfl)

theorem State.endErase_kept (s : State) (e : KstErase) (hk : Kept ⟨wd, wr, wu⟩ s₀ s) : Kept ⟨wd, wr, wu⟩ s₀ (State.endErase s e) := by
  unfold State.endErase
  with_reducible repeat' first
    | intro _ | assumption | apply State.endFault_kept | apply Kept.ite

/-! ## Machine/Twi.lean -/

theorem State.setRx_kept (s : State) (p : Nat) (b : Bytes) (hk : Kept ⟨wd, wr, wu⟩ s₀ s) : Kept ⟨wd, wr, wu⟩ s₀ (State.setRx s p b) := by
  unfold State.setRx
  with_reducible repeat' first
    | assumption | fail_if_no_progress (apply Kept.lit; rotate_left; with_unfolding_all rfl; with_unfolding_all rfl)

theorem State.setTx_kept (s : State) (p : Nat) (b : Bytes) (hk : Kept ⟨wd, wr, wu⟩ s₀ s) : Kept ⟨wd, wr, wu⟩ s₀ (State.setTx s p b) := by
  unfold State.setTx
  with_reducible repeat' first
    | assumption | fail_if_no_progress (apply Kept.lit; rotate_left; with_unfolding_all rfl; with_unfolding_all rfl)

theorem State.txWrite_kept (s : State) (p : Nat) (b : Byte) (hk : Kept ⟨wd, wr, wu⟩ s₀ s) : Kept ⟨wd, wr, wu⟩ s₀ (State.txWrite s p b) := by
  unfold State.txWrite
  with_reducible repeat' first
    | assumption | apply State.setTx_kept | apply Kept.ite

theorem State.xferWrite_kept (s : State) (p : Fin 3) (v : Nat) (hk : Kept ⟨wd, wr, wu⟩ s₀ s) : Kept ⟨wd, wr, wu⟩ s₀ (State.xferWrite s p v) := by
  unfold State.xferWrite
  with_reducible repeat' first
    | (intro x; refine Kept.gen (w := ⟨wd, wr, wu⟩) (s₀ := s₀) (x := x) ?_ ?_; rotate_left; clear_value x; rotate_left; subst x) | (intro x; subst x)
    | intro _ | lift_lets | assumption | apply State.put_kept | apply State.putAll_kept | apply State.setTx_kept
    | apply State.emit_kept | apply Kept.ite

theorem State.xferEnd_kept (s : State) (p result : Nat) (hk : Kept ⟨wd, wr, wu⟩ s₀ s) : Kept ⟨wd, wr, wu⟩ s₀ (State.xferEnd s p result) := by
  unfold State.xferEnd
  with_reducible repeat' first
    | assumption | apply State.putAll_kept

/-! ## Machine/RegAccess.lean -/

theorem State.moveCursor_kept (s : State) (r : Req) (area seq : Nat) (hk : Kept ⟨wd, wr, wu⟩ s₀ s) :
    Kept ⟨wd, wr, wu⟩ s₀ (State.moveCursor s r area seq) := by
  unfold State.moveCursor
  with_reducible repeat' first
    | (intro x; refine Kept.gen (w := ⟨wd, wr, wu⟩) (s₀ := s₀) (x := x) ?_ ?_; rotate_left; clear_value x; rotate_left; subst x) | (intro x; subst x)
    | intro _ | lift_lets | assumption | apply State.recorderInterrupt_kept | apply State.dropCapture_kept
    | fail_if_no_progress (apply Kept.lit; rotate_left; with_unfolding_all rfl; with_unfolding_all rfl)

theorem State.cursorOldest_kept (s : State) (r : Req) (area : Nat) (hk : Kept ⟨wd, wr, wu⟩ s₀ s) : Kept ⟨wd, wr, wu⟩ s₀ (State.cursorOldest s r area) := by
  unfold State.cursorOldest
  with_reducible repeat' first
    | assumption | apply State.moveCursor_kept

theorem State.cursorAdvance_kept (s : State) (r : Req) (hk : Kept ⟨wd, wr, wu⟩ s₀ s) : Kept ⟨wd, wr, wu⟩ s₀ (State.cursorAdvance s r) := by
  unfold State.cursorAdvance
  with_reducible repeat' first
    | (intro x; refine Kept.gen (w := ⟨wd, wr, wu⟩) (s₀ := s₀) (x := x) ?_ ?_; rotate_left; clear_value x; rotate_left; subst x) | (intro x; subst x)
    | intro _ | lift_lets | assumption | apply State.moveCursor_kept | split

theorem State.cursorSeek_kept (s : State) (r : Req) (hk : Kept ⟨wd, wr, wu⟩ s₀ s) : Kept ⟨wd, wr, wu⟩ s₀ (State.cursorSeek s r) := by
  unfold State.cursorSeek
  with_reducible repeat' first
    | (intro x; refine Kept.gen (w := ⟨wd, wr, wu⟩) (s₀ := s₀) (x := x) ?_ ?_; rotate_left; clear_value x; rotate_left; subst x) | (intro x; subst x)
    | intro _ | lift_lets | assumption | apply State.moveCursor_kept

theorem State.cursorArea_kept (s : State) (r : Req) (area : Nat) (hk : Kept ⟨wd, wr, wu⟩ s₀ s) : Kept ⟨wd, wr, wu⟩ s₀ (State.cursorArea s r area) := by
  unfold State.cursorArea
  with_reducible repeat' first
    | assumption | apply State.cursorOldest_kept | apply Kept.ite

theorem State.cursorWrite_kept (s : State) (r : Req) (v : Nat) (hk : Kept ⟨wd, wr, wu⟩ s₀ s) : Kept ⟨wd, wr, wu⟩ s₀ (State.cursorWrite s r v) := by
  unfold State.cursorWrite
  with_reducible repeat' first
    | (intro x; refine Kept.gen (w := ⟨wd, wr, wu⟩) (s₀ := s₀) (x := x) ?_ ?_; rotate_left; clear_value x; rotate_left; subst x) | (intro x; subst x)
    | intro _ | lift_lets | assumption | apply State.cursorOldest_kept | apply State.cursorAdvance_kept
    | apply State.cursorSeek_kept | apply State.recorderInterrupt_kept | apply Kept.ite
    | fail_if_no_progress (apply Kept.lit; rotate_left; with_unfolding_all rfl; with_unfolding_all rfl) | split

theorem State.stageCursor_kept (s : State) (r : Req) (hi : Bool) (v : Nat) (hk : Kept ⟨wd, wr, wu⟩ s₀ s) :
    Kept ⟨wd, wr, wu⟩ s₀ (State.stageCursor s r hi v) := by
  unfold State.stageCursor
  with_reducible repeat' first
    | (intro x; refine Kept.gen (w := ⟨wd, wr, wu⟩) (s₀ := s₀) (x := x) ?_ ?_; rotate_left; clear_value x; rotate_left; subst x) | (intro x; subst x)
    | intro _ | lift_lets | assumption | apply Kept.ite
    | fail_if_no_progress (apply Kept.lit; rotate_left; with_unfolding_all rfl; with_unfolding_all rfl)

theorem State.storeFields_kept (s : State) (rec : Nat) (l : List Fld) (hk : Kept ⟨wd, wr, wu⟩ s₀ s) :
    Kept ⟨wd, wr, wu⟩ s₀ (State.storeFields s rec l) := by
  unfold State.storeFields
  with_reducible repeat' first
    | intro _ | assumption | apply Kept.ite
    | fail_if_no_progress (apply Kept.lit; rotate_left; with_unfolding_all rfl; with_unfolding_all rfl)

theorem State.powerWrite_kept (s : State) (off v : Nat) (fs : List FieldDef) (hk : Kept ⟨wd, wr, wu⟩ s₀ s) :
    Kept ⟨wd, wr, wu⟩ s₀ (State.powerWrite s off v fs) := by
  unfold State.powerWrite
  with_reducible repeat' first
    | (intro x; refine Kept.gen (w := ⟨wd, wr, wu⟩) (s₀ := s₀) (x := x) ?_ ?_; rotate_left; clear_value x; rotate_left; subst x) | (intro x; subst x)
    | intro _ | lift_lets | assumption | apply State.writeFields_kept | apply State.storeFields_kept | apply Kept.ite

theorem State.vmodeWrite_kept (s : State) (v : Nat) (hk : Kept ⟨wd, wr, wu⟩ s₀ s) : Kept ⟨wd, wr, wu⟩ s₀ (State.vmodeWrite s v) := by
  unfold State.vmodeWrite
  with_reducible repeat' first
    | (intro x; refine Kept.gen (w := ⟨wd, wr, wu⟩) (s₀ := s₀) (x := x) ?_ ?_; rotate_left; clear_value x; rotate_left; subst x) | (intro x; subst x)
    | intro _ | lift_lets | assumption | apply State.put_kept | apply State.storeFields_kept | apply State.locked_kept
    | apply Kept.ite

theorem State.eccWrite_kept (s : State) (v : Nat) (hk : Kept ⟨wd, wr, wu⟩ s₀ s) : Kept ⟨wd, wr, wu⟩ s₀ (State.eccWrite s v) := by
  unfold State.eccWrite
  with_reducible repeat' first
    | (intro x; refine Kept.gen (w := ⟨wd, wr, wu⟩) (s₀ := s₀) (x := x) ?_ ?_; rotate_left; clear_value x; rotate_left; subst x) | (intro x; subst x)
    | intro _ | lift_lets | assumption | apply State.put_kept | apply State.storeFields_kept | apply Kept.ite

theorem State.trnControl_kept (s : State) (v : Nat) (hk : Kept ⟨wd, wr, wu⟩ s₀ s) : Kept ⟨wd, wr, wu⟩ s₀ (State.trnControl s v) := by
  unfold State.trnControl
  with_reducible repeat' first
    | assumption | apply State.trnStart_kept | apply State.tick_kept | apply State.trnCommit_kept
    | apply State.abandonSession_kept | apply State.trnStore_kept | split

theorem State.trnConfig_kept (s : State) (v : Nat) (fs : List FieldDef) (hk : Kept ⟨wd, wr, wu⟩ s₀ s) :
    Kept ⟨wd, wr, wu⟩ s₀ (State.trnConfig s v fs) := by
  unfold State.trnConfig
  with_reducible repeat' first
    | (intro x; refine Kept.gen (w := ⟨wd, wr, wu⟩) (s₀ := s₀) (x := x) ?_ ?_; rotate_left; clear_value x; rotate_left; subst x) | (intro x; subst x)
    | intro _ | lift_lets | assumption | apply State.writeField_kept | apply State.nextBin_kept | apply Kept.ite
    | apply Kept.each

theorem State.delayWrite_kept (s : State) (v : Nat) (hk : Kept ⟨wd, wr, wu⟩ s₀ s) : Kept ⟨wd, wr, wu⟩ s₀ (State.delayWrite s v) := by
  unfold State.delayWrite
  with_reducible repeat' first
    | assumption | apply Kept.ite
    | fail_if_no_progress (apply Kept.lit; rotate_left; with_unfolding_all rfl; with_unfolding_all rfl)

theorem State.domainRequest_kept (s : State) (v : Nat) (hk : Kept ⟨wd, wr, wu⟩ s₀ s) : Kept ⟨wd, wr, wu⟩ s₀ (State.domainRequest s v) := by
  unfold State.domainRequest
  with_reducible repeat' first
    | (intro x; refine Kept.gen (w := ⟨wd, wr, wu⟩) (s₀ := s₀) (x := x) ?_ ?_; rotate_left; clear_value x; rotate_left; subst x) | (intro x; subst x)
    | intro _ | lift_lets | assumption | apply State.domainStart_kept | apply State.lowerDomain_kept | apply Kept.ite

theorem State.ctoWrite_kept (s : State) (h v : Nat) (hk : Kept ⟨wd, wr, wu⟩ s₀ s) : Kept ⟨wd, wr, wu⟩ s₀ (State.ctoWrite s h v) := by
  unfold State.ctoWrite
  with_reducible repeat' first
    | (intro x; refine Kept.gen (w := ⟨wd, wr, wu⟩) (s₀ := s₀) (x := x) ?_ ?_; rotate_left; clear_value x; rotate_left; subst x) | (intro x; subst x)
    | intro _ | lift_lets | assumption | apply State.putAll_kept | apply State.record_kept | apply Kept.ite

theorem State.writePorts_kept (s : State) (off v : Nat) (hk : Kept ⟨wd, wr, wu⟩ s₀ s) (t : State) (ht : t ∈ State.writePorts s off v) :
    Kept ⟨wd, wr, wu⟩ s₀ t := by
  unfold State.writePorts at ht
  split at ht
  · exact absurd ht (by simp)
  · split at ht <;> obtain rfl := Option.some.inj ht
    · exact State.xferWrite_kept _ _ _ hk
    · exact State.txWrite_kept _ _ _ hk

theorem State.writeDma_kept (s : State) (off v : Nat) (hk : Kept ⟨wd, wr, wu⟩ s₀ s) (t : State) (ht : t ∈ State.writeDma s off v) :
    Kept ⟨wd, wr, wu⟩ s₀ t := by
  unfold State.writeDma at ht
  split at ht
  · obtain rfl := Option.some.inj ht
    exact State.dmaRequest_kept _ _ hk
  · split at ht
    · obtain rfl := Option.some.inj ht
      exact State.dmaOp_kept _ _ _ hk
    · exact absurd ht (by simp)

theorem State.afterWrite_kept (s : State) (off : Nat) (hk : Kept ⟨true, wr, wu⟩ s₀ s) : Kept ⟨true, wr, wu⟩ s₀ (State.afterWrite s off) := by
  unfold State.afterWrite
  with_reducible repeat' first
    | intro _ | assumption | apply State.chargeWritten_kept | apply State.refigured_kept | apply Kept.ite

theorem State.writeReg_kept (s : State) (r : Req) (off v : Nat) (fs : List FieldDef) (hk : Kept ⟨true, wr, wu⟩ s₀ s) :
    Kept ⟨true, wr, wu⟩ s₀ (State.writeReg s r off v fs) := by
  unfold State.writeReg
  extract_lets f h
  have hp : ∀ t ∈ (if f = true then s.writePorts off v else none), Kept ⟨true, wr, wu⟩ s₀ t := by
    intro t ht; split at ht
    · exact State.writePorts_kept s off v hk t ht
    · exact absurd ht (by simp)
  have hd : ∀ t ∈ (if f = true then s.writeDma off v else none), Kept ⟨true, wr, wu⟩ s₀ t := by
    intro t ht; split at ht
    · exact State.writeDma_kept s off v hk t ht
    · exact absurd ht (by simp)
  generalize (if f = true then s.writePorts off v else none) = o₁ at hp ⊢
  generalize (if f = true then s.writeDma off v else none) = o₂ at hd ⊢
  with_reducible repeat' first
    | assumption | apply State.cursorWrite_kept | apply State.stageCursor_kept | apply State.powerWrite_kept
    | apply State.vmodeWrite_kept | apply State.eccWrite_kept | apply State.trnConfig_kept | apply State.trnControl_kept
    | apply State.delayWrite_kept | apply State.urgentWrite_kept | apply State.gcRequest_kept | apply State.domainRequest_kept
    | apply State.ctoWrite_kept | apply State.writeFields_kept | apply State.afterWrite_kept | apply Kept.ite
    | (split <;> [exact hp _ rfl; exact hd _ rfl; skip])

theorem State.busWrite_kept (s : State) (r : Req) (off size v : Nat) (hk : Kept ⟨true, wr, wu⟩ s₀ s) :
    Kept ⟨true, wr, wu⟩ s₀ (State.busWrite s r off size v) := by
  unfold State.busWrite
  with_reducible repeat' first
    | intro _ | assumption | apply State.accessDenied_kept | apply State.writeReg_kept | apply Kept.ite | split

theorem State.sramWrite_kept (s : State) (a : Nat) (b : Bytes) (hk : Kept ⟨wd, true, wu⟩ s₀ s) : Kept ⟨wd, true, wu⟩ s₀ (State.sramWrite s a b) := by
  unfold State.sramWrite
  exact hk.withRam (fun w => dramWrite_wf w _ _) rfl rfl rfl

theorem State.fabricRead_kept (s : State) (r : Req) (a n : Nat) (hk : Kept ⟨wd, wr, wu⟩ s₀ s) :
    Kept ⟨wd, wr, wu⟩ s₀ (State.fabricRead s r a n).2 := by
  unfold State.fabricRead
  with_reducible repeat' first
    | intro _ | assumption | apply State.busRead_kept | apply State.tick_kept | apply State.accessLines_kept | apply Kept.ite
    | split

theorem State.fabricWrite_kept (s : State) (r : Req) (a n v : Nat) (hk : Kept ⟨true, true, wu⟩ s₀ s) :
    Kept ⟨true, true, wu⟩ s₀ (State.fabricWrite s r a n v) := by
  unfold State.fabricWrite
  with_reducible repeat' first
    | intro _ | assumption | apply State.sramWrite_kept | apply State.busWrite_kept | apply Kept.ite | split

theorem State.takeLine_kept (s : State) (j : DmaJob) (hk : Kept ⟨wd, wr, wu⟩ s₀ s) : Kept ⟨wd, wr, wu⟩ s₀ (State.takeLine s j) := by
  unfold State.takeLine
  with_reducible repeat' first
    | (intro x; refine Kept.gen (w := ⟨wd, wr, wu⟩) (s₀ := s₀) (x := x) ?_ ?_; rotate_left; clear_value x; rotate_left; subst x) | (intro x; subst x)
    | intro _ | lift_lets | assumption | apply Kept.ite
    | fail_if_no_progress (apply Kept.lit; rotate_left; with_unfolding_all rfl; with_unfolding_all rfl)

theorem State.burstRead_kept (n src width : Nat) (fixed : Bool) (k i : Nat) (s : State) (hk : Kept ⟨wd, wr, wu⟩ s₀ s) :
    Kept ⟨wd, wr, wu⟩ s₀ (State.burstRead n src width fixed k i s).2.1 := by
  induction k generalizing i s with
  | zero => exact hk
  | succ k ih =>
    unfold State.burstRead
    extract_lets a
    split
    · exact ih _ _ (State.fabricRead_kept _ _ _ _ hk)
    · exact hk

theorem State.burstWrite_kept (n dst width : Nat) (fixed : Bool) (k i : Nat) (b : Bytes) (s : State) (hk : Kept ⟨true, true, wu⟩ s₀ s) :
    Kept ⟨true, true, wu⟩ s₀ (State.burstWrite n dst width fixed k i b s).2 := by
  induction k generalizing i b s with
  | zero => exact hk
  | succ k ih =>
    unfold State.burstWrite
    extract_lets a s'
    split
    · exact ih _ _ _ (State.fabricWrite_kept _ _ _ _ _ hk)
    · exact hk

theorem State.burstMoved_kept (s : State) (n moved : Nat) (j : DmaJob) (hk : Kept ⟨wd, wr, wu⟩ s₀ s) :
    Kept ⟨wd, wr, wu⟩ s₀ (State.burstMoved s n moved j) := by
  unfold State.burstMoved
  with_reducible repeat' first
    | (intro x; refine Kept.gen (w := ⟨wd, wr, wu⟩) (s₀ := s₀) (x := x) ?_ ?_; rotate_left; clear_value x; rotate_left; subst x) | (intro x; subst x)
    | intro _ | lift_lets | assumption | apply State.putPair_kept | apply State.put_kept | apply Kept.ite

theorem State.pauseForDomains_kept (s : State) (n : Nat) (hk : Kept ⟨wd, wr, wu⟩ s₀ s) : Kept ⟨wd, wr, wu⟩ s₀ (State.pauseForDomains s n) := by
  unfold State.pauseForDomains
  with_reducible repeat' first
    | (intro x; refine Kept.gen (w := ⟨wd, wr, wu⟩) (s₀ := s₀) (x := x) ?_ ?_; rotate_left; clear_value x; rotate_left; subst x) | (intro x; subst x)
    | intro _ | lift_lets | assumption | apply State.put_kept | apply State.settleDomain_kept | apply Kept.ite | apply Kept.each

theorem State.burst_kept (s : State) (n : Nat) (j : DmaJob) (reads writes : Nat) (hk : Kept ⟨true, true, wu⟩ s₀ s) :
    Kept ⟨true, true, wu⟩ s₀ (State.burst s n j reads writes) := by
  unfold State.burst
  extract_lets width src dst
  have h1 := State.burstRead_kept n src width (bitOf j.ctrl 28) reads 0 _ (State.takeLine_kept s j hk)
  generalize State.burstRead n src width (bitOf j.ctrl 28) reads 0 (s.takeLine j) = p1 at h1 ⊢
  obtain ⟨b, s1, bad⟩ := p1
  dsimp only at h1 ⊢
  have h2 := State.burstWrite_kept n dst width (bitOf j.ctrl 27) (min writes (b.length / width)) 0
    (swapBytes (swapOf j.ctrl) b.length b) _ h1
  generalize State.burstWrite n dst width (bitOf j.ctrl 27) (min writes (b.length / width)) 0
    (swapBytes (swapOf j.ctrl) b.length b) s1 = p2 at h2 ⊢
  obtain ⟨m, s2⟩ := p2
  dsimp only at h2 ⊢
  have h3 := State.burstMoved_kept s2 n (m * width) j h2
  generalize s2.burstMoved n (m * width) j = s3 at h3 ⊢
  with_reducible repeat' first
    | (intro x; refine Kept.gen (w := ⟨true, true, wu⟩) (s₀ := s₀) (x := x) ?_ ?_; rotate_left; clear_value x; rotate_left; subst x) | (intro x; subst x)
    | intro _ | lift_lets | assumption | apply State.dmaError_kept | apply State.fenceDenied_kept | apply State.dmaComplete_kept
    | apply Kept.ite | split

theorem State.dmaGrant_kept (k : Nat) (s : State) (hk : Kept ⟨wd, wr, wu⟩ s₀ s) : Kept ⟨wd, wr, wu⟩ s₀ (State.dmaGrant k s) := by
  induction k generalizing s with
  | zero => exact hk
  | succ k ih =>
    unfold State.dmaGrant
    refine .ite hk ?_
    split
    · exact hk
    · exact ih _ (hk.of rfl rfl rfl rfl)

theorem State.dmaSlots_kept (s : State) (hk : Kept ⟨wd, wr, wu⟩ s₀ s) : Kept ⟨wd, wr, wu⟩ s₀ (State.dmaSlots s) := by
  unfold State.dmaSlots
  with_reducible repeat' first
    | intro _ | assumption | apply State.dmaGrant_kept | apply Kept.ite
    | fail_if_no_progress (apply Kept.lit; rotate_left; with_unfolding_all rfl; with_unfolding_all rfl)

theorem State.slotFree_kept (s : State) (n : Nat) (hk : Kept ⟨wd, wr, wu⟩ s₀ s) : Kept ⟨wd, wr, wu⟩ s₀ (State.slotFree s n) := by
  unfold State.slotFree
  with_reducible repeat' first
    | intro _ | assumption | apply State.dmaSlots_kept | apply Kept.ite
    | fail_if_no_progress (apply Kept.lit; rotate_left; with_unfolding_all rfl; with_unfolding_all rfl)

end Sys2Proof.Machine
end

