-- ==== Sys2Proof/Laws/KeptCommands.lean ====
section
/-! SUPPORT. What the operations behind command packets keep, and the work of every opcode. -/

namespace Sys2Proof.Machine

open Host

set_option linter.unusedTactic false
set_option linter.unreachableTactic false

variable {s₀ : State} {wd wr wu : Bool}

/-! ## Machine/Cmd.lean -/

theorem State.takeEntry_kept (s : State) (op : Nat) (h : Hdr) (hk : Kept ⟨wd, wr, wu⟩ s₀ s) : Kept ⟨wd, wr, wu⟩ s₀ (State.takeEntry s op h) := by
  unfold State.takeEntry
  with_reducible repeat' first
    | assumption | fail_if_no_progress (apply Kept.lit; rotate_left; with_unfolding_all rfl; with_unfolding_all rfl)

theorem State.finish_kept (s : State) (op : Nat) (h : Hdr) (st : Status) (payload : Bytes) (hk : Kept ⟨wd, wr, wu⟩ s₀ s) :
    Kept ⟨wd, wr, wu⟩ s₀ (State.finish s op h st payload) := by
  unfold State.finish
  with_reducible repeat' first
    | assumption | apply State.complete_kept | apply State.reply_kept | apply Kept.ite | split

theorem State.done_kept (s : State) (op : Nat) (h : Hdr) (payload : Bytes) (hk : Kept ⟨wd, wr, wu⟩ s₀ s) :
    Kept ⟨wd, wr, wu⟩ s₀ (State.done s op h payload) := by
  unfold State.done
  with_reducible repeat' first
    | assumption | apply State.finish_kept

theorem State.accept_kept (s : State) (op : Nat) (h : Hdr) (hk : Kept ⟨wd, wr, wu⟩ s₀ s) : Kept ⟨wd, wr, wu⟩ s₀ (State.accept s op h) := by
  unfold State.accept
  with_reducible repeat' first
    | assumption | apply State.acceptReply_kept

theorem State.refuse_kept (s : State) (c : CmdSpec) (h : Hdr) (src : Src) (st : Status) (hk : Kept ⟨wd, wr, wu⟩ s₀ s) :
    Kept ⟨wd, wr, wu⟩ s₀ (State.refuse s c h src st) := by
  unfold State.refuse
  with_reducible repeat' first
    | (intro x; refine Kept.gen (w := ⟨wd, wr, wu⟩) (s₀ := s₀) (x := x) ?_ ?_; rotate_left; clear_value x; rotate_left; subst x) | (intro x; subst x)
    | intro _ | lift_lets | assumption | apply State.record_kept | apply State.reply_kept | apply Kept.ite

/-- What a command does keeps the queue and the memories it may not change. -/
def CmdSpec.Keeps (c : CmdSpec) (wd wr wu : Bool) : Prop :=
  ∀ (s₀ : State) (h : Hdr) (src : Src) (s : State), Kept ⟨wd, wr, wu⟩ s₀ s → Kept ⟨wd, wr, wu⟩ s₀ (c.run h src s)

theorem State.execute_kept (s : State) (c : CmdSpec) (h : Hdr) (src : Src) (hc : c.Keeps wd wr wu) (hk : Kept ⟨wd, wr, wu⟩ s₀ s) :
    Kept ⟨wd, wr, wu⟩ s₀ (State.execute s c h src) := hc _ h src _ (.ite (State.takeEntry_kept s c.opcode h hk) hk)

theorem State.turnAway_kept (s : State) (op : Nat) (h : Hdr) (hk : Kept ⟨wd, wr, wu⟩ s₀ s) : Kept ⟨wd, wr, wu⟩ s₀ (State.turnAway s op h) := by
  unfold State.turnAway
  with_reducible repeat' first
    | assumption | apply State.reply_kept | split

theorem State.romRun_kept (s : State) (c : CmdSpec) (h : Hdr) (hc : c.Keeps wd wr wu) (hk : Kept ⟨wd, wr, wu⟩ s₀ s) :
    Kept ⟨wd, wr, wu⟩ s₀ (State.romRun s c h) := by
  unfold State.romRun
  refine .ite hk ?_
  split
  · exact State.reply_kept _ _ _ _ _ _ _ hk
  · exact hc _ _ _ _ hk

theorem State.runSpec_kept (s : State) (c : CmdSpec) (h : Hdr) (hc : c.Keeps wd wr wu) (hk : Kept ⟨wd, wr, wu⟩ s₀ s) :
    Kept ⟨wd, wr, wu⟩ s₀ (State.runSpec s c h) := by
  unfold State.runSpec
  refine .ite (State.romRun_kept _ _ _ hc hk) (.ite hk (.ite (State.turnAway_kept _ _ _ hk) ?_))
  extract_lets src
  split
  · exact State.refuse_kept _ _ _ _ _ hk
  · exact State.execute_kept _ _ _ _ hc hk

theorem State.startWrite_kept (s : State) (rec : Nat) (upd : RecUpdate) (h : Hdr) (hk : Kept ⟨wd, wr, wu⟩ s₀ s) :
    Kept ⟨wd, wr, wu⟩ s₀ (State.startWrite s rec upd h) := by
  unfold State.startWrite
  with_reducible repeat' first
    | (intro x; refine Kept.gen (w := ⟨wd, wr, wu⟩) (s₀ := s₀) (x := x) ?_ ?_; rotate_left; clear_value x; rotate_left; subst x) | (intro x; subst x)
    | intro _ | lift_lets | assumption
    | fail_if_no_progress (apply Kept.lit; rotate_left; with_unfolding_all rfl; with_unfolding_all rfl)

theorem State.fwAbsent_kept (s : State) (hk : Kept ⟨wd, wr, wu⟩ s₀ s) : Kept ⟨wd, wr, wu⟩ s₀ (State.fwAbsent s) := by
  unfold State.fwAbsent
  with_reducible repeat' first
    | assumption | apply State.put_kept | apply Kept.ite

/-! ## Machine/CmdInfo.lean -/

theorem State.readWords_kept (s : State) (r : Req) (n off : Nat) (hk : Kept ⟨wd, wr, wu⟩ s₀ s) : Kept ⟨wd, wr, wu⟩ s₀ (State.readWords s r n off).2 := by
  induction n generalizing s off with
  | zero => exact hk
  | succ n ih => exact ih _ _ (State.busRead_kept _ _ _ _ hk)

/-! ## Machine/CmdPersist.lean -/

theorem State.barrierBoundary_kept (s : State) (hk : Kept ⟨true, wr, wu⟩ s₀ s) : Kept ⟨true, wr, wu⟩ s₀ (State.barrierBoundary s) := by
  unfold State.barrierBoundary
  with_reducible repeat' first
    | intro _ | assumption | apply State.boundaryDue_kept | apply State.settle_kept | apply Kept.ite

/-! ## Machine/CmdReserve.lean -/

theorem State.learnCapacity_kept (s : State) (hk : Kept ⟨wd, wr, wu⟩ s₀ s) : Kept ⟨wd, wr, wu⟩ s₀ (State.learnCapacity s) := by
  unfold State.learnCapacity
  with_reducible repeat' first
    | (intro x; refine Kept.gen (w := ⟨wd, wr, wu⟩) (s₀ := s₀) (x := x) ?_ ?_; rotate_left; clear_value x; rotate_left; subst x) | (intro x; subst x)
    | intro _ | lift_lets | assumption | apply State.put_kept | apply State.count_kept | apply State.writeLearned_kept
    | apply State.record_kept | apply Kept.ite

theorem State.learnResistance_kept (s : State) (hk : Kept ⟨wd, wr, wu⟩ s₀ s) : Kept ⟨wd, wr, wu⟩ s₀ (State.learnResistance s) := by
  unfold State.learnResistance
  with_reducible repeat' first
    | (intro x; refine Kept.gen (w := ⟨wd, wr, wu⟩) (s₀ := s₀) (x := x) ?_ ?_; rotate_left; clear_value x; rotate_left; subst x) | (intro x; subst x)
    | intro _ | lift_lets | assumption | apply State.put_kept | apply State.writeLearned_kept | apply State.record_kept
    | apply Kept.ite

theorem State.takeProposals_kept (s : State) (hk : Kept ⟨wd, wr, wu⟩ s₀ s) : Kept ⟨wd, wr, wu⟩ s₀ (State.takeProposals s) := by
  unfold State.takeProposals
  with_reducible repeat' first
    | (intro x; refine Kept.gen (w := ⟨wd, wr, wu⟩) (s₀ := s₀) (x := x) ?_ ?_; rotate_left; clear_value x; rotate_left; subst x) | (intro x; subst x)
    | intro _ | lift_lets | assumption | apply State.learnCapacity_kept | apply State.learnResistance_kept
    | apply State.putAll_kept | fail_if_no_progress (apply Kept.lit; rotate_left; with_unfolding_all rfl; with_unfolding_all rfl)

theorem State.recordClamps_kept (s : State) (f used : Nat × Nat × Nat) (hk : Kept ⟨wd, wr, wu⟩ s₀ s) :
    Kept ⟨wd, wr, wu⟩ s₀ (State.recordClamps s f used) := by
  unfold State.recordClamps
  with_reducible repeat' first
    | (intro x; refine Kept.gen (w := ⟨wd, wr, wu⟩) (s₀ := s₀) (x := x) ?_ ?_; rotate_left; clear_value x; rotate_left; subst x) | (intro x; subst x)
    | intro _ | lift_lets | assumption | apply State.record_kept | apply Kept.ite

theorem State.holdFigure_kept (s : State) (f used : Nat × Nat × Nat) (seq : Nat) (hk : Kept ⟨true, wr, wu⟩ s₀ s) :
    Kept ⟨true, wr, wu⟩ s₀ (State.holdFigure s f used seq) := by
  unfold State.holdFigure
  with_reducible repeat' first
    | (intro x; refine Kept.gen (w := ⟨true, wr, wu⟩) (s₀ := s₀) (x := x) ?_ ?_; rotate_left; clear_value x; rotate_left; subst x) | (intro x; subst x)
    | intro _ | lift_lets | assumption | apply State.putAll_kept | apply State.put_kept | apply State.takeFigure_kept
    | apply State.settle_kept | apply Kept.ite
    | fail_if_no_progress (apply Kept.lit; rotate_left; with_unfolding_all rfl; with_unfolding_all rfl)

theorem State.firmwareRuns_kept (s : State) (op : Nat) (h : Hdr) (hk : Kept ⟨wd, wr, wu⟩ s₀ s) : Kept ⟨wd, wr, wu⟩ s₀ (State.firmwareRuns s op h) := by
  unfold State.firmwareRuns
  with_reducible repeat' first
    | assumption | apply State.emit_kept
    | fail_if_no_progress (apply Kept.lit; rotate_left; with_unfolding_all rfl; with_unfolding_all rfl)

/-! ## Machine/CmdStore.lean -/

theorem State.userWrite_kept (s : State) (off : Nat) (b : Bytes) (hk : Kept ⟨wd, wr, true⟩ s₀ s) : Kept ⟨wd, wr, true⟩ s₀ (State.userWrite s off b) := by
  unfold State.userWrite
  exact hk.withUser (fun w => dramWrite_wf w _ _) rfl rfl rfl

theorem State.wrongPassword_kept (s : State) (g : Nat) (unlock : Bool) (hk : Kept ⟨wd, wr, wu⟩ s₀ s) :
    Kept ⟨wd, wr, wu⟩ s₀ (State.wrongPassword s g unlock) := by
  unfold State.wrongPassword
  with_reducible repeat' first
    | (intro x; refine Kept.gen (w := ⟨wd, wr, wu⟩) (s₀ := s₀) (x := x) ?_ ?_; rotate_left; clear_value x; rotate_left; subst x) | (intro x; subst x)
    | intro _ | lift_lets | assumption | apply State.record_kept | apply State.unlock_kept | apply Kept.ite
    | fail_if_no_progress (apply Kept.lit; rotate_left; with_unfolding_all rfl; with_unfolding_all rfl)

theorem State.protect_kept (s : State) (h : Hdr) (hk : Kept ⟨wd, wr, wu⟩ s₀ s) : Kept ⟨wd, wr, wu⟩ s₀ (State.protect s h) := by
  unfold State.protect
  with_reducible repeat' first
    | (intro x; refine Kept.gen (w := ⟨wd, wr, wu⟩) (s₀ := s₀) (x := x) ?_ ?_; rotate_left; clear_value x; rotate_left; subst x) | (intro x; subst x)
    | intro _ | lift_lets | assumption | apply State.done_kept | apply State.startWrite_kept | apply Kept.ite
    | fail_if_no_progress (apply Kept.lit; rotate_left; with_unfolding_all rfl; with_unfolding_all rfl) | split

theorem State.warnReads_kept (s : State) (off len corrected : Nat) (hk : Kept ⟨wd, wr, wu⟩ s₀ s) :
    Kept ⟨wd, wr, wu⟩ s₀ (State.warnReads s off len corrected) := by
  unfold State.warnReads
  with_reducible repeat' first
    | (intro x; refine Kept.gen (w := ⟨wd, wr, wu⟩) (s₀ := s₀) (x := x) ?_ ?_; rotate_left; clear_value x; rotate_left; subst x) | (intro x; subst x)
    | intro _ | lift_lets | assumption | apply State.tick_kept | apply State.put_kept | apply State.count_kept
    | apply State.record_kept | apply Kept.ite | apply Kept.each

theorem State.checkSector_kept (s : State) (off : Nat) (hk : Kept ⟨wd, wr, true⟩ s₀ s) : Kept ⟨wd, wr, true⟩ s₀ (State.checkSector s off) := by
  unfold State.checkSector
  with_reducible repeat' first
    | (intro x; refine Kept.gen (w := ⟨wd, wr, true⟩) (s₀ := s₀) (x := x) ?_ ?_; rotate_left; clear_value x; rotate_left; subst x) | (intro x; subst x)
    | intro _ | lift_lets | assumption | apply State.tick_kept | apply State.eraseSector_kept | apply State.journalSectors_kept
    | apply State.count_kept | apply State.record_kept | apply Kept.ite
    | fail_if_no_progress (apply Kept.lit; rotate_left; with_unfolding_all rfl; with_unfolding_all rfl)

theorem State.userProgram_kept (s : State) (h : Hdr) (hk : Kept ⟨wd, wr, true⟩ s₀ s) : Kept ⟨wd, wr, true⟩ s₀ (State.userProgram s h) := by
  unfold State.userProgram
  with_reducible repeat' first
    | (intro x; refine Kept.gen (w := ⟨wd, wr, true⟩) (s₀ := s₀) (x := x) ?_ ?_; rotate_left; clear_value x; rotate_left; subst x) | (intro x; subst x)
    | intro _ | lift_lets | assumption | apply State.count_kept | apply State.finish_kept | apply State.checkSector_kept
    | apply State.tick_kept | apply State.freeBytes_kept | apply State.userWrite_kept | apply State.record_kept
    | apply State.strike_kept | apply State.done_kept | apply Kept.ite

theorem State.endTransfer_kept (s : State) (op : Nat) (hk : Kept ⟨wd, wr, wu⟩ s₀ s) : Kept ⟨wd, wr, wu⟩ s₀ (State.endTransfer s op) := by
  unfold State.endTransfer
  with_reducible repeat' first
    | intro _ | assumption | fail_if_no_progress (apply Kept.lit; rotate_left; with_unfolding_all rfl; with_unfolding_all rfl)

theorem State.takeChunk_kept (s : State) (op : Nat) (h : Hdr) (hk : Kept ⟨wd, wr, wu⟩ s₀ s) : Kept ⟨wd, wr, wu⟩ s₀ (State.takeChunk s op h) := by
  unfold State.takeChunk
  with_reducible repeat' first
    | (intro x; refine Kept.gen (w := ⟨wd, wr, wu⟩) (s₀ := s₀) (x := x) ?_ ?_; rotate_left; clear_value x; rotate_left; subst x) | (intro x; subst x)
    | intro _ | lift_lets | assumption | apply State.endTransfer_kept
    | fail_if_no_progress (apply Kept.lit; rotate_left; with_unfolding_all rfl; with_unfolding_all rfl)

theorem State.startFw_kept (s : State) (b : Bytes) (hk : Kept ⟨wd, wr, wu⟩ s₀ s) : Kept ⟨wd, wr, wu⟩ s₀ (State.startFw s b) := by
  unfold State.startFw
  with_reducible repeat' first
    | intro _ | assumption | apply State.releaseFw_kept | apply Kept.ite
    | fail_if_no_progress (apply Kept.lit; rotate_left; with_unfolding_all rfl; with_unfolding_all rfl)

theorem State.fwComplete_kept (s : State) (h : Hdr) (b : Bytes) (hk : Kept ⟨wd, wr, wu⟩ s₀ s) : Kept ⟨wd, wr, wu⟩ s₀ (State.fwComplete s h b) := by
  unfold State.fwComplete
  with_reducible repeat' first
    | (intro x; refine Kept.gen (w := ⟨wd, wr, wu⟩) (s₀ := s₀) (x := x) ?_ ?_; rotate_left; clear_value x; rotate_left; subst x) | (intro x; subst x)
    | intro _ | lift_lets | assumption | apply State.endTransfer_kept | apply State.accept_kept | apply State.put_kept
    | apply State.record_kept | apply State.done_kept | apply State.startFw_kept | apply State.fwAbsent_kept
    | apply State.completeFor_kept | apply Kept.ite

/-! ## Machine/CmdUpdate.lean -/

theorem State.setSlot_kept (s : State) (n : Nat) (k : Option KeeperSlot) (hk : Kept ⟨wd, wr, wu⟩ s₀ s) : Kept ⟨wd, wr, wu⟩ s₀ (State.setSlot s n k) := by
  unfold State.setSlot
  with_reducible repeat' first
    | (intro x; refine Kept.gen (w := ⟨wd, wr, wu⟩) (s₀ := s₀) (x := x) ?_ ?_; rotate_left; clear_value x; rotate_left; subst x) | (intro x; subst x)
    | intro _ | lift_lets | assumption | apply State.put_kept | apply Kept.ite
    | fail_if_no_progress (apply Kept.lit; rotate_left; with_unfolding_all rfl; with_unfolding_all rfl)
    | (apply Kept.mix; rotate_left 3; with_unfolding_all rfl; with_unfolding_all rfl; rotate_right 3)

theorem State.pumpRelay_kept (n : Nat) (s : State) (hk : Kept ⟨wd, wr, wu⟩ s₀ s) : Kept ⟨wd, wr, wu⟩ s₀ (State.pumpRelay n s) := by
  induction n generalizing s with
  | zero => exact hk
  | succ n ih =>
    unfold State.pumpRelay
    split
    · exact hk
    · extract_lets ended pk s1
      refine .ite (State.put_kept _ _ _ (hk.of rfl rfl rfl rfl)) (.ite hk (ih _ ?_))
      exact (State.chainSend_kept _ _ _ _ (State.tick_kept _ hk)).of rfl rfl rfl rfl

theorem State.relayOn_kept (s : State) (hk : Kept ⟨wd, wr, wu⟩ s₀ s) : Kept ⟨wd, wr, wu⟩ s₀ (State.relayOn s) := State.pumpRelay_kept 6 s hk

theorem State.startRelay_kept (s : State) (flags : Nat) (hk : Kept ⟨wd, wr, wu⟩ s₀ s) : Kept ⟨wd, wr, wu⟩ s₀ (State.startRelay s flags) := by
  unfold State.startRelay
  with_reducible repeat' first
    | assumption | apply State.put_kept | apply State.relayOn_kept
    | fail_if_no_progress (apply Kept.lit; rotate_left; with_unfolding_all rfl; with_unfolding_all rfl)

theorem State.updateOver_kept (s : State) (st : Status) (hk : Kept ⟨wd, wr, wu⟩ s₀ s) : Kept ⟨wd, wr, wu⟩ s₀ (State.updateOver s st) := by
  unfold State.updateOver
  with_reducible repeat' first
    | assumption | apply State.endUpdate_kept | apply State.put_kept

theorem State.startInstall_kept (s : State) (hk : Kept ⟨wd, wr, wu⟩ s₀ s) : Kept ⟨wd, wr, wu⟩ s₀ (State.startInstall s) := by
  unfold State.startInstall
  with_reducible repeat' first
    | (intro x; refine Kept.gen (w := ⟨wd, wr, wu⟩) (s₀ := s₀) (x := x) ?_ ?_; rotate_left; clear_value x; rotate_left; subst x) | (intro x; subst x)
    | intro _ | lift_lets | assumption | apply State.writeBoot_kept | apply State.journalSectors_kept
    | apply State.setSlot_kept | apply State.put_kept | apply State.updateOver_kept | apply Kept.ite

theorem State.checkPackage_kept (s : State) (relay install : Bool) (flags : Nat) (hk : Kept ⟨wd, wr, wu⟩ s₀ s) :
    Kept ⟨wd, wr, wu⟩ s₀ (State.checkPackage s relay install flags) := by
  unfold State.checkPackage
  with_reducible repeat' first
    | (intro x; refine Kept.gen (w := ⟨wd, wr, wu⟩) (s₀ := s₀) (x := x) ?_ ?_; rotate_left; clear_value x; rotate_left; subst x) | (intro x; subst x)
    | intro _ | lift_lets | assumption | apply State.updateOver_kept | apply State.startRelay_kept | apply State.done_kept
    | apply State.startInstall_kept | apply Kept.ite

theorem State.updateLast_kept (s : State) (h : Hdr) (src : Src) (b : Bytes) (hk : Kept ⟨wd, wr, wu⟩ s₀ s) :
    Kept ⟨wd, wr, wu⟩ s₀ (State.updateLast s h src b) := by
  unfold State.updateLast
  with_reducible repeat' first
    | (intro x; refine Kept.gen (w := ⟨wd, wr, wu⟩) (s₀ := s₀) (x := x) ?_ ?_; rotate_left; clear_value x; rotate_left; subst x) | (intro x; subst x)
    | intro _ | lift_lets | assumption | apply State.endTransfer_kept | apply State.accept_kept | apply State.put_kept
    | apply State.checkPackage_kept
    | fail_if_no_progress (apply Kept.lit; rotate_left; with_unfolding_all rfl; with_unfolding_all rfl)

theorem State.romInstall_kept (s : State) (h : Hdr) (b : Bytes) (hk : Kept ⟨wd, wr, wu⟩ s₀ s) : Kept ⟨wd, wr, wu⟩ s₀ (State.romInstall s h b) := by
  unfold State.romInstall
  with_reducible repeat' first
    | (intro x; refine Kept.gen (w := ⟨wd, wr, wu⟩) (s₀ := s₀) (x := x) ?_ ?_; rotate_left; clear_value x; rotate_left; subst x) | (intro x; subst x)
    | intro _ | lift_lets | assumption | apply State.endTransfer_kept | apply State.done_kept | apply State.journalSectors_kept
    | apply State.setSlot_kept | apply State.putAll_kept | apply State.reply_kept | apply Kept.ite

theorem State.programSlot_kept (s : State) (ok : Bool) (hk : Kept ⟨wd, wr, wu⟩ s₀ s) : Kept ⟨wd, wr, wu⟩ s₀ (State.programSlot s ok) := by
  unfold State.programSlot
  with_reducible repeat' first
    | (intro x; refine Kept.gen (w := ⟨wd, wr, wu⟩) (s₀ := s₀) (x := x) ?_ ?_; rotate_left; clear_value x; rotate_left; subst x) | (intro x; subst x)
    | intro _ | lift_lets | assumption | apply State.setSlot_kept
    | fail_if_no_progress (apply Kept.lit; rotate_left; with_unfolding_all rfl; with_unfolding_all rfl)

theorem State.finishInstall_kept (s : State) (st : Status) (hk : Kept ⟨wd, wr, wu⟩ s₀ s) : Kept ⟨wd, wr, wu⟩ s₀ (State.finishInstall s st) := by
  unfold State.finishInstall
  with_reducible repeat' first
    | (intro x; refine Kept.gen (w := ⟨wd, wr, wu⟩) (s₀ := s₀) (x := x) ?_ ?_; rotate_left; clear_value x; rotate_left; subst x) | (intro x; subst x)
    | intro _ | lift_lets | assumption | apply State.updateOver_kept | apply State.programSlot_kept
    | apply State.writeBoot_kept | apply State.put_kept | apply Kept.ite

/-! ## Machine/CmdTrain.lean -/

theorem State.tagAt_kept (s : State) (fa : Nat) (hk : Kept ⟨wd, wr, wu⟩ s₀ s) : Kept ⟨wd, wr, wu⟩ s₀ (State.tagAt s fa).2.2.2 := by
  unfold State.tagAt
  split
  · exact hk
  · exact State.freeBytes_kept s 16 hk

theorem State.diffBits_kept (s : State) (payload : Option Bytes) (pattern seed slot : Nat) (hk : Kept ⟨wd, wr, wu⟩ s₀ s) :
    Kept ⟨wd, wr, wu⟩ s₀ (State.diffBits s payload pattern seed slot).2 := by
  unfold State.diffBits
  with_reducible repeat' first
    | intro _ | assumption | apply State.tick_kept | apply Kept.ite | split

theorem State.diagRead_kept (s : State) (h : Hdr) (hk : Kept ⟨wd, wr, wu⟩ s₀ s) : Kept ⟨wd, wr, wu⟩ s₀ (State.diagRead s h) := by
  unfold State.diagRead
  extract_lets fa n corrected s1 level s2 bad s3
  refine .ite (State.finish_kept _ _ _ _ _ hk) ?_
  have h3 : Kept ⟨wd, wr, wu⟩ s₀ s3 :=
    State.flashRead_kept _ _ _ _ _ (State.tick_kept _ (State.tick_kept _ (State.tick_kept _ hk)))
  have h4 := State.tagAt_kept s3 fa h3
  generalize s3.tagAt fa = p at h4 ⊢
  obtain ⟨tag, payload, plain, s4⟩ := p
  dsimp only at h4 ⊢
  refine State.done_kept _ _ _ _ ?_
  split
  · exact State.diffBits_kept _ _ _ _ _ h4
  · exact h4

theorem State.openPage_kept (s : State) (fa owner : Nat) (hk : Kept ⟨wd, wr, wu⟩ s₀ s) : Kept ⟨wd, wr, wu⟩ s₀ (State.openPage s fa owner) := by
  unfold State.openPage
  with_reducible repeat' first
    | intro _ | assumption | apply State.openAt_kept | apply State.closePage_kept | apply Kept.ite

theorem State.diagProgram_kept (s : State) (h : Hdr) (hk : Kept ⟨wd, wr, wu⟩ s₀ s) : Kept ⟨wd, wr, wu⟩ s₀ (State.diagProgram s h) := by
  unfold State.diagProgram
  with_reducible repeat' first
    | (intro x; refine Kept.gen (w := ⟨wd, wr, wu⟩) (s₀ := s₀) (x := x) ?_ ?_; rotate_left; clear_value x; rotate_left; subst x) | (intro x; subst x)
    | intro _ | lift_lets | assumption | apply State.finish_kept | apply State.refuseOrder_kept | apply State.openPage_kept
    | apply State.tick_kept | apply State.programFailed_kept | apply State.endFault_kept | apply State.done_kept
    | apply Kept.ite | fail_if_no_progress (apply Kept.lit; rotate_left; with_unfolding_all rfl; with_unfolding_all rfl)

/-! ## Machine/Packets.lean -/

theorem State.endChainSend_kept (s : State) (tag : BitVec 32) (st : Status) (result : Bytes) (hk : Kept ⟨wd, wr, wu⟩ s₀ s) :
    Kept ⟨wd, wr, wu⟩ s₀ (State.endChainSend s tag st result) := by
  unfold State.endChainSend
  with_reducible repeat' first
    | intro _ | assumption | apply State.complete_kept
    | fail_if_no_progress (apply Kept.lit; rotate_left; with_unfolding_all rfl; with_unfolding_all rfl) | split

/-! ## The work of every opcode -/

theorem configSpec_keeps (op rec layout : Nat) (vals : Bytes → List (Fld × Nat)) (wait : Bytes → Option Nat) (clash : State → List (Fld × Nat) → Bool) : (configSpec op rec layout vals wait clash).Keeps wd wr wu := by
  intro s₀ h src s hk
  unfold configSpec
  dsimp -zeta only
  with_reducible repeat' first
    | intro _ | assumption | apply State.startWrite_kept | apply State.wait_kept

theorem identifySpec_keeps : identifySpec.Keeps wd wr wu := by
  intro s₀ h src s hk
  unfold identifySpec
  dsimp -zeta only
  with_reducible repeat' first
    | intro _ | assumption | apply State.done_kept

theorem readyGetSpec_keeps : readyGetSpec.Keeps wd wr wu := by
  intro s₀ h src s hk
  unfold readyGetSpec
  dsimp -zeta only
  with_reducible repeat' first
    | intro _ | assumption | apply State.done_kept

theorem resultGetSpec_keeps : resultGetSpec.Keeps wd wr wu := by
  intro s₀ h src s hk
  unfold resultGetSpec
  dsimp -zeta only
  with_reducible repeat' first
    | (intro x; refine Kept.gen (w := ⟨wd, wr, wu⟩) (s₀ := s₀) (x := x) ?_ ?_; rotate_left; clear_value x; rotate_left; subst x) | (intro x; subst x)
    | intro _ | lift_lets | assumption | apply State.dropResult_kept | apply State.done_kept | apply Kept.ite | split

theorem fwStatusSpec_keeps : fwStatusSpec.Keeps wd wr wu := by
  intro s₀ h src s hk
  unfold fwStatusSpec
  dsimp -zeta only
  with_reducible repeat' first
    | intro _ | assumption | apply State.done_kept

theorem keeperUpdateStatusSpec_keeps : keeperUpdateStatusSpec.Keeps wd wr wu := by
  intro s₀ h src s hk
  unfold keeperUpdateStatusSpec
  dsimp -zeta only
  with_reducible repeat' first
    | intro _ | assumption | apply State.done_kept

theorem epochListSpec_keeps : epochListSpec.Keeps wd wr wu := by
  intro s₀ h src s hk
  unfold epochListSpec
  dsimp -zeta only
  with_reducible repeat' first
    | (intro x; refine Kept.gen (w := ⟨wd, wr, wu⟩) (s₀ := s₀) (x := x) ?_ ?_; rotate_left; clear_value x; rotate_left; subst x) | (intro x; subst x)
    | intro _ | lift_lets | assumption | apply State.cut_kept | apply State.done_kept

theorem regionListSpec_keeps : regionListSpec.Keeps wd wr wu := by
  intro s₀ h src s hk
  unfold regionListSpec
  dsimp -zeta only
  with_reducible repeat' first
    | (intro x; refine Kept.gen (w := ⟨wd, wr, wu⟩) (s₀ := s₀) (x := x) ?_ ?_; rotate_left; clear_value x; rotate_left; subst x) | (intro x; subst x)
    | intro _ | lift_lets | assumption | apply State.done_kept

theorem reserveStatusSpec_keeps : reserveStatusSpec.Keeps wd wr wu := by
  intro s₀ h src s hk
  unfold reserveStatusSpec
  dsimp -zeta only
  with_reducible repeat' first
    | (intro x; refine Kept.gen (w := ⟨wd, wr, wu⟩) (s₀ := s₀) (x := x) ?_ ?_; rotate_left; clear_value x; rotate_left; subst x) | (intro x; subst x)
    | intro _ | lift_lets | assumption | apply State.done_kept

theorem eventReadSpec_keeps : eventReadSpec.Keeps wd wr wu := by
  intro s₀ h src s hk
  unfold eventReadSpec
  dsimp -zeta only
  with_reducible repeat' first
    | (intro x; refine Kept.gen (w := ⟨wd, wr, wu⟩) (s₀ := s₀) (x := x) ?_ ?_; rotate_left; clear_value x; rotate_left; subst x) | (intro x; subst x)
    | intro _ | lift_lets | assumption | apply State.done_kept

theorem dramStatusSpec_keeps : dramStatusSpec.Keeps wd wr wu := by
  intro s₀ h src s hk
  unfold dramStatusSpec
  dsimp -zeta only
  with_reducible repeat' first
    | intro _ | assumption | apply State.done_kept

theorem delaySetListSpec_keeps : delaySetListSpec.Keeps wd wr wu := by
  intro s₀ h src s hk
  unfold delaySetListSpec
  dsimp -zeta only
  with_reducible repeat' first
    | intro _ | assumption | apply State.done_kept | apply Kept.ite | split

theorem flashStatusSpec_keeps : flashStatusSpec.Keeps wd wr wu := by
  intro s₀ h src s hk
  unfold flashStatusSpec
  dsimp -zeta only
  with_reducible repeat' first
    | (intro x; refine Kept.gen (w := ⟨wd, wr, wu⟩) (s₀ := s₀) (x := x) ?_ ?_; rotate_left; clear_value x; rotate_left; subst x) | (intro x; subst x)
    | intro _ | lift_lets | assumption | apply State.tick_kept | apply State.done_kept

theorem railStatusSpec_keeps : railStatusSpec.Keeps wd wr wu := by
  intro s₀ h src s hk
  unfold railStatusSpec
  dsimp -zeta only
  with_reducible repeat' first
    | intro _ | assumption | apply State.tick_kept | apply State.done_kept

theorem sidebandStatusSpec_keeps : sidebandStatusSpec.Keeps wd wr wu := by
  intro s₀ h src s hk
  unfold sidebandStatusSpec
  dsimp -zeta only
  with_reducible repeat' first
    | (intro x; refine Kept.gen (w := ⟨wd, wr, wu⟩) (s₀ := s₀) (x := x) ?_ ?_; rotate_left; clear_value x; rotate_left; subst x) | (intro x; subst x)
    | intro _ | lift_lets | assumption | apply State.putAll_kept | apply State.done_kept

theorem echoSpec_keeps : echoSpec.Keeps wd wr wu := by
  intro s₀ h src s hk
  unfold echoSpec
  dsimp -zeta only
  with_reducible repeat' first
    | intro _ | assumption | apply State.done_kept

theorem regReadSpec_keeps : regReadSpec.Keeps wd wr wu := by
  intro s₀ h src s hk
  have hr : ∀ (n off : Nat) (s : State), Kept ⟨wd, wr, wu⟩ s₀ s → Kept ⟨wd, wr, wu⟩ s₀ (State.readWords s (reqOf src) n off).2 := by
    intro n
    induction n with
    | zero => intro off s hs; exact hs
    | succ n ih => intro off s hs; exact ih _ _ (State.busRead_kept _ _ _ _ hs)
  exact State.done_kept _ _ _ _ (hr _ _ _ hk)

theorem regWriteSpec_keeps : regWriteSpec.Keeps true wr wu := by
  intro s₀ h src s hk
  unfold regWriteSpec
  dsimp -zeta only
  with_reducible repeat' first
    | intro _ | assumption | apply State.busWrite_kept | apply State.done_kept | apply Kept.ite | split

theorem persistConfigSpec_keeps : persistConfigSpec.Keeps wd wr wu := by
  intro s₀ h src s hk
  exact configSpec_keeps _ _ _ _ _ _ _ h src s hk

theorem budgetConfigSpec_keeps : budgetConfigSpec.Keeps wd wr wu := by
  intro s₀ h src s hk
  exact configSpec_keeps _ _ _ _ _ _ _ h src s hk

theorem wearConfigSpec_keeps : wearConfigSpec.Keeps wd wr wu := by
  intro s₀ h src s hk
  exact configSpec_keeps _ _ _ _ _ _ _ h src s hk

theorem saveModelConfigSpec_keeps : saveModelConfigSpec.Keeps wd wr wu := by
  intro s₀ h src s hk
  exact configSpec_keeps _ _ _ _ _ _ _ h src s hk

theorem epochConfigSpec_keeps : epochConfigSpec.Keeps wd wr wu := by
  intro s₀ h src s hk
  exact configSpec_keeps _ _ _ _ _ _ _ h src s hk

theorem saveConfigSpec_keeps : saveConfigSpec.Keeps wd wr wu := by
  intro s₀ h src s hk
  exact configSpec_keeps _ _ _ _ _ _ _ h src s hk

theorem restoreConfigSpec_keeps : restoreConfigSpec.Keeps wd wr wu := by
  intro s₀ h src s hk
  exact configSpec_keeps _ _ _ _ _ _ _ h src s hk

theorem armSpec_keeps : armSpec.Keeps true wr wu := by
  intro s₀ h src s hk
  have h1 : Kept ⟨true, wr, wu⟩ s₀ ((s.put Reg.GLB_ARM.ARM_HOLD 0).done Opc.ARM h []) := State.done_kept _ _ _ _ (State.put_kept _ _ _ hk)
  unfold armSpec
  dsimp -zeta only
  extract_lets armed t
  refine .ite h1 ?_
  cases ht : t.tryArm with
  | none => exact h1
  | some u => exact State.tryArm_kept t h1 ht

theorem disarmSpec_keeps : disarmSpec.Keeps true wr wu := by
  intro s₀ h src s hk
  unfold disarmSpec
  dsimp -zeta only
  with_reducible repeat' first
    | (intro x; refine Kept.gen (w := ⟨true, wr, wu⟩) (s₀ := s₀) (x := x) ?_ ?_; rotate_left; clear_value x; rotate_left; subst x) | (intro x; subst x)
    | intro _ | lift_lets | assumption | apply State.put_kept | apply State.done_kept | apply State.disarm_kept
    | apply State.recompute_kept | apply State.settle_kept | apply State.takeFigure_kept | apply Kept.ite | split

theorem sealBarrierSpec_keeps : sealBarrierSpec.Keeps true wr wu := by
  intro s₀ h src s hk
  unfold sealBarrierSpec
  dsimp -zeta only
  with_reducible repeat' first
    | (intro x; refine Kept.gen (w := ⟨true, wr, wu⟩) (s₀ := s₀) (x := x) ?_ ?_; rotate_left; clear_value x; rotate_left; subst x) | (intro x; subst x)
    | intro _ | lift_lets | assumption | apply State.accept_kept | apply State.barrierBoundary_kept | apply Kept.ite
    | fail_if_no_progress (apply Kept.lit; rotate_left; with_unfolding_all rfl; with_unfolding_all rfl) | split

theorem restoreSelectSpec_keeps : restoreSelectSpec.Keeps wd wr wu := by
  intro s₀ h src s hk
  unfold restoreSelectSpec
  dsimp -zeta only
  with_reducible repeat' first
    | (intro x; refine Kept.gen (w := ⟨wd, wr, wu⟩) (s₀ := s₀) (x := x) ?_ ?_; rotate_left; clear_value x; rotate_left; subst x) | (intro x; subst x)
    | intro _ | lift_lets | assumption | apply State.chooseImage_kept | apply State.putAll_kept | apply State.cut_kept
    | apply State.closeWindow_kept | apply State.done_kept | apply Kept.ite | split

theorem restoreProceedSpec_keeps : restoreProceedSpec.Keeps wd wr wu := by
  intro s₀ h src s hk
  unfold restoreProceedSpec
  dsimp -zeta only
  with_reducible repeat' first
    | intro _ | assumption | apply State.closeWindow_kept | apply State.done_kept

theorem lossAcceptSpec_keeps : lossAcceptSpec.Keeps wd wr wu := by
  intro s₀ h src s hk
  unfold lossAcceptSpec
  dsimp -zeta only
  with_reducible repeat' first
    | intro _ | assumption | apply State.accept_kept | apply State.acceptLoss_kept | apply State.completeFor_kept
    | apply State.done_kept | apply Kept.ite

theorem foghornRaiseSpec_keeps : foghornRaiseSpec.Keeps true wr wu := by
  intro s₀ h src s hk
  unfold foghornRaiseSpec
  dsimp -zeta only
  with_reducible repeat' first
    | intro _ | assumption | apply State.done_kept | apply State.foghorn_kept | apply Kept.ite | split

theorem ldConfigSpec_keeps : ldConfigSpec.Keeps wd wr wu := by
  intro s₀ h src s hk
  unfold ldConfigSpec
  dsimp -zeta only
  with_reducible repeat' first
    | (intro x; refine Kept.gen (w := ⟨wd, wr, wu⟩) (s₀ := s₀) (x := x) ?_ ?_; rotate_left; clear_value x; rotate_left; subst x) | (intro x; subst x)
    | intro _ | lift_lets | assumption | apply State.startWrite_kept | apply Kept.ite

theorem headOwnerSetSpec_keeps : headOwnerSetSpec.Keeps wd wr wu := by
  intro s₀ h src s hk
  unfold headOwnerSetSpec
  dsimp -zeta only
  with_reducible repeat' first
    | intro _ | assumption | apply State.startWrite_kept | apply Kept.ite | split

theorem regionDcAddSpec_keeps : regionDcAddSpec.Keeps wd wr wu := by
  intro s₀ h src s hk
  unfold regionDcAddSpec
  dsimp -zeta only
  with_reducible repeat' first
    | intro _ | assumption | apply State.offer_kept | apply Kept.ite | split

theorem regionDcReleaseSpec_keeps : regionDcReleaseSpec.Keeps wd wr wu := by
  intro s₀ h src s hk
  unfold regionDcReleaseSpec
  dsimp -zeta only
  with_reducible repeat' first
    | (intro x; refine Kept.gen (w := ⟨wd, wr, wu⟩) (s₀ := s₀) (x := x) ?_ ?_; rotate_left; clear_value x; rotate_left; subst x) | (intro x; subst x)
    | intro _ | lift_lets | assumption | apply State.accept_kept | apply State.askRelease_kept | apply Kept.ite

theorem reserveFigureSpec_keeps : reserveFigureSpec.Keeps true wr wu := by
  intro s₀ h src s hk
  unfold reserveFigureSpec
  dsimp -zeta only
  with_reducible repeat' first
    | (intro x; refine Kept.gen (w := ⟨true, wr, wu⟩) (s₀ := s₀) (x := x) ?_ ?_; rotate_left; clear_value x; rotate_left; subst x) | (intro x; subst x)
    | intro _ | lift_lets | assumption | apply State.takeProposals_kept | apply State.recordClamps_kept
    | apply State.holdFigure_kept | apply State.done_kept | apply Kept.ite | split

theorem reserveConfigSpec_keeps : reserveConfigSpec.Keeps wd wr wu := by
  intro s₀ h src s hk
  exact configSpec_keeps _ _ _ _ _ _ _ h src s hk

theorem reserveRestSpec_keeps : reserveRestSpec.Keeps wd wr wu := by
  intro s₀ h src s hk
  unfold reserveRestSpec
  dsimp -zeta only
  with_reducible repeat' first
    | intro _ | assumption | apply State.accept_kept | apply State.firmwareRuns_kept | apply State.startRest_kept | apply Kept.ite

theorem eventClearSpec_keeps : eventClearSpec.Keeps wd wr wu := by
  intro s₀ h src s hk
  unfold eventClearSpec
  dsimp -zeta only
  with_reducible repeat' first
    | (intro x; refine Kept.gen (w := ⟨wd, wr, wu⟩) (s₀ := s₀) (x := x) ?_ ?_; rotate_left; clear_value x; rotate_left; subst x) | (intro x; subst x)
    | intro _ | lift_lets | assumption | apply State.record_kept | apply State.done_kept | apply Kept.ite
    | fail_if_no_progress (apply Kept.lit; rotate_left; with_unfolding_all rfl; with_unfolding_all rfl)

theorem eventRouteSpec_keeps : eventRouteSpec.Keeps wd wr wu := by
  intro s₀ h src s hk
  unfold eventRouteSpec
  dsimp -zeta only
  with_reducible repeat' first
    | (intro x; refine Kept.gen (w := ⟨wd, wr, wu⟩) (s₀ := s₀) (x := x) ?_ ?_; rotate_left; clear_value x; rotate_left; subst x) | (intro x; subst x)
    | intro _ | lift_lets | assumption | apply State.startWrite_kept

theorem dramConfigSpec_keeps : dramConfigSpec.Keeps wd wr wu := by
  intro s₀ h src s hk
  exact configSpec_keeps _ _ _ _ _ _ _ h src s hk

theorem flashConfigSpec_keeps : flashConfigSpec.Keeps wd wr wu := by
  intro s₀ h src s hk
  exact configSpec_keeps _ _ _ _ _ _ _ h src s hk

theorem railConfigSpec_keeps : railConfigSpec.Keeps wd wr wu := by
  intro s₀ h src s hk
  unfold railConfigSpec
  dsimp -zeta only
  with_reducible repeat' first
    | intro _ | assumption | apply State.startWrite_kept

theorem beaconConfigSpec_keeps : beaconConfigSpec.Keeps wd wr wu := by
  intro s₀ h src s hk
  exact configSpec_keeps _ _ _ _ _ _ _ h src s hk

theorem twiConfigSpec_keeps : twiConfigSpec.Keeps wd wr wu := by
  intro s₀ h src s hk
  unfold twiConfigSpec
  dsimp -zeta only
  with_reducible repeat' first
    | intro _ | assumption | apply State.startWrite_kept

theorem twiPortEnableSpec_keeps : twiPortEnableSpec.Keeps wd wr wu := by
  intro s₀ h src s hk
  unfold twiPortEnableSpec
  dsimp -zeta only
  with_reducible repeat' first
    | (intro x; refine Kept.gen (w := ⟨wd, wr, wu⟩) (s₀ := s₀) (x := x) ?_ ?_; rotate_left; clear_value x; rotate_left; subst x) | (intro x; subst x)
    | intro _ | lift_lets | assumption | apply State.putAll_kept | apply State.done_kept | apply Kept.ite

theorem kstProtectSpec_keeps : kstProtectSpec.Keeps wd wr wu := by
  intro s₀ h src s hk
  unfold kstProtectSpec
  dsimp -zeta only
  with_reducible repeat' first
    | (intro x; refine Kept.gen (w := ⟨wd, wr, wu⟩) (s₀ := s₀) (x := x) ?_ ?_; rotate_left; clear_value x; rotate_left; subst x) | (intro x; subst x)
    | intro _ | lift_lets | assumption | apply State.protect_kept | apply State.wrongPassword_kept | apply State.finish_kept
    | apply Kept.ite

theorem kstUserReadSpec_keeps : kstUserReadSpec.Keeps wd wr wu := by
  intro s₀ h src s hk
  unfold kstUserReadSpec
  dsimp -zeta only
  with_reducible repeat' first
    | (intro x; refine Kept.gen (w := ⟨wd, wr, wu⟩) (s₀ := s₀) (x := x) ?_ ?_; rotate_left; clear_value x; rotate_left; subst x) | (intro x; subst x)
    | intro _ | lift_lets | assumption | apply State.tick_kept | apply State.finish_kept | apply State.warnReads_kept
    | apply State.done_kept | apply Kept.ite

theorem kstUserProgramSpec_keeps : kstUserProgramSpec.Keeps wd wr true := by
  intro s₀ h src s hk
  unfold kstUserProgramSpec
  dsimp -zeta only
  with_reducible repeat' first
    | (intro x; refine Kept.gen (w := ⟨wd, wr, true⟩) (s₀ := s₀) (x := x) ?_ ?_; rotate_left; clear_value x; rotate_left; subst x) | (intro x; subst x)
    | intro _ | lift_lets | assumption | apply State.userProgram_kept

theorem kstUserEraseSpec_keeps : kstUserEraseSpec.Keeps wd wr wu := by
  intro s₀ h src s hk
  unfold kstUserEraseSpec
  dsimp -zeta only
  with_reducible repeat' first
    | (intro x; refine Kept.gen (w := ⟨wd, wr, wu⟩) (s₀ := s₀) (x := x) ?_ ?_; rotate_left; clear_value x; rotate_left; subst x) | (intro x; subst x)
    | intro _ | lift_lets | assumption | apply State.accept_kept | apply State.completeFor_kept | apply State.startErase_kept
    | apply Kept.ite

theorem fwDownloadSpec_keeps : fwDownloadSpec.Keeps wd true wu := by
  intro s₀ h src s hk
  unfold fwDownloadSpec
  dsimp -zeta only
  with_reducible repeat' first
    | (intro x; refine Kept.gen (w := ⟨wd, true, wu⟩) (s₀ := s₀) (x := x) ?_ ?_; rotate_left; clear_value x; rotate_left; subst x) | (intro x; subst x)
    | intro _ | lift_lets | assumption | (refine Kept.withRam ?_ (fun w => dramWrite_wf w _ _) rfl rfl rfl)
    | apply State.stopFw_kept | apply State.domainUp_kept | apply State.put_kept | apply State.takeChunk_kept
    | apply State.fwComplete_kept | apply State.done_kept | apply Kept.ite
    | fail_if_no_progress (apply Kept.lit; rotate_left; with_unfolding_all rfl; with_unfolding_all rfl)

theorem keeperUpdateSpec_keeps : keeperUpdateSpec.Keeps wd wr wu := by
  intro s₀ h src s hk
  unfold keeperUpdateSpec
  dsimp -zeta only
  with_reducible repeat' first
    | (intro x; refine Kept.gen (w := ⟨wd, wr, wu⟩) (s₀ := s₀) (x := x) ?_ ?_; rotate_left; clear_value x; rotate_left; subst x) | (intro x; subst x)
    | intro _ | lift_lets | assumption | apply State.takeChunk_kept | apply State.put_kept | apply State.done_kept
    | apply State.romInstall_kept | apply State.updateLast_kept | apply Kept.ite

theorem trainRunSpec_keeps : trainRunSpec.Keeps wd wr wu := by
  intro s₀ h src s hk
  unfold trainRunSpec
  dsimp -zeta only
  with_reducible repeat' first
    | (intro x; refine Kept.gen (w := ⟨wd, wr, wu⟩) (s₀ := s₀) (x := x) ?_ ?_; rotate_left; clear_value x; rotate_left; subst x) | (intro x; subst x)
    | intro _ | lift_lets | assumption | apply State.accept_kept | apply State.firmwareRuns_kept | apply Kept.ite

theorem speedSelectSpec_keeps : speedSelectSpec.Keeps wd wr wu := by
  intro s₀ h src s hk
  unfold speedSelectSpec
  dsimp -zeta only
  with_reducible repeat' first
    | intro _ | assumption | apply State.trnReject_kept | apply State.finish_kept | apply State.startWrite_kept
    | apply Kept.ite | split

theorem delaySetLoadSpec_keeps : delaySetLoadSpec.Keeps wd wr wu := by
  intro s₀ h src s hk
  unfold delaySetLoadSpec
  dsimp -zeta only
  with_reducible repeat' first
    | (intro x; refine Kept.gen (w := ⟨wd, wr, wu⟩) (s₀ := s₀) (x := x) ?_ ?_; rotate_left; clear_value x; rotate_left; subst x) | (intro x; subst x)
    | intro _ | lift_lets | assumption | apply State.endTransfer_kept | apply State.writeSet_kept | apply State.takeChunk_kept
    | apply State.done_kept | apply Kept.ite | split

theorem flashDiagReadSpec_keeps : flashDiagReadSpec.Keeps wd wr wu := by
  intro s₀ h src s hk
  unfold flashDiagReadSpec
  dsimp -zeta only
  with_reducible repeat' first
    | intro _ | assumption | apply State.diagRead_kept

theorem flashDiagProgramSpec_keeps : flashDiagProgramSpec.Keeps wd wr wu := by
  intro s₀ h src s hk
  unfold flashDiagProgramSpec
  dsimp -zeta only
  with_reducible repeat' first
    | intro _ | assumption | apply State.diagProgram_kept | apply Kept.ite

theorem chainSendSpec_keeps : chainSendSpec.Keeps wd wr wu := by
  intro s₀ h src s hk
  unfold chainSendSpec
  dsimp -zeta only
  with_reducible repeat' first
    | (intro x; refine Kept.gen (w := ⟨wd, wr, wu⟩) (s₀ := s₀) (x := x) ?_ ?_; rotate_left; clear_value x; rotate_left; subst x) | (intro x; subst x)
    | intro _ | lift_lets | assumption | apply State.chainSend_kept | apply State.done_kept | apply State.accept_kept
    | apply Kept.ite | fail_if_no_progress (apply Kept.lit; rotate_left; with_unfolding_all rfl; with_unfolding_all rfl)

theorem allSpecs_keep : ∀ c ∈ allSpecs, c.Keeps true true true := by
  simp only [allSpecs, List.forall_mem_append, List.forall_mem_cons]
  repeat' apply And.intro
  all_goals first
    | (intro x hx; exact absurd hx (by simp))
    | with_reducible exact identifySpec_keeps
    | with_reducible exact readyGetSpec_keeps
    | with_reducible exact resultGetSpec_keeps
    | with_reducible exact fwDownloadSpec_keeps
    | with_reducible exact fwStatusSpec_keeps
    | with_reducible exact keeperUpdateSpec_keeps
    | with_reducible exact keeperUpdateStatusSpec_keeps
    | with_reducible exact persistConfigSpec_keeps
    | with_reducible exact armSpec_keeps
    | with_reducible exact disarmSpec_keeps
    | with_reducible exact sealBarrierSpec_keeps
    | with_reducible exact epochListSpec_keeps
    | with_reducible exact restoreSelectSpec_keeps
    | with_reducible exact restoreProceedSpec_keeps
    | with_reducible exact lossAcceptSpec_keeps
    | with_reducible exact budgetConfigSpec_keeps
    | with_reducible exact wearConfigSpec_keeps
    | with_reducible exact saveModelConfigSpec_keeps
    | with_reducible exact epochConfigSpec_keeps
    | with_reducible exact saveConfigSpec_keeps
    | with_reducible exact restoreConfigSpec_keeps
    | with_reducible exact foghornRaiseSpec_keeps
    | with_reducible exact ldConfigSpec_keeps
    | with_reducible exact headOwnerSetSpec_keeps
    | with_reducible exact regionDcAddSpec_keeps
    | with_reducible exact regionDcReleaseSpec_keeps
    | with_reducible exact regionListSpec_keeps
    | with_reducible exact reserveStatusSpec_keeps
    | with_reducible exact reserveFigureSpec_keeps
    | with_reducible exact reserveConfigSpec_keeps
    | with_reducible exact reserveRestSpec_keeps
    | with_reducible exact eventReadSpec_keeps
    | with_reducible exact eventClearSpec_keeps
    | with_reducible exact eventRouteSpec_keeps
    | with_reducible exact dramConfigSpec_keeps
    | with_reducible exact dramStatusSpec_keeps
    | with_reducible exact trainRunSpec_keeps
    | with_reducible exact speedSelectSpec_keeps
    | with_reducible exact delaySetListSpec_keeps
    | with_reducible exact delaySetLoadSpec_keeps
    | with_reducible exact flashConfigSpec_keeps
    | with_reducible exact flashStatusSpec_keeps
    | with_reducible exact kstProtectSpec_keeps
    | with_reducible exact kstUserReadSpec_keeps
    | with_reducible exact kstUserProgramSpec_keeps
    | with_reducible exact kstUserEraseSpec_keeps
    | with_reducible exact railStatusSpec_keeps
    | with_reducible exact railConfigSpec_keeps
    | with_reducible exact beaconConfigSpec_keeps
    | with_reducible exact twiConfigSpec_keeps
    | with_reducible exact twiPortEnableSpec_keeps
    | with_reducible exact chainSendSpec_keeps
    | with_reducible exact sidebandStatusSpec_keeps
    | with_reducible exact echoSpec_keeps
    | with_reducible exact regReadSpec_keeps
    | with_reducible exact regWriteSpec_keeps
    | with_reducible exact flashDiagReadSpec_keeps
    | with_reducible exact flashDiagProgramSpec_keeps

theorem specOf_keeps {op : Nat} {c : CmdSpec} (h : specOf op = some c) : c.Keeps true true true := allSpecs_keep c (List.mem_of_find?_eq_some h)

theorem State.runUnknown_kept (s : State) (op : Nat) (h : Hdr) (hk : Kept ⟨wd, wr, wu⟩ s₀ s) : Kept ⟨wd, wr, wu⟩ s₀ (State.runUnknown s op h) := by
  unfold State.runUnknown
  with_reducible repeat' first
    | assumption | apply State.reply_kept | apply State.turnAway_kept | apply Kept.ite

theorem State.runPacket_kept (s : State) (port : Port) (dist : Nat) (b : Bytes) (hk : Kept ⟨true, true, true⟩ s₀ s) :
    Kept ⟨true, true, true⟩ s₀ (State.runPacket s port dist b) := by
  unfold State.runPacket
  refine .ite hk ?_
  split
  · exact State.runSpec_kept _ _ _ (specOf_keeps (by assumption)) hk
  · exact State.runUnknown_kept _ _ _ hk

theorem State.shortPacket_kept (s : State) (port : Port) (b : Bytes) (hk : Kept ⟨wd, wr, wu⟩ s₀ s) :
    Kept ⟨wd, wr, wu⟩ s₀ (State.shortPacket s port b) := by
  unfold State.shortPacket
  with_reducible repeat' first
    | intro _ | assumption | apply State.turnAway_kept | apply State.emit_kept | apply State.reply_kept | apply Kept.ite
    | split

theorem State.twiEvent_kept (s : State) (e : Source) (hk : Kept ⟨wd, wr, wu⟩ s₀ s) : Kept ⟨wd, wr, wu⟩ s₀ (State.twiEvent s e) := by
  unfold State.twiEvent
  with_reducible repeat' first
    | assumption | apply State.record_kept | apply Kept.ite

theorem State.setPartial_kept (s : State) (b : Bytes) (hk : Kept ⟨wd, wr, wu⟩ s₀ s) : Kept ⟨wd, wr, wu⟩ s₀ (State.setPartial s b) := by
  unfold State.setPartial
  with_reducible repeat' first
    | assumption | fail_if_no_progress (apply Kept.lit; rotate_left; with_unfolding_all rfl; with_unfolding_all rfl)

theorem State.takeFragments_kept (s : State) (b : Bytes) (hk : Kept ⟨true, true, true⟩ s₀ s) : Kept ⟨true, true, true⟩ s₀ (State.takeFragments s b) := by
  unfold State.takeFragments
  with_reducible repeat' first
    | (intro x; refine Kept.gen (w := ⟨true, true, true⟩) (s₀ := s₀) (x := x) ?_ ?_; rotate_left; clear_value x; rotate_left; subst x) | (intro x; subst x)
    | intro _ | lift_lets | assumption | apply State.setPartial_kept | apply State.dropTwiReply_kept | apply State.runPacket_kept
    | apply State.reply_kept | apply Kept.ite

theorem State.fragment_kept (s : State) (before data : Bytes) (pecOk : Bool) (hk : Kept ⟨true, true, true⟩ s₀ s) :
    Kept ⟨true, true, true⟩ s₀ (State.fragment s before data pecOk) := by
  unfold State.fragment
  with_reducible repeat' first
    | assumption | apply State.setPartial_kept | apply State.count_kept | apply State.twiEvent_kept
    | apply State.takeFragments_kept | apply Kept.ite

theorem State.readReply_kept (s : State) (pos : Nat) (hk : Kept ⟨wd, wr, wu⟩ s₀ s) : Kept ⟨wd, wr, wu⟩ s₀ (State.readReply s pos) := by
  unfold State.readReply
  with_reducible repeat' first
    | (intro x; refine Kept.gen (w := ⟨wd, wr, wu⟩) (s₀ := s₀) (x := x) ?_ ?_; rotate_left; clear_value x; rotate_left; subst x) | (intro x; subst x)
    | intro _ | lift_lets | assumption | apply State.reply_kept | apply State.emit_kept
    | fail_if_no_progress (apply Kept.lit; rotate_left; with_unfolding_all rfl; with_unfolding_all rfl)

theorem State.sendNotify_kept (s : State) (acked : Bool) (hk : Kept ⟨wd, wr, wu⟩ s₀ s) : Kept ⟨wd, wr, wu⟩ s₀ (State.sendNotify s acked) := by
  unfold State.sendNotify
  with_reducible repeat' first
    | (intro x; refine Kept.gen (w := ⟨wd, wr, wu⟩) (s₀ := s₀) (x := x) ?_ ?_; rotate_left; clear_value x; rotate_left; subst x) | (intro x; subst x)
    | intro _ | lift_lets | assumption | apply State.emit_kept | apply Kept.ite
    | fail_if_no_progress (apply Kept.lit; rotate_left; with_unfolding_all rfl; with_unfolding_all rfl)

theorem State.nextFrame_kept (s : State) (down : Bool) (hk : Kept ⟨wd, wr, wu⟩ s₀ s) : Kept ⟨wd, wr, wu⟩ s₀ (State.nextFrame s down) := by
  unfold State.nextFrame
  with_reducible repeat' first
    | (intro x; refine Kept.gen (w := ⟨wd, wr, wu⟩) (s₀ := s₀) (x := x) ?_ ?_; rotate_left; clear_value x; rotate_left; subst x) | (intro x; subst x)
    | intro _ | lift_lets | assumption | apply State.emit_kept | apply State.relayOn_kept | apply Kept.ite
    | fail_if_no_progress (apply Kept.lit; rotate_left; with_unfolding_all rfl; with_unfolding_all rfl) | split

theorem State.repeatFrame_kept (s : State) (down : Bool) (hk : Kept ⟨wd, wr, wu⟩ s₀ s) : Kept ⟨wd, wr, wu⟩ s₀ (State.repeatFrame s down) := by
  unfold State.repeatFrame
  with_reducible repeat' first
    | (intro x; refine Kept.gen (w := ⟨wd, wr, wu⟩) (s₀ := s₀) (x := x) ?_ ?_; rotate_left; clear_value x; rotate_left; subst x) | (intro x; subst x)
    | intro _ | lift_lets | assumption | apply State.count_kept | apply State.emit_kept | apply State.nextFrame_kept
    | apply Kept.ite | fail_if_no_progress (apply Kept.lit; rotate_left; with_unfolding_all rfl; with_unfolding_all rfl) | split

theorem State.chainDiscard_kept (s : State) (hk : Kept ⟨wd, wr, wu⟩ s₀ s) : Kept ⟨wd, wr, wu⟩ s₀ (State.chainDiscard s) := by
  unfold State.chainDiscard
  with_reducible repeat' first
    | assumption | apply State.count_kept | apply State.record_kept

theorem State.chainFromUp_kept (s : State) (b : Bytes) (hk : Kept ⟨true, true, true⟩ s₀ s) : Kept ⟨true, true, true⟩ s₀ (State.chainFromUp s b) := by
  unfold State.chainFromUp
  with_reducible repeat' first
    | (intro x; refine Kept.gen (w := ⟨true, true, true⟩) (s₀ := s₀) (x := x) ?_ ?_; rotate_left; clear_value x; rotate_left; subst x) | (intro x; subst x)
    | intro _ | lift_lets | assumption | apply State.chainDiscard_kept | apply State.chainSend_kept | apply State.runPacket_kept
    | apply Kept.ite

theorem State.chainFromDown_kept (s : State) (b : Bytes) (hk : Kept ⟨wd, wr, wu⟩ s₀ s) : Kept ⟨wd, wr, wu⟩ s₀ (State.chainFromDown s b) := by
  unfold State.chainFromDown
  with_reducible repeat' first
    | assumption | apply State.chainDiscard_kept | apply State.endChainSend_kept | apply State.done_kept
    | apply State.chainSend_kept | apply Kept.ite

end Sys2Proof.Machine
end

