-- ==== Sys2Proof/Laws/KeptRows.lean ====
section
/-! SUPPORT. Every row answers a next state, and what it keeps. -/

namespace Sys2Proof.Machine

open Host

set_option linter.unusedTactic false
set_option linter.unreachableTactic false

variable {s₀ : State} {wd wr wu : Bool}

theorem State.idle_answers (s : State) (hk : Kept ⟨wd, wr, wu⟩ s₀ s) : Answers ⟨wd, wr, wu⟩ s₀ (State.idle s) := by
  unfold State.idle
  with_reducible repeat' first
    | intro _ | assumption | apply Answers.next | apply Answers.idle | apply Answers.ite | apply Kept.ite

theorem State.ringProgram_answers (s : State) (allowed : Nat → Bool) (k : Nat → Nat → State → Res) (hk : Kept ⟨wd, wr, wu⟩ s₀ s)
    (hg : ∀ fa fb s, Kept ⟨wd, wr, wu⟩ s₀ s → Answers ⟨wd, wr, wu⟩ s₀ (k fa fb s)) : Answers ⟨wd, wr, wu⟩ s₀ (State.ringProgram s allowed k) := by
  unfold State.ringProgram
  split
  · exact .idle hk
  · exact hg _ _ _ (State.repeatPassed_kept _ hk)

theorem State.indexProgram_answers (s : State) (n : Nat) (k : List Nat → State → Res) (hk : Kept ⟨wd, wr, wu⟩ s₀ s)
    (hg : ∀ fas s, Kept ⟨wd, wr, wu⟩ s₀ s → Answers ⟨wd, wr, wu⟩ s₀ (k fas s)) : Answers ⟨wd, wr, wu⟩ s₀ (State.indexProgram s n k) := by
  unfold State.indexProgram
  split
  · exact .idle hk
  · exact hg _ _ (State.repeatPassed_kept _ hk)

theorem execWaitingWriteAdmitted_answers (s : State) (hk : Kept ⟨true, wr, wu⟩ s₀ s) : Answers ⟨true, wr, wu⟩ s₀ (execWaitingWriteAdmitted s) := by
  unfold execWaitingWriteAdmitted
  with_reducible repeat' first
    | intro _ | assumption | apply Answers.next | apply Answers.idle | apply Answers.ite | apply State.idle_answers
    | apply State.admitWaiter_kept | apply State.settle_kept | apply Kept.ite
    | fail_if_no_progress (apply Kept.lit; rotate_left; with_unfolding_all rfl; with_unfolding_all rfl) | split

theorem execAdmissionTimeout_answers (s : State) (hk : Kept ⟨true, wr, wu⟩ s₀ s) : Answers ⟨true, wr, wu⟩ s₀ (execAdmissionTimeout s) := by
  unfold execAdmissionTimeout
  with_reducible repeat' first
    | (intro x; refine Kept.gen (w := ⟨true, wr, wu⟩) (s₀ := s₀) (x := x) ?_ ?_; rotate_left; clear_value x; rotate_left; subst x) | (intro x; subst x)
    | intro _ | lift_lets | assumption | apply Answers.next | apply Answers.idle | apply Answers.ite | apply State.count_kept
    | apply State.record_kept | apply State.admitWaiter_kept | apply State.settle_kept | apply Kept.ite | split

theorem execCopyBeforeWriteDone_answers (page : Nat) (errors : LineErrors) (s : State) (hk : Kept ⟨true, wr, wu⟩ s₀ s) :
    Answers ⟨true, wr, wu⟩ s₀ (execCopyBeforeWriteDone page errors s) := by
  unfold execCopyBeforeWriteDone
  with_reducible repeat' first
    | (intro x; refine Kept.gen (w := ⟨true, wr, wu⟩) (s₀ := s₀) (x := x) ?_ ?_; rotate_left; clear_value x; rotate_left; subst x) | (intro x; subst x)
    | intro _ | lift_lets | assumption | apply Answers.next | apply Answers.idle | apply Answers.ite | apply State.idle_answers
    | apply State.readErrors_kept | apply State.uncorrectable_kept | apply State.accessPage_kept | apply State.cleanPage_kept
    | apply State.put_kept | apply State.raiseFree_kept | apply State.performAt_kept | apply State.settle_kept | apply Kept.ite
    | fail_if_no_progress (apply Kept.lit; rotate_left; with_unfolding_all rfl; with_unfolding_all rfl) | split

theorem execDirectPersistDone_answers (page : Nat) (fa : Nat) (errors : LineErrors) (s : State) (hk : Kept ⟨true, wr, wu⟩ s₀ s) :
    Answers ⟨true, wr, wu⟩ s₀ (execDirectPersistDone page fa errors s) := by
  unfold execDirectPersistDone
  with_reducible repeat' first
    | (intro x; refine Kept.gen (w := ⟨true, wr, wu⟩) (s₀ := s₀) (x := x) ?_ ?_; rotate_left; clear_value x; rotate_left; subst x) | (intro x; subst x)
    | intro _ | lift_lets | assumption | apply Answers.next | apply Answers.idle | apply Answers.ite | apply State.idle_answers
    | apply State.refuseOrder_kept | apply State.readErrors_kept | apply State.uncorrectable_kept | apply State.accessPage_kept
    | apply State.newLsn_kept | apply State.putRecord_kept | apply State.openAt_kept | apply State.joinEpoch_kept
    | apply State.chargeWear_kept | apply State.allowOne_kept | apply State.raiseFree_kept | apply State.performAt_kept
    | apply State.settle_kept | apply Kept.ite
    | fail_if_no_progress (apply Kept.lit; rotate_left; with_unfolding_all rfl; with_unfolding_all rfl)

theorem execCarafeWaitExpired_answers (s : State) (hk : Kept ⟨true, wr, wu⟩ s₀ s) : Answers ⟨true, wr, wu⟩ s₀ (execCarafeWaitExpired s) := by
  unfold execCarafeWaitExpired
  with_reducible repeat' first
    | intro _ | assumption | apply Answers.next | apply Answers.idle | apply Answers.ite | apply State.abandonNow_kept
    | apply Kept.ite

theorem execTrackUe_answers (word : Nat) (s : State) (hk : Kept ⟨true, wr, wu⟩ s₀ s) : Answers ⟨true, wr, wu⟩ s₀ (execTrackUe word s) := by
  unfold execTrackUe
  with_reducible repeat' first
    | (intro x; refine Kept.gen (w := ⟨true, wr, wu⟩) (s₀ := s₀) (x := x) ?_ ?_; rotate_left; clear_value x; rotate_left; subst x) | (intro x; subst x)
    | intro _ | lift_lets | assumption | apply Answers.next | apply Answers.idle | apply Answers.ite | apply State.idle_answers
    | apply State.strike_kept | apply State.abandonCopies_kept | apply State.count_kept | apply State.record_kept
    | apply State.takeDeferred_kept | apply State.settle_kept | apply Kept.ite | apply Kept.fold
    | fail_if_no_progress (apply Kept.lit; rotate_left; with_unfolding_all rfl; with_unfolding_all rfl)

theorem execMaskUe_answers (line : Nat) (s : State) (hk : Kept ⟨true, wr, wu⟩ s₀ s) : Answers ⟨true, wr, wu⟩ s₀ (execMaskUe line s) := by
  unfold execMaskUe
  with_reducible repeat' first
    | (intro x; refine Kept.gen (w := ⟨true, wr, wu⟩) (s₀ := s₀) (x := x) ?_ ?_; rotate_left; clear_value x; rotate_left; subst x) | (intro x; subst x)
    | intro _ | lift_lets | assumption | apply Answers.next | apply Answers.idle | apply Answers.ite | apply State.idle_answers
    | apply State.strike_kept | apply State.count_kept | apply State.record_kept | apply State.settle_kept | apply Kept.ite
    | apply Kept.fold | fail_if_no_progress (apply Kept.lit; rotate_left; with_unfolding_all rfl; with_unfolding_all rfl)

theorem execDripPageRead_answers (fa : Nat) (errors : LineErrors) (s : State) (hk : Kept ⟨true, wr, wu⟩ s₀ s) :
    Answers ⟨true, wr, wu⟩ s₀ (execDripPageRead fa errors s) := by
  unfold execDripPageRead
  with_reducible repeat' first
    | (intro x; refine Kept.gen (w := ⟨true, wr, wu⟩) (s₀ := s₀) (x := x) ?_ ?_; rotate_left; clear_value x; rotate_left; subst x) | (intro x; subst x)
    | intro _ | lift_lets | assumption | apply Answers.next | apply Answers.idle | apply Answers.ite | apply State.idle_answers
    | apply State.refuseOrder_kept | apply State.readForProgram_kept | apply State.uncorrectable_kept | apply State.newLsn_kept
    | apply State.openAt_kept | apply Kept.ite
    | fail_if_no_progress (apply Kept.lit; rotate_left; with_unfolding_all rfl; with_unfolding_all rfl) | split

theorem execDripProgramPass_answers (page : Nat) (s : State) (hk : Kept ⟨true, wr, wu⟩ s₀ s) :
    Answers ⟨true, wr, wu⟩ s₀ (execDripProgramPass page s) := by
  unfold execDripProgramPass
  with_reducible repeat' first
    | (intro x; refine Kept.gen (w := ⟨true, wr, wu⟩) (s₀ := s₀) (x := x) ?_ ?_; rotate_left; clear_value x; rotate_left; subst x) | (intro x; subst x)
    | intro _ | lift_lets | assumption | apply Answers.next | apply Answers.idle | apply Answers.ite | apply State.idle_answers
    | apply State.dripPassed_kept | apply State.savedPage_kept | apply State.chargeWear_kept | apply State.allowOne_kept
    | apply State.settle_kept | apply Kept.ite | split

theorem execWearCreditWrite_answers (s : State) (hk : Kept ⟨wd, wr, wu⟩ s₀ s) : Answers ⟨wd, wr, wu⟩ s₀ (execWearCreditWrite s) := by
  unfold execWearCreditWrite
  with_reducible repeat' first
    | (intro x; refine Kept.gen (w := ⟨wd, wr, wu⟩) (s₀ := s₀) (x := x) ?_ ?_; rotate_left; clear_value x; rotate_left; subst x) | (intro x; subst x)
    | intro _ | lift_lets | assumption | apply Answers.next | apply Answers.idle | apply Answers.ite | apply State.idle_answers
    | apply State.fillWear_kept | apply State.showWear_kept | apply State.writeLearned_kept | apply Kept.ite
    | fail_if_no_progress (apply Kept.lit; rotate_left; with_unfolding_all rfl; with_unfolding_all rfl)

theorem execBoundaryDue_answers (s : State) (hk : Kept ⟨true, wr, wu⟩ s₀ s) : Answers ⟨true, wr, wu⟩ s₀ (execBoundaryDue s) := by
  unfold execBoundaryDue
  with_reducible repeat' first
    | intro _ | assumption | apply Answers.next | apply Answers.idle | apply Answers.ite | apply State.boundaryDue_kept
    | apply State.settle_kept | apply State.idle_answers | apply Kept.ite

theorem execSealRecordPassed_answers (s : State) (hk : Kept ⟨wd, wr, wu⟩ s₀ s) : Answers ⟨wd, wr, wu⟩ s₀ (execSealRecordPassed s) := by
  unfold execSealRecordPassed
  with_reducible repeat' first
    | (intro x; refine Kept.gen (w := ⟨wd, wr, wu⟩) (s₀ := s₀) (x := x) ?_ ?_; rotate_left; clear_value x; rotate_left; subst x) | (intro x; subst x)
    | intro _ | lift_lets | assumption | apply Answers.next | apply Answers.idle | apply Answers.ite
    | apply State.ringProgram_answers | apply State.addSeal_kept | apply State.chargeWear_kept | apply State.advanceSeal_kept
    | apply State.idle_answers | apply Kept.ite
    | fail_if_no_progress (apply Kept.lit; rotate_left; with_unfolding_all rfl; with_unfolding_all rfl)

theorem execIndexSegmentPassed_answers (s : State) (hk : Kept ⟨wd, wr, wu⟩ s₀ s) : Answers ⟨wd, wr, wu⟩ s₀ (execIndexSegmentPassed s) := by
  unfold execIndexSegmentPassed
  with_reducible repeat' first
    | (intro x; refine Kept.gen (w := ⟨wd, wr, wu⟩) (s₀ := s₀) (x := x) ?_ ?_; rotate_left; clear_value x; rotate_left; subst x) | (intro x; subst x)
    | intro _ | lift_lets | assumption | apply Answers.next | apply Answers.idle | apply Answers.ite
    | apply State.indexProgram_answers | apply State.putSegment_kept | apply State.idle_answers | apply Kept.ite
    | fail_if_no_progress (apply Kept.lit; rotate_left; with_unfolding_all rfl; with_unfolding_all rfl)

theorem execEpochDurable_answers (s : State) (hk : Kept ⟨true, wr, wu⟩ s₀ s) : Answers ⟨true, wr, wu⟩ s₀ (execEpochDurable s) := by
  unfold execEpochDurable
  with_reducible repeat' first
    | (intro x; refine Kept.gen (w := ⟨true, wr, wu⟩) (s₀ := s₀) (x := x) ?_ ?_; rotate_left; clear_value x; rotate_left; subst x) | (intro x; subst x)
    | intro _ | lift_lets | assumption | apply Answers.next | apply Answers.idle | apply Answers.ite
    | apply State.ringProgram_answers | apply State.sealDurable_kept | apply State.chargeWear_kept
    | apply State.completeBarriers_kept | apply State.freeSanitized_kept | apply State.takeDeferred_kept
    | apply State.settle_kept | apply State.idle_answers | apply Kept.ite

theorem execBeaconFrame_answers (number : BitVec 48) (crc : BitVec 8) (valid : Bool) (inWindow : Bool) (s : State) (hk : Kept ⟨wd, wr, wu⟩ s₀ s) :
    Answers ⟨wd, wr, wu⟩ s₀ (execBeaconFrame number crc valid inWindow s) := by
  unfold execBeaconFrame
  with_reducible repeat' first
    | (intro x; refine Kept.gen (w := ⟨wd, wr, wu⟩) (s₀ := s₀) (x := x) ?_ ?_; rotate_left; clear_value x; rotate_left; subst x) | (intro x; subst x)
    | intro _ | lift_lets | assumption | apply Answers.next | apply Answers.idle | apply Answers.ite | apply State.idle_answers
    | apply State.beaconEdge_kept | apply State.emit_kept | apply State.count_kept | apply State.validFrame_kept
    | apply Kept.ite

theorem execBeaconWindowMiss_answers (s : State) (hk : Kept ⟨true, wr, wu⟩ s₀ s) : Answers ⟨true, wr, wu⟩ s₀ (execBeaconWindowMiss s) := by
  unfold execBeaconWindowMiss
  with_reducible repeat' first
    | (intro x; refine Kept.gen (w := ⟨true, wr, wu⟩) (s₀ := s₀) (x := x) ?_ ?_; rotate_left; clear_value x; rotate_left; subst x) | (intro x; subst x)
    | intro _ | lift_lets | assumption | apply Answers.next | apply Answers.idle | apply Answers.ite | apply State.idle_answers
    | apply State.count_kept | apply State.renumber_kept | apply State.put_kept | apply State.unlock_kept
    | apply State.record_kept | apply State.boundaryDue_kept | apply State.settle_kept | apply Kept.ite
    | fail_if_no_progress (apply Kept.lit; rotate_left; with_unfolding_all rfl; with_unfolding_all rfl)

theorem execBeaconSourceFrame_answers (s : State) (hk : Kept ⟨wd, wr, wu⟩ s₀ s) : Answers ⟨wd, wr, wu⟩ s₀ (execBeaconSourceFrame s) := by
  unfold execBeaconSourceFrame
  with_reducible repeat' first
    | (intro x; refine Kept.gen (w := ⟨wd, wr, wu⟩) (s₀ := s₀) (x := x) ?_ ?_; rotate_left; clear_value x; rotate_left; subst x) | (intro x; subst x)
    | intro _ | lift_lets | assumption | apply Answers.next | apply Answers.idle | apply Answers.ite | apply State.idle_answers
    | apply State.put_kept | apply State.emit_kept | apply State.validFrame_kept | apply Kept.ite
    | fail_if_no_progress (apply Kept.lit; rotate_left; with_unfolding_all rfl; with_unfolding_all rfl)

theorem execBeaconAcceptedBoundary_answers (s : State) (hk : Kept ⟨true, wr, wu⟩ s₀ s) :
    Answers ⟨true, wr, wu⟩ s₀ (execBeaconAcceptedBoundary s) := by
  unfold execBeaconAcceptedBoundary
  with_reducible repeat' first
    | (intro x; refine Kept.gen (w := ⟨true, wr, wu⟩) (s₀ := s₀) (x := x) ?_ ?_; rotate_left; clear_value x; rotate_left; subst x) | (intro x; subst x)
    | intro _ | lift_lets | assumption | apply Answers.next | apply Answers.idle | apply Answers.ite | apply State.idle_answers
    | apply State.boundary_kept | apply State.settle_kept | apply State.count_kept | apply State.renumber_kept | apply Kept.ite
    | fail_if_no_progress (apply Kept.lit; rotate_left; with_unfolding_all rfl; with_unfolding_all rfl) | split

theorem execSanitizeFillPage_answers (ext : Nat) (s : State) (hk : Kept ⟨true, wr, wu⟩ s₀ s) :
    Answers ⟨true, wr, wu⟩ s₀ (execSanitizeFillPage ext s) := by
  unfold execSanitizeFillPage
  with_reducible repeat' first
    | (intro x; refine Kept.gen (w := ⟨true, wr, wu⟩) (s₀ := s₀) (x := x) ?_ ?_; rotate_left; clear_value x; rotate_left; subst x) | (intro x; subst x)
    | intro _ | lift_lets | assumption | apply Answers.next | apply Answers.idle | apply Answers.ite | apply State.idle_answers
    | apply State.count_kept | apply State.classifyPage_kept | apply State.accessPage_kept | apply State.putPage_kept
    | apply State.settle_kept | apply Kept.ite
    | fail_if_no_progress (apply Kept.lit; rotate_left; with_unfolding_all rfl; with_unfolding_all rfl) | split

theorem execHostWrite_answers (h : Fin 4) (ld : Fin 16) (lpa : Nat) (data : Bytes) (poison : Bool) (s : State) (hk :
    Kept ⟨true, wr, wu⟩ s₀ s) : Answers ⟨true, wr, wu⟩ s₀ (execHostWrite h ld lpa data poison s) := by
  unfold execHostWrite
  with_reducible repeat' first
    | (intro x; refine Kept.gen (w := ⟨true, wr, wu⟩) (s₀ := s₀) (x := x) ?_ ?_; rotate_left; clear_value x; rotate_left; subst x) | (intro x; subst x)
    | intro _ | lift_lets | assumption | apply Answers.next | apply Answers.idle | apply Answers.ite | apply State.wait_kept
    | apply State.serveWrite_kept | apply Kept.ite | split | exact State.newReq_kept _ _ _ _ _ _ _ hk

theorem execHostRead_answers (h : Fin 4) (ld : Fin 16) (lpa : Nat) (found : LineRead) (s : State) (hk : Kept ⟨true, wr, wu⟩ s₀ s) :
    Answers ⟨true, wr, wu⟩ s₀ (execHostRead h ld lpa found s) := by
  unfold execHostRead
  with_reducible repeat' first
    | (intro x; refine Kept.gen (w := ⟨true, wr, wu⟩) (s₀ := s₀) (x := x) ?_ ?_; rotate_left; clear_value x; rotate_left; subst x) | (intro x; subst x)
    | intro _ | lift_lets | assumption | apply Answers.next | apply Answers.idle | apply Answers.ite | apply State.idle_answers
    | apply State.newReq_kept | apply State.wait_kept | apply State.serveRead_kept | apply Kept.ite

theorem execRsvSample_answers (mv : Nat) (ma tenthC : Int) (idCode : Nat) (s : State) (hk : Kept ⟨true, wr, wu⟩ s₀ s) :
    Answers ⟨true, wr, wu⟩ s₀ (execRsvSample mv ma tenthC idCode s) := by
  unfold execRsvSample
  with_reducible repeat' first
    | (intro x; refine Kept.gen (w := ⟨true, wr, wu⟩) (s₀ := s₀) (x := x) ?_ ?_; rotate_left; clear_value x; rotate_left; subst x) | (intro x; subst x)
    | intro _ | lift_lets | assumption | apply Answers.next | apply Answers.idle | apply Answers.ite | apply State.idle_answers
    | apply State.takeSample_kept | apply State.detectPack_kept | apply State.losePack_kept | apply State.put_kept
    | apply State.stepCharger_kept | apply State.showReserveOk_kept | apply State.settle_kept | apply Kept.ite
    | fail_if_no_progress (apply Kept.lit; rotate_left; with_unfolding_all rfl; with_unfolding_all rfl)

theorem execKeeperReserveEval_answers (s : State) (hk : Kept ⟨true, wr, wu⟩ s₀ s) : Answers ⟨true, wr, wu⟩ s₀ (execKeeperReserveEval s) := by
  unfold execKeeperReserveEval
  with_reducible repeat' first
    | (intro x; refine Kept.gen (w := ⟨true, wr, wu⟩) (s₀ := s₀) (x := x) ?_ ?_; rotate_left; clear_value x; rotate_left; subst x) | (intro x; subst x)
    | intro _ | lift_lets | assumption | apply Answers.next | apply Answers.idle | apply Answers.ite | apply State.idle_answers
    | apply State.secondPasses_kept | apply State.showReserveOk_kept | apply State.takeFigure_kept | apply State.judgeRest_kept
    | apply State.settle_kept | apply Kept.ite
    | fail_if_no_progress (apply Kept.lit; rotate_left; with_unfolding_all rfl; with_unfolding_all rfl)

theorem execDsgCutoff_answers (s : State) (hk : Kept ⟨wd, wr, wu⟩ s₀ s) : Answers ⟨wd, wr, wu⟩ s₀ (execDsgCutoff s) := by
  unfold execDsgCutoff
  with_reducible repeat' first
    | assumption | apply Answers.next | apply Answers.idle | apply Answers.ite | apply State.put_kept
    | apply State.showReserveOk_kept | apply Kept.ite

theorem execChargeEnd_answers (s : State) (hk : Kept ⟨wd, wr, wu⟩ s₀ s) : Answers ⟨wd, wr, wu⟩ s₀ (execChargeEnd s) := by
  unfold execChargeEnd
  with_reducible repeat' first
    | assumption | apply Answers.next | apply Answers.idle | apply Answers.ite | apply State.putAll_kept | apply State.record_kept
    | apply Kept.ite

theorem execRechargeStart_answers (s : State) (hk : Kept ⟨wd, wr, wu⟩ s₀ s) : Answers ⟨wd, wr, wu⟩ s₀ (execRechargeStart s) := by
  unfold execRechargeStart
  with_reducible repeat' first
    | assumption | apply Answers.next | apply Answers.idle | apply Answers.ite | apply State.startCharge_kept | apply Kept.ite

theorem execChgFault_answers (cause : Fin 5) (s : State) (hk : Kept ⟨wd, wr, wu⟩ s₀ s) : Answers ⟨wd, wr, wu⟩ s₀ (execChgFault cause s) := by
  unfold execChgFault
  with_reducible repeat' first
    | (intro x; refine Kept.gen (w := ⟨wd, wr, wu⟩) (s₀ := s₀) (x := x) ?_ ?_; rotate_left; clear_value x; rotate_left; subst x) | (intro x; subst x)
    | intro _ | lift_lets | assumption | apply Answers.next | apply Answers.idle | apply Answers.ite | apply State.idle_answers
    | apply State.putAll_kept | apply State.record_kept | apply State.strike_kept | apply Kept.ite | split

theorem execChgFaultRetry_answers (s : State) (hk : Kept ⟨wd, wr, wu⟩ s₀ s) : Answers ⟨wd, wr, wu⟩ s₀ (execChgFaultRetry s) := by
  unfold execChgFaultRetry
  with_reducible repeat' first
    | (intro x; refine Kept.gen (w := ⟨wd, wr, wu⟩) (s₀ := s₀) (x := x) ?_ ?_; rotate_left; clear_value x; rotate_left; subst x) | (intro x; subst x)
    | intro _ | lift_lets | assumption | apply Answers.next | apply Answers.idle | apply Answers.ite | apply State.count_kept
    | apply State.put_kept | apply State.startCharge_kept | apply State.pauseCharge_kept | apply Kept.ite

theorem execRestPoint_answers (mv : Nat) (s : State) (hk : Kept ⟨wd, wr, wu⟩ s₀ s) : Answers ⟨wd, wr, wu⟩ s₀ (execRestPoint mv s) := by
  unfold execRestPoint
  with_reducible repeat' first
    | (intro x; refine Kept.gen (w := ⟨wd, wr, wu⟩) (s₀ := s₀) (x := x) ?_ ?_; rotate_left; clear_value x; rotate_left; subst x) | (intro x; subst x)
    | intro _ | lift_lets | assumption | apply Answers.next | apply Answers.idle | apply Answers.ite | apply State.putAll_kept
    | apply State.record_kept | apply State.writeLearned_kept | apply State.endRest_kept | apply Kept.ite
    | fail_if_no_progress (apply Kept.lit; rotate_left; with_unfolding_all rfl; with_unfolding_all rfl)

theorem execMaintenanceRestTimeout_answers (s : State) (hk : Kept ⟨wd, wr, wu⟩ s₀ s) : Answers ⟨wd, wr, wu⟩ s₀ (execMaintenanceRestTimeout s) := by
  unfold execMaintenanceRestTimeout
  with_reducible repeat' first
    | assumption | apply Answers.next | apply Answers.idle | apply Answers.ite | apply State.endRest_kept | apply Kept.ite

theorem execStepResistanceSample_answers (r25 : Nat) (s : State) (hk :
    Kept ⟨wd, wr, wu⟩ s₀ s) : Answers ⟨wd, wr, wu⟩ s₀ (execStepResistanceSample r25 s) := by
  unfold execStepResistanceSample
  with_reducible repeat' first
    | (intro x; refine Kept.gen (w := ⟨wd, wr, wu⟩) (s₀ := s₀) (x := x) ?_ ?_; rotate_left; clear_value x; rotate_left; subst x) | (intro x; subst x)
    | intro _ | lift_lets | assumption | apply Answers.next | apply Answers.idle | apply Answers.ite | apply State.put_kept
    | apply Kept.ite

theorem execLanternAdcCycle_answers (packId packNtc packV _vsup : BitVec 12) (s : State) (hk : Kept ⟨wd, wr, wu⟩ s₀ s) :
    Answers ⟨wd, wr, wu⟩ s₀ (execLanternAdcCycle packId packNtc packV _vsup s) := by
  unfold execLanternAdcCycle
  with_reducible repeat' first
    | (intro x; refine Kept.gen (w := ⟨wd, wr, wu⟩) (s₀ := s₀) (x := x) ?_ ?_; rotate_left; clear_value x; rotate_left; subst x) | (intro x; subst x)
    | intro _ | lift_lets | assumption | apply Answers.next | apply Answers.idle | apply Answers.ite | apply State.idle_answers
    | apply State.put_kept | apply State.count_kept | apply State.emit_kept | apply Kept.ite | split

theorem execArming_answers (s : State) (hk : Kept ⟨true, wr, wu⟩ s₀ s) : Answers ⟨true, wr, wu⟩ s₀ (execArming s) := by
  unfold execArming
  refine .ite ?_ (.idle hk)
  split
  · exact .next (State.tryArm_kept s hk (by assumption))
  · exact .idle hk

theorem State.guard_answers {s : State} {req : Req} {v : Vis} {go : State → State} (hk : Kept ⟨wd, wr, wu⟩ s₀ s)
    (hg : ∀ s, Kept ⟨wd, wr, wu⟩ s₀ s → Kept ⟨wd, wr, wu⟩ s₀ (go s)) : Answers ⟨wd, wr, wu⟩ s₀ (s.guard req v go) := by
  unfold State.guard
  exact .ite (.idle hk) (.ite (.next (hg _ hk)) (.next (State.accessDenied_kept _ hk)))

theorem execDmaStart_answers (req : Req) (ch : Fin 16) (s : State) (hk : Kept ⟨wd, wr, wu⟩ s₀ s) : Answers ⟨wd, wr, wu⟩ s₀ (execDmaStart req ch s) := by
  unfold execDmaStart
  with_reducible repeat' first
    | intro _ | assumption | apply Answers.next | apply State.guard_answers | apply State.dmaOp_kept

theorem execDmaPause_answers (req : Req) (ch : Fin 16) (s : State) (hk : Kept ⟨wd, wr, wu⟩ s₀ s) : Answers ⟨wd, wr, wu⟩ s₀ (execDmaPause req ch s) := by
  unfold execDmaPause
  with_reducible repeat' first
    | intro _ | assumption | apply Answers.next | apply State.guard_answers | apply State.dmaOp_kept

theorem execDmaResume_answers (req : Req) (ch : Fin 16) (s : State) (hk : Kept ⟨wd, wr, wu⟩ s₀ s) : Answers ⟨wd, wr, wu⟩ s₀ (execDmaResume req ch s) := by
  unfold execDmaResume
  with_reducible repeat' first
    | intro _ | assumption | apply Answers.next | apply State.guard_answers | apply State.dmaOp_kept

theorem execDmaDrain_answers (req : Req) (ch : Fin 16) (s : State) (hk : Kept ⟨wd, wr, wu⟩ s₀ s) : Answers ⟨wd, wr, wu⟩ s₀ (execDmaDrain req ch s) := by
  unfold execDmaDrain
  with_reducible repeat' first
    | intro _ | assumption | apply Answers.next | apply State.guard_answers | apply State.dmaOp_kept

theorem execDmaHalt_answers (req : Req) (ch : Fin 16) (s : State) (hk : Kept ⟨wd, wr, wu⟩ s₀ s) : Answers ⟨wd, wr, wu⟩ s₀ (execDmaHalt req ch s) := by
  unfold execDmaHalt
  with_reducible repeat' first
    | intro _ | assumption | apply Answers.next | apply State.guard_answers | apply State.dmaOp_kept

theorem execDmaSwreq_answers (req : Req) (lines : BitVec 32) (s : State) (hk :
    Kept ⟨wd, wr, wu⟩ s₀ s) : Answers ⟨wd, wr, wu⟩ s₀ (execDmaSwreq req lines s) := by
  unfold execDmaSwreq
  with_reducible repeat' first
    | intro _ | assumption | apply Answers.next | apply State.guard_answers | apply State.dmaRequest_kept

theorem execFwReadySignal_answers (s : State) (hk : Kept ⟨wd, wr, wu⟩ s₀ s) : Answers ⟨wd, wr, wu⟩ s₀ (execFwReadySignal s) := by
  unfold execFwReadySignal
  with_reducible repeat' first
    | (intro x; refine Kept.gen (w := ⟨wd, wr, wu⟩) (s₀ := s₀) (x := x) ?_ ?_; rotate_left; clear_value x; rotate_left; subst x) | (intro x; subst x)
    | intro _ | lift_lets | assumption | apply Answers.next | apply Answers.idle | apply Answers.ite
    | apply State.released_kept | apply State.idle_answers | apply State.setReady_kept | apply State.record_kept
    | apply State.put_kept | apply Kept.ite
    | fail_if_no_progress (apply Kept.lit; rotate_left; with_unfolding_all rfl; with_unfolding_all rfl)

theorem execFwReadyTimeout_answers (s : State) (hk : Kept ⟨wd, wr, wu⟩ s₀ s) : Answers ⟨wd, wr, wu⟩ s₀ (execFwReadyTimeout s) := by
  unfold execFwReadyTimeout
  with_reducible repeat' first
    | assumption | apply Answers.next | apply Answers.idle | apply Answers.ite | apply State.released_kept
    | apply State.stopFw_kept | apply State.restartFw_kept | apply Kept.ite

theorem execFwWatchdogExpired_answers (s : State) (hk : Kept ⟨wd, wr, wu⟩ s₀ s) : Answers ⟨wd, wr, wu⟩ s₀ (execFwWatchdogExpired s) := by
  unfold execFwWatchdogExpired
  with_reducible repeat' first
    | assumption | apply Answers.next | apply Answers.idle | apply Answers.ite | apply State.stopFw_kept
    | apply State.restartFw_kept | apply Kept.ite

theorem execFwCrash_answers (s : State) (hk : Kept ⟨wd, wr, wu⟩ s₀ s) : Answers ⟨wd, wr, wu⟩ s₀ (execFwCrash s) := by
  unfold execFwCrash
  with_reducible repeat' first
    | assumption | apply Answers.next | apply Answers.idle | apply Answers.ite | apply State.stopFw_kept
    | apply State.restartFw_kept | apply Kept.ite

theorem execCpxWdtKick_answers (req : Req) (_value : Word) (s : State) (hk : Kept ⟨wd, wr, wu⟩ s₀ s) :
    Answers ⟨wd, wr, wu⟩ s₀ (execCpxWdtKick req _value s) := State.guard_answers hk fun _ h => h

theorem execGpfPhase1_answers (h : Fin 4) (s : State) (hk : Kept ⟨true, wr, wu⟩ s₀ s) : Answers ⟨true, wr, wu⟩ s₀ (execGpfPhase1 h s) := by
  unfold execGpfPhase1
  with_reducible repeat' first
    | (intro x; refine Kept.gen (w := ⟨true, wr, wu⟩) (s₀ := s₀) (x := x) ?_ ?_; rotate_left; clear_value x; rotate_left; subst x) | (intro x; subst x)
    | intro _ | lift_lets | assumption | apply Answers.next | apply Answers.idle | apply Answers.ite | apply State.idle_answers
    | apply State.emit_kept | apply State.foghorn_kept | apply State.put_kept | apply Kept.ite

theorem execGpfPhase2_answers (h : Fin 4) (s : State) (hk : Kept ⟨wd, wr, wu⟩ s₀ s) : Answers ⟨wd, wr, wu⟩ s₀ (execGpfPhase2 h s) := by
  unfold execGpfPhase2
  with_reducible repeat' first
    | (intro x; refine Kept.gen (w := ⟨wd, wr, wu⟩) (s₀ := s₀) (x := x) ?_ ?_; rotate_left; clear_value x; rotate_left; subst x) | (intro x; subst x)
    | intro _ | lift_lets | assumption | apply Answers.next | apply Answers.idle | apply Answers.ite | apply State.idle_answers
    | apply State.gpf2Check_kept | apply Kept.ite
    | fail_if_no_progress (apply Kept.lit; rotate_left; with_unfolding_all rfl; with_unfolding_all rfl)

theorem execGraceExpired_answers (s : State) (hk : Kept ⟨wd, wr, wu⟩ s₀ s) : Answers ⟨wd, wr, wu⟩ s₀ (execGraceExpired s) := by
  unfold execGraceExpired
  with_reducible repeat' first
    | assumption | apply Answers.next | apply Answers.idle | apply Answers.ite | apply State.cut_kept | apply Kept.ite

theorem execCuttingEnd_answers (s : State) (hk : Kept ⟨true, wr, wu⟩ s₀ s) : Answers ⟨true, wr, wu⟩ s₀ (execCuttingEnd s) := by
  unfold execCuttingEnd
  with_reducible repeat' first
    | (intro x; refine Kept.gen (w := ⟨true, wr, wu⟩) (s₀ := s₀) (x := x) ?_ ?_; rotate_left; clear_value x; rotate_left; subst x) | (intro x; subst x)
    | intro _ | lift_lets | assumption | apply Answers.next | apply Answers.idle | apply Answers.ite | apply State.idle_answers
    | apply State.enter_kept | apply State.putAll_kept | apply State.allLinksDown_kept | apply State.domainOff_kept
    | apply State.showFailedFc_kept | apply State.saveOn_kept | apply Kept.ite
    | fail_if_no_progress (apply Kept.lit; rotate_left; with_unfolding_all rfl; with_unfolding_all rfl)

theorem State.saveRing_answers (s : State) (k : Nat → Nat → State → State) (hk : Kept ⟨true, wr, wu⟩ s₀ s)
    (hg : ∀ fa fb s, Kept ⟨true, wr, wu⟩ s₀ s → Kept ⟨true, wr, wu⟩ s₀ (k fa fb s)) : Answers ⟨true, wr, wu⟩ s₀ (State.saveRing s k) := by
  unfold State.saveRing
  split
  · exact .next (State.stopForSpace_kept _ hk)
  · exact .next (State.saveOn_kept _ (hg _ _ _ (State.repeatPassed_kept _ hk)))

theorem State.saveIndex_answers (s : State) (n : Nat) (k : List Nat → State → State) (hk : Kept ⟨true, wr, wu⟩ s₀ s)
    (hg : ∀ fas s, Kept ⟨true, wr, wu⟩ s₀ s → Kept ⟨true, wr, wu⟩ s₀ (k fas s)) : Answers ⟨true, wr, wu⟩ s₀ (State.saveIndex s n k) := by
  unfold State.saveIndex
  split
  · exact .next (State.stopForSpace_kept _ hk)
  · exact .next (State.saveOn_kept _ (hg _ _ (State.repeatPassed_kept _ hk)))

theorem execSaveProgramPass_answers (item : SaveItem) (fa : Nat) (errors : LineErrors) (s : State) (hk : Kept ⟨true, wr, wu⟩ s₀ s) :
    Answers ⟨true, wr, wu⟩ s₀ (execSaveProgramPass item fa errors s) := by
  unfold execSaveProgramPass
  with_reducible repeat' first
    | (intro x; refine Kept.gen (w := ⟨true, wr, wu⟩) (s₀ := s₀) (x := x) ?_ ?_; rotate_left; clear_value x; rotate_left; subst x) | (intro x; subst x)
    | intro _ | lift_lets | assumption | apply Answers.next | apply Answers.idle | apply Answers.ite | apply State.idle_answers
    | apply State.saveRing_answers | apply State.saveOpened_kept | apply State.refuseOrder_kept | apply State.repeatPassed_kept
    | apply State.savePage_kept | apply State.saveOn_kept | apply State.sealRecordInSave_kept | apply State.saveIndex_answers
    | apply State.putSegment_kept | apply State.sealInSave_kept | apply State.mirrorSaved_kept | apply State.cutIndexed_kept
    | apply Kept.ite | fail_if_no_progress (apply Kept.lit; rotate_left; with_unfolding_all rfl; with_unfolding_all rfl)
    | split

theorem execSaveProgramFail_answers (item : SaveItem) (program : FailedProgram) (s : State) (hk : Kept ⟨true, wr, wu⟩ s₀ s) :
    Answers ⟨true, wr, wu⟩ s₀ (execSaveProgramFail item program s) := by
  unfold execSaveProgramFail
  with_reducible repeat' first
    | (intro x; refine Kept.gen (w := ⟨true, wr, wu⟩) (s₀ := s₀) (x := x) ?_ ?_; rotate_left; clear_value x; rotate_left; subst x) | (intro x; subst x)
    | intro _ | lift_lets | assumption | apply Answers.next | apply Answers.idle | apply Answers.ite | apply State.idle_answers
    | apply State.refuseOrder_kept | apply State.feedPage_kept | apply State.saveFailed_kept | apply State.feedHeld_kept
    | apply Kept.ite | fail_if_no_progress (apply Kept.lit; rotate_left; with_unfolding_all rfl; with_unfolding_all rfl)
    | split

theorem execRingRecordProgramFail_answers (fa : Nat) (s : State) (hk : Kept ⟨true, wr, wu⟩ s₀ s) :
    Answers ⟨true, wr, wu⟩ s₀ (execRingRecordProgramFail fa s) := by
  unfold execRingRecordProgramFail
  with_reducible repeat' first
    | intro _ | assumption | apply Answers.next | apply Answers.idle | apply Answers.ite | apply State.idle_answers
    | apply State.refuseOrder_kept | apply State.saveFailed_kept | apply State.keeperFailed_kept | apply Kept.ite

theorem execDripProgramFail_answers (page : Nat) (fa : Nat) (s : State) (hk : Kept ⟨wd, wr, wu⟩ s₀ s) :
    Answers ⟨wd, wr, wu⟩ s₀ (execDripProgramFail page fa s) := by
  unfold execDripProgramFail
  split
  · exact .idle hk
  · refine .ite (.next (State.stopForSpace_kept _ (State.programFailed_kept _ _ hk)))
      (.ite (.idle hk) (.ite (.next (State.refuseOrder_kept _ _ hk)) (.next (State.openAt_kept _ _ _ ?_))))
    refine .ite (State.useReserve_kept _ _ _ ?_) ?_
    all_goals exact (State.programFailed_kept _ _ hk).of rfl rfl rfl rfl

theorem execCutCommitPassed_answers (s : State) (hk : Kept ⟨wd, wr, wu⟩ s₀ s) : Answers ⟨wd, wr, wu⟩ s₀ (execCutCommitPassed s) := by
  unfold execCutCommitPassed
  with_reducible repeat' first
    | (intro x; refine Kept.gen (w := ⟨wd, wr, wu⟩) (s₀ := s₀) (x := x) ?_ ?_; rotate_left; clear_value x; rotate_left; subst x) | (intro x; subst x)
    | intro _ | lift_lets | assumption | apply Answers.next | apply Answers.idle | apply Answers.ite | apply State.idle_answers
    | apply State.stopForSpace_kept | apply State.ringProgram_answers | apply State.enter_kept | apply State.endPanic_kept
    | apply State.put_kept | apply State.showLastSave_kept | apply State.commitCut_kept | apply State.selfRefresh_kept
    | apply State.record_kept | apply State.writeLearned_kept | apply State.protectFlash_kept | apply State.afterSaved_kept
    | apply Kept.ite | apply Kept.each
    | fail_if_no_progress (apply Kept.lit; rotate_left; with_unfolding_all rfl; with_unfolding_all rfl)

theorem execKeeperRestartEnd_answers (ok : Bool) (s : State) (hk : Kept ⟨true, wr, wu⟩ s₀ s) :
    Answers ⟨true, wr, wu⟩ s₀ (execKeeperRestartEnd ok s) := by
  unfold execKeeperRestartEnd
  with_reducible repeat' first
    | (intro x; refine Kept.gen (w := ⟨true, wr, wu⟩) (s₀ := s₀) (x := x) ?_ ?_; rotate_left; clear_value x; rotate_left; subst x) | (intro x; subst x)
    | intro _ | lift_lets | assumption | apply Answers.next | apply Answers.idle | apply Answers.ite | apply State.idle_answers
    | apply State.recordDeferred_kept | apply State.record_kept | apply State.foghorn_kept | apply State.afterSaved_kept
    | apply State.resumeExit_kept | apply Kept.ite
    | fail_if_no_progress (apply Kept.lit; rotate_left; with_unfolding_all rfl; with_unfolding_all rfl)

theorem execVinValidQualified_answers (s : State) (hk : Kept ⟨wd, wr, wu⟩ s₀ s) : Answers ⟨wd, wr, wu⟩ s₀ (execVinValidQualified s) := by
  unfold execVinValidQualified
  with_reducible repeat' first
    | (intro x; refine Kept.gen (w := ⟨wd, wr, wu⟩) (s₀ := s₀) (x := x) ?_ ?_; rotate_left; clear_value x; rotate_left; subst x) | (intro x; subst x)
    | intro _ | lift_lets | assumption | apply Answers.next | apply Answers.idle | apply Answers.ite | apply State.afterSaved_kept
    | apply Kept.ite | fail_if_no_progress (apply Kept.lit; rotate_left; with_unfolding_all rfl; with_unfolding_all rfl)

theorem execResumeTimeout_answers (s : State) (hk : Kept ⟨wd, wr, wu⟩ s₀ s) : Answers ⟨wd, wr, wu⟩ s₀ (execResumeTimeout s) := by
  unfold execResumeTimeout
  with_reducible repeat' first
    | assumption | apply Answers.next | apply Answers.idle | apply Answers.ite | apply State.shutdown_kept | apply Kept.ite

theorem execVinMainFall_answers (shortDip : Bool) (s : State) (hk : Kept ⟨wd, wr, wu⟩ s₀ s) : Answers ⟨wd, wr, wu⟩ s₀ (execVinMainFall shortDip s) := by
  unfold execVinMainFall
  with_reducible repeat' first
    | (intro x; refine Kept.gen (w := ⟨wd, wr, wu⟩) (s₀ := s₀) (x := x) ?_ ?_; rotate_left; clear_value x; rotate_left; subst x) | (intro x; subst x)
    | intro _ | lift_lets | assumption | apply Answers.next | apply Answers.idle | apply Answers.ite | apply State.count_kept
    | apply State.put_kept | apply State.shutdown_kept | apply Kept.ite
    | fail_if_no_progress (apply Kept.lit; rotate_left; with_unfolding_all rfl; with_unfolding_all rfl)

theorem execVinLossDetected_answers (s : State) (hk : Kept ⟨true, wr, wu⟩ s₀ s) : Answers ⟨true, wr, wu⟩ s₀ (execVinLossDetected s) := by
  unfold execVinLossDetected
  with_reducible repeat' first
    | intro _ | assumption | apply Answers.next | apply Answers.idle | apply Answers.ite | apply State.idle_answers
    | apply State.foghorn_kept | apply Kept.ite

theorem execVinMainReturn_answers (s : State) (hk : Kept ⟨wd, wr, wu⟩ s₀ s) : Answers ⟨wd, wr, wu⟩ s₀ (execVinMainReturn s) := by
  unfold execVinMainReturn
  with_reducible repeat' first
    | assumption | apply Answers.next | apply Answers.idle | apply Answers.ite | apply State.put_kept | apply Kept.ite
    | fail_if_no_progress (apply Kept.lit; rotate_left; with_unfolding_all rfl; with_unfolding_all rfl)

theorem execRailPgLow_answers (n : Fin 16) (s : State) (hk : Kept ⟨true, wr, wu⟩ s₀ s) : Answers ⟨true, wr, wu⟩ s₀ (execRailPgLow n s) := by
  unfold execRailPgLow
  with_reducible repeat' first
    | intro _ | assumption | apply Answers.next | apply Answers.idle | apply Answers.ite | apply State.idle_answers
    | apply State.put_kept | apply State.railFault_kept | apply Kept.ite

theorem execTimedShutdownStep_answers (before after : List (Fin 16 × Nat)) (s : State) (hk : Kept ⟨true, true, wu⟩ s₀ s) :
    Answers ⟨true, true, wu⟩ s₀ (execTimedShutdownStep before after s) := by
  unfold execTimedShutdownStep
  with_reducible repeat' first
    | (intro x; refine Kept.gen (w := ⟨true, true, wu⟩) (s₀ := s₀) (x := x) ?_ ?_; rotate_left; clear_value x; rotate_left; subst x) | (intro x; subst x)
    | intro _ | lift_lets | assumption | apply Answers.next | apply Answers.idle | apply Answers.ite | apply State.idle_answers
    | apply State.putAll_kept | apply State.dropWrites_kept | apply State.put_kept | apply State.railDown_kept
    | apply State.powerOff_kept | apply Kept.ite | apply Kept.each
    | fail_if_no_progress (apply Kept.lit; rotate_left; with_unfolding_all rfl; with_unfolding_all rfl)

theorem execPowerupRankStep_answers (s : State) (hk : Kept ⟨wd, wr, wu⟩ s₀ s) : Answers ⟨wd, wr, wu⟩ s₀ (execPowerupRankStep s) := by
  unfold execPowerupRankStep
  with_reducible repeat' first
    | (intro x; refine Kept.gen (w := ⟨wd, wr, wu⟩) (s₀ := s₀) (x := x) ?_ ?_; rotate_left; clear_value x; rotate_left; subst x) | (intro x; subst x)
    | intro _ | lift_lets | assumption | apply Answers.next | apply Answers.idle | apply Answers.ite | apply State.put_kept
    | apply State.released_kept | apply State.enableRails_kept | apply Kept.ite | apply Kept.each | split

theorem execPowerupTimeout_answers (n : Fin 16) (s : State) (hk : Kept ⟨wd, wr, wu⟩ s₀ s) : Answers ⟨wd, wr, wu⟩ s₀ (execPowerupTimeout n s) := by
  unfold execPowerupTimeout
  with_reducible repeat' first
    | (intro x; refine Kept.gen (w := ⟨wd, wr, wu⟩) (s₀ := s₀) (x := x) ?_ ?_; rotate_left; clear_value x; rotate_left; subst x) | (intro x; subst x)
    | intro _ | lift_lets | assumption | apply Answers.next | apply Answers.idle | apply Answers.ite | apply State.put_kept
    | apply State.shutdown_kept | apply Kept.ite
    | fail_if_no_progress (apply Kept.lit; rotate_left; with_unfolding_all rfl; with_unfolding_all rfl)

theorem execPbtnPress_answers (s : State) (hk : Kept ⟨wd, wr, wu⟩ s₀ s) : Answers ⟨wd, wr, wu⟩ s₀ (execPbtnPress s) := by
  unfold execPbtnPress
  with_reducible repeat' first
    | assumption | apply Answers.next | apply Answers.idle | apply Answers.ite | apply State.powerOn_kept
    | apply State.record_kept | apply Kept.ite

theorem execPbtnOff_answers (s : State) (hk : Kept ⟨true, wr, wu⟩ s₀ s) : Answers ⟨true, wr, wu⟩ s₀ (execPbtnOff s) := by
  unfold execPbtnOff
  with_reducible repeat' first
    | intro _ | assumption | apply Answers.next | apply Answers.idle | apply Answers.ite | apply State.idle_answers
    | apply State.foghorn_kept | apply Kept.ite

theorem execWakeRequest_answers (s : State) (hk : Kept ⟨wd, wr, wu⟩ s₀ s) : Answers ⟨wd, wr, wu⟩ s₀ (execWakeRequest s) := by
  unfold execWakeRequest
  with_reducible repeat' first
    | assumption | apply Answers.next | apply Answers.idle | apply Answers.ite | apply State.powerOn_kept | apply Kept.ite

theorem execAutoPowerOn_answers (s : State) (hk : Kept ⟨wd, wr, wu⟩ s₀ s) : Answers ⟨wd, wr, wu⟩ s₀ (execAutoPowerOn s) := by
  unfold execAutoPowerOn
  with_reducible repeat' first
    | assumption | apply Answers.next | apply Answers.idle | apply Answers.ite | apply State.powerOn_kept | apply Kept.ite

theorem execPowerupRetry_answers (s : State) (hk : Kept ⟨wd, wr, wu⟩ s₀ s) : Answers ⟨wd, wr, wu⟩ s₀ (execPowerupRetry s) := by
  unfold execPowerupRetry
  with_reducible repeat' first
    | assumption | apply Answers.next | apply Answers.idle | apply Answers.ite | apply State.powerOn_kept | apply Kept.ite
    | fail_if_no_progress (apply Kept.lit; rotate_left; with_unfolding_all rfl; with_unfolding_all rfl)

theorem execMrstN_answers (s : State) (hk : Kept ⟨wd, wr, wu⟩ s₀ s) : Answers ⟨wd, wr, wu⟩ s₀ (execMrstN s) := by
  unfold execMrstN
  with_reducible repeat' first
    | (intro x; refine Kept.gen (w := ⟨wd, wr, wu⟩) (s₀ := s₀) (x := x) ?_ ?_; rotate_left; clear_value x; rotate_left; subst x) | (intro x; subst x)
    | intro _ | lift_lets | assumption | apply Answers.next | apply Answers.idle | apply Answers.ite | apply State.count_kept
    | apply State.record_kept | apply State.resetTwiD_kept | apply Kept.ite
    | fail_if_no_progress (apply Kept.lit; rotate_left; with_unfolding_all rfl; with_unfolding_all rfl)

theorem execVsupLevelCrossing_answers (mv : Nat) (s : State) (hk : Kept ⟨wd, wr, wu⟩ s₀ s) : Answers ⟨wd, wr, wu⟩ s₀ (execVsupLevelCrossing mv s) := by
  unfold execVsupLevelCrossing
  with_reducible repeat' first
    | (intro x; refine Kept.gen (w := ⟨wd, wr, wu⟩) (s₀ := s₀) (x := x) ?_ ?_; rotate_left; clear_value x; rotate_left; subst x) | (intro x; subst x)
    | intro _ | lift_lets | assumption | apply Answers.next | apply Answers.ite | apply State.put_kept | apply State.putAll_kept
    | apply State.record_kept | apply Kept.ite
    | fail_if_no_progress (apply Kept.lit; rotate_left; with_unfolding_all rfl; with_unfolding_all rfl)

theorem execLanternReset_answers (s : State) (hk : Kept ⟨true, true, wu⟩ s₀ s) : Answers ⟨true, true, wu⟩ s₀ (execLanternReset s) := by
  unfold execLanternReset
  with_reducible repeat' first
    | (intro x; refine Kept.gen (w := ⟨true, true, wu⟩) (s₀ := s₀) (x := x) ?_ ?_; rotate_left; clear_value x; rotate_left; subst x) | (intro x; subst x)
    | intro _ | lift_lets | assumption | apply Answers.next | apply Answers.idle | apply Answers.ite | apply State.putAll_kept
    | apply State.disableRail_kept | apply State.emit_kept | apply State.enter_kept | apply State.coldReset_kept
    | apply Kept.ite | apply Kept.each
    | fail_if_no_progress (apply Kept.lit; rotate_left; with_unfolding_all rfl; with_unfolding_all rfl)

theorem execPllUnlock_answers (pll : Fin 9) (s : State) (hk : Kept ⟨true, wr, wu⟩ s₀ s) : Answers ⟨true, wr, wu⟩ s₀ (execPllUnlock pll s) := by
  unfold execPllUnlock
  with_reducible repeat' first
    | intro _ | assumption | apply Answers.next | apply Answers.idle | apply Answers.ite | apply State.loseLock_kept
    | apply State.idle_answers | apply Kept.ite

theorem execRefLost_answers (s : State) (hk : Kept ⟨true, wr, wu⟩ s₀ s) : Answers ⟨true, wr, wu⟩ s₀ (execRefLost s) := by
  unfold execRefLost
  with_reducible repeat' first
    | intro _ | assumption | apply Answers.next | apply Answers.idle | apply Answers.ite | apply State.idle_answers
    | apply State.put_kept | apply State.record_kept | apply State.loseLock_kept | apply Kept.ite | apply Kept.each

theorem execPllLocked_answers (pll : Fin 9) (s : State) (hk : Kept ⟨wd, wr, wu⟩ s₀ s) : Answers ⟨wd, wr, wu⟩ s₀ (execPllLocked pll s) := by
  unfold execPllLocked
  with_reducible repeat' first
    | (intro x; refine Kept.gen (w := ⟨wd, wr, wu⟩) (s₀ := s₀) (x := x) ?_ ?_; rotate_left; clear_value x; rotate_left; subst x) | (intro x; subst x)
    | intro _ | lift_lets | assumption | apply Answers.next | apply Answers.idle | apply Answers.ite | apply State.idle_answers
    | apply State.put_kept | apply State.domainUp_kept | apply State.endFault_kept | apply State.restartFw_kept
    | apply Kept.ite | fail_if_no_progress (apply Kept.lit; rotate_left; with_unfolding_all rfl; with_unfolding_all rfl)

theorem execDomainPowerUp_answers (req : Req) (domain : BitVec 4) (s : State) (hk : Kept ⟨wd, wr, wu⟩ s₀ s) :
    Answers ⟨wd, wr, wu⟩ s₀ (execDomainPowerUp req domain s) := by
  unfold execDomainPowerUp
  with_reducible repeat' first
    | intro _ | assumption | apply Answers.next | apply Answers.idle | apply Answers.ite | apply State.guard_answers
    | apply State.domainStart_kept | apply Kept.ite

theorem execDomainPowerDown_answers (req : Req) (domain : BitVec 4) (s : State) (hk : Kept ⟨wd, wr, wu⟩ s₀ s) :
    Answers ⟨wd, wr, wu⟩ s₀ (execDomainPowerDown req domain s) := by
  unfold execDomainPowerDown
  with_reducible repeat' first
    | intro _ | assumption | apply Answers.next | apply Answers.idle | apply Answers.ite | apply State.guard_answers
    | apply State.lowerDomain_kept | apply Kept.ite

theorem execDomainDmaWaitTimeout_answers (domain : BitVec 4) (s : State) (hk :
    Kept ⟨wd, wr, wu⟩ s₀ s) : Answers ⟨wd, wr, wu⟩ s₀ (execDomainDmaWaitTimeout domain s) := by
  unfold execDomainDmaWaitTimeout
  with_reducible repeat' first
    | (intro x; refine Kept.gen (w := ⟨wd, wr, wu⟩) (s₀ := s₀) (x := x) ?_ ?_; rotate_left; clear_value x; rotate_left; subst x) | (intro x; subst x)
    | intro _ | lift_lets | assumption | apply Answers.next | apply Answers.idle | apply Answers.ite | apply State.dmaHalt_kept
    | apply State.count_kept | apply State.record_kept | apply State.raise_kept | apply State.domainOff_kept | apply Kept.ite
    | apply Kept.each

theorem execPdAppIdleTimeout_answers (s : State) (hk : Kept ⟨wd, wr, wu⟩ s₀ s) : Answers ⟨wd, wr, wu⟩ s₀ (execPdAppIdleTimeout s) := by
  unfold execPdAppIdleTimeout
  with_reducible repeat' first
    | assumption | apply Answers.next | apply Answers.idle | apply Answers.ite | apply State.lowerDomain_kept | apply Kept.ite

theorem execDieOverTemperature_answers (s : State) (hk : Kept ⟨true, wr, wu⟩ s₀ s) : Answers ⟨true, wr, wu⟩ s₀ (execDieOverTemperature s) := by
  unfold execDieOverTemperature
  with_reducible repeat' first
    | intro _ | assumption | apply Answers.next | apply Answers.idle | apply Answers.ite | apply State.idle_answers
    | apply State.shutdown_kept | apply State.foghorn_kept | apply Kept.ite

theorem execKeeperBootStart_answers (disagree : List (Fin 8)) (refused : List SourceRefused) (flash : FlashFound) (s : State) (hk : Kept ⟨wd, wr, true⟩ s₀ s) :
    Answers ⟨wd, wr, true⟩ s₀ (execKeeperBootStart disagree refused flash s) := by
  unfold execKeeperBootStart
  with_reducible repeat' first
    | intro _ | assumption | apply Answers.next | apply Answers.idle | apply Answers.ite | apply State.idle_answers
    | apply State.keeperUp_kept | apply Kept.ite
    | fail_if_no_progress (apply Kept.lit; rotate_left; with_unfolding_all rfl; with_unfolding_all rfl) | split

theorem execSidebandUp_answers (s : State) (hk : Kept ⟨wd, wr, wu⟩ s₀ s) : Answers ⟨wd, wr, wu⟩ s₀ (execSidebandUp s) := by
  unfold execSidebandUp
  with_reducible repeat' first
    | (intro x; refine Kept.gen (w := ⟨wd, wr, wu⟩) (s₀ := s₀) (x := x) ?_ ?_; rotate_left; clear_value x; rotate_left; subst x) | (intro x; subst x)
    | intro _ | lift_lets | assumption | apply Answers.next | apply Answers.idle | apply Answers.ite | apply State.putAll_kept
    | apply State.setReady_kept | apply Kept.ite

theorem execCmdBootSet_answers (s : State) (hk : Kept ⟨wd, wr, wu⟩ s₀ s) : Answers ⟨wd, wr, wu⟩ s₀ (execCmdBootSet s) := by
  unfold execCmdBootSet
  with_reducible repeat' first
    | assumption | apply Answers.next | apply Answers.idle | apply Answers.ite | apply State.setReady_kept | apply Kept.ite

theorem execKeeperLockstep_answers (s : State) (hk : Kept ⟨wd, wr, wu⟩ s₀ s) : Answers ⟨wd, wr, wu⟩ s₀ (execKeeperLockstep s) := by
  unfold execKeeperLockstep
  with_reducible repeat' first
    | (intro x; refine Kept.gen (w := ⟨wd, wr, wu⟩) (s₀ := s₀) (x := x) ?_ ?_; rotate_left; clear_value x; rotate_left; subst x) | (intro x; subst x)
    | intro _ | lift_lets | assumption | apply Answers.next | apply Answers.idle | apply Answers.ite | apply State.idle_answers
    | apply State.tick_kept | apply State.count_kept | apply State.record_kept | apply State.strike_kept | apply Kept.ite
    | fail_if_no_progress (apply Kept.lit; rotate_left; with_unfolding_all rfl; with_unfolding_all rfl)

theorem execImageIndexed_answers (keyOk : Bool) (reads : List CodewordRead) (badCrc foreign : List Nat) (s : State) (hk : Kept ⟨wd, wr, wu⟩ s₀ s) :
    Answers ⟨wd, wr, wu⟩ s₀ (execImageIndexed keyOk reads badCrc foreign s) := by
  unfold execImageIndexed
  with_reducible repeat' first
    | (intro x; refine Kept.gen (w := ⟨wd, wr, wu⟩) (s₀ := s₀) (x := x) ?_ ?_; rotate_left; clear_value x; rotate_left; subst x) | (intro x; subst x)
    | intro _ | lift_lets | assumption | apply Answers.next | apply Answers.idle | apply Answers.ite | apply State.idle_answers
    | apply State.judgeAll_kept | apply State.reportImages_kept | apply State.announceImage_kept | apply State.serveImage_kept
    | apply Kept.ite

theorem execSelectWaitExpired_answers (s : State) (hk : Kept ⟨wd, wr, wu⟩ s₀ s) : Answers ⟨wd, wr, wu⟩ s₀ (execSelectWaitExpired s) := by
  unfold execSelectWaitExpired
  with_reducible repeat' first
    | assumption | apply Answers.next | apply Answers.idle | apply Answers.ite | apply State.closeWindow_kept | apply Kept.ite

theorem execDirectoryLoaded_answers (s : State) (hk : Kept ⟨wd, wr, wu⟩ s₀ s) : Answers ⟨wd, wr, wu⟩ s₀ (execDirectoryLoaded s) := by
  unfold execDirectoryLoaded
  with_reducible repeat' first
    | (intro x; refine Kept.gen (w := ⟨wd, wr, wu⟩) (s₀ := s₀) (x := x) ?_ ?_; rotate_left; clear_value x; rotate_left; subst x) | (intro x; subst x)
    | intro _ | lift_lets | assumption | apply Answers.next | apply Answers.idle | apply Answers.ite
    | apply State.readDirectory_kept | apply State.put_kept | apply State.record_kept | apply State.issueSweep_kept
    | apply State.idle_answers | apply Kept.ite

theorem execSweepPageDone_answers (uncorrectable : Bool) (retries : Nat) (shown : PageShown) (s : State) (hk : Kept ⟨true, wr, wu⟩ s₀ s) :
    Answers ⟨true, wr, wu⟩ s₀ (execSweepPageDone uncorrectable retries shown s) := by
  unfold execSweepPageDone
  with_reducible repeat' first
    | (intro x; refine Kept.gen (w := ⟨true, wr, wu⟩) (s₀ := s₀) (x := x) ?_ ?_; rotate_left; clear_value x; rotate_left; subst x) | (intro x; subst x)
    | intro _ | lift_lets | assumption | apply Answers.next | apply Answers.idle | apply Answers.ite | apply State.idle_answers
    | apply State.restorePage_kept | apply State.releasePage_kept | apply State.issueQueued_kept | apply State.issueSweep_kept
    | apply State.showRates_kept | apply Kept.ite
    | fail_if_no_progress (apply Kept.lit; rotate_left; with_unfolding_all rfl; with_unfolding_all rfl) | split

theorem execZeroFillPage_answers (s : State) (hk : Kept ⟨true, wr, wu⟩ s₀ s) : Answers ⟨true, wr, wu⟩ s₀ (execZeroFillPage s) := by
  unfold execZeroFillPage
  with_reducible repeat' first
    | intro _ | assumption | apply Answers.next | apply Answers.idle | apply Answers.ite | apply State.idle_answers
    | apply State.restorePage_kept | apply State.releasePage_kept | apply State.issueQueued_kept | apply Kept.ite | split

theorem execFaultInDone_answers (page : Nat) (uncorrectable : Bool) (retries : Nat) (shown : PageShown) (s : State) (hk : Kept ⟨true, wr, wu⟩ s₀ s) :
    Answers ⟨true, wr, wu⟩ s₀ (execFaultInDone page uncorrectable retries shown s) := by
  unfold execFaultInDone
  with_reducible repeat' first
    | (intro x; refine Kept.gen (w := ⟨true, wr, wu⟩) (s₀ := s₀) (x := x) ?_ ?_; rotate_left; clear_value x; rotate_left; subst x) | (intro x; subst x)
    | intro _ | lift_lets | assumption | apply Answers.next | apply Answers.idle | apply Answers.ite | apply State.idle_answers
    | apply State.restorePage_kept | apply State.raiseFree_kept | apply State.releasePage_kept | apply State.issueQueued_kept
    | apply State.showRates_kept | apply State.settle_kept | apply Kept.ite

theorem execDramRecoveryDone_answers (page : Nat) (uncorrectable : Bool) (retries corrected : Nat) (s : State) (hk : Kept ⟨true, wr, wu⟩ s₀ s) :
    Answers ⟨true, wr, wu⟩ s₀ (execDramRecoveryDone page uncorrectable retries corrected s) := by
  unfold execDramRecoveryDone
  with_reducible repeat' first
    | (intro x; refine Kept.gen (w := ⟨true, wr, wu⟩) (s₀ := s₀) (x := x) ?_ ?_; rotate_left; clear_value x; rotate_left; subst x) | (intro x; subst x)
    | intro _ | lift_lets | assumption | apply Answers.next | apply Answers.idle | apply Answers.ite | apply State.idle_answers
    | apply State.flashRead_kept | apply State.rewriteLine_kept | apply State.recovery_kept | apply State.unwait_kept
    | apply State.carry_kept | apply State.readLine_kept | apply State.settle_kept | apply Kept.ite | apply Kept.each
    | apply Kept.fold | fail_if_no_progress (apply Kept.lit; rotate_left; with_unfolding_all rfl; with_unfolding_all rfl)
    | split

theorem execLinkUp_answers (h : Fin 4) (width gts : Nat) (flit256 : Bool) (s : State) (hk : Kept ⟨true, wr, wu⟩ s₀ s) :
    Answers ⟨true, wr, wu⟩ s₀ (execLinkUp h width gts flit256 s) := by
  unfold execLinkUp
  with_reducible repeat' first
    | (intro x; refine Kept.gen (w := ⟨true, wr, wu⟩) (s₀ := s₀) (x := x) ?_ ?_; rotate_left; clear_value x; rotate_left; subst x) | (intro x; subst x)
    | intro _ | lift_lets | assumption | apply Answers.next | apply Answers.idle | apply Answers.ite | apply State.idle_answers
    | apply State.putAll_kept | apply State.putFree_kept | apply State.record_kept | apply State.put_kept
    | apply State.showLinks_kept | apply State.tellResumed_kept | apply State.resumeExit_kept | apply Kept.ite
    | fail_if_no_progress (apply Kept.lit; rotate_left; with_unfolding_all rfl; with_unfolding_all rfl)

theorem execLinkDown_answers (h : Fin 4) (s : State) (hk : Kept ⟨wd, wr, wu⟩ s₀ s) : Answers ⟨wd, wr, wu⟩ s₀ (execLinkDown h s) := by
  unfold execLinkDown
  with_reducible repeat' first
    | assumption | apply Answers.next | apply State.linkDown_kept

theorem execConfigSpaceReady_answers (h : Fin 4) (s : State) (hk : Kept ⟨wd, wr, wu⟩ s₀ s) : Answers ⟨wd, wr, wu⟩ s₀ (execConfigSpaceReady h s) := by
  unfold execConfigSpaceReady
  with_reducible repeat' first
    | assumption | apply Answers.next | apply Answers.idle | apply Answers.ite | apply Kept.ite
    | fail_if_no_progress (apply Kept.lit; rotate_left; with_unfolding_all rfl; with_unfolding_all rfl)

theorem execCxlMemEnable_answers (ld : Fin 16) (on : Bool) (s : State) (hk :
    Kept ⟨wd, wr, wu⟩ s₀ s) : Answers ⟨wd, wr, wu⟩ s₀ (execCxlMemEnable ld on s) := by
  unfold execCxlMemEnable
  with_reducible repeat' first
    | (intro x; refine Kept.gen (w := ⟨wd, wr, wu⟩) (s₀ := s₀) (x := x) ?_ ?_; rotate_left; clear_value x; rotate_left; subst x) | (intro x; subst x)
    | intro _ | lift_lets | assumption | apply Answers.next | apply Answers.idle | apply Answers.ite | apply State.put_kept
    | apply State.showLinks_kept | apply Kept.ite

theorem execPortReset_answers (port : Fin 2) (kind : PortReset) (s : State) (hk :
    Kept ⟨wd, wr, wu⟩ s₀ s) : Answers ⟨wd, wr, wu⟩ s₀ (execPortReset port kind s) := by
  unfold execPortReset
  with_reducible repeat' first
    | assumption | apply Answers.next | apply State.linkDown_kept | split

theorem execFunctionLevelReset_answers (ld : Fin 16) (s : State) (hk : Kept ⟨wd, wr, wu⟩ s₀ s) : Answers ⟨wd, wr, wu⟩ s₀ (execFunctionLevelReset ld s) := by
  unfold execFunctionLevelReset
  with_reducible repeat' first
    | (intro x; refine Kept.gen (w := ⟨wd, wr, wu⟩) (s₀ := s₀) (x := x) ?_ ?_; rotate_left; clear_value x; rotate_left; subst x) | (intro x; subst x)
    | intro _ | lift_lets | assumption | apply Answers.next | apply Answers.idle | apply Answers.ite | apply State.showHeld_kept
    | apply Kept.ite | fail_if_no_progress (apply Kept.lit; rotate_left; with_unfolding_all rfl; with_unfolding_all rfl)
    | fail_if_no_progress beta_reduce

theorem execHifHeadCtoWrite_answers (req : Req) (h : Fin 4) (value : Word) (s : State) (hk :
    Kept ⟨wd, wr, wu⟩ s₀ s) : Answers ⟨wd, wr, wu⟩ s₀ (execHifHeadCtoWrite req h value s) := by
  unfold execHifHeadCtoWrite
  with_reducible repeat' first
    | (intro x; refine Kept.gen (w := ⟨wd, wr, wu⟩) (s₀ := s₀) (x := x) ?_ ?_; rotate_left; clear_value x; rotate_left; subst x) | (intro x; subst x)
    | intro _ | lift_lets | assumption | apply Answers.next | apply Answers.ite | apply State.guard_answers
    | apply State.putAll_kept | apply State.record_kept | apply Kept.ite

theorem execDcWaitExpired_answers (ld : Fin 16) (s : State) (hk : Kept ⟨wd, wr, wu⟩ s₀ s) : Answers ⟨wd, wr, wu⟩ s₀ (execDcWaitExpired ld s) := by
  unfold execDcWaitExpired
  with_reducible repeat' first
    | (intro x; refine Kept.gen (w := ⟨wd, wr, wu⟩) (s₀ := s₀) (x := x) ?_ ?_; rotate_left; clear_value x; rotate_left; subst x) | (intro x; subst x)
    | intro _ | lift_lets | assumption | apply Answers.next | apply Answers.idle | apply Answers.ite | apply State.idle_answers
    | apply State.dropOp_kept | apply State.withdraw_kept | apply State.endDc_kept | apply State.done_kept
    | apply State.releaseExtent_kept | apply State.recordFor_kept | apply State.setExt_kept | apply Kept.ite | apply Kept.each
    | fail_if_no_progress (apply Kept.lit; rotate_left; with_unfolding_all rfl; with_unfolding_all rfl) | split

theorem State.answer_answers (s : State) (ld : Fin 16) (code : Nat) (payload : Bytes) (hk :
    Kept ⟨wd, wr, wu⟩ s₀ s) : Answers ⟨wd, wr, wu⟩ s₀ (State.answer s ld code payload) := by
  unfold State.answer
  with_reducible repeat' first
    | assumption | apply Answers.next | apply Answers.idle | apply Answers.ite | apply State.emit_kept | apply Kept.ite

theorem execIdentifyMemoryDevice_answers (ld : Fin 16) (s : State) (hk :
    Kept ⟨wd, wr, wu⟩ s₀ s) : Answers ⟨wd, wr, wu⟩ s₀ (execIdentifyMemoryDevice ld s) := by
  unfold execIdentifyMemoryDevice
  with_reducible repeat' first
    | assumption | apply Answers.next | apply State.answer_answers

theorem execGetSupportedLogs_answers (ld : Fin 16) (s : State) (hk : Kept ⟨wd, wr, wu⟩ s₀ s) : Answers ⟨wd, wr, wu⟩ s₀ (execGetSupportedLogs ld s) := by
  unfold execGetSupportedLogs
  with_reducible repeat' first
    | assumption | apply Answers.next | apply State.answer_answers

theorem execGetLog_answers (ld : Fin 16) (uuid : BitVec 128) (offset length : Nat) (s : State) (hk :
    Kept ⟨wd, wr, wu⟩ s₀ s) : Answers ⟨wd, wr, wu⟩ s₀ (execGetLog ld uuid offset length s) := by
  unfold execGetLog
  with_reducible repeat' first
    | assumption | apply Answers.next | apply Answers.ite | apply State.answer_answers | apply Kept.ite

theorem execGetLsa_answers (ld : Fin 16) (offset length : Nat) (s : State) (hk :
    Kept ⟨wd, wr, wu⟩ s₀ s) : Answers ⟨wd, wr, wu⟩ s₀ (execGetLsa ld offset length s) := by
  unfold execGetLsa
  with_reducible repeat' first
    | assumption | apply Answers.next | apply Answers.ite | apply State.answer_answers | apply Kept.ite

theorem execSetLsa_answers (ld : Fin 16) (offset : Nat) (data : Bytes) (s : State) (hk :
    Kept ⟨wd, wr, wu⟩ s₀ s) : Answers ⟨wd, wr, wu⟩ s₀ (execSetLsa ld offset data s) := by
  unfold execSetLsa
  with_reducible repeat' first
    | (intro x; refine Kept.gen (w := ⟨wd, wr, wu⟩) (s₀ := s₀) (x := x) ?_ ?_; rotate_left; clear_value x; rotate_left; subst x) | (intro x; subst x)
    | intro _ | lift_lets | assumption | apply Answers.next | apply Answers.idle | apply Answers.ite | apply State.answer_answers
    | apply State.record_kept | apply Kept.ite
    | fail_if_no_progress (apply Kept.lit; rotate_left; with_unfolding_all rfl; with_unfolding_all rfl)

theorem execGetHealthInfo_answers (ld : Fin 16) (s : State) (hk : Kept ⟨wd, wr, wu⟩ s₀ s) : Answers ⟨wd, wr, wu⟩ s₀ (execGetHealthInfo ld s) := by
  unfold execGetHealthInfo
  with_reducible repeat' first
    | (intro x; refine Kept.gen (w := ⟨wd, wr, wu⟩) (s₀ := s₀) (x := x) ?_ ?_; rotate_left; clear_value x; rotate_left; subst x) | (intro x; subst x)
    | intro _ | lift_lets | assumption | apply Answers.next | apply Answers.idle | apply Answers.ite | apply State.tick_kept
    | apply State.emit_kept | apply State.idle_answers | apply Kept.ite

theorem execGetAlertConfiguration_answers (ld : Fin 16) (s : State) (hk :
    Kept ⟨wd, wr, wu⟩ s₀ s) : Answers ⟨wd, wr, wu⟩ s₀ (execGetAlertConfiguration ld s) := by
  unfold execGetAlertConfiguration
  with_reducible repeat' first
    | assumption | apply Answers.next | apply State.answer_answers

theorem execSetAlertConfiguration_answers (ld : Fin 16) (settings : Bytes) (s : State) (hk :
    Kept ⟨wd, wr, wu⟩ s₀ s) : Answers ⟨wd, wr, wu⟩ s₀ (execSetAlertConfiguration ld settings s) := by
  unfold execSetAlertConfiguration
  with_reducible repeat' first
    | assumption | apply Answers.next | apply Answers.idle | apply Answers.ite | apply State.setLd_kept | apply State.emit_kept
    | apply Kept.ite | fail_if_no_progress (apply Kept.lit; rotate_left; with_unfolding_all rfl; with_unfolding_all rfl)

theorem execGetShutdownState_answers (ld : Fin 16) (s : State) (hk : Kept ⟨wd, wr, wu⟩ s₀ s) : Answers ⟨wd, wr, wu⟩ s₀ (execGetShutdownState ld s) := by
  unfold execGetShutdownState
  with_reducible repeat' first
    | assumption | apply Answers.next | apply State.answer_answers | apply State.shutdown_kept

theorem execSetShutdownState_answers (ld : Fin 16) (dirty : Bool) (s : State) (hk :
    Kept ⟨wd, wr, wu⟩ s₀ s) : Answers ⟨wd, wr, wu⟩ s₀ (execSetShutdownState ld dirty s) := by
  unfold execSetShutdownState
  with_reducible repeat' first
    | (intro x; refine Kept.gen (w := ⟨wd, wr, wu⟩) (s₀ := s₀) (x := x) ?_ ?_; rotate_left; clear_value x; rotate_left; subst x) | (intro x; subst x)
    | intro _ | lift_lets | assumption | apply Answers.next | apply Answers.idle | apply Answers.ite | apply State.shutdown_kept
    | apply State.emit_kept | apply Kept.ite
    | fail_if_no_progress (apply Kept.lit; rotate_left; with_unfolding_all rfl; with_unfolding_all rfl)

theorem execGetPoisonList_answers (ld : Fin 16) (start length : Nat) (s : State) (hk :
    Kept ⟨wd, wr, wu⟩ s₀ s) : Answers ⟨wd, wr, wu⟩ s₀ (execGetPoisonList ld start length s) := by
  unfold execGetPoisonList
  with_reducible repeat' first
    | (intro x; refine Kept.gen (w := ⟨wd, wr, wu⟩) (s₀ := s₀) (x := x) ?_ ?_; rotate_left; clear_value x; rotate_left; subst x) | (intro x; subst x)
    | intro _ | lift_lets | assumption | apply Answers.next | apply State.answer_answers

theorem State.mailboxWrite_answers (s : State) (ld : Fin 16) (lpa : Nat) (data : Bytes) (poison : Bool) (hk : Kept ⟨true, wr, wu⟩ s₀ s) :
    Answers ⟨true, wr, wu⟩ s₀ (State.mailboxWrite s ld lpa data poison) := by
  unfold State.mailboxWrite
  with_reducible repeat' first
    | (intro x; refine Kept.gen (w := ⟨true, wr, wu⟩) (s₀ := s₀) (x := x) ?_ ?_; rotate_left; clear_value x; rotate_left; subst x) | (intro x; subst x)
    | intro _ | lift_lets | assumption | apply Answers.next | apply Answers.idle | apply Answers.ite | apply State.idle_answers
    | apply State.answer_answers | apply State.newReq_kept | apply State.serveWrite_kept | apply State.wait_kept
    | apply Kept.ite | fail_if_no_progress (apply Kept.lit; rotate_left; with_unfolding_all rfl; with_unfolding_all rfl)
    | split

theorem execClearPoison_answers (ld : Fin 16) (lpa : Nat) (data : Bytes) (s : State) (hk :
    Kept ⟨true, wr, wu⟩ s₀ s) : Answers ⟨true, wr, wu⟩ s₀ (execClearPoison ld lpa data s) := by
  unfold execClearPoison
  with_reducible repeat' first
    | assumption | apply Answers.next | apply State.mailboxWrite_answers

theorem execInjectPoison_answers (ld : Fin 16) (lpa : Nat) (s : State) (hk :
    Kept ⟨true, wr, wu⟩ s₀ s) : Answers ⟨true, wr, wu⟩ s₀ (execInjectPoison ld lpa s) := by
  unfold execInjectPoison
  with_reducible repeat' first
    | assumption | apply Answers.next | apply Answers.ite | apply State.mailboxWrite_answers | apply State.answer_answers
    | apply Kept.ite | split

theorem execScanMedia_answers (ld : Fin 16) (lpa length : Nat) (uncorrectable : List Nat) (s : State) (hk : Kept ⟨true, wr, wu⟩ s₀ s) :
    Answers ⟨true, wr, wu⟩ s₀ (execScanMedia ld lpa length uncorrectable s) := by
  unfold execScanMedia
  with_reducible repeat' first
    | (intro x; refine Kept.gen (w := ⟨true, wr, wu⟩) (s₀ := s₀) (x := x) ?_ ?_; rotate_left; clear_value x; rotate_left; subst x) | (intro x; subst x)
    | intro _ | lift_lets | assumption | apply Answers.next | apply Answers.idle | apply Answers.ite | apply State.idle_answers
    | apply State.accessLines_kept | apply State.uncorrectables_kept | apply State.setLd_kept | apply State.listPoison_kept
    | apply State.emit_kept | apply State.signal_kept | apply Kept.ite | apply Kept.each
    | fail_if_no_progress (apply Kept.lit; rotate_left; with_unfolding_all rfl; with_unfolding_all rfl) | split

theorem execGetScanMediaResults_answers (ld : Fin 16) (s : State) (hk :
    Kept ⟨wd, wr, wu⟩ s₀ s) : Answers ⟨wd, wr, wu⟩ s₀ (execGetScanMediaResults ld s) := by
  unfold execGetScanMediaResults
  with_reducible repeat' first
    | intro _ | assumption | apply Answers.next | apply State.answer_answers | split

theorem execGetEventRecords_answers (ld : Fin 16) (log : Fin 5) (s : State) (hk : Kept ⟨wd, wr, wu⟩ s₀ s) :
    Answers ⟨wd, wr, wu⟩ s₀ (execGetEventRecords ld log s) := by
  unfold execGetEventRecords
  with_reducible repeat' first
    | (intro x; refine Kept.gen (w := ⟨wd, wr, wu⟩) (s₀ := s₀) (x := x) ?_ ?_; rotate_left; clear_value x; rotate_left; subst x) | (intro x; subst x)
    | intro _ | lift_lets | assumption | apply Answers.next | apply Answers.idle | apply Answers.ite
    | apply State.answer_answers | apply Kept.ite

theorem execClearEventRecords_answers (ld : Fin 16) (log : Fin 5) (all : Bool) (handles : List (BitVec 16)) (s : State) (hk : Kept ⟨wd, wr, wu⟩ s₀ s) :
    Answers ⟨wd, wr, wu⟩ s₀ (execClearEventRecords ld log all handles s) := by
  unfold execClearEventRecords
  with_reducible repeat' first
    | (intro x; refine Kept.gen (w := ⟨wd, wr, wu⟩) (s₀ := s₀) (x := x) ?_ ?_; rotate_left; clear_value x; rotate_left; subst x) | (intro x; subst x)
    | intro _ | lift_lets | assumption | apply Answers.next | apply Answers.idle | apply Answers.ite | apply State.idle_answers
    | apply State.setLd_kept | apply State.emit_kept | apply State.answer_answers | apply Kept.ite
    | fail_if_no_progress (apply Kept.lit; rotate_left; with_unfolding_all rfl; with_unfolding_all rfl)

theorem execGetEventInterruptPolicy_answers (ld : Fin 16) (s : State) (hk :
    Kept ⟨wd, wr, wu⟩ s₀ s) : Answers ⟨wd, wr, wu⟩ s₀ (execGetEventInterruptPolicy ld s) := by
  unfold execGetEventInterruptPolicy
  with_reducible repeat' first
    | assumption | apply Answers.next | apply State.answer_answers

theorem execSetEventInterruptPolicy_answers (ld : Fin 16) (policy : Bytes) (s : State) (hk :
    Kept ⟨wd, wr, wu⟩ s₀ s) : Answers ⟨wd, wr, wu⟩ s₀ (execSetEventInterruptPolicy ld policy s) := by
  unfold execSetEventInterruptPolicy
  with_reducible repeat' first
    | assumption | apply Answers.next | apply Answers.ite | apply State.answer_answers | apply Kept.ite

theorem execGetDynamicCapacityConfig_answers (ld : Fin 16) (s : State) (hk :
    Kept ⟨wd, wr, wu⟩ s₀ s) : Answers ⟨wd, wr, wu⟩ s₀ (execGetDynamicCapacityConfig ld s) := by
  unfold execGetDynamicCapacityConfig
  with_reducible repeat' first
    | assumption | apply Answers.next | apply State.answer_answers

theorem execGetDynamicCapacityExtentList_answers (ld : Fin 16) (s : State) (hk :
    Kept ⟨wd, wr, wu⟩ s₀ s) : Answers ⟨wd, wr, wu⟩ s₀ (execGetDynamicCapacityExtentList ld s) := by
  unfold execGetDynamicCapacityExtentList
  with_reducible repeat' first
    | (intro x; refine Kept.gen (w := ⟨wd, wr, wu⟩) (s₀ := s₀) (x := x) ?_ ?_; rotate_left; clear_value x; rotate_left; subst x) | (intro x; subst x)
    | intro _ | lift_lets | assumption | apply Answers.next | apply State.answer_answers

theorem execAddDynamicCapacityResponse_answers (ld : Fin 16) (accepted : List Nat) (s : State) (hk : Kept ⟨wd, wr, wu⟩ s₀ s) :
    Answers ⟨wd, wr, wu⟩ s₀ (execAddDynamicCapacityResponse ld accepted s) := by
  unfold execAddDynamicCapacityResponse
  with_reducible repeat' first
    | (intro x; refine Kept.gen (w := ⟨wd, wr, wu⟩) (s₀ := s₀) (x := x) ?_ ?_; rotate_left; clear_value x; rotate_left; subst x) | (intro x; subst x)
    | intro _ | lift_lets | assumption | apply Answers.next | apply Answers.idle | apply Answers.ite | apply State.idle_answers
    | apply State.answer_answers | apply State.withdraw_kept | apply State.dropOp_kept | apply State.endDc_kept
    | apply State.done_kept | apply State.emit_kept | apply State.writeRegions_kept | apply State.dcMapped_kept
    | apply Kept.ite | apply Kept.each
    | fail_if_no_progress (apply Kept.lit; rotate_left; with_unfolding_all rfl; with_unfolding_all rfl) | split

theorem execReleaseDynamicCapacity_answers (ld : Fin 16) (lpas : List Nat) (s : State) (hk :
    Kept ⟨wd, wr, wu⟩ s₀ s) : Answers ⟨wd, wr, wu⟩ s₀ (execReleaseDynamicCapacity ld lpas s) := by
  unfold execReleaseDynamicCapacity
  with_reducible repeat' first
    | (intro x; refine Kept.gen (w := ⟨wd, wr, wu⟩) (s₀ := s₀) (x := x) ?_ ?_; rotate_left; clear_value x; rotate_left; subst x) | (intro x; subst x)
    | intro _ | lift_lets | assumption | apply Answers.next | apply Answers.idle | apply Answers.ite | apply State.answer_answers
    | apply State.releaseExtent_kept | apply State.recordFor_kept | apply State.writeRegions_kept | apply State.dcReleased_kept
    | apply Kept.ite | apply Kept.each
    | fail_if_no_progress (apply Kept.lit; rotate_left; with_unfolding_all rfl; with_unfolding_all rfl)

theorem execUnsupportedCxlCommand_answers (ld : Fin 16) (_opcode : BitVec 16) (s : State) (hk :
    Kept ⟨wd, wr, wu⟩ s₀ s) : Answers ⟨wd, wr, wu⟩ s₀ (execUnsupportedCxlCommand ld _opcode s) := by
  unfold execUnsupportedCxlCommand
  with_reducible repeat' first
    | assumption | apply Answers.next | apply State.answer_answers

theorem execRelocate_answers (req : Req) (block : BitVec 27) (s : State) (hk :
    Kept ⟨wd, wr, wu⟩ s₀ s) : Answers ⟨wd, wr, wu⟩ s₀ (execRelocate req block s) := by
  unfold execRelocate
  with_reducible repeat' first
    | intro _ | assumption | apply Answers.next | apply State.guard_answers | apply State.gcRequest_kept

theorem execErase_answers (req : Req) (block : BitVec 27) (s : State) (hk : Kept ⟨wd, wr, wu⟩ s₀ s) : Answers ⟨wd, wr, wu⟩ s₀ (execErase req block s) := by
  unfold execErase
  with_reducible repeat' first
    | intro _ | assumption | apply Answers.next | apply State.guard_answers | apply State.gcRequest_kept

theorem execRelocationCopyDone_answers (block : BitVec 27) (fa : Nat) (read : CopyRead) (s : State) (hk : Kept ⟨wd, wr, wu⟩ s₀ s) :
    Answers ⟨wd, wr, wu⟩ s₀ (execRelocationCopyDone block fa read s) := by
  unfold execRelocationCopyDone
  with_reducible repeat' first
    | (intro x; refine Kept.gen (w := ⟨wd, wr, wu⟩) (s₀ := s₀) (x := x) ?_ ?_; rotate_left; clear_value x; rotate_left; subst x) | (intro x; subst x)
    | intro _ | lift_lets | assumption | apply Answers.next | apply Answers.idle | apply Answers.ite | apply State.idle_answers
    | apply State.relocated_kept | apply State.refuseOrder_kept | apply State.copyRecord_kept | apply Kept.ite | split

theorem State.eraseJournal_answers (s : State) (b kind : Nat) (allowed : Nat → Bool) (k : State → Res) (hk : Kept ⟨wd, wr, wu⟩ s₀ s)
    (hg : ∀ s, Kept ⟨wd, wr, wu⟩ s₀ s → Answers ⟨wd, wr, wu⟩ s₀ (k s)) : Answers ⟨wd, wr, wu⟩ s₀ (State.eraseJournal s b kind allowed k) := by
  unfold State.eraseJournal
  split
  · exact .ite (hg _ hk) (.idle hk)
  · exact hg _ (State.journalBlock_kept _ _ _ _ _ (State.repeatPassed_kept _ hk))

theorem execEraseIntentPassed_answers (block : BitVec 27) (s : State) (hk : Kept ⟨wd, wr, wu⟩ s₀ s) :
    Answers ⟨wd, wr, wu⟩ s₀ (execEraseIntentPassed block s) := by
  unfold execEraseIntentPassed
  with_reducible repeat' first
    | (intro x; refine Kept.gen (w := ⟨wd, wr, wu⟩) (s₀ := s₀) (x := x) ?_ ?_; rotate_left; clear_value x; rotate_left; subst x) | (intro x; subst x)
    | intro _ | lift_lets | assumption | apply Answers.next | apply Answers.idle | apply Answers.ite | apply State.idle_answers
    | apply State.eraseJournal_answers | apply Kept.ite
    | fail_if_no_progress (apply Kept.lit; rotate_left; with_unfolding_all rfl; with_unfolding_all rfl) | split

theorem execEraseDone_answers (block : BitVec 27) (result : EraseEnd) (s : State) (hk : Kept ⟨true, wr, wu⟩ s₀ s) :
    Answers ⟨true, wr, wu⟩ s₀ (execEraseDone block result s) := by
  unfold execEraseDone
  with_reducible repeat' first
    | (intro x; refine Kept.gen (w := ⟨true, wr, wu⟩) (s₀ := s₀) (x := x) ?_ ?_; rotate_left; clear_value x; rotate_left; subst x) | (intro x; subst x)
    | intro _ | lift_lets | assumption | apply Answers.next | apply Answers.idle | apply Answers.ite | apply State.idle_answers
    | apply State.eraseJournal_answers | apply State.placeErased_kept | apply State.eraseOver_kept | apply State.count_kept
    | apply State.nfcFault_kept | apply State.setBlock_kept | apply State.record_kept | apply State.retireBlock_kept
    | apply Kept.ite | fail_if_no_progress (apply Kept.lit; rotate_left; with_unfolding_all rfl; with_unfolding_all rfl)

theorem execFlashTempPoll_answers (ch : Fin 32) (temps : List (Fin 64 × Int)) (s : State) (hk :
    Kept ⟨wd, wr, wu⟩ s₀ s) : Answers ⟨wd, wr, wu⟩ s₀ (execFlashTempPoll ch temps s) := by
  unfold execFlashTempPoll
  with_reducible repeat' first
    | (intro x; refine Kept.gen (w := ⟨wd, wr, wu⟩) (s₀ := s₀) (x := x) ?_ ?_; rotate_left; clear_value x; rotate_left; subst x) | (intro x; subst x)
    | intro _ | lift_lets | assumption | apply Answers.next | apply Answers.idle | apply Answers.ite | apply State.putAll_kept
    | apply State.scorch_kept | apply State.put_kept | apply State.showWear_kept | apply Kept.ite | apply Kept.each
    | fail_if_no_progress (apply Kept.lit; rotate_left; with_unfolding_all rfl; with_unfolding_all rfl) | split
    | fail_if_no_progress beta_reduce

theorem execFailedUnitRestart_answers (unit : Nat) (retire : Bool) (s : State) (hk : Kept ⟨true, wr, wu⟩ s₀ s) :
    Answers ⟨true, wr, wu⟩ s₀ (execFailedUnitRestart unit retire s) := by
  unfold execFailedUnitRestart
  with_reducible repeat' first
    | (intro x; refine Kept.gen (w := ⟨true, wr, wu⟩) (s₀ := s₀) (x := x) ?_ ?_; rotate_left; clear_value x; rotate_left; subst x) | (intro x; subst x)
    | intro _ | lift_lets | assumption | apply Answers.next | apply Answers.idle | apply Answers.ite | apply State.idle_answers
    | apply State.putAll_kept | apply State.keepReserve_kept | apply State.settle_kept | apply State.showFailedFc_kept
    | apply State.issueAll_kept | apply State.issueSweep_kept | apply Kept.ite
    | fail_if_no_progress (apply Kept.lit; rotate_left; with_unfolding_all rfl; with_unfolding_all rfl)

theorem execDramAlert_answers (ch : Fin 8) (replays : Nat) (rank : Fin 8) (lost : List Nat) (s : State) (hk : Kept ⟨true, wr, wu⟩ s₀ s) :
    Answers ⟨true, wr, wu⟩ s₀ (execDramAlert ch replays rank lost s) := by
  unfold execDramAlert
  with_reducible repeat' first
    | intro _ | assumption | apply Answers.next | apply Answers.idle | apply Answers.ite | apply State.idle_answers
    | apply State.commandError_kept | apply Kept.ite

theorem execMigrationUnitDone_answers (ch : Fin 8) (errors : LineErrors) (s : State) (hk : Kept ⟨true, wr, wu⟩ s₀ s) :
    Answers ⟨true, wr, wu⟩ s₀ (execMigrationUnitDone ch errors s) := by
  unfold execMigrationUnitDone
  with_reducible repeat' first
    | (intro x; refine Kept.gen (w := ⟨true, wr, wu⟩) (s₀ := s₀) (x := x) ?_ ?_; rotate_left; clear_value x; rotate_left; subst x) | (intro x; subst x)
    | intro _ | lift_lets | assumption | apply Answers.next | apply Answers.idle | apply Answers.ite | apply State.idle_answers
    | apply State.accessLines_kept | apply State.uncorrectable_kept | apply State.lateError_kept | apply State.readErrors_kept
    | apply State.advanceMigration_kept | apply State.settle_kept | apply Kept.ite | apply Kept.each

theorem execRefreshDue_answers (ch : Fin 8) (rank : Fin 8) (bank : Fin 4) (feeds : List (Fin 32 × Fin 9)) (s : State) (hk : Kept ⟨wd, wr, wu⟩ s₀ s) :
    Answers ⟨wd, wr, wu⟩ s₀ (execRefreshDue ch rank bank feeds s) := by
  unfold execRefreshDue
  with_reducible repeat' first
    | (intro x; refine Kept.gen (w := ⟨wd, wr, wu⟩) (s₀ := s₀) (x := x) ?_ ?_; rotate_left; clear_value x; rotate_left; subst x) | (intro x; subst x)
    | intro _ | lift_lets | assumption | apply Answers.next | apply Answers.idle | apply Answers.ite | apply State.idle_answers
    | apply State.refilled_kept | apply State.showPanic_kept | apply State.postpone_kept | apply State.issueRefresh_kept
    | apply Kept.ite

theorem execMr4Poll_answers (ch : Fin 8) (above1x : Bool) (s : State) (hk : Kept ⟨wd, wr, wu⟩ s₀ s) :
    Answers ⟨wd, wr, wu⟩ s₀ (execMr4Poll ch above1x s) := by
  unfold execMr4Poll
  with_reducible repeat' first
    | intro _ | assumption | apply Answers.next | apply Answers.idle | apply Answers.ite | apply State.idle_answers
    | apply State.put_kept | apply Kept.ite

theorem execRowDisturbThrottle_answers (ch : Fin 8) (id : Fin 22) (rank : Fin 8) (bank : Fin 32) (s : State) (hk : Kept ⟨wd, wr, wu⟩ s₀ s) :
    Answers ⟨wd, wr, wu⟩ s₀ (execRowDisturbThrottle ch id rank bank s) := by
  unfold execRowDisturbThrottle
  with_reducible repeat' first
    | (intro x; refine Kept.gen (w := ⟨wd, wr, wu⟩) (s₀ := s₀) (x := x) ?_ ?_; rotate_left; clear_value x; rotate_left; subst x) | (intro x; subst x)
    | intro _ | lift_lets | assumption | apply Answers.next | apply Answers.idle | apply Answers.ite | apply State.idle_answers
    | apply State.count_kept | apply State.throttle_kept | apply Kept.ite
    | fail_if_no_progress (apply Kept.lit; rotate_left; with_unfolding_all rfl; with_unfolding_all rfl) | split

theorem execThrottleEnd_answers (ch : Fin 8) (id : Fin 22) (s : State) (hk : Kept ⟨wd, wr, wu⟩ s₀ s) :
    Answers ⟨wd, wr, wu⟩ s₀ (execThrottleEnd ch id s) := by
  unfold execThrottleEnd
  with_reducible repeat' first
    | (intro x; refine Kept.gen (w := ⟨wd, wr, wu⟩) (s₀ := s₀) (x := x) ?_ ?_; rotate_left; clear_value x; rotate_left; subst x) | (intro x; subst x)
    | intro _ | lift_lets | assumption | apply Answers.next | apply Answers.idle | apply Answers.ite
    | apply State.countFallen_kept | apply State.put_kept | apply Kept.ite

theorem execPowerDownTimer_answers (ch : Fin 8) (rank : Fin 8) (s : State) (hk : Kept ⟨wd, wr, wu⟩ s₀ s) :
    Answers ⟨wd, wr, wu⟩ s₀ (execPowerDownTimer ch rank s) := by
  unfold execPowerDownTimer
  with_reducible repeat' first
    | (intro x; refine Kept.gen (w := ⟨wd, wr, wu⟩) (s₀ := s₀) (x := x) ?_ ?_; rotate_left; clear_value x; rotate_left; subst x) | (intro x; subst x)
    | intro _ | lift_lets | assumption | apply Answers.next | apply Answers.idle | apply Answers.ite | apply State.idle_answers
    | apply State.quiet_kept | apply State.closeRows_kept | apply Kept.ite
    | fail_if_no_progress (apply Kept.lit; rotate_left; with_unfolding_all rfl; with_unfolding_all rfl)

theorem execTimedRowClose_answers (ch : Fin 8) (s : State) (hk : Kept ⟨wd, wr, wu⟩ s₀ s) : Answers ⟨wd, wr, wu⟩ s₀ (execTimedRowClose ch s) := by
  unfold execTimedRowClose
  with_reducible repeat' first
    | intro _ | assumption | apply Answers.next | apply Answers.idle | apply Answers.ite | apply State.idle_answers
    | apply State.closeRows_kept | apply Kept.ite | split

theorem execPatrolScrubRead_answers (ch : Fin 8) (correctable uncorrectable : Bool) (s : State) (hk : Kept ⟨true, wr, wu⟩ s₀ s) :
    Answers ⟨true, wr, wu⟩ s₀ (execPatrolScrubRead ch correctable uncorrectable s) := by
  unfold execPatrolScrubRead
  with_reducible repeat' first
    | (intro x; refine Kept.gen (w := ⟨true, wr, wu⟩) (s₀ := s₀) (x := x) ?_ ?_; rotate_left; clear_value x; rotate_left; subst x) | (intro x; subst x)
    | intro _ | lift_lets | assumption | apply Answers.next | apply Answers.idle | apply Answers.ite | apply State.idle_answers
    | apply State.put_kept | apply State.access_kept | apply State.readErrors_kept | apply State.accessSpare_kept
    | apply State.correctable_kept | apply State.spareError_kept | apply Kept.ite
    | fail_if_no_progress (apply Kept.lit; rotate_left; with_unfolding_all rfl; with_unfolding_all rfl) | split

theorem execScrubPeriodEnd_answers (ch : Fin 8) (s : State) (hk : Kept ⟨wd, wr, wu⟩ s₀ s) : Answers ⟨wd, wr, wu⟩ s₀ (execScrubPeriodEnd ch s) := by
  unfold execScrubPeriodEnd
  with_reducible repeat' first
    | (intro x; refine Kept.gen (w := ⟨wd, wr, wu⟩) (s₀ := s₀) (x := x) ?_ ?_; rotate_left; clear_value x; rotate_left; subst x) | (intro x; subst x)
    | intro _ | lift_lets | assumption | apply Answers.next | apply Answers.idle | apply Answers.ite | apply State.idle_answers
    | apply State.put_kept | apply State.record_kept | apply Kept.ite
    | fail_if_no_progress (apply Kept.lit; rotate_left; with_unfolding_all rfl; with_unfolding_all rfl)

theorem execTrnStart_answers (req : Req) (ch : Fin 8) (s : State) (hk : Kept ⟨wd, wr, wu⟩ s₀ s) : Answers ⟨wd, wr, wu⟩ s₀ (execTrnStart req ch s) := by
  unfold execTrnStart
  with_reducible repeat' first
    | intro _ | assumption | apply Answers.next | apply State.guard_answers | apply State.trnStart_kept

theorem execTrainingSlice_answers (delays : List (Nat × BitVec 16)) (eyes : List (Nat × Nat)) (uncorrectable : List Nat) (complete : Bool) (s : State) (hk : Kept ⟨true, wr, wu⟩ s₀ s) :
    Answers ⟨true, wr, wu⟩ s₀ (execTrainingSlice delays eyes uncorrectable complete s) := by
  unfold execTrainingSlice
  with_reducible repeat' first
    | (intro x; refine Kept.gen (w := ⟨true, wr, wu⟩) (s₀ := s₀) (x := x) ?_ ?_; rotate_left; clear_value x; rotate_left; subst x) | (intro x; subst x)
    | intro _ | lift_lets | assumption | apply Answers.next | apply Answers.idle | apply Answers.ite | apply State.idle_answers
    | apply State.put_kept | apply State.uncorrectables_kept | apply State.sliceActivates_kept | apply State.nextStep_kept
    | apply Kept.ite | apply Kept.fold
    | fail_if_no_progress (apply Kept.lit; rotate_left; with_unfolding_all rfl; with_unfolding_all rfl)

theorem execTrnCommit_answers (req : Req) (verified : Bool) (s : State) (hk :
    Kept ⟨wd, wr, wu⟩ s₀ s) : Answers ⟨wd, wr, wu⟩ s₀ (execTrnCommit req verified s) := by
  unfold execTrnCommit
  with_reducible repeat' first
    | intro _ | assumption | apply Answers.next | apply State.guard_answers | apply State.trnCommit_kept

theorem execTrnAbort_answers (req : Req) (s : State) (hk : Kept ⟨wd, wr, wu⟩ s₀ s) : Answers ⟨wd, wr, wu⟩ s₀ (execTrnAbort req s) := by
  unfold execTrnAbort
  with_reducible repeat' first
    | intro _ | assumption | apply Answers.next | apply State.guard_answers | apply State.abandonSession_kept

theorem execTrnStore_answers (req : Req) (s : State) (hk : Kept ⟨wd, wr, wu⟩ s₀ s) : Answers ⟨wd, wr, wu⟩ s₀ (execTrnStore req s) := by
  unfold execTrnStore
  with_reducible repeat' first
    | intro _ | assumption | apply Answers.next | apply State.guard_answers | apply State.trnStore_kept

theorem execNextBinWrite_answers (req : Req) (bin : BitVec 4) (s : State) (hk :
    Kept ⟨wd, wr, wu⟩ s₀ s) : Answers ⟨wd, wr, wu⟩ s₀ (execNextBinWrite req bin s) := by
  unfold execNextBinWrite
  with_reducible repeat' first
    | intro _ | assumption | apply Answers.next | apply State.guard_answers | apply State.nextBin_kept

theorem execAdcConversionDone_answers (conv : Bool) (code : BitVec 12) (ovr : Bool) (s : State) (hk :
    Kept ⟨true, wr, wu⟩ s₀ s) : Answers ⟨true, wr, wu⟩ s₀ (execAdcConversionDone conv code ovr s) := by
  unfold execAdcConversionDone
  refine .ite (.idle hk) ?_
  split
  · exact .idle hk
  · refine .ite (.idle hk) ?_
    split
    · exact .next (State.slotDone_kept _ _ _ hk)
    · extract_lets c recov gain w queued s1 s2 s3 s4
      have h1 : Kept ⟨true, wr, wu⟩ s₀ s1 := hk.of rfl rfl rfl rfl
      have h2 : Kept ⟨true, wr, wu⟩ s₀ s2 := State.putResult_kept _ _ _ h1
      have h3 : Kept ⟨true, wr, wu⟩ s₀ s3 := .ite (State.queueResult_kept _ _ h2) h2
      have h4 : Kept ⟨true, wr, wu⟩ s₀ s4 := State.recovery_kept _ _ _ _ (State.overRange_kept _ _ _ _ h3)
      exact .next (State.useResult_kept _ _ _ _ _ (State.slotDone_kept _ _ _ h4))

theorem execAdcUrg_answers (req : Req) (value : Word) (s : State) (hk : Kept ⟨wd, wr, wu⟩ s₀ s) : Answers ⟨wd, wr, wu⟩ s₀ (execAdcUrg req value s) := by
  unfold execAdcUrg
  with_reducible repeat' first
    | intro _ | assumption | apply Answers.next | apply State.guard_answers | apply State.urgentWrite_kept

theorem execUrgentConversionDone_answers (conv : Bool) (code : BitVec 12) (ovr : Bool) (s : State) (hk :
    Kept ⟨wd, wr, wu⟩ s₀ s) : Answers ⟨wd, wr, wu⟩ s₀ (execUrgentConversionDone conv code ovr s) := by
  unfold execUrgentConversionDone
  with_reducible repeat' first
    | (intro x; refine Kept.gen (w := ⟨wd, wr, wu⟩) (s₀ := s₀) (x := x) ?_ ?_; rotate_left; clear_value x; rotate_left; subst x) | (intro x; subst x)
    | intro _ | lift_lets | assumption | apply Answers.next | apply Answers.idle | apply Answers.ite | apply State.setConv_kept
    | apply State.putResult_kept | apply State.queueResult_kept | apply State.overRange_kept | apply State.recovery_kept
    | apply Kept.ite | fail_if_no_progress (apply Kept.lit; rotate_left; with_unfolding_all rfl; with_unfolding_all rfl) | split

theorem execAdcResultRead_answers (req : Req) (s : State) (hk : Kept ⟨wd, wr, wu⟩ s₀ s) : Answers ⟨wd, wr, wu⟩ s₀ (execAdcResultRead req s) := by
  unfold execAdcResultRead
  with_reducible repeat' first
    | assumption | apply Answers.next | apply State.answerRead_kept

theorem execAdcUrgResRead_answers (req : Req) (s : State) (hk : Kept ⟨wd, wr, wu⟩ s₀ s) : Answers ⟨wd, wr, wu⟩ s₀ (execAdcUrgResRead req s) := by
  unfold execAdcUrgResRead
  with_reducible repeat' first
    | assumption | apply Answers.next | apply State.answerRead_kept

theorem execRecordWriteDone_answers (rec : Nat) (ok : Bool) (s : State) (hk : Kept ⟨true, wr, wu⟩ s₀ s) :
    Answers ⟨true, wr, wu⟩ s₀ (execRecordWriteDone rec ok s) := by
  unfold execRecordWriteDone
  with_reducible repeat' first
    | (intro x; refine Kept.gen (w := ⟨true, wr, wu⟩) (s₀ := s₀) (x := x) ?_ ?_; rotate_left; clear_value x; rotate_left; subst x) | (intro x; subst x)
    | intro _ | lift_lets | assumption | apply Answers.next | apply Answers.idle | apply Answers.ite | apply State.idle_answers
    | apply State.record_kept | apply State.journalSectors_kept | apply State.writeCopy_kept | apply State.endRetry_kept
    | apply State.endWrite_kept | apply State.done_kept | apply State.applyUpdate_kept | apply State.count_kept
    | apply State.failUpdate_kept | apply State.raiseFault_kept | apply Kept.ite
    | fail_if_no_progress (apply Kept.lit; rotate_left; with_unfolding_all rfl; with_unfolding_all rfl) | split

theorem execKstEraseDone_answers (sector : Nat) (blank : Bool) (s : State) (hk : Kept ⟨wd, wr, true⟩ s₀ s) :
    Answers ⟨wd, wr, true⟩ s₀ (execKstEraseDone sector blank s) := by
  unfold execKstEraseDone
  with_reducible repeat' first
    | (intro x; refine Kept.gen (w := ⟨wd, wr, true⟩) (s₀ := s₀) (x := x) ?_ ?_; rotate_left; clear_value x; rotate_left; subst x) | (intro x; subst x)
    | intro _ | lift_lets | assumption | apply Answers.next | apply Answers.idle | apply Answers.ite | apply State.idle_answers
    | apply State.withoutErase_kept | apply State.eraseSector_kept | apply State.journalErase_kept | apply State.endErase_kept
    | apply State.beginErases_kept | apply State.completeFor_kept | apply State.done_kept | apply State.count_kept
    | apply State.record_kept | apply State.strikeUnit_kept | apply State.strike_kept | apply State.put_kept | apply Kept.ite
    | fail_if_no_progress (apply Kept.lit; rotate_left; with_unfolding_all rfl; with_unfolding_all rfl) | split

theorem execTwiRxdataRead_answers (req : Req) (port : Fin 3) (s : State) (hk :
    Kept ⟨wd, wr, wu⟩ s₀ s) : Answers ⟨wd, wr, wu⟩ s₀ (execTwiRxdataRead req port s) := by
  unfold execTwiRxdataRead
  with_reducible repeat' first
    | assumption | apply Answers.next | apply State.answerRead_kept

theorem execTwiTxdataWrite_answers (req : Req) (port : Fin 3) (byte : Byte) (s : State) (hk :
    Kept ⟨wd, wr, wu⟩ s₀ s) : Answers ⟨wd, wr, wu⟩ s₀ (execTwiTxdataWrite req port byte s) := by
  unfold execTwiTxdataWrite
  with_reducible repeat' first
    | intro _ | assumption | apply Answers.next | apply State.guard_answers | apply State.txWrite_kept

theorem execTwiXfer_answers (req : Req) (port : Fin 3) (value : Word) (s : State) (hk :
    Kept ⟨wd, wr, wu⟩ s₀ s) : Answers ⟨wd, wr, wu⟩ s₀ (execTwiXfer req port value s) := by
  unfold execTwiXfer
  with_reducible repeat' first
    | intro _ | assumption | apply Answers.next | apply State.guard_answers | apply State.xferWrite_kept

theorem execTwiTransactionDone_answers (port : Fin 3) (result : TwiEnd) (data : Bytes) (s : State) (hk :
    Kept ⟨wd, wr, wu⟩ s₀ s) : Answers ⟨wd, wr, wu⟩ s₀ (execTwiTransactionDone port result data s) := by
  unfold execTwiTransactionDone
  with_reducible repeat' first
    | (intro x; refine Kept.gen (w := ⟨wd, wr, wu⟩) (s₀ := s₀) (x := x) ?_ ?_; rotate_left; clear_value x; rotate_left; subst x) | (intro x; subst x)
    | intro _ | lift_lets | assumption | apply Answers.next | apply Answers.idle | apply Answers.ite | apply State.done_kept
    | apply State.setRx_kept | apply State.xferEnd_kept | apply State.count_kept | apply State.put_kept | apply Kept.ite | split

theorem execTwiTargetTimeout_answers (port : Fin 3) (s : State) (hk : Kept ⟨wd, wr, wu⟩ s₀ s) : Answers ⟨wd, wr, wu⟩ s₀ (execTwiTargetTimeout port s) := by
  unfold execTwiTargetTimeout
  with_reducible repeat' first
    | assumption | apply Answers.next | apply Answers.idle | apply Answers.ite | apply State.count_kept | apply State.xferEnd_kept
    | apply State.put_kept | apply Kept.ite

theorem execBusRecovery_answers (port : Fin 3) (freed : Bool) (s : State) (hk : Kept ⟨wd, wr, wu⟩ s₀ s) :
    Answers ⟨wd, wr, wu⟩ s₀ (execBusRecovery port freed s) := by
  unfold execBusRecovery
  with_reducible repeat' first
    | (intro x; refine Kept.gen (w := ⟨wd, wr, wu⟩) (s₀ := s₀) (x := x) ?_ ?_; rotate_left; clear_value x; rotate_left; subst x) | (intro x; subst x)
    | intro _ | lift_lets | assumption | apply Answers.next | apply Answers.idle | apply Answers.ite | apply State.idle_answers
    | apply State.endFault_kept | apply State.putAll_kept | apply State.xferEnd_kept | apply State.record_kept
    | apply State.strike_kept | apply State.raiseFault_kept | apply Kept.ite

theorem execEvrCursorOldest_answers (req : Req) (s : State) (hk : Kept ⟨wd, wr, wu⟩ s₀ s) : Answers ⟨wd, wr, wu⟩ s₀ (execEvrCursorOldest req s) := by
  unfold execEvrCursorOldest
  with_reducible repeat' first
    | intro _ | assumption | apply Answers.next | apply State.guard_answers | apply State.cursorOldest_kept

theorem execEvrCursorAdvance_answers (req : Req) (s : State) (hk : Kept ⟨wd, wr, wu⟩ s₀ s) : Answers ⟨wd, wr, wu⟩ s₀ (execEvrCursorAdvance req s) := by
  unfold execEvrCursorAdvance
  with_reducible repeat' first
    | intro _ | assumption | apply Answers.next | apply State.guard_answers | apply State.cursorAdvance_kept

theorem execEvrCursorSeek_answers (req : Req) (s : State) (hk : Kept ⟨wd, wr, wu⟩ s₀ s) : Answers ⟨wd, wr, wu⟩ s₀ (execEvrCursorSeek req s) := by
  unfold execEvrCursorSeek
  with_reducible repeat' first
    | intro _ | assumption | apply Answers.next | apply State.guard_answers | apply State.cursorSeek_kept

theorem execEvrAreaSelect_answers (req : Req) (area : BitVec 2) (s : State) (hk :
    Kept ⟨wd, wr, wu⟩ s₀ s) : Answers ⟨wd, wr, wu⟩ s₀ (execEvrAreaSelect req area s) := by
  unfold execEvrAreaSelect
  with_reducible repeat' first
    | intro _ | assumption | apply Answers.next | apply State.guard_answers | apply State.cursorArea_kept

theorem execRegisterWrite_answers (req : Req) (off : BitVec 32) (size : Fin 5) (value : Word) (s : State) (hk : Kept ⟨true, wr, wu⟩ s₀ s) :
    Answers ⟨true, wr, wu⟩ s₀ (execRegisterWrite req off size value s) := by
  unfold execRegisterWrite
  with_reducible repeat' first
    | intro _ | assumption | apply Answers.next | apply Answers.idle | apply Answers.ite | apply State.idle_answers
    | apply State.busWrite_kept | apply Kept.ite

theorem execKstVmodeEccWrite_answers (req : Req) (ecc : Bool) (value : Word) (s : State) (hk :
    Kept ⟨wd, wr, wu⟩ s₀ s) : Answers ⟨wd, wr, wu⟩ s₀ (execKstVmodeEccWrite req ecc value s) := by
  unfold execKstVmodeEccWrite
  with_reducible repeat' first
    | intro _ | assumption | apply Answers.next | apply Answers.ite | apply State.guard_answers | apply State.eccWrite_kept
    | apply State.vmodeWrite_kept | apply Kept.ite

theorem execPwrCfgWrite_answers (req : Req) (vin : Bool) (value : Word) (s : State) (hk : Kept ⟨true, wr, wu⟩ s₀ s) :
    Answers ⟨true, wr, wu⟩ s₀ (execPwrCfgWrite req vin value s) := by
  unfold execPwrCfgWrite
  with_reducible repeat' first
    | intro _ | assumption | apply Answers.next | apply Answers.idle | apply Answers.ite | apply State.idle_answers
    | apply State.busWrite_kept | apply Kept.ite

theorem execEvrWin0Read_answers (req : Req) (s : State) (hk : Kept ⟨wd, wr, wu⟩ s₀ s) : Answers ⟨wd, wr, wu⟩ s₀ (execEvrWin0Read req s) := by
  unfold execEvrWin0Read
  with_reducible repeat' first
    | assumption | apply Answers.next | apply State.answerRead_kept

theorem execEpochLoCaptureRead_answers (req : Req) (off : BitVec 32) (s : State) (hk :
    Kept ⟨wd, wr, wu⟩ s₀ s) : Answers ⟨wd, wr, wu⟩ s₀ (execEpochLoCaptureRead req off s) := by
  unfold execEpochLoCaptureRead
  with_reducible repeat' first
    | assumption | apply Answers.next | apply Answers.idle | apply Answers.ite | apply State.answerRead_kept | apply Kept.ite

theorem execDrpSsDirtyRead_answers (req : Req) (s : State) (hk : Kept ⟨wd, wr, wu⟩ s₀ s) : Answers ⟨wd, wr, wu⟩ s₀ (execDrpSsDirtyRead req s) := by
  unfold execDrpSsDirtyRead
  with_reducible repeat' first
    | assumption | apply Answers.next | apply State.answerRead_kept

theorem execRcRegisterRead_answers (req : Req) (off : BitVec 32) (size : Fin 5) (s : State) (hk :
    Kept ⟨wd, wr, wu⟩ s₀ s) : Answers ⟨wd, wr, wu⟩ s₀ (execRcRegisterRead req off size s) := by
  unfold execRcRegisterRead
  with_reducible repeat' first
    | assumption | apply Answers.next | apply Answers.idle | apply Answers.ite | apply State.answerRead_kept | apply Kept.ite

theorem execRgnFaultRead_answers (req : Req) (s : State) (hk : Kept ⟨wd, wr, wu⟩ s₀ s) : Answers ⟨wd, wr, wu⟩ s₀ (execRgnFaultRead req s) := by
  unfold execRgnFaultRead
  with_reducible repeat' first
    | assumption | apply Answers.next | apply State.answerRead_kept

theorem execCpxViolInfoRead_answers (req : Req) (s : State) (hk : Kept ⟨wd, wr, wu⟩ s₀ s) : Answers ⟨wd, wr, wu⟩ s₀ (execCpxViolInfoRead req s) := by
  unfold execCpxViolInfoRead
  with_reducible repeat' first
    | assumption | apply Answers.next | apply State.answerRead_kept

theorem execAppCoreAccess_answers (core : Fin 4) (kind : AccessKind) (addr : BitVec 44) (size : Fin 5) (value : Word) (s : State) (hk : Kept ⟨true, true, wu⟩ s₀ s) :
    Answers ⟨true, true, wu⟩ s₀ (execAppCoreAccess core kind addr size value s) := by
  unfold execAppCoreAccess
  with_reducible repeat' first
    | (intro x; refine Kept.gen (w := ⟨true, true, wu⟩) (s₀ := s₀) (x := x) ?_ ?_; rotate_left; clear_value x; rotate_left; subst x) | (intro x; subst x)
    | intro _ | lift_lets | assumption | apply Answers.next | apply Answers.idle | apply Answers.ite | apply State.idle_answers
    | apply State.fabricWrite_kept | apply State.execute_kept | apply State.fabricRead_kept | apply State.emit_kept
    | apply State.fenceDenied_kept | apply Kept.ite | split

theorem execDmaBurstDone_answers (ch : Fin 16) (s : State) (hk : Kept ⟨true, true, wu⟩ s₀ s) :
    Answers ⟨true, true, wu⟩ s₀ (execDmaBurstDone ch s) := by
  unfold execDmaBurstDone
  with_reducible repeat' first
    | (intro x; refine Kept.gen (w := ⟨true, true, wu⟩) (s₀ := s₀) (x := x) ?_ ?_; rotate_left; clear_value x; rotate_left; subst x) | (intro x; subst x)
    | intro _ | lift_lets | assumption | apply Answers.next | apply Answers.idle | apply Answers.ite | apply State.idle_answers
    | apply State.dmaSlots_kept | apply State.burst_kept | apply State.pauseForDomains_kept | apply State.slotFree_kept
    | apply Kept.ite | split

theorem execDmaBeatTimeout_answers (ch : Fin 16) (write : Bool) (addr : Nat) (s : State) (hk : Kept ⟨true, true, wu⟩ s₀ s) :
    Answers ⟨true, true, wu⟩ s₀ (execDmaBeatTimeout ch write addr s) := by
  unfold execDmaBeatTimeout
  with_reducible repeat' first
    | (intro x; refine Kept.gen (w := ⟨true, true, wu⟩) (s₀ := s₀) (x := x) ?_ ?_; rotate_left; clear_value x; rotate_left; subst x) | (intro x; subst x)
    | intro _ | lift_lets | assumption | apply Answers.next | apply Answers.idle | apply Answers.ite | apply State.idle_answers
    | apply State.dmaSlots_kept | apply State.tick_kept | apply State.burst_kept | apply State.dmaError_kept
    | apply State.slotFree_kept | apply Kept.ite | split

theorem execCommandReplyTimeout_answers (port : Port) (tag : BitVec 32) (s : State) (hk : Kept ⟨wd, wr, wu⟩ s₀ s) :
    Answers ⟨wd, wr, wu⟩ s₀ (execCommandReplyTimeout port tag s) := by
  unfold execCommandReplyTimeout
  with_reducible repeat' first
    | intro _ | assumption | apply Answers.next | apply Answers.idle | apply Answers.ite | apply State.acceptLate_kept
    | apply Kept.ite

theorem execChunkTransferTimeout_answers (opcode : BitVec 16) (s : State) (hk :
    Kept ⟨wd, wr, wu⟩ s₀ s) : Answers ⟨wd, wr, wu⟩ s₀ (execChunkTransferTimeout opcode s) := by
  unfold execChunkTransferTimeout
  with_reducible repeat' first
    | (intro x; refine Kept.gen (w := ⟨wd, wr, wu⟩) (s₀ := s₀) (x := x) ?_ ?_; rotate_left; clear_value x; rotate_left; subst x) | (intro x; subst x)
    | intro _ | lift_lets | assumption | apply Answers.next | apply Answers.idle | apply Answers.ite | apply State.put_kept
    | apply State.fwAbsent_kept | apply Kept.ite
    | fail_if_no_progress (apply Kept.lit; rotate_left; with_unfolding_all rfl; with_unfolding_all rfl)

theorem execIdentify_answers (h : Hdr) (s : State) (hk :
    Kept ⟨wd, wr, wu⟩ s₀ s) : Answers ⟨wd, wr, wu⟩ s₀ (execIdentify h s) := .next (State.runSpec_kept _ _ _ identifySpec_keeps hk)

theorem execReadyGet_answers (h : Hdr) (s : State) (hk :
    Kept ⟨wd, wr, wu⟩ s₀ s) : Answers ⟨wd, wr, wu⟩ s₀ (execReadyGet h s) := .next (State.runSpec_kept _ _ _ readyGetSpec_keeps hk)

theorem execResultGet_answers (h : Hdr) (s : State) (hk :
    Kept ⟨wd, wr, wu⟩ s₀ s) : Answers ⟨wd, wr, wu⟩ s₀ (execResultGet h s) := .next (State.runSpec_kept _ _ _ resultGetSpec_keeps hk)

theorem execFwStatus_answers (h : Hdr) (s : State) (hk :
    Kept ⟨wd, wr, wu⟩ s₀ s) : Answers ⟨wd, wr, wu⟩ s₀ (execFwStatus h s) := .next (State.runSpec_kept _ _ _ fwStatusSpec_keeps hk)

theorem execKeeperUpdateStatus_answers (h : Hdr) (s : State) (hk :
    Kept ⟨wd, wr, wu⟩ s₀ s) : Answers ⟨wd, wr, wu⟩ s₀ (execKeeperUpdateStatus h s) := .next (State.runSpec_kept _ _ _ keeperUpdateStatusSpec_keeps hk)

theorem execEpochList_answers (h : Hdr) (s : State) (hk :
    Kept ⟨wd, wr, wu⟩ s₀ s) : Answers ⟨wd, wr, wu⟩ s₀ (execEpochList h s) := .next (State.runSpec_kept _ _ _ epochListSpec_keeps hk)

theorem execRegionList_answers (h : Hdr) (s : State) (hk :
    Kept ⟨wd, wr, wu⟩ s₀ s) : Answers ⟨wd, wr, wu⟩ s₀ (execRegionList h s) := .next (State.runSpec_kept _ _ _ regionListSpec_keeps hk)

theorem execReserveStatus_answers (h : Hdr) (s : State) (hk :
    Kept ⟨wd, wr, wu⟩ s₀ s) : Answers ⟨wd, wr, wu⟩ s₀ (execReserveStatus h s) := .next (State.runSpec_kept _ _ _ reserveStatusSpec_keeps hk)

theorem execEventRead_answers (h : Hdr) (s : State) (hk :
    Kept ⟨wd, wr, wu⟩ s₀ s) : Answers ⟨wd, wr, wu⟩ s₀ (execEventRead h s) := .next (State.runSpec_kept _ _ _ eventReadSpec_keeps hk)

theorem execDramStatus_answers (h : Hdr) (s : State) (hk :
    Kept ⟨wd, wr, wu⟩ s₀ s) : Answers ⟨wd, wr, wu⟩ s₀ (execDramStatus h s) := .next (State.runSpec_kept _ _ _ dramStatusSpec_keeps hk)

theorem execDelaySetList_answers (h : Hdr) (s : State) (hk :
    Kept ⟨wd, wr, wu⟩ s₀ s) : Answers ⟨wd, wr, wu⟩ s₀ (execDelaySetList h s) := .next (State.runSpec_kept _ _ _ delaySetListSpec_keeps hk)

theorem execFlashStatus_answers (h : Hdr) (s : State) (hk :
    Kept ⟨wd, wr, wu⟩ s₀ s) : Answers ⟨wd, wr, wu⟩ s₀ (execFlashStatus h s) := .next (State.runSpec_kept _ _ _ flashStatusSpec_keeps hk)

theorem execRailStatus_answers (h : Hdr) (s : State) (hk :
    Kept ⟨wd, wr, wu⟩ s₀ s) : Answers ⟨wd, wr, wu⟩ s₀ (execRailStatus h s) := .next (State.runSpec_kept _ _ _ railStatusSpec_keeps hk)

theorem execSidebandStatus_answers (h : Hdr) (s : State) (hk :
    Kept ⟨wd, wr, wu⟩ s₀ s) : Answers ⟨wd, wr, wu⟩ s₀ (execSidebandStatus h s) := .next (State.runSpec_kept _ _ _ sidebandStatusSpec_keeps hk)

theorem execEcho_answers (h : Hdr) (s : State) (hk :
    Kept ⟨wd, wr, wu⟩ s₀ s) : Answers ⟨wd, wr, wu⟩ s₀ (execEcho h s) := .next (State.runSpec_kept _ _ _ echoSpec_keeps hk)

theorem execRegRead_answers (h : Hdr) (s : State) (hk :
    Kept ⟨wd, wr, wu⟩ s₀ s) : Answers ⟨wd, wr, wu⟩ s₀ (execRegRead h s) := .next (State.runSpec_kept _ _ _ regReadSpec_keeps hk)

theorem execRegWrite_answers (h : Hdr) (s : State) (hk : Kept ⟨true, wr, wu⟩ s₀ s) : Answers ⟨true, wr, wu⟩ s₀ (execRegWrite h s) := by
  unfold execRegWrite
  with_reducible repeat' first
    | intro _ | assumption | apply Answers.next | apply Answers.idle | apply Answers.ite | apply State.runSpec_kept
    | apply regWriteSpec_keeps | apply Kept.ite

theorem execPersistConfig_answers (h : Hdr) (s : State) (hk :
    Kept ⟨wd, wr, wu⟩ s₀ s) : Answers ⟨wd, wr, wu⟩ s₀ (execPersistConfig h s) := .next (State.runSpec_kept _ _ _ persistConfigSpec_keeps hk)

theorem execArm_answers (h : Hdr) (s : State) (hk :
    Kept ⟨true, wr, wu⟩ s₀ s) : Answers ⟨true, wr, wu⟩ s₀ (execArm h s) := .next (State.runSpec_kept _ _ _ armSpec_keeps hk)

theorem execDisarm_answers (h : Hdr) (s : State) (hk : Kept ⟨true, wr, wu⟩ s₀ s) : Answers ⟨true, wr, wu⟩ s₀ (execDisarm h s) := by
  unfold execDisarm
  with_reducible repeat' first
    | intro _ | assumption | apply Answers.next | apply Answers.idle | apply Answers.ite | apply State.runSpec_kept
    | apply disarmSpec_keeps | apply Kept.ite

theorem execSealBarrier_answers (h : Hdr) (s : State) (hk : Kept ⟨true, wr, wu⟩ s₀ s) : Answers ⟨true, wr, wu⟩ s₀ (execSealBarrier h s) := by
  unfold execSealBarrier
  with_reducible repeat' first
    | intro _ | assumption | apply Answers.next | apply Answers.idle | apply Answers.ite | apply State.runSpec_kept
    | apply sealBarrierSpec_keeps | apply Kept.ite

theorem execRestoreSelect_answers (h : Hdr) (s : State) (hk :
    Kept ⟨wd, wr, wu⟩ s₀ s) : Answers ⟨wd, wr, wu⟩ s₀ (execRestoreSelect h s) := .next (State.runSpec_kept _ _ _ restoreSelectSpec_keeps hk)

theorem execRestoreProceed_answers (h : Hdr) (s : State) (hk :
    Kept ⟨wd, wr, wu⟩ s₀ s) : Answers ⟨wd, wr, wu⟩ s₀ (execRestoreProceed h s) := .next (State.runSpec_kept _ _ _ restoreProceedSpec_keeps hk)

theorem execLossAccept_answers (h : Hdr) (s : State) (hk :
    Kept ⟨wd, wr, wu⟩ s₀ s) : Answers ⟨wd, wr, wu⟩ s₀ (execLossAccept h s) := .next (State.runSpec_kept _ _ _ lossAcceptSpec_keeps hk)

theorem execBudgetConfig_answers (h : Hdr) (s : State) (hk :
    Kept ⟨wd, wr, wu⟩ s₀ s) : Answers ⟨wd, wr, wu⟩ s₀ (execBudgetConfig h s) := .next (State.runSpec_kept _ _ _ budgetConfigSpec_keeps hk)

theorem execWearConfig_answers (h : Hdr) (s : State) (hk :
    Kept ⟨wd, wr, wu⟩ s₀ s) : Answers ⟨wd, wr, wu⟩ s₀ (execWearConfig h s) := .next (State.runSpec_kept _ _ _ wearConfigSpec_keeps hk)

theorem execSaveModelConfig_answers (h : Hdr) (s : State) (hk :
    Kept ⟨wd, wr, wu⟩ s₀ s) : Answers ⟨wd, wr, wu⟩ s₀ (execSaveModelConfig h s) := .next (State.runSpec_kept _ _ _ saveModelConfigSpec_keeps hk)

theorem execEpochConfig_answers (h : Hdr) (s : State) (hk :
    Kept ⟨wd, wr, wu⟩ s₀ s) : Answers ⟨wd, wr, wu⟩ s₀ (execEpochConfig h s) := .next (State.runSpec_kept _ _ _ epochConfigSpec_keeps hk)

theorem execSaveConfig_answers (h : Hdr) (s : State) (hk :
    Kept ⟨wd, wr, wu⟩ s₀ s) : Answers ⟨wd, wr, wu⟩ s₀ (execSaveConfig h s) := .next (State.runSpec_kept _ _ _ saveConfigSpec_keeps hk)

theorem execRestoreConfig_answers (h : Hdr) (s : State) (hk :
    Kept ⟨wd, wr, wu⟩ s₀ s) : Answers ⟨wd, wr, wu⟩ s₀ (execRestoreConfig h s) := .next (State.runSpec_kept _ _ _ restoreConfigSpec_keeps hk)

theorem execFoghornRaise_answers (h : Hdr) (s : State) (hk : Kept ⟨true, wr, wu⟩ s₀ s) : Answers ⟨true, wr, wu⟩ s₀ (execFoghornRaise h s) := by
  unfold execFoghornRaise
  with_reducible repeat' first
    | intro _ | assumption | apply Answers.next | apply Answers.idle | apply Answers.ite | apply State.runSpec_kept
    | apply foghornRaiseSpec_keeps | apply Kept.ite

theorem execLdConfig_answers (h : Hdr) (s : State) (hk :
    Kept ⟨wd, wr, wu⟩ s₀ s) : Answers ⟨wd, wr, wu⟩ s₀ (execLdConfig h s) := .next (State.runSpec_kept _ _ _ ldConfigSpec_keeps hk)

theorem execHeadOwnerSet_answers (h : Hdr) (s : State) (hk :
    Kept ⟨wd, wr, wu⟩ s₀ s) : Answers ⟨wd, wr, wu⟩ s₀ (execHeadOwnerSet h s) := .next (State.runSpec_kept _ _ _ headOwnerSetSpec_keeps hk)

theorem execRegionDcAdd_answers (h : Hdr) (s : State) (hk :
    Kept ⟨wd, wr, wu⟩ s₀ s) : Answers ⟨wd, wr, wu⟩ s₀ (execRegionDcAdd h s) := .next (State.runSpec_kept _ _ _ regionDcAddSpec_keeps hk)

theorem execRegionDcRelease_answers (h : Hdr) (s : State) (hk :
    Kept ⟨wd, wr, wu⟩ s₀ s) : Answers ⟨wd, wr, wu⟩ s₀ (execRegionDcRelease h s) := .next (State.runSpec_kept _ _ _ regionDcReleaseSpec_keeps hk)

theorem execInitiateDynamicCapacityAdd_answers (h : Hdr) (s : State) (hk :
    Kept ⟨wd, wr, wu⟩ s₀ s) : Answers ⟨wd, wr, wu⟩ s₀ (execInitiateDynamicCapacityAdd h s) := .ite (.next (State.runSpec_kept _ _ _ regionDcAddSpec_keeps hk)) (.idle hk)

theorem execInitiateDynamicCapacityRelease_answers (h : Hdr) (s : State) (hk :
    Kept ⟨wd, wr, wu⟩ s₀ s) : Answers ⟨wd, wr, wu⟩ s₀ (execInitiateDynamicCapacityRelease h s) := .ite (.next (State.runSpec_kept _ _ _ regionDcReleaseSpec_keeps hk)) (.idle hk)

theorem execReserveFigure_answers (h : Hdr) (s : State) (hk : Kept ⟨true, wr, wu⟩ s₀ s) : Answers ⟨true, wr, wu⟩ s₀ (execReserveFigure h s) := by
  unfold execReserveFigure
  with_reducible repeat' first
    | intro _ | assumption | apply Answers.next | apply Answers.idle | apply Answers.ite | apply State.runSpec_kept
    | apply reserveFigureSpec_keeps | apply Kept.ite

theorem execReserveConfig_answers (h : Hdr) (s : State) (hk :
    Kept ⟨wd, wr, wu⟩ s₀ s) : Answers ⟨wd, wr, wu⟩ s₀ (execReserveConfig h s) := .next (State.runSpec_kept _ _ _ reserveConfigSpec_keeps hk)

theorem execReserveRest_answers (h : Hdr) (s : State) (hk :
    Kept ⟨wd, wr, wu⟩ s₀ s) : Answers ⟨wd, wr, wu⟩ s₀ (execReserveRest h s) := .next (State.runSpec_kept _ _ _ reserveRestSpec_keeps hk)

theorem execEventClear_answers (h : Hdr) (s : State) (hk :
    Kept ⟨wd, wr, wu⟩ s₀ s) : Answers ⟨wd, wr, wu⟩ s₀ (execEventClear h s) := .next (State.runSpec_kept _ _ _ eventClearSpec_keeps hk)

theorem execEventRoute_answers (h : Hdr) (s : State) (hk :
    Kept ⟨wd, wr, wu⟩ s₀ s) : Answers ⟨wd, wr, wu⟩ s₀ (execEventRoute h s) := .next (State.runSpec_kept _ _ _ eventRouteSpec_keeps hk)

theorem execDramConfig_answers (h : Hdr) (s : State) (hk :
    Kept ⟨wd, wr, wu⟩ s₀ s) : Answers ⟨wd, wr, wu⟩ s₀ (execDramConfig h s) := .next (State.runSpec_kept _ _ _ dramConfigSpec_keeps hk)

theorem execFlashConfig_answers (h : Hdr) (s : State) (hk :
    Kept ⟨wd, wr, wu⟩ s₀ s) : Answers ⟨wd, wr, wu⟩ s₀ (execFlashConfig h s) := .next (State.runSpec_kept _ _ _ flashConfigSpec_keeps hk)

theorem execRailConfig_answers (h : Hdr) (s : State) (hk :
    Kept ⟨wd, wr, wu⟩ s₀ s) : Answers ⟨wd, wr, wu⟩ s₀ (execRailConfig h s) := .next (State.runSpec_kept _ _ _ railConfigSpec_keeps hk)

theorem execBeaconConfig_answers (h : Hdr) (s : State) (hk :
    Kept ⟨wd, wr, wu⟩ s₀ s) : Answers ⟨wd, wr, wu⟩ s₀ (execBeaconConfig h s) := .next (State.runSpec_kept _ _ _ beaconConfigSpec_keeps hk)

theorem execTwiConfig_answers (h : Hdr) (s : State) (hk :
    Kept ⟨wd, wr, wu⟩ s₀ s) : Answers ⟨wd, wr, wu⟩ s₀ (execTwiConfig h s) := .next (State.runSpec_kept _ _ _ twiConfigSpec_keeps hk)

theorem execTwiPortEnable_answers (h : Hdr) (s : State) (hk :
    Kept ⟨wd, wr, wu⟩ s₀ s) : Answers ⟨wd, wr, wu⟩ s₀ (execTwiPortEnable h s) := .next (State.runSpec_kept _ _ _ twiPortEnableSpec_keeps hk)

theorem execKstProtect_answers (h : Hdr) (s : State) (hk :
    Kept ⟨wd, wr, wu⟩ s₀ s) : Answers ⟨wd, wr, wu⟩ s₀ (execKstProtect h s) := .next (State.runSpec_kept _ _ _ kstProtectSpec_keeps hk)

theorem execKstUserRead_answers (h : Hdr) (s : State) (hk :
    Kept ⟨wd, wr, wu⟩ s₀ s) : Answers ⟨wd, wr, wu⟩ s₀ (execKstUserRead h s) := .next (State.runSpec_kept _ _ _ kstUserReadSpec_keeps hk)

theorem execKstUserProgram_answers (h : Hdr) (s : State) (hk :
    Kept ⟨wd, wr, true⟩ s₀ s) : Answers ⟨wd, wr, true⟩ s₀ (execKstUserProgram h s) := .next (State.runSpec_kept _ _ _ kstUserProgramSpec_keeps hk)

theorem execKstUserErase_answers (h : Hdr) (s : State) (hk :
    Kept ⟨wd, wr, wu⟩ s₀ s) : Answers ⟨wd, wr, wu⟩ s₀ (execKstUserErase h s) := .next (State.runSpec_kept _ _ _ kstUserEraseSpec_keeps hk)

theorem execFwDownload_answers (h : Hdr) (s : State) (hk :
    Kept ⟨wd, true, wu⟩ s₀ s) : Answers ⟨wd, true, wu⟩ s₀ (execFwDownload h s) := .next (State.runSpec_kept _ _ _ fwDownloadSpec_keeps hk)

theorem execKeeperUpdate_answers (h : Hdr) (s : State) (hk :
    Kept ⟨wd, wr, wu⟩ s₀ s) : Answers ⟨wd, wr, wu⟩ s₀ (execKeeperUpdate h s) := .next (State.runSpec_kept _ _ _ keeperUpdateSpec_keeps hk)

theorem execAsyncCommandCompletion_answers (port : Port) (tag : BitVec 32) (status : BitVec 16) (result : Bytes) (s : State) (hk : Kept ⟨wd, wr, wu⟩ s₀ s) :
    Answers ⟨wd, wr, wu⟩ s₀ (execAsyncCommandCompletion port tag status result s) := by
  unfold execAsyncCommandCompletion
  with_reducible repeat' first
    | (intro x; refine Kept.gen (w := ⟨wd, wr, wu⟩) (s₀ := s₀) (x := x) ?_ ?_; rotate_left; clear_value x; rotate_left; subst x) | (intro x; subst x)
    | intro _ | lift_lets | assumption | apply Answers.next | apply Answers.idle | apply Answers.ite | apply State.idle_answers
    | apply State.done_kept | apply State.finishInstall_kept | apply State.complete_kept | apply Kept.ite | split

theorem execTrainRun_answers (h : Hdr) (s : State) (hk :
    Kept ⟨wd, wr, wu⟩ s₀ s) : Answers ⟨wd, wr, wu⟩ s₀ (execTrainRun h s) := .next (State.runSpec_kept _ _ _ trainRunSpec_keeps hk)

theorem execSpeedSelect_answers (h : Hdr) (s : State) (hk :
    Kept ⟨wd, wr, wu⟩ s₀ s) : Answers ⟨wd, wr, wu⟩ s₀ (execSpeedSelect h s) := .next (State.runSpec_kept _ _ _ speedSelectSpec_keeps hk)

theorem execDelaySetLoad_answers (h : Hdr) (s : State) (hk :
    Kept ⟨wd, wr, wu⟩ s₀ s) : Answers ⟨wd, wr, wu⟩ s₀ (execDelaySetLoad h s) := .next (State.runSpec_kept _ _ _ delaySetLoadSpec_keeps hk)

theorem execFlashDiagRead_answers (h : Hdr) (s : State) (hk :
    Kept ⟨wd, wr, wu⟩ s₀ s) : Answers ⟨wd, wr, wu⟩ s₀ (execFlashDiagRead h s) := .next (State.runSpec_kept _ _ _ flashDiagReadSpec_keeps hk)

theorem execFlashDiagProgram_answers (h : Hdr) (s : State) (hk :
    Kept ⟨wd, wr, wu⟩ s₀ s) : Answers ⟨wd, wr, wu⟩ s₀ (execFlashDiagProgram h s) := .next (State.runSpec_kept _ _ _ flashDiagProgramSpec_keeps hk)

theorem execChainSend_answers (h : Hdr) (s : State) (hk :
    Kept ⟨wd, wr, wu⟩ s₀ s) : Answers ⟨wd, wr, wu⟩ s₀ (execChainSend h s) := .next (State.runSpec_kept _ _ _ chainSendSpec_keeps hk)

theorem execChainSendTimeout_answers (tag : BitVec 32) (s : State) (hk :
    Kept ⟨wd, wr, wu⟩ s₀ s) : Answers ⟨wd, wr, wu⟩ s₀ (execChainSendTimeout tag s) := by
  unfold execChainSendTimeout
  with_reducible repeat' first
    | assumption | apply Answers.next | apply State.endChainSend_kept

theorem execMalformedCommandPacket_answers (port : Port) (packet : Bytes) (s : State) (hk :
    Kept ⟨true, true, true⟩ s₀ s) : Answers ⟨true, true, true⟩ s₀ (execMalformedCommandPacket port packet s) := by
  unfold execMalformedCommandPacket
  with_reducible repeat' first
    | assumption | apply Answers.next | apply Answers.ite | apply State.shortPacket_kept | apply State.runPacket_kept
    | apply Kept.ite

theorem execTwiuBlockWriteFirst_answers (data : Bytes) (pecOk : Bool) (s : State) (hk :
    Kept ⟨true, true, true⟩ s₀ s) : Answers ⟨true, true, true⟩ s₀ (execTwiuBlockWriteFirst data pecOk s) := by
  unfold execTwiuBlockWriteFirst
  with_reducible repeat' first
    | assumption | apply Answers.next | apply Answers.idle | apply Answers.ite | apply State.fragment_kept | apply Kept.ite

theorem execTwiuBlockWriteNext_answers (data : Bytes) (pecOk : Bool) (s : State) (hk :
    Kept ⟨true, true, true⟩ s₀ s) : Answers ⟨true, true, true⟩ s₀ (execTwiuBlockWriteNext data pecOk s) := by
  unfold execTwiuBlockWriteNext
  with_reducible repeat' first
    | assumption | apply Answers.next | apply Answers.idle | apply Answers.ite | apply State.count_kept
    | apply State.fragment_kept | apply Kept.ite

theorem execTwiuReplyRead_answers (s : State) (hk : Kept ⟨wd, wr, wu⟩ s₀ s) : Answers ⟨wd, wr, wu⟩ s₀ (execTwiuReplyRead s) := by
  unfold execTwiuReplyRead
  with_reducible repeat' first
    | assumption | apply Answers.next | apply Answers.idle | apply Answers.ite | apply State.readReply_kept | apply Kept.ite

theorem execTwiuReplyReadNext_answers (s : State) (hk : Kept ⟨wd, wr, wu⟩ s₀ s) : Answers ⟨wd, wr, wu⟩ s₀ (execTwiuReplyReadNext s) := by
  unfold execTwiuReplyReadNext
  with_reducible repeat' first
    | assumption | apply Answers.next | apply Answers.idle | apply Answers.ite | apply State.readReply_kept | apply Kept.ite

theorem execTwiuStatusRead_answers (s : State) (hk : Kept ⟨wd, wr, wu⟩ s₀ s) : Answers ⟨wd, wr, wu⟩ s₀ (execTwiuStatusRead s) := by
  unfold execTwiuStatusRead
  with_reducible repeat' first
    | assumption | apply Answers.next | apply Answers.idle | apply Answers.ite | apply State.emit_kept | apply Kept.ite

theorem execTwiuRawWrite_answers (data : Bytes) (s : State) (hk : Kept ⟨wd, wr, wu⟩ s₀ s) : Answers ⟨wd, wr, wu⟩ s₀ (execTwiuRawWrite data s) := by
  unfold execTwiuRawWrite
  with_reducible repeat' first
    | assumption | apply Answers.next | apply Answers.idle | apply Answers.ite | apply State.setRx_kept | apply Kept.ite

theorem execTwiuRawRead_answers (s : State) (hk : Kept ⟨wd, wr, wu⟩ s₀ s) : Answers ⟨wd, wr, wu⟩ s₀ (execTwiuRawRead s) := by
  unfold execTwiuRawRead
  with_reducible repeat' first
    | assumption | apply Answers.next | apply Answers.idle | apply Answers.ite | apply State.setTx_kept | apply State.emit_kept
    | apply Kept.ite

theorem execHostNotify_answers (acked collision : Bool) (s : State) (hk :
    Kept ⟨wd, wr, wu⟩ s₀ s) : Answers ⟨wd, wr, wu⟩ s₀ (execHostNotify acked collision s) := by
  unfold execHostNotify
  with_reducible repeat' first
    | assumption | apply Answers.next | apply Answers.idle | apply Answers.ite | apply State.count_kept
    | apply State.twiEvent_kept | apply State.sendNotify_kept | apply Kept.ite

theorem execHostNotifyNackRetry_answers (acked : Bool) (s : State) (hk :
    Kept ⟨wd, wr, wu⟩ s₀ s) : Answers ⟨wd, wr, wu⟩ s₀ (execHostNotifyNackRetry acked s) := by
  unfold execHostNotifyNackRetry
  with_reducible repeat' first
    | assumption | apply Answers.next | apply Answers.idle | apply Answers.ite | apply State.sendNotify_kept | apply Kept.ite

theorem execTwiuStartAbort_answers (s : State) (hk : Kept ⟨wd, wr, wu⟩ s₀ s) : Answers ⟨wd, wr, wu⟩ s₀ (execTwiuStartAbort s) := by
  unfold execTwiuStartAbort
  with_reducible repeat' first
    | assumption | apply Answers.next | apply Answers.idle | apply Answers.ite | apply State.setPartial_kept
    | apply State.count_kept | apply State.twiEvent_kept | apply Kept.ite

theorem execTwiuSclTimeout_answers (s : State) (hk : Kept ⟨wd, wr, wu⟩ s₀ s) : Answers ⟨wd, wr, wu⟩ s₀ (execTwiuSclTimeout s) := by
  unfold execTwiuSclTimeout
  with_reducible repeat' first
    | assumption | apply Answers.next | apply Answers.idle | apply Answers.ite | apply State.setPartial_kept
    | apply State.count_kept | apply Kept.ite

theorem execTwiuSdaStuck_answers (s : State) (hk : Kept ⟨wd, wr, wu⟩ s₀ s) : Answers ⟨wd, wr, wu⟩ s₀ (execTwiuSdaStuck s) := by
  unfold execTwiuSdaStuck
  with_reducible repeat' first
    | assumption | apply Answers.next | apply Answers.idle | apply Answers.ite | apply State.put_kept | apply Kept.ite

theorem execChainFrame_answers (down : Bool) (packet : Bytes) (crcOk : Bool) (s : State) (hk :
    Kept ⟨true, true, true⟩ s₀ s) : Answers ⟨true, true, true⟩ s₀ (execChainFrame down packet crcOk s) := by
  unfold execChainFrame
  with_reducible repeat' first
    | (intro x; refine Kept.gen (w := ⟨true, true, true⟩) (s₀ := s₀) (x := x) ?_ ?_; rotate_left; clear_value x; rotate_left; subst x) | (intro x; subst x)
    | intro _ | lift_lets | assumption | apply Answers.next | apply Answers.idle | apply Answers.ite | apply State.nextFrame_kept
    | apply State.repeatFrame_kept | apply State.count_kept | apply State.emit_kept | apply State.chainFromDown_kept
    | apply State.chainFromUp_kept | apply Kept.ite

theorem execChainAckTimeout_answers (down : Bool) (s : State) (hk : Kept ⟨wd, wr, wu⟩ s₀ s) : Answers ⟨wd, wr, wu⟩ s₀ (execChainAckTimeout down s) := by
  unfold execChainAckTimeout
  with_reducible repeat' first
    | assumption | apply Answers.next | apply State.repeatFrame_kept

theorem execChainLinkUp_answers (down : Bool) (s : State) (hk : Kept ⟨wd, wr, wu⟩ s₀ s) : Answers ⟨wd, wr, wu⟩ s₀ (execChainLinkUp down s) := by
  unfold execChainLinkUp
  with_reducible repeat' first
    | assumption | apply Answers.next | apply Answers.idle | apply Answers.ite | apply State.put_kept | apply State.record_kept
    | apply Kept.ite

theorem execChainLinkDown_answers (down : Bool) (s : State) (hk : Kept ⟨wd, wr, wu⟩ s₀ s) : Answers ⟨wd, wr, wu⟩ s₀ (execChainLinkDown down s) := by
  unfold execChainLinkDown
  with_reducible repeat' first
    | assumption | apply Answers.next | apply Answers.idle | apply Answers.ite | apply State.put_kept | apply State.count_kept
    | apply State.record_kept | apply Kept.ite

end Sys2Proof.Machine
end

