-- ==== Sys2Proof/Laws/Recorder.lean ====
section
/-! SUPPORT. What recording an event and changing a readiness bit can do to the state, and what they leave. -/

namespace Sys2Proof.Machine

/-- What recording an event never changes: all of the state but the recorder, the CXL event logs, what has been sent out, the
free values taken and the register fields. -/
def State.apart (s : State) : State := { s with regs := [], freeCtr := 0, out := [], evr := Evr.reset, hif := Hif.reset }

/-- The fields that recording an event may change (R459, R711, R715). -/
def evrFields : List Nat := [Reg.EVR_CNT.LOST.key, Reg.EVR_CNT.SEV_DROP.key, Reg.HIF_LD_EVT.OVERFLOW.key]

@[simp] theorem State.signal_apart (s : State) (ld : Fin 16) (v : Nat) : (s.signal ld v).apart = s.apart := by
  unfold State.signal; split <;> rfl

@[simp] theorem State.signal_get (s : State) (ld : Fin 16) (v : Nat) (f : Fld) : (s.signal ld v).get f = s.get f := by
  unfold State.signal; split <;> rfl

@[simp] theorem State.signalAll_apart (s : State) (v : Nat) : (s.signalAll v).apart = s.apart :=
  State.each_keeps State.apart _ (fun s a => by split <;> simp) s allLds

@[simp] theorem State.signalAll_get (s : State) (v : Nat) (f : Fld) : (s.signalAll v).get f = s.get f :=
  State.each_keeps (fun s => s.get f) _ (fun s a => by split <;> simp) s allLds

theorem State.signalAll_regs (s : State) (v : Nat) : (s.signalAll v).regs = s.regs :=
  State.each_keeps State.regs _ (fun s a => by split <;> first | rfl | (unfold State.signal; split <;> rfl)) s allLds

@[simp] theorem State.recorderInterrupt_apart (s : State) : s.recorderInterrupt.apart = s.apart := by
  simp only [State.recorderInterrupt]; split <;> rfl

@[simp] theorem State.recorderInterrupt_get (s : State) (f : Fld) : s.recorderInterrupt.get f = s.get f := by
  simp only [State.recorderInterrupt]; split <;> rfl

@[simp] theorem State.cxlLog_apart (s : State) (log : Nat) (r : EvRecord) (lds : List (Fin 16)) : (s.cxlLog log r lds).apart = s.apart :=
  State.each_keeps State.apart _ (fun s a => by dsimp only; split <;> exact State.signal_apart _ _ _) s lds

theorem State.cxlLog_get (s : State) (log : Nat) (r : EvRecord) (lds : List (Fin 16)) {f : Fld} (h : f.key ∉ evrFields) :
    (s.cxlLog log r lds).get f = s.get f :=
  State.each_keeps (fun s => s.get f) _ (fun s a => by
    have h1 : f.key ≠ Reg.HIF_LD_EVT.OVERFLOW.key := fun e => h (by simp [e, evrFields])
    dsimp only; split
    · simp
    · simp [State.get_put, h1]) s lds

@[simp] theorem State.place_apart (s : State) (r : EvRecord) (priv : Bool) (tied : Option (Fin 16)) : (s.place r priv tied).apart = s.apart := by
  have base : ∀ (t : State) (log : Nat), t.apart = s.apart →
      (t.recorderInterrupt.cxlLog log r (t.logTargets r.source tied)).apart = s.apart := by intro t log h; simp [h]
  unfold State.place
  dsimp only
  split
  · split
    · simp; split <;> rfl
    · simp; rfl
  · split
    · split
      · simp; split <;> rfl
      · simp; rfl
    · rw [State.each_keeps State.apart _ (fun s a => by split <;> simp)]
      split
      · simp; split <;> rfl
      · simp; rfl

theorem State.place_get (s : State) (r : EvRecord) (priv : Bool) (tied : Option (Fin 16)) {f : Fld} (h : f.key ∉ evrFields) :
    (s.place r priv tied).get f = s.get f := by
  have h1 : f.key ≠ Reg.EVR_CNT.SEV_DROP.key := fun e => h (by simp [e, evrFields])
  unfold State.place
  dsimp only
  split
  · split
    · rw [State.cxlLog_get _ _ _ _ h]; simp; split
      · rw [State.get_count]; simp [h1]; rfl
      · rfl
    · rw [State.cxlLog_get _ _ _ _ h]; simp; rfl
  · split
    · split
      · rw [State.cxlLog_get _ _ _ _ h]; simp; split
        · rw [State.get_count]; simp [h1]; rfl
        · rfl
      · rw [State.cxlLog_get _ _ _ _ h]; simp; rfl
    · rw [State.each_keeps (fun s => s.get f) _ (fun s a => by split <;> simp)]
      split
      · rw [State.cxlLog_get _ _ _ _ h]; simp; split
        · rw [State.get_count]; simp [h1]; rfl
        · rfl
      · rw [State.cxlLog_get _ _ _ _ h]; simp; rfl

@[simp] theorem State.newRecord_apart (s : State) (src : Source) (code data : Nat) (tied : Option (Fin 16)) :
    (s.newRecord src code data tied).apart = s.apart := by
  unfold State.newRecord
  split
  · rfl
  · dsimp only; split
    · rw [State.place_apart]; rfl
    · rfl

theorem State.newRecord_get (s : State) (src : Source) (code data : Nat) (tied : Option (Fin 16)) {f : Fld} (h : f.key ∉ evrFields) :
    (s.newRecord src code data tied).get f = s.get f := by
  have h1 : f.key ≠ Reg.EVR_CNT.LOST.key := fun e => h (by simp [e, evrFields])
  unfold State.newRecord
  split
  · rw [State.get_count]; simp [h1]
  · dsimp only; split
    · rw [State.place_get _ _ _ _ h]; rfl
    · rfl

@[simp] theorem State.recordNow_apart (s : State) (src : Source) (code data : Nat) (tied : Option (Fin 16)) :
    (s.recordNow src code data tied).apart = s.apart := by
  unfold State.recordNow
  split
  · split
    · rfl
    · simp
  · simp

theorem State.recordNow_get (s : State) (src : Source) (code data : Nat) (tied : Option (Fin 16)) {f : Fld} (h : f.key ∉ evrFields) :
    (s.recordNow src code data tied).get f = s.get f := by
  unfold State.recordNow
  split
  · split
    · rfl
    · exact State.newRecord_get _ _ _ _ _ h
  · exact State.newRecord_get _ _ _ _ _ h

/-- Recording an event leaves everything but the recorder, the CXL event logs, the fields of `evrFields` and what is sent. -/
@[simp] theorem State.recordFor_apart (s : State) (src : Source) (code : Nat) (vals : List (Nat × Nat)) (tied : Option (Fin 16)) :
    (s.recordFor src code vals tied).apart = s.apart := by
  unfold State.recordFor
  dsimp only
  split
  · rfl
  · simp

theorem State.recordFor_get (s : State) (src : Source) (code : Nat) (vals : List (Nat × Nat)) (tied : Option (Fin 16)) {f : Fld}
    (h : f.key ∉ evrFields) : (s.recordFor src code vals tied).get f = s.get f := by
  unfold State.recordFor
  dsimp only
  split
  · rfl
  · exact State.recordNow_get _ _ _ _ _ h

@[simp] theorem State.record_apart (s : State) (src : Source) (code : Nat) (vals : List (Nat × Nat)) :
    (s.record src code vals).apart = s.apart := State.recordFor_apart s src code vals none

theorem State.record_get (s : State) (src : Source) (code : Nat) (vals : List (Nat × Nat)) {f : Fld}
    (h : f.key ∉ evrFields) : (s.record src code vals).get f = s.get f := State.recordFor_get s src code vals none h

/-- A readiness bit after it is set or cleared (R42). -/
theorem State.setReady_flag (s : State) (f : Fld) (v : Bool) (hw : 0 < f.w) (hk : f.key ∉ evrFields)
    (hc : f.key ≠ (⟨Reg.GLB_READY_CHG.KEEPER_UP.off, f.lo, 1⟩ : Fld).key) : (s.setReady f v).flag f = v := by
  have h2 : 2 ≤ 2 ^ f.w := by
    have := Nat.pow_le_pow_right (show 0 < 2 by omega) (show 1 ≤ f.w by omega); simpa using this
  unfold State.setReady
  split
  · rename_i h; exact eq_of_beq h
  · unfold State.flag
    rw [State.signalAll_get]
    have e : ((((s.put f (ofBool v)).put ⟨Reg.GLB_READY_CHG.KEEPER_UP.off, f.lo, 1⟩ 1).record Ev.READY_CHANGE wide [])).get f =
        ofBool v % 2 ^ f.w := by
      rw [State.record_get _ _ _ _ hk, State.get_put_ne _ _ hc, State.get_put_self]
    show (State.get (((s.put f (ofBool v)).put ⟨Reg.GLB_READY_CHG.KEEPER_UP.off, f.lo, 1⟩ 1).record Ev.READY_CHANGE wide []) f != 0) = v
    rw [e]
    cases v
    · simp [ofBool]
    · have : 1 % 2 ^ f.w = 1 := Nat.mod_eq_of_lt (by omega)
      simp [ofBool, this]

/-- Other fields after a readiness bit is set or cleared. -/
theorem State.setReady_get_ne (s : State) (f : Fld) (v : Bool) {g : Fld} (hg : g.key ∉ evrFields) (h1 : g.key ≠ f.key)
    (h2 : g.key ≠ (⟨Reg.GLB_READY_CHG.KEEPER_UP.off, f.lo, 1⟩ : Fld).key) : (s.setReady f v).get g = s.get g := by
  unfold State.setReady
  split
  · rfl
  · rw [State.signalAll_get]
    show ((((s.put f (ofBool v)).put _ 1).record Ev.READY_CHANGE wide [])).get g = _
    rw [State.record_get _ _ _ _ hg, State.get_put_ne _ _ h2, State.get_put_ne _ _ h1]

end Sys2Proof.Machine
end

