-- ==== Sys2Proof/WellFormed.lean ====
section
/-! DEFINITION. Which commands are well formed: the operands lie where the row's rule puts them. The machine gives every
command a meaning, so this is no gate of the step: it says which operands a sender can produce. -/

namespace Sys2Proof

/-- The LENGTH field fits its four bytes and the payload is no longer than a transport carries (R470, R475). -/
def Hdr.WellFormed (h : Hdr) : Bool := decide (h.length < 2 ^ 32) && decide (h.payload.length ≤ 131072)

/-- A 64-byte line inside an LPA space of 48 bits (R58, R433). -/
def lineOk (lpa : Nat) : Bool := lpa % 64 == 0 && decide (lpa < 2 ^ 48)

/-- A command is well formed: its header's LENGTH is a field of four bytes, a host access is one 64-byte line, a register or core
access moves at least one byte. Every other operand is held in range by its type or is a measured value. -/
def Instr.WellFormed : Instr → Bool
  | .identify h | .readyGet h | .resultGet h | .fwDownload h | .fwStatus h | .keeperUpdate h | .keeperUpdateStatus h
  | .persistConfig h | .arm h | .disarm h | .sealBarrier h | .epochList h | .restoreSelect h | .restoreProceed h
  | .lossAccept h | .budgetConfig h | .wearConfig h | .saveModelConfig h | .epochConfig h | .saveConfig h
  | .restoreConfig h | .foghornRaise h | .ldConfig h | .headOwnerSet h | .regionDcAdd h | .regionDcRelease h
  | .regionList h | .reserveStatus h | .reserveFigure h | .reserveConfig h | .reserveRest h | .eventRead h
  | .eventClear h | .eventRoute h | .dramConfig h | .dramStatus h | .trainRun h | .speedSelect h | .delaySetList h
  | .delaySetLoad h | .flashConfig h | .flashStatus h | .kstProtect h | .kstUserRead h | .kstUserProgram h
  | .kstUserErase h | .railStatus h | .railConfig h | .beaconConfig h | .twiConfig h | .twiPortEnable h
  | .chainSend h | .sidebandStatus h | .echo h | .regRead h | .regWrite h | .flashDiagRead h | .flashDiagProgram h
  | .initiateDynamicCapacityAdd h | .initiateDynamicCapacityRelease h => h.WellFormed
  | .clearPoison _ lpa data => lineOk lpa && data.length == 64
  | .injectPoison _ lpa => lineOk lpa
  | .addDynamicCapacityResponse _ accepted => accepted.all lineOk
  | .releaseDynamicCapacity _ lpas => lpas.all lineOk
  | .rcRegisterRead _ _ size => size.val != 0
  | .registerWrite _ _ size _ => size.val != 0
  | .appCoreAccess _ _ _ size _ => size.val != 0
  | .hostWrite _ _ lpa data _ => decide (lpa < 2 ^ 48) && data != [] && decide (lpa % 64 + data.length ≤ 64)
  | .hostRead _ _ lpa _ => lineOk lpa
  | .commandReplyTimeout .. | .asyncCommandCompletion .. | .chunkTransferTimeout .. | .chainSendTimeout ..
  | .identifyMemoryDevice .. | .getSupportedLogs .. | .getLog .. | .getLsa .. | .setLsa .. | .getHealthInfo ..
  | .getAlertConfiguration .. | .setAlertConfiguration .. | .getShutdownState .. | .setShutdownState ..
  | .getPoisonList .. | .scanMedia .. | .getScanMediaResults .. | .getEventRecords .. | .clearEventRecords ..
  | .getEventInterruptPolicy .. | .setEventInterruptPolicy .. | .getDynamicCapacityConfig ..
  | .getDynamicCapacityExtentList .. | .unsupportedCxlCommand .. | .dcWaitExpired .. | .trnStart .. | .trnCommit ..
  | .trnAbort .. | .trnStore .. | .nextBinWrite .. | .trainingSlice .. | .dmaStart .. | .dmaPause .. | .dmaResume ..
  | .dmaDrain .. | .dmaHalt .. | .dmaSwreq .. | .dmaBurstDone .. | .dmaBeatTimeout .. | .evrCursorOldest ..
  | .evrCursorAdvance .. | .evrCursorSeek .. | .evrAreaSelect .. | .evrWin0Read .. | .epochLoCaptureRead ..
  | .drpSsDirtyRead .. | .rgnFaultRead .. | .cpxViolInfoRead .. | .adcResultRead .. | .adcUrgResRead .. | .adcUrg ..
  | .adcConversionDone .. | .urgentConversionDone .. | .lanternAdcCycle .. | .twiRxdataRead .. | .twiTxdataWrite ..
  | .twiXfer .. | .twiTransactionDone .. | .twiTargetTimeout .. | .busRecovery .. | .relocate .. | .erase ..
  | .domainPowerUp .. | .domainPowerDown .. | .domainDmaWaitTimeout .. | .cpxWdtKick .. | .hifHeadCtoWrite ..
  | .kstVmodeEccWrite .. | .pwrCfgWrite .. | .waitingWriteAdmitted | .admissionTimeout | .arming
  | .copyBeforeWriteDone .. | .directPersistDone .. | .carafeWaitExpired | .trackUe .. | .maskUe ..
  | .dripPageRead .. | .dripProgramPass .. | .dripProgramFail .. | .wearCreditWrite | .boundaryDue | .beaconFrame ..
  | .beaconWindowMiss | .beaconSourceFrame | .beaconAcceptedBoundary | .sealRecordPassed | .indexSegmentPassed
  | .epochDurable | .ringRecordProgramFail .. | .sanitizeFillPage .. | .vinMainFall .. | .vinLossDetected
  | .gpfPhase1 .. | .gpfPhase2 .. | .graceExpired | .cuttingEnd | .saveProgramPass .. | .saveProgramFail ..
  | .cutCommitPassed | .vinValidQualified | .resumeTimeout | .railPgLow .. | .timedShutdownStep .. | .pbtnPress
  | .pbtnOff | .wakeRequest | .autoPowerOn | .powerupRetry | .powerupRankStep | .powerupTimeout ..
  | .keeperBootStart .. | .mrstN | .vsupLevelCrossing .. | .lanternReset | .pllUnlock .. | .refLost | .pllLocked ..
  | .dieOverTemperature | .rsvSample .. | .keeperReserveEval | .dsgCutoff | .chargeEnd | .rechargeStart
  | .chgFault .. | .chgFaultRetry | .restPoint .. | .maintenanceRestTimeout | .stepResistanceSample ..
  | .imageIndexed .. | .selectWaitExpired | .directoryLoaded .. | .sweepPageDone .. | .zeroFillPage | .faultInDone ..
  | .dramRecoveryDone .. | .dramAlert .. | .migrationUnitDone .. | .refreshDue .. | .mr4Poll ..
  | .rowDisturbThrottle .. | .throttleEnd .. | .powerDownTimer .. | .timedRowClose .. | .scrubPeriodEnd ..
  | .eraseIntentPassed .. | .eraseDone .. | .relocationCopyDone .. | .flashTempPoll .. | .recordWriteDone ..
  | .kstEraseDone .. | .linkUp .. | .linkDown .. | .configSpaceReady .. | .cxlMemEnable .. | .portReset ..
  | .functionLevelReset .. | .twiuBlockWriteFirst .. | .twiuBlockWriteNext .. | .twiuRawWrite .. | .hostNotify ..
  | .hostNotifyNackRetry .. | .chainFrame .. | .chainAckTimeout .. | .chainLinkUp .. | .chainLinkDown ..
  | .keeperRestartEnd .. | .patrolScrubRead .. | .failedUnitRestart .. | .malformedCommandPacket .. | .cmdBootSet
  | .fwReadySignal | .fwReadyTimeout | .fwWatchdogExpired | .fwCrash | .pdAppIdleTimeout | .keeperLockstep
  | .twiuReplyRead | .twiuReplyReadNext | .twiuStatusRead | .twiuRawRead | .twiuStartAbort | .twiuSclTimeout
  | .twiuSdaStuck | .vinMainReturn | .sidebandUp => true

end Sys2Proof
end

