-- ==== Sys2Proof/Tests/Slice0.lean ====
section
/-! SUPPORT. The modeller's own tests: ill-formed terms that WellFormed refuses, worked examples of the spec, and for each
statement with premises a theorem that shows concrete states and operands meeting them, clause by clause. A premise that only
names a state (t = …) is met by that state and is left out. -/

namespace Sys2Proof.Tests

open Sys2Proof Sys2Proof.Machine

/-! ## Small states -/

/-- A state whose registers hold the values listed and 0 elsewhere. -/
def At (l : List (Fld × Nat)) : Machine.State := { State.reset with regs := RegFile.setAll [] l }

/-- Readiness after a normal start, before the device is armed. -/
def upBits : List (Fld × Nat) :=
  [(Reg.GLB_READY.CMD_BOOT, 1), (Reg.GLB_READY.KEEPER_UP, 1), (Reg.GLB_READY.FW_RUN, 1), (Reg.GLB_READY.IMAGE_INDEXED, 1),
   (Reg.GLB_READY.SIDEBAND_UP, 1)]

/-- A started device in a persistence state. -/
def upAt (p : Nat) (l : List (Fld × Nat)) : Machine.State := At (upBits ++ [(Reg.GLB_STATE.STATE, p)] ++ l)

/-- A started device in UNARMED. -/
def upState : Machine.State := upAt PState.UNARMED []

/-- A packet of the Keeper with the payload listed. -/
def kp (p : List Nat) : Hdr := ⟨.keeper, 1#32, 0#8, p.length, p.map (BitVec.ofNat 8)⟩

/-- Zero bytes. -/
def z (n : Nat) : List Nat := List.replicate n 0

/-- The first bytes of a chunk: offset, total, flags (R497). -/
def chunk (off total flag : Nat) (data : List Nat) : List Nat :=
  [off, 0, 0, 0, total % 256, total / 256, 0, 0, flag] ++ z 7 ++ data

/-! ## Ill-formed terms -/

theorem smoke_wellFormed : Instr.WellFormed (.identify (kp [])) = true ∧ Instr.WellFormed (.hostRead 0 0 64 .good) = true := by decide
theorem smoke_header_length : Instr.WellFormed (.arm { kp [] with length := 2 ^ 32 }) = false := by decide
theorem smoke_payload_length : ∀ p : Bytes, p.length = 131073 → Instr.WellFormed (.arm { kp [] with payload := p }) = false := by
  intro p h; simp [Instr.WellFormed, Hdr.WellFormed, h]
theorem smoke_write_length : Instr.WellFormed (.hostWrite 0 0 0 [] false) = false ∧
    Instr.WellFormed (.hostWrite 0 0 0 (List.replicate 65 0) false) = false ∧
    Instr.WellFormed (.clearPoison 0 0 [1]) = false := by decide
theorem smoke_line : Instr.WellFormed (.hostRead 0 0 32 .good) = false ∧ Instr.WellFormed (.hostRead 0 0 (2 ^ 48) .good) = false ∧
    Instr.WellFormed (.injectPoison 0 1) = false ∧ Instr.WellFormed (.hostWrite 0 0 1 (List.replicate 64 0) false) = false ∧
    Instr.WellFormed (.clearPoison 0 1 (List.replicate 64 0)) = false := by decide
theorem smoke_extents : Instr.WellFormed (.addDynamicCapacityResponse 0 [0, 1]) = false ∧
    Instr.WellFormed (.releaseDynamicCapacity 0 [1]) = false := by decide
theorem smoke_size : Instr.WellFormed (.rcRegisterRead .fw 0 0) = false ∧ Instr.WellFormed (.registerWrite .fw 0 0 0) = false ∧
    Instr.WellFormed (.appCoreAccess 0 .read 0 0 0) = false := by decide

/-! ## Worked examples of the spec -/

/-- spec/07: FC9.V3.L1, block 4,321, page 517, plane 1, codeword 1. -/
theorem test_flash_address : faBlock 0x49A087090285 = 0x24D10E1 ∧ faChannel 0x49A087090285 = 9 ∧ faPage 0x49A087090285 = 517 := by decide

/-- Eight channels, a 4 KiB grain, ranks of 128 GiB (spec/08); LD5 with extent 12,579 at LXN 258 (spec/10). -/
def exampleState : Machine.State := { At ([(Reg.DMC_MAP.CHANNELS, 8), (Reg.DMC_MAP.GRAIN, 1), (Reg.DRP_CAR_CFG.SIZE_GIB, 32),
    (Reg.HIF_LD_STAT.PRESENT, 0x20), (Reg.HIF_LD_STAT.MEM_EN, 0x20), (Reg.RGN_LD_CAP.STATIC 5, 256), (Reg.RGN_LD_CAP.DC_MAX 5, 256)] ++
    (List.range 8).map fun c => (Reg.DMC_CFG.RANK_SIZE c, 2)) with
  rgn := ⟨[(12579, ⟨.mapped, false, false, 5, 258, .mapped, 0, false, 0, 0⟩)], [], [], false⟩ }

theorem test_dram_address : exampleState.channelOf 0x031234567000 = 7 ∧ exampleState.channelAddr 0x031234567000 = 0x62468AC000 ∧
    exampleState.lrankOf 0x031234567000 = 3 ∧ exampleState.rankOffset 0x031234567000 = 0x2468AC000 ∧
    (exampleState.bankOf 0x031234567000 false).2 = 0x48D1 := by decide
theorem test_translation : exampleState.translate 5 0x001024567000 = .inl 0x031234567000 := by decide
theorem test_host_mappable : exampleState.mappable = 32639 := by decide
/-- spec/11: the SEAL_BARRIER of LD5, and its ACCEPTED reply. -/
theorem test_barrier_reply : packet 0x0303 1 (portByte (.mailbox 5)) 0x2A17#32 0x0001 0 0 [] =
    [3, 3, 1, 0x15, 0x17, 0x2A, 0, 0, 0, 0, 0, 0, 1, 0, 0, 0] := by decide
/-- spec/15: a pack rested at 13.36 V, and u_K after 43 days. -/
theorem test_energy_table : eTab 13360 = 104800 := by decide +kernel
theorem test_uncertainty : uKeeper (43 * 86400) = 146 := by decide

/-- The shipped save model of spec/03, with 400 GiB of C_flash. -/
def modelRegs : List (Fld × Nat) := [(Reg.DRP_MODEL_P.P_FULL, 320), (Reg.DRP_MODEL_P.P_BASE, 120), (Reg.DRP_MODEL_T.T_FIX, 650),
  (Reg.DRP_MODEL_T.T_MAX, 7500), (Reg.SAV_CFG.GRACE_MS, 10), (Reg.DRP_BUDGET.CFG_IN_FORCE, 16),
  (Reg.SAV_RATE.POP_RATE, 400)]

/-- spec/03: that model with a figure of P mW, E mJ and u permil. -/
def budgetState (f : Nat × Nat × Nat) : Machine.State := State.recompute {
    upAt PState.ARMED ([(Reg.GLB_ARM.MODE, 2), (Reg.GLB_READY.PERSIST_ARMED, 1)] ++ modelRegs) with
  drp := { Drp.reset with figure := some f, figureModel := true, tracking := true }
  flash := { Flash.reset with cFlash := 400 * pagesPerGiB } }

theorem test_budget : (budgetState (372000, 80000000, 50)).drp.beffGiB = 256 ∧ (budgetState (372000, 80000000, 50)).get Reg.DRP_BUDGET.LIMITER = 0 := by decide
theorem test_budget_time : (budgetState (200000, 60000000, 140)).drp.beffGiB = 192 ∧ (budgetState (200000, 60000000, 140)).get Reg.DRP_BUDGET.LIMITER = 1 := by decide

/-! ## Witnesses: management commands -/

theorem witness_IdentityAndReadinessReplies : upState.accepts identifySpec (kp []) ∧ upState.accepts readyGetSpec (kp []) ∧
    upState.accepts fwStatusSpec (kp []) ∧ upState.accepts keeperUpdateStatusSpec (kp []) := by
  simp only [State.accepts]; decide
theorem witness_StatusListAndDiagnosticReplies : upState.accepts epochListSpec (kp []) ∧ upState.accepts eventReadSpec (kp (z 10)) ∧
    upState.accepts regionListSpec (kp (z 4)) ∧ upState.accepts reserveStatusSpec (kp []) ∧ upState.accepts echoSpec (kp [1, 2]) ∧
    upState.accepts dramStatusSpec (kp []) ∧ upState.accepts delaySetListSpec (kp []) ∧ upState.accepts flashStatusSpec (kp []) ∧
    upState.accepts railStatusSpec (kp []) ∧ upState.accepts sidebandStatusSpec (kp []) := by
  simp only [State.accepts]; decide

/-- A result waiting for its reader, and a transfer of two bytes so far. -/
def withResult : Machine.State := { upState with cmd := { Cmd.reset with results := [⟨.keeper, 2#32, 0x100, some 0, [7], true, 0⟩] } }
def receiving (op total : Nat) : Machine.State :=
  { upState with cmd := { Cmd.reset with transfers := [⟨op, .keeper, total, [1, 2], 0⟩] } }

/-- LD0 bound, with 4 dynamic extents allowed, and the owner head's link up: LD0's mailbox answers. -/
def mailState : Machine.State := upAt PState.ARMED [(Reg.HIF_LD_STAT.PRESENT, 1), (Reg.RGN_LD_CAP.DC_MAX 0, 4),
  (Reg.HIF_HEAD_STAT.UP 0, 1), (Reg.GLB_READY.MEM_PARTIAL, 1)]

theorem witness_ResultsAndRegistersThroughCommands : withResult.accepts resultGetSpec (kp [2, 0, 0, 0, 0, 0, 0, 0]) ∧
    upState.accepts regReadSpec (kp [0, 0, 0, 0, 1, 0]) ∧ upState.accepts regWriteSpec (kp [0, 0, 0, 0, 1, 0, 0, 0]) := by
  simp only [State.accepts]; decide
theorem witness_ConfigurationCommandsQueueTheirRecordWrite : upState.accepts persistConfigSpec (kp (z 6)) ∧
    upState.accepts budgetConfigSpec (kp (z 3)) ∧ upState.accepts wearConfigSpec (kp (z 3)) ∧
    upState.accepts saveModelConfigSpec (kp [3, 0, 0x40, 1, 0x78, 0, 0x8A, 2, 0x4C, 0x1D]) ∧
    upState.accepts epochConfigSpec (kp (z 8)) ∧ upState.accepts saveConfigSpec (kp (z 4)) ∧
    upState.accepts restoreConfigSpec (kp (z 8)) ∧ upState.accepts reserveConfigSpec (kp (z 6)) ∧
    upState.accepts dramConfigSpec (kp (z 64)) ∧ upState.accepts flashConfigSpec (kp (z 64)) ∧
    upState.accepts beaconConfigSpec (kp (z 12)) ∧ upState.accepts ldConfigSpec (kp (z 8)) ∧
    mailState.accepts headOwnerSetSpec (kp [0]) ∧ upState.accepts eventRouteSpec (kp (z 6)) ∧
    upState.accepts railConfigSpec (kp (z 64)) ∧ upState.accepts twiConfigSpec (kp [1, 0, 100, 0, 250, 0, 44, 1]) := by
  simp only [State.accepts]; decide

/-- A device that may arm with its accepted estimate, and one that is armed. -/
def armState : Machine.State := { upAt PState.UNARMED ([(Reg.GLB_READY.RESERVE_OK, 1), (Reg.RSV_STAT.PRESENT, 1), (Reg.RSV_LRN_CAP.CAP_MAH, 2500), (Reg.RSV_LRN_R.R_LRN25, 500)] ++ modelRegs) with
  drp := { Drp.reset with tracking := true, openEpoch := 1 }, flash := { Flash.reset with cFlash := 400 * pagesPerGiB }
  rsv := { Rsv.reset with accepted := some (372, 80000, 50), tenthC := 250, mv := 13360 } }
def armedState : Machine.State := { upAt PState.ARMED [(Reg.GLB_READY.PERSIST_ARMED, 1), (Reg.GLB_READY.MEM_PARTIAL, 1)] with
  drp := { Drp.reset with tracking := true, openEpoch := 1 } }

theorem witness_ArmAndDisarm : (armedState.accepts armSpec (kp []) ∧ armedState.ready Reg.GLB_READY.PERSIST_ARMED = true) ∧
    (armState.accepts armSpec (kp []) ∧ armState.ready Reg.GLB_READY.PERSIST_ARMED = false) ∧
    (armState.accepts disarmSpec (kp []) ∧ armState.ready Reg.GLB_READY.PERSIST_ARMED = false) ∧
    (armedState.accepts disarmSpec (kp []) ∧ armedState.ready Reg.GLB_READY.PERSIST_ARMED = true ∧ armedState.fogged = false) := by
  simp only [State.accepts]; decide +kernel

/-- An image of epoch 5 sealed at a boundary. -/
def image5 : Image := ⟨false, 5, false, false, true, true, false, [], 4, 32, 129, [], 2, 1⟩

/-- An erase journal record, the first ring record of a flash. -/
def ring1 : RingRec := ⟨1, 3 * 2 ^ 19, 2 ^ 43 + 3 * 2 ^ 19, 3 * 2 ^ 19, 1, .journal 1 [(1, 1)]⟩

/-- A device that may still choose its image. -/
def selecting : Machine.State := { upAt PState.RESTORING [(Reg.GLB_IMAGE.SELECT_OPEN, 1)] with
  flash := { Flash.reset with images := [image5], ring := [ring1] } }

theorem witness_BarrierImageChoiceAndFoghornCommands : armState.accepts sealBarrierSpec (kp []) ∧
    (selecting.accepts restoreSelectSpec (kp [5, 0, 0, 0, 0, 0, 0]) ∧
      selecting.selected (kp [5, 0, 0, 0, 0, 0, 0]).payload = some image5) ∧
    selecting.accepts restoreProceedSpec (kp []) ∧ (upAt PState.LOST []).accepts lossAcceptSpec (kp [0]) ∧
    upState.accepts foghornRaiseSpec (kp (z 4)) := by
  simp only [State.accepts]; decide

/-- LD0 bound with 4 dynamic extents allowed. -/
def dcState : Machine.State := upAt PState.ARMED [(Reg.HIF_LD_STAT.PRESENT, 1), (Reg.RGN_LD_CAP.DC_MAX 0, 4)]

/-- The fabric manager's packet on the owner head. -/
def fm (p : List Nat) : Hdr := ⟨.fmOwned 0, 1#32, 0#8, p.length, p.map (BitVec.ofNat 8)⟩

/-- Extent 3 of LD0, offered and mapped, and the operations that wait: an addition, a release, a forced release. -/
def extent3 (st : ExtState) : NMap Extent := [(3, ⟨st, true, false, 0, 5, st, 0, false, 0, 0⟩)]
def adding : DcOp := ⟨0, true, [3], [], false, none, true⟩
def releasing (force : Bool) : DcOp := ⟨0, false, [3], [], force, none, true⟩
def dcWaits (o : DcOp) (st : ExtState) : Machine.State := { mailState with rgn := ⟨extent3 st, [o], [], false⟩ }
def dcMapped : Machine.State := { mailState with rgn := ⟨extent3 .mapped, [], [], false⟩, rse := { Rse.reset with restored := [(0, 2147483648)] } }

set_option maxRecDepth 8000 in
theorem witness_DynamicCapacityCommandsAndAnswers :
    (dcState.accepts regionDcAddSpec (kp [0, 2, 1, 0, 4, 0]) ∧ dcState.accepts regionDcReleaseSpec (kp (z 4))) ∧
    (mailState.accepts regionDcAddSpec (fm [0, 2, 1, 0, 4, 0]) ∧ mailState.fromOwnerFm (fm []).port = true ∧
      mailState.accepts regionDcReleaseSpec (fm (z 4))) ∧
    ((dcWaits adding .addPending).mailboxUp 0 = true ∧ (dcWaits adding .addPending).rgn.ops.find? (fun o => o.ld == (0 : Fin 16).val &&
      o.add && o.offered && o.answered.isEmpty) = some adding) ∧
    (dcMapped.mailboxUp 0 = true ∧ dcMapped.saving = false ∧
      ([5 * 2 ^ 28].map fun a => (List.find? (fun (e : Nat × Extent) =>
        e.2.live && !e.2.stat && e.2.ld == (0 : Fin 16).val && e.2.lxn == a / 2 ^ 28) dcMapped.rgn.exts).map (·.1)) = [3].map some ∧
      (∀ e ∈ [3], dcMapped.extReady e = true)) ∧
    ((dcWaits adding .addPending).saving = false ∧ (dcWaits adding .addPending).rgn.ops.find? (fun o => o.ld == (0 : Fin 16).val && o.offered &&
      (!o.add || o.answered.isEmpty)) = some adding ∧ adding.add = true) ∧
    ((dcWaits (releasing true) .mapped).saving = false ∧ (dcWaits (releasing true) .mapped).rgn.ops.find? (fun o =>
      o.ld == (0 : Fin 16).val && o.offered && (!o.add || o.answered.isEmpty)) = some (releasing true) ∧ (releasing true).add = false) := by
  simp only [State.accepts]; decide
theorem witness_ReserveCommands : upState.accepts reserveFigureSpec (kp [0, 0, 0, 0, 0, 0, 0, 0, 1, 0, 0, 0]) ∧
    upState.accepts reserveRestSpec (kp []) := by
  simp only [State.accepts]; decide

/-- A command of the Keeper without its reply, one that firmware executes, a delay-set transfer, and a CHAIN_SEND that waits. -/
def working : Machine.State := { upState with
  cmd := { Cmd.reset with results := [⟨.keeper, 2#32, Opc.TRAIN_RUN, none, [], false, 0⟩],
                          transfers := [⟨Opc.DELAY_SET_LOAD, .keeper, 64, [1], 0⟩], chainSends := [(7#32, .keeper, 2#32)] }
  cpx := { Cpx.reset with executing := [(.keeper, 2#32)] } }

theorem witness_EventClearPortEnableAndCommandTimers : upState.accepts eventClearSpec (kp [1]) ∧
    upState.accepts twiPortEnableSpec (kp [0]) ∧
    working.findResult .keeper 2#32 = some ⟨.keeper, 2#32, Opc.TRAIN_RUN, none, [], false, 0⟩ ∧
    ((working.cmd.transfers.any fun t => t.opcode == (BitVec.ofNat 16 Opc.DELAY_SET_LOAD).toNat) = true ∧
      (BitVec.ofNat 16 Opc.DELAY_SET_LOAD).toNat ≠ Opc.KEEPER_UPDATE ∧ (BitVec.ofNat 16 Opc.DELAY_SET_LOAD).toNat ≠ Opc.FW_DOWNLOAD) ∧
    (statusOf (0#16).toNat = some .done ∧ working.kst.installing ≠ some (.keeper, 2#32) ∧
      working.cpx.executing.contains (.keeper, 2#32) = true ∧
      ((working.findResult .keeper 2#32).any fun e => e.opcode == Opc.TRAIN_RUN) = true) ∧
    (upState.accepts chainSendSpec (kp (255 :: z 19)) ∧ byteAt (kp (255 :: z 19)).payload 0 = 255) ∧
    (upState.accepts chainSendSpec (kp (2 :: z 19)) ∧ byteAt (kp (2 :: z 19)).payload 0 ≠ 255) ∧
    working.cmd.chainSends.find? (fun c => c.1 == 7#32) = some (7#32, .keeper, 2#32) := by
  simp only [State.accepts]; decide

/-- The last chunk of an empty delay set for a bin. -/
def setChunk (b : Nat) : Hdr := kp ([0, 0, 0, 0, 64, 0, 0, 0, 1, b] ++ z 6 ++ [1, 0, b] ++ z 61)

/-- The lowest bin of a population is 0 or 2 (R351, R396), and SPEED_SELECT takes it. -/
theorem minBin_cases : minBin = 0 ∨ minBin = 2 := by unfold minBin; split <;> simp
theorem minBin_le : minBin ≤ maxBin := by unfold maxBin; omega
theorem speed_accepted (b : Nat) (hb : b = 0 ∨ b = 2) (h : minBin = b) : upState.accepts speedSelectSpec (kp [b]) := by
  have h1 : (decide (b < minBin) || decide (maxBin < b)) = false := by have := minBin_le; simp; omega
  rcases hb with hb | hb <;> subst hb <;> refine ⟨rfl, rfl, rfl, ?_⟩
  · show (if (true && (decide (0 < minBin) || decide (maxBin < 0))) = true then some Status.badField else none) = none
    rw [h1]; rfl
  · show (if (true && (decide (2 < minBin) || decide (maxBin < 2))) = true then some Status.badField else none) = none
    rw [h1]; rfl
theorem set_accepted (b : Nat) (hb : b = 0 ∨ b = 2) (h : minBin = b) : upState.accepts delaySetLoadSpec (setChunk b) := by
  have h1 : decide (b < minBin) = false := by simp; omega
  have h2 : decide (maxBin < b) = false := by have := minBin_le; simp; omega
  rcases hb with hb | hb <;> subst hb <;> refine ⟨rfl, rfl, rfl, ?_⟩
  · show (if (false || decide (0 < minBin) || decide (maxBin < 0) || false) = true then some Status.badField else none) = none
    rw [h1, h2]; rfl
  · show (if (false || decide (2 < minBin) || decide (maxBin < 2) || false) = true then some Status.badField else none) = none
    rw [h1, h2]; rfl

theorem witness_TrainingAndDelayCommands :
    (upAt PState.ARMED [(Reg.GLB_READY.MEM_FULL, 1), (Reg.DMC_STAT.UP 0, 1)]).accepts trainRunSpec (kp [1]) ∧
    ((∃ b, upState.accepts speedSelectSpec (kp [b])) ∧ upState.flag Reg.TRN_STAT.GATHER = false) ∧
    (upState.accepts delaySetLoadSpec (kp (chunk 0 8 0 [1, 2])) ∧ chunkLast (kp (chunk 0 8 0 [1, 2])).payload = false) ∧
    (∃ b, upState.accepts delaySetLoadSpec (setChunk b) ∧ chunkLast (setChunk b).payload = true) :=
  ⟨by simp only [State.accepts]; decide, ⟨⟨minBin, speed_accepted _ minBin_cases rfl⟩, by decide⟩,
    by simp only [State.accepts]; decide, minBin, set_accepted _ minBin_cases rfl, rfl⟩

/-- A drive with one channel up, and a page of it not yet programmed. -/
def driveState : Machine.State := { upAt PState.UNARMED [(Reg.NFC_POP.TGT_PER_CH, 4), (Reg.NFC_POP.LUN_CODE, 1), (Reg.NFC_GEOM.BLOCKS, 100),
  (Reg.NFC_GEOM.PAGES_M1, 100), (Reg.NFC_POP.PLANES, 4), (Reg.NFC_CH_STAT.UP 0, 1), (Reg.NFC_CH_CFG.ENABLE 0, 1)] with
  pop := ⟨0, [0]⟩, flash := { Flash.reset with blocks := [(1, ⟨4, 0, 0, 0, 0, false, false, false⟩)] } }
def diagHdr : Hdr := kp ([0, 0, 8, 0, 0, 0, 0, 0] ++ z 8)

/-- KST_PROTECT of the integrator area's group 8 with an operation. -/
def protect (op : Nat) : Hdr := kp ([8, op] ++ z 34)
def withPassword (d : Bytes) : Machine.State := { upState with kst := { Kst.reset with passwords := [(8, d)] } }
def unlockable : Machine.State := withPassword (passwordDigest (((protect 1).payload.drop 4).take 16))

set_option maxRecDepth 8000 in
theorem witness_FlashDiagnosticAndIntegratorAreaCommands :
    (driveState.accepts flashDiagReadSpec diagHdr ∧ driveState.channelUp (faChannel (fieldAt diagHdr.payload 0 8)) = true) ∧
    (driveState.accepts flashDiagProgramSpec diagHdr ∧ driveState.channelUp (faChannel (fieldAt diagHdr.payload 0 8)) = true ∧
      driveState.inOrder (fieldAt diagHdr.payload 0 8) = true) ∧
    ((withPassword []).accepts kstProtectSpec (protect 2) ∧ byteAt (protect 2).payload 1 = 2) ∧
    upState.accepts kstUserReadSpec (kp [0, 0, 0, 0, 1, 0]) ∧
    (upState.accepts kstUserProgramSpec (kp (z 260)) ∧ upState.kst.programmed.contains (fieldAt (kp (z 260)).payload 0 4 / 256) = false ∧
      upState.userFailed (fieldAt (kp (z 260)).payload 0 4) = false ∧ upState.unitFailed kstUnit = false) ∧
    (upState.accepts kstUserEraseSpec (kp (z 8)) ∧ upState.userFailed (fieldAt (kp (z 8)).payload 0 4) = false) := by
  simp only [State.accepts]; decide
theorem witness_FlashDiagnosticAndIntegratorAreaCommands_unlock : unlockable.accepts kstProtectSpec (protect 1) ∧
    byteAt (protect 1).payload 1 = 1 ∧
    unlockable.passwordMatches (byteAt (protect 1).payload 0) (((protect 1).payload.drop 4).take 16) = true := by
  refine ⟨?_, by decide, ?_⟩
  · simp only [State.accepts]; decide
  · exact beq_self_eq_true (passwordDigest _)
theorem witness_ImageTransferCommands :
    ((receiving Opc.FW_DOWNLOAD 8).accepts fwDownloadSpec (kp (chunk 2 8 0 [3])) ∧ chunkOff (kp (chunk 2 8 0 [3])).payload ≠ 0 ∧
      chunkLast (kp (chunk 2 8 0 [3])).payload = false) ∧
    ((receiving Opc.FW_DOWNLOAD 3).accepts fwDownloadSpec (kp (chunk 2 3 1 [3])) ∧ chunkOff (kp (chunk 2 3 1 [3])).payload ≠ 0 ∧
      chunkLast (kp (chunk 2 3 1 [3])).payload = true) ∧
    (upState.accepts keeperUpdateSpec (kp (chunk 0 8 0 [1, 2])) ∧ chunkLast (kp (chunk 0 8 0 [1, 2])).payload = false) ∧
    ((receiving Opc.KEEPER_UPDATE 3).accepts keeperUpdateSpec (kp (chunk 2 3 1 [3])) ∧
      chunkLast (kp (chunk 2 3 1 [3])).payload = true) := by
  simp only [State.accepts]; decide

/-! ## Witnesses: every step, memory, and the rules of the spec -/

/-- A command with its state's answer known. -/
def waiting : Machine.State := { upState with pending := [.cpxWdtKick .fw 0] }

theorem witness_StepTakesOneCommandFromTheQueue : ∃ t, Machine.step waiting = .next t := ⟨_, rfl⟩
theorem witness_StepKeepsMemoryCanonical : waiting.memoryCanonical ∧ ∃ t, Machine.step waiting = .next t :=
  ⟨by simp only [State.memoryCanonical]; decide, _, rfl⟩
theorem witness_MemoryReadsBackWhatWasWritten : Memory.wf (dramWrite [] 5 [1, 0, 3]) = true ∧
    (2 : Nat) < ([1, 0, 3] : Bytes).length ∧ ((4 : Nat) < 5 ∨ 5 + ([1, 0, 3] : Bytes).length ≤ 4) ∧
    ((8 : Nat) < 5 ∨ 5 + ([1, 0, 3] : Bytes).length ≤ 8) := by decide
theorem witness_OnlyTheNamedRowsWriteMemory : Machine.exec (.cpxWdtKick .fw 0) upState = .next upState ∧
    mayWriteMemory (.cpxWdtKick .fw 0) = false ∧ mayWriteSram (.cpxWdtKick .fw 0) = false ∧
    mayWriteUserArea (.cpxWdtKick .fw 0) = false := ⟨rfl, by decide⟩

/-- LD0 of head 0 with its first extent mapped and restored; the link is up and CXL.mem enabled. -/
def memState (p : Nat) (l : List (Fld × Nat)) : Machine.State := { upAt p ([(Reg.GLB_READY.MEM_PARTIAL, 1), (Reg.HIF_HEAD_STAT.UP 0, 1),
    (Reg.HIF_LD_STAT.PRESENT, 1), (Reg.HIF_LD_STAT.MEM_EN, 1), (Reg.RGN_LD_CAP.STATIC 0, 1)] ++ l) with
  rgn := ⟨[(0, ⟨.mapped, false, true, 0, 0, .mapped, 0, false, 0, 0⟩)], [], [], false⟩
  rse := { Rse.reset with restored := [(0, 65536)] } }

theorem witness_HostWriteStoresItsLineAndNoOther :
    (memState PState.ARMED [(Reg.GLB_READY.PERSIST_ARMED, 1)]).memoryCanonical ∧
    (memState PState.ARMED [(Reg.GLB_READY.PERSIST_ARMED, 1)]).reaches 0 0 = true ∧
    (memState PState.ARMED [(Reg.GLB_READY.PERSIST_ARMED, 1)]).saving = false ∧
    (memState PState.ARMED [(Reg.GLB_READY.PERSIST_ARMED, 1)]).ready Reg.GLB_READY.MEM_PARTIAL = true ∧
    (∀ lpa ∈ [0, 2 ^ 28 - 64], (memState PState.ARMED [(Reg.GLB_READY.PERSIST_ARMED, 1)]).translate 0 lpa = .inl lpa) ∧
    (memState PState.ARMED [(Reg.GLB_READY.PERSIST_ARMED, 1)]).ready Reg.GLB_READY.PERSIST_ARMED = true ∧
    (memState PState.ARMED [(Reg.GLB_READY.PERSIST_ARMED, 1)]).get Reg.DRP_ADM.BAND = 0 ∧
    (memState PState.ARMED [(Reg.GLB_READY.PERSIST_ARMED, 1)]).get Reg.DRP_ADM.STALL = 0 ∧
    (memState PState.ARMED [(Reg.GLB_READY.PERSIST_ARMED, 1)]).waiters = [] ∧
    (∀ page ∈ [0, 65535], (memState PState.ARMED [(Reg.GLB_READY.PERSIST_ARMED, 1)]).pageRestored page = true ∧
      (memState PState.ARMED [(Reg.GLB_READY.PERSIST_ARMED, 1)]).pageRecovering page = false ∧
      (memState PState.ARMED [(Reg.GLB_READY.PERSIST_ARMED, 1)]).drp.owedUncopied page = false) ∧
    (∀ line ∈ [0, 4194303], (memState PState.ARMED [(Reg.GLB_READY.PERSIST_ARMED, 1)]).lineFailed line = false) ∧
    (∀ dpa ∈ [0, 2 ^ 28 - 64], (memState PState.ARMED [(Reg.GLB_READY.PERSIST_ARMED, 1)]).inUnit dpa = false) ∧
    ∀ n ∈ [1, 64], (2 ^ 28 - 64) % 64 + (List.replicate n (1#8)).length ≤ 64 := by
  simp only [State.memoryCanonical]; decide
theorem witness_ACommandThatFailsATestHasNoEffect : packetRow (.echo (kp [])) = some (echoSpec, kp []) ∧
    packetRow (.disarm (kp [])) = some (disarmSpec, kp []) ∧ upState.turnsAway disarmSpec { kp [] with length := 3 } .badLength ∧
    (upAt PState.SAVED []).turnsAway disarmSpec (kp []) .busySaving := by
  simp only [State.turnsAway]; exact ⟨rfl, rfl, by decide, by decide⟩
theorem witness_QueriesAndSettingsOnlyReportAndQueue : quietRow (.identify (kp [])) = true ∧
    ∃ t, Machine.exec (.identify (kp [])) upState = .next t := ⟨rfl, _, rfl⟩
theorem witness_LoReadCapturesForTheHiRead : (0x14 ∈ loRegs ∧ ∃ d e, regAt (.head 0) 0x14 = some d ∧ regAt (.head 0) 0x18 = some e ∧
      (upState.visible (.head 0) d).isEmpty = false) ∧
    (0x704E8 ∈ loRegs ∧ ∃ d e, regAt .keeper 0x704E8 = some d ∧ regAt .keeper 0x704EC = some e ∧
      (upState.visible .keeper d).isEmpty = false) ∧ upState.caps = [] :=
  ⟨⟨by decide, _, _, rfl, rfl, by decide⟩, ⟨by decide, _, _, rfl, rfl, by decide⟩, rfl⟩
theorem witness_CommandsRefusedWhileSaving : ∀ p ∈ [PState.CUTTING, PState.SAVING, PState.SAVED],
    (upAt p []).cpx.rom = false ∧ (upAt p []).takes .keeper = true ∧ (upAt p []).awaits .keeper = false ∧
    badLength (kp [5, 0, 0, 0, 0, 0, 0]) = false ∧ (upAt p []).cpx.restarting = false ∧ (upAt p []).saving = true ∧
    (upAt p []).srcOf .keeper = .keeper ∧ (upAt p []).ready Reg.GLB_READY.IMAGE_INDEXED = true ∧
    7 ≤ (kp [5, 0, 0, 0, 0, 0, 0]).payload.length ∧ (upAt p []).drp.openEpoch = 0 := by decide

/-- Epoch 9 open with granule 4 dirty, and a shadow of the boundary period. -/
def epochState : Machine.State := { upAt PState.ARMED [] with
  drp := { Drp.reset with tracking := true, openEpoch := 9, grans := [(4, ⟨.dirty, 1, 0, 0⟩)] }, shadows := [(Reg.DRP_BND_CFG.PERIOD_MS.key, 50)] }

theorem witness_BoundaryInstantIsOneStep : epochState.epochsRun = true ∧ epochState.localTiming = true ∧
    epochState.drp.sealEpoch = 0 ∧ epochState.drp.openEpoch + 1 < 2 ^ 48 ∧
    NMap.find? epochState.shadows Reg.DRP_BND_CFG.PERIOD_MS.key = some 50 := by decide

/-- The grace of a Foghorn. -/
def graceState : Machine.State := { upAt PState.ARMED [(Reg.SAV_STAT.PHASE, 1), (Reg.PWR_STAT.FOGHORN, 1)] with
  drp := { Drp.reset with tracking := true, openEpoch := 9, sealEpoch := 8 } }

theorem witness_CutStepsOfTheGraceEnd : graceState.get Reg.SAV_STAT.PHASE = 1 ∧ graceState.fogged = true ∧
    graceState.pwr.underway = false := by decide

/-- A record of a severity, and a severity area with the records listed. -/
def recordOf (sev : Nat) : EvRecord := ⟨16, sev, 0, 1, 0, 0, 0⟩
def sevState (l : List EvRecord) : Machine.State := { upState with evr := { Evr.reset with sev := l } }

set_option maxRecDepth 4000 in
theorem witness_SeverityAreaTakesAPrivilegedRecord : (sevState (List.replicate 127 (recordOf 2))).evr.sev.length < 128 ∧
    ((sevState (List.replicate 128 (recordOf 2))).evr.sev = [] ++ recordOf 2 :: List.replicate 127 (recordOf 2) ∧
      128 ≤ (sevState (List.replicate 128 (recordOf 2))).evr.sev.length ∧ (recordOf 2).severity ≤ (recordOf 2).severity) ∧
    (128 ≤ (sevState (List.replicate 128 (recordOf 3))).evr.sev.length ∧
      ∀ x ∈ (sevState (List.replicate 128 (recordOf 3))).evr.sev, (recordOf 2).severity < x.severity) := by decide

/-- LD_CONFIG payloads: LD1 bound to a head that is absent, LD1 with 32,768 extents, and LD1 static beside LD0's. -/
def ldPayloads : List (List Nat) := [[1, 1, 1, 0, 0, 0, 0, 0], [1, 1, 0, 0, 0xFF, 0x7F, 1, 0], [1, 1, 0, 0, 1, 0, 0, 0]]

theorem witness_LdConfigBadFieldCases :
    (∀ p ∈ ldPayloads, upState.cpx.rom = false ∧ upState.takes .keeper = true ∧ upState.awaits .keeper = false ∧
      badLength (kp p) = false ∧ upState.srcOf .keeper = .keeper ∧ upState.cpx.restarting = false ∧ 8 ≤ (kp p).payload.length ∧
      upState.resultCount .keeper < 16 ∧ upState.recordBusy 4 = none) ∧
    (∃ e ∈ upState.ldAfter (kp (ldPayloads.getD 0 [])).payload,
      headUnder (upState.bifurAfter (kp (ldPayloads.getD 0 [])).payload) e.2.head = false) ∧
    (∃ e ∈ upState.ldAfter (kp (ldPayloads.getD 1 [])).payload, 32767 < e.2.stat + e.2.dcMax) ∧
    (At (upBits ++ [(Reg.DRP_CAR_CFG.SIZE_GIB, 32)])).mappable <
      (((At (upBits ++ [(Reg.DRP_CAR_CFG.SIZE_GIB, 32)])).ldAfter (kp (ldPayloads.getD 2 [])).payload).map fun e => e.2.stat).sum := by decide
theorem witness_DevLoadFollowsTheAdmissionBand : (upAt PState.ARMED [(Reg.DRP_ADM.STALL, 1)]).get Reg.DRP_ADM.STALL ≠ 0 ∧
    (∃ c : Fin 8, bitOf ((upAt PState.ARMED [(Reg.DMC_RD_STAT.THROTTLED 7, 1)]).get (Reg.DMC_RD_STAT.THROTTLED c)) (0 : Fin 16) = true) ∧
    (∀ b ∈ [0, 1, 2], (upAt PState.ARMED [(Reg.DRP_ADM.BAND, b)]).get Reg.DRP_ADM.STALL = 0 ∧
      (∀ c : Fin 8, bitOf ((upAt PState.ARMED [(Reg.DRP_ADM.BAND, b)]).get (Reg.DMC_RD_STAT.THROTTLED c)) (0 : Fin 16) = false) ∧
      (upAt PState.ARMED [(Reg.DRP_ADM.BAND, b)]).get Reg.DRP_ADM.BAND = b) ∧
    upState.beff ≤ 2 * upState.drp.saveSet ∧
    2 * upState.drp.saveSet < State.beff { upState with drp := { Drp.reset with beffGiB := 1 } } := by decide

/-- Application SRAM whose first 32 bytes are a descriptor for request line 32, granted to DMA by window 0, and channel 15
running on that line. -/
def dmaState : Machine.State := { upAt PState.ARMED [(Reg.DMA_CH_DESC.ADDR 0, sramBase), (Reg.CPX_WIN_ATTR.EN 0, 1),
    (Reg.CPX_WIN_ATTR.DMA 0, 1), (Reg.CPX_WIN_ATTR.R 0, 1), (Reg.CPX_WIN_BASE.BASE_4K 0, sramBase / 4096),
    (Reg.CPX_WIN_SIZE.SIZE_4K 0, sramSize / 4096), (Reg.DMA_CH_STAT.STATE 15, 1), (Reg.DMA_CH_STAT.STATE 1, 2)] with
  cpx := { Cpx.reset with ram := dramWrite [] 0 ([sramBase, 0, sramBase, 0, 16, 0xA0000, 0, 0].flatMap (leBytes 4)) }
  dma := { Dma.reset with jobs := [(1, ⟨0xA0000, 0, false⟩), (15, ⟨0xA0000, 0, false⟩)] } }

theorem witness_StartOnALineInUseIsAnError : ∀ k ∈ ([1, 15] : List (Fin 16)), dmaState.permits .fw .f ∧
    dmaState.dmaState 0 ∈ [0, 4, 5, 6, 7] ∧ dmaState.get (Reg.DMA_CH_DESC.ADDR 0) = sramBase ∧
    dmaState.fenceGrants (.dma 0) .read sramBase 32 = true ∧ within sramBase 32 sramBase sramSize = true ∧ sramBase % 32 = 0 ∧
    badDescriptor (dmaState.descriptor sramBase) = false ∧ bitOf ((dmaState.descriptor sramBase).getD 5 0) 19 = true ∧
    k ≠ 0 ∧ (dmaState.dmaState k = 1 ∨ dmaState.dmaState k = 2) ∧ NMap.find? dmaState.dma.jobs k = some ⟨0xA0000, 0, false⟩ ∧
    bitOf 0xA0000 19 = true ∧ bitsOf 0xA0000 12 6 = bitsOf ((dmaState.descriptor sramBase).getD 5 0) 12 6 := by
  simp only [State.permits]; decide

/-! ## Witnesses: mailbox, links, training, DMA, firmware, registers -/

/-- The same with one more field set. -/
def mailWith (l : List (Fld × Nat)) : Machine.State := upAt PState.ARMED ([(Reg.HIF_LD_STAT.PRESENT, 0x8001),
  (Reg.HIF_HEAD_STAT.UP 0, 1), (Reg.GLB_READY.MEM_PARTIAL, 1)] ++ l)
def withLd (d : LdState) : Machine.State := { mailState with hif := { Hif.reset with lds := [(0, d)] } }

theorem witness_MailboxQueriesAnswerAndChangeNothingElse : (∀ ld ∈ ([0, 15] : List (Fin 16)), (mailWith []).mailboxUp ld = true ∧
      ((mailWith []).ldState ld).scan = none) ∧
    ((withLd { scan := some (0, 64, []) }).mailboxUp 0 = true ∧ ((withLd { scan := some (0, 64, []) }).ldState 0).scan = some (0, 64, [])) := by
  decide
theorem witness_MailboxSettingsTakeEffect : 16383 + ([1#8] : Bytes).length ≤ 16384 ∧
    mailState.mailboxUp 0 = true ∧ (∀ w ∈ mailState.cmd.writes, w.record ≠ 16 + (0 : Fin 16).val) ∧
    ((withLd { logs := [⟨2, 1, 16, 1, 0⟩] }).mailboxUp 0 = true ∧ ∀ h ∈ [1], ∃ r ∈ ((withLd { logs := [⟨2, 1, 16, 1, 0⟩] }).ldState 0).logs,
      r.log = (2 : Fin 5).val ∧ r.handle = (BitVec.ofNat 16 h).toNat) := ⟨Nat.le_refl 16384, by decide⟩
theorem witness_ScanAndPoisonCommandsAnswer : (mailState.mailboxUp 0 = true ∧ mailState.saving = false ∧
      mailState.flag Reg.RGN_CFG.INJECT_EN = false) ∧
    ((memState PState.ARMED [(Reg.RGN_CFG.INJECT_EN, 1)]).mailboxUp 0 = true ∧
      (memState PState.ARMED [(Reg.RGN_CFG.INJECT_EN, 1)]).saving = false ∧
      (memState PState.ARMED [(Reg.RGN_CFG.INJECT_EN, 1)]).flag Reg.RGN_CFG.INJECT_EN = true ∧
      ∀ lpa ∈ [0, 2 ^ 28 - 64], (memState PState.ARMED [(Reg.RGN_CFG.INJECT_EN, 1)]).translate 0 lpa = .inl lpa) := by decide
/-- A head's domain is on and its link is down. -/
def linkState (l : List (Fld × Nat)) : Machine.State := upAt PState.RESTORING ((Reg.CLK_DOM_STAT.ON, 0x1C1) :: l)

theorem witness_LinkTrainingAndEnableEvents :
    (∀ h ∈ ([0, 2] : List (Fin 4)), (linkState []).ready Reg.GLB_READY.KEEPER_UP = true ∧ (linkState []).headUp h = false ∧
      (linkState []).headExists h = true ∧ trainedWidth (if (linkState []).split h = true then 8 else 16) 1 ≠ 0 ∧
      (linkState []).pwr.underway = false ∧ (linkState []).domainOn (6 + h / 2) = true ∧ (linkState []).pstate ≠ PState.SAVING ∧
      (linkState []).pstate ≠ PState.SAVED) ∧
    (mailState.headUp 0 = true ∧ mailState.hif.ready.contains (0 : Fin 4).val = false) ∧
    (mailState.ldPresent 0 = true ∧ mailState.headUp (mailState.ldHead 0) = true ∧
      State.headUp { mailState with hif := { Hif.reset with ready := [0] } } (mailState.ldHead 0) = true ∧
      ({ mailState with hif := { Hif.reset with ready := [0] } } : Machine.State).hif.ready.contains (mailState.ldHead 0) = true ∧
      mailState.hif.degraded.contains (mailState.ldHead 0) = false) ∧
    mailState.permits .fw .a ∧ (0x7FFF00FF#32).toNat % 65536 = 255 := by
  simp only [State.permits]; decide

/-- A training session on channel 0, gathering or past it, and one that waits for a migration. -/
def session (l : List (Fld × Nat)) : Machine.State := upAt PState.ARMED ([(Reg.TRN_STAT.ACTIVE, 1), (Reg.GLB_READY.MEM_FULL, 1),
  (Reg.DMC_STAT.UP 0, 1)] ++ l)
def trainable : Machine.State := upAt PState.ARMED [(Reg.GLB_READY.MEM_FULL, 1), (Reg.DMC_STAT.UP 0, 1), (Reg.GLB_READY.TRAINED, 1)]

theorem bin_allowed : ∃ b : BitVec 4, minBin ≤ b.toNat ∧ b.toNat ≤ maxBin := by
  have h := minBin_le
  rcases minBin_cases with e | e
  · exact ⟨0#4, by rw [e]; decide, by rw [e] at h; exact h⟩
  · exact ⟨2#4, by rw [e]; decide, by rw [e] at h; exact h⟩
theorem bin_ignored : ∃ b : BitVec 4, b.toNat < minBin ∨ maxBin < b.toNat := by
  refine ⟨15#4, .inr ?_⟩
  have h := minBin_cases
  show maxBin < 15
  unfold maxBin
  split <;> omega

theorem witness_TrainingUnitCommandsAndSlices : (trainable.permits .fw .f ∧ trainable.trainRefusal 0 = none) ∧
    trainable.trainRefusal 7 ≠ none ∧ ((session []).permits .fw .f ∧ (session []).flag Reg.TRN_STAT.ACTIVE = true) ∧
    (trainable.ready Reg.GLB_READY.TRAINED = true ∧ trainable.flag Reg.TRN_STAT.ACTIVE = false) ∧
    (trainable.flag Reg.TRN_STAT.GATHER = false ∧ (∃ b : BitVec 4, minBin ≤ b.toNat ∧ b.toNat ≤ maxBin) ∧
      ∃ b : BitVec 4, b.toNat < minBin ∨ maxBin < b.toNat) ∧
    ((session [(Reg.DMC_SPARE.STATE 0, 2)]).flag Reg.TRN_STAT.ACTIVE = true ∧
      (session [(Reg.DMC_SPARE.STATE 0, 2)]).trainBlocked ((session [(Reg.DMC_SPARE.STATE 0, 2)]).get Reg.TRN_STAT.CH) = true) ∧
    (session []).trainBlocked ((session []).get Reg.TRN_STAT.CH) = false := by
  simp only [State.permits]
  exact ⟨by decide, by decide, by decide, by decide, ⟨by decide, bin_allowed, bin_ignored⟩, by decide⟩

/-- A channel in a state, with a job that waits for no line. -/
def channel (st : Nat) : Machine.State := { upAt PState.ARMED [(Reg.DMA_CH_STAT.STATE 15, st), (Reg.CLK_DOM_STAT.ON, 0x103)] with
  dma := { Dma.reset with jobs := [(15, ⟨0, 0, false⟩)] } }

/-- Channel 15 running with its source in device memory, whose first page has a line in recovery. -/
def recoveringChannel : Machine.State := { upAt PState.ARMED [(Reg.DMA_CH_STAT.STATE 15, 1), (Reg.CLK_DOM_STAT.ON, 0x103),
    (Reg.DMA_CH_SRC_HI.SRC 15, 0x800)] with
  dma := { Dma.reset with jobs := [(15, ⟨0, 0, false⟩)] }, rse := { Rse.reset with recovering := [0] } }

/-- Five ready channels: the four slots go to the channel of the highest PRIO, then round in rising number from it (R691). -/
theorem test_dmaSlotsFollowPriority : (State.dmaSlots { upAt PState.ARMED ([(Reg.DMA_CH_CFG.PRIO 9, 2), (Reg.CLK_DOM_STAT.ON, 0x103)] ++
    [2, 5, 7, 9, 12].map fun n => (Reg.DMA_CH_STAT.STATE n, 1)) with
  dma := { Dma.reset with jobs := [2, 5, 7, 9, 12].map fun n => (n, ⟨0, 0, false⟩) } }).dma.slots = [9, 12, 2, 5] := by decide

/-- Channel 15 running, with four bytes left from address 4 on. -/
def beating : Machine.State := { upAt PState.ARMED [(Reg.DMA_CH_STAT.STATE 15, 1), (Reg.CLK_DOM_STAT.ON, 0x103),
    (Reg.DMA_CH_SRC_LO.SRC 15, 4), (Reg.DMA_CH_REMAIN.BYTES 15, 4)] with
  dma := { Dma.reset with jobs := [(15, ⟨3 * 2 ^ 20, 0, false⟩)] } }

theorem witness_DmaChannelOperations : (channel 0).permits .fw .f ∧ (∀ st ∈ [0, 4, 5, 6, 7], (channel st).dmaState 15 = st) ∧
    (channel 2).dmaState 15 = 2 ∧ (channel 3).dmaState 15 = 3 ∧
    (NMap.find? (channel 1).dma.jobs (15 : Fin 16) = some ⟨0, 0, false⟩ ∧
      (channel 1).dmaSlots.dma.slots.contains (15 : Fin 16).val = true ∧ (channel 1).burstWaits (15 : Fin 16) ⟨0, 0, false⟩ = false) ∧
    (NMap.find? (channel 2).dma.jobs (15 : Fin 16) = some ⟨0, 0, false⟩ ∧
      (channel 2).dmaSlots.dma.slots.contains (15 : Fin 16).val = false) ∧
    (NMap.find? recoveringChannel.dma.jobs (15 : Fin 16) = some ⟨0, 0, false⟩ ∧
      recoveringChannel.burstWaits (15 : Fin 16) ⟨0, 0, false⟩ = true) ∧
    (beating.dmaSlots.dma.slots.contains (15 : Fin 16).val = true ∧ beating.dmaSlots.burstCount (15 : Fin 16) ⟨3 * 2 ^ 20, 0, false⟩ = 4 ∧
      beating.dmaSlots.burstCount (15 : Fin 16) ⟨2 ^ 27 + 2 ^ 28 + 3 * 2 ^ 20, 0, false⟩ = 4 ∧
      (7 - beating.dmaSlots.pair (Reg.DMA_CH_SRC_LO.SRC (15 : Fin 16)) (Reg.DMA_CH_SRC_HI.SRC (15 : Fin 16))) / widthOf (3 * 2 ^ 20) = 3 ∧
      beating.dmaSlots.pair (Reg.DMA_CH_DST_LO.DST (15 : Fin 16)) (Reg.DMA_CH_DST_HI.DST (15 : Fin 16)) = 0) ∧ (channel 0).unitFailed (dmaUnit (15 : Fin 16)) = false ∧
    State.unitFailed { channel 0 with faults := [(dmaUnit (15 : Fin 16), ⟨none, [], true⟩)] } (dmaUnit (15 : Fin 16)) = true := by
  simp only [State.permits]; decide

/-- Released firmware that has not signalled READY, and firmware out of restarts. -/
def released : Machine.State := { upAt PState.UNARMED [(Reg.GLB_READY.FW_RUN, 0), (Reg.CPX_FW_CFG.RESTART_MAX, 3)] with cpx := { Cpx.reset with released := true } }
def granted (k : AccessKind) : Machine.State := upAt PState.ARMED [(Reg.CPX_WIN_ATTR.EN 0, 1), (Reg.CPX_WIN_ATTR.AC 0, 15),
  (Reg.CPX_WIN_ATTR.R 0, if k = .read then 1 else 0), (Reg.CPX_WIN_ATTR.W 0, if k = .write then 1 else 0),
  (Reg.CPX_WIN_ATTR.X 0, if k = .execute then 1 else 0), (Reg.CPX_WIN_BASE.BASE_4K 0, sramBase / 4096), (Reg.CPX_WIN_SIZE.SIZE_4K 0, 1)]
/-- Reads of device memory granted to the cores, and a line of its first page in recovery. -/
def memGranted : Machine.State := { upAt PState.ARMED [(Reg.CPX_WIN_ATTR.EN 0, 1), (Reg.CPX_WIN_ATTR.AC 0, 15), (Reg.CPX_WIN_ATTR.R 0, 1),
    (Reg.CPX_WIN_BASE.BASE_4K 0, memBase / 4096), (Reg.CPX_WIN_SIZE.SIZE_4K 0, 1), (Reg.DMC_MAP.CHANNELS, 8),
    (Reg.GLB_READY.MEM_PARTIAL, 1), (Reg.GLB_READY.MEM_FULL, 1), (Reg.DMC_CFG.RANK_SIZE 0, 2)] with
  rse := { Rse.reset with recovering := [0] } }

theorem witness_FirmwareEventsAndCoreAccesses : (released.cpx.released = true ∧ released.ready Reg.GLB_READY.FW_RUN = false) ∧
    upState.fwAlive = true ∧ graceState.fogged = true ∧
    (upState.get Reg.CPX_FW_CFG.RESTART_MAX ≤ upState.get Reg.CPX_FW_STAT.RESTARTS) ∧
    (released.fogged = false ∧ released.get Reg.CPX_FW_STAT.RESTARTS < released.get Reg.CPX_FW_CFG.RESTART_MAX) ∧
    (upState.permits .fw .f ∧ (.bmc : Req) ≠ .chain ∧ upState.entitled .bmc .f = false) ∧
    (∀ k ∈ [AccessKind.read, .write, .execute], (granted k).fwAlive = true ∧ (granted k).fenceGrants (.core 3) k (sramBase + 4092) 4 = true ∧
      (granted k).fenceGrants (.core 3) k (sramBase + 4093) 4 = false ∧ (granted k).awaitsRecovery (sramBase + 4092) 4 = false) ∧
    (memGranted.fwAlive = true ∧ memGranted.fenceGrants (.core 3) .read memBase 4 = true ∧ memGranted.awaitsRecovery memBase 4 = true) := by
  simp only [State.permits]; decide
/-- Firmware whose code hashes to the BODY_HASH kept. -/
def intact : Machine.State := { released with cpx := { released.cpx with hash := Config.sha384 [] } }
theorem witness_FirmwareEventsAndCoreAccesses_intact : intact.fogged = false ∧
    intact.get Reg.CPX_FW_STAT.RESTARTS < intact.get Reg.CPX_FW_CFG.RESTART_MAX ∧
    Config.sha384 (dramRead intact.cpx.ram 4096 intact.cpx.codeLen ++ intact.cpx.rest) = intact.cpx.hash :=
  ⟨by decide, by decide, rfl⟩
theorem witness_RegisterAccessesReachTheBus : (∀ off ∈ [0x14, 0x704E8], loRegs.contains (BitVec.ofNat 32 off).toNat = true) ∧
    regAt (.head 0) (0xFFFFFFF / 4 * 4) = none ∧ (∃ d, regAt (.head 1) (0x30008 / 4 * 4) = some d) ∧
    (∃ d, regAt (.head 1) (0x60018 / 4 * 4) = some d ∧ upState.visible (.head 1) d = []) ∧
    ((2 : Nat) ≠ 4 ∨ 0x30008 % 4 ≠ 0) ∧ ((4 : Nat) ≠ 4 ∨ 0x3000A % 4 ≠ 0) ∧ upState.permits .bmc .h ∧
    (∀ v ∈ [1, 2, 0xFFFFFFFE], 1 ≤ (BitVec.ofNat 32 v).toNat % 4 ∧ (BitVec.ofNat 32 v).toNat % 4 ≤ 2) ∧ upState.owner = (0 : Fin 4) ∧ upState.owner ≠ (3 : Fin 4) := by
  simp only [State.permits]; exact ⟨by decide, by decide, ⟨_, rfl⟩, ⟨_, rfl, by decide⟩, by decide, by decide, by decide, by decide, by decide, by decide⟩

/-- A head that has read the record window. -/
def captured : Machine.State := { upState with caps := [⟨.head 0, 0x20100, []⟩] }

theorem witness_ReadsWithEffectsAndCursorCommands : upState.entitled .fw .f = true ∧ upState.permits (.head 3) .a ∧
    captured.permits (.head 0) .a ∧ captured.caps.find? (fun x => x.req == .head 0 && x.off == 0x20100) = some ⟨.head 0, 0x20100, []⟩ ∧
    (∀ area ∈ [0#2, 2#2], area.toNat ≤ 2 ∧ area.toNat ≠ (upState.evr.cursor (.head 3)).area) ∧
    (1#2).toNat = (upState.evr.cursor (.head 3)).area := by
  simp only [State.permits]; decide

/-- A converter whose next entry is direct, one in an idle slot of a rotation, and urgent requests that wait. -/
def converting (l : List (Fld × Nat)) : Machine.State := upAt PState.ARMED ([(Reg.ADC_SEQ.EN 15, 1), (Reg.ADC_SEQ.INPUT 15, 31)] ++ l)
def urgentState : Machine.State := { upState with adc := { Adc.reset with a := { urgent := some ⟨3, 1, 0⟩ } } }

theorem witness_ConverterCommands : ((converting [(Reg.ADC_SEQ.SRC 15, 1)]).powered = true ∧
      (converting [(Reg.ADC_SEQ.SRC 15, 1)]).nextEntry false = some 15 ∧ (converting [(Reg.ADC_SEQ.SRC 15, 1)]).mayStart false 15 = true ∧
      (converting [(Reg.ADC_SEQ.SRC 15, 1)]).entryInput 15 = none) ∧
    ((converting []).powered = true ∧ (converting []).nextEntry false = some 15 ∧ (converting []).mayStart false 15 = true ∧
      (converting []).entryInput 15 = some (31, Adc.reset)) ∧
    ((urgentState.conv false).urgent = some ⟨3, 1, 0⟩ ∧ urgentState.powered = true ∧ (urgentState.conv false).pairs = none ∧
      (urgentState.conv false).hold = 0) ∧
    (urgentState.permits .fw .f ∧ bitOf (0x80000003#32).toNat 31 = true ∧
      (urgentState.conv (bitOf (0x80000003#32).toNat 30)).urgent ≠ none ∧ (urgentState.conv (bitOf (0xC0000003#32).toNat 30)).urgent = none) := by
  simp only [State.permits]; decide

/-- A port with bytes in its transmit FIFO. -/
def portState (l : List (Fld × Nat)) (n : Nat) : Machine.State := { upAt PState.ARMED ((Reg.TWI_STAT.UP 2, 1) :: l) with
  twi := { Twi.reset with tx := [(2, List.replicate n 0#8)] } }

set_option maxRecDepth 4000 in
theorem witness_TwoWirePortCommands : ((portState [] 31).permits .fw .f ∧ ((portState [] 31).txFifo 2).length < 32) ∧
    (32 ≤ ((portState [] 32).txFifo 2).length) ∧
    (∀ v ∈ [0x80000000, 0x80002020], bitOf (BitVec.ofNat 32 v).toNat 31 = true ∧ bitsOf (BitVec.ofNat 32 v).toNat 8 6 ≤ 32 ∧
      bitsOf (BitVec.ofNat 32 v).toNat 0 6 ≤ 32) ∧
    ((2 : Fin 3) ≠ 0 ∧ (portState [] 0).get (Reg.TWI_XSTAT.RESULT 2) ≠ TwiResult.busy ∧ (portState [] 0).flag (Reg.TWI_STAT.DISABLED 2) = false ∧
      (portState [] 0).flag (Reg.TWI_STAT.UP 2) = true ∧ (portState [] 0).unitFailed (sideUnit (2 : Fin 3)) = false) ∧
    ((portState [(Reg.TWI_STAT.BUSY 2, 1)] 0).flag (Reg.TWI_STAT.BUSY 2) = true ∧
      (portState [(Reg.TWI_STAT.BUSY 2, 1)] 0).flag (Reg.TWI_STAT.RECOVERING 2) = false) ∧
    (portState [(Reg.TWI_STAT.RECOVERING 2, 1)] 0).flag (Reg.TWI_STAT.RECOVERING 2) = true ∧
    ((portState [(Reg.TWI_STAT.DISABLED 2, 1), (Reg.TWI_STAT.RETRIES 2, 2)] 0).flag (Reg.TWI_STAT.DISABLED 2) = true ∧
      (portState [(Reg.TWI_STAT.DISABLED 2, 1), (Reg.TWI_STAT.RETRIES 2, 2)] 0).get (Reg.TWI_STAT.RETRIES 2) < 3) := by
  simp only [State.permits]; decide

/-! ## Witnesses: power, reserve, flash, DRAM -/

/-- A powered-off device, and one that powers up with rail 3 enabled. -/
def offState (l : List (Fld × Nat)) : Machine.State := At ([(Reg.GLB_STATE.STATE, PState.OFF)] ++ l)
def rising : Machine.State := At [(Reg.GLB_STATE.STATE, PState.KEEPER_BOOT), (Reg.PWR_STAT.SEQ, 1), (Reg.PWR_RAIL_CTL.EN 3, 1)]

theorem witness_PowerOnRequestsAndPowerUp : (offState []).powered = false ∧
    (upState.powered = true ∧ upState.pwr.underway = false ∧ upState.get Reg.PWR_STAT.SEQ ≠ 1) ∧
    ((offState [(Reg.PWR_STAT.VIN_VALID, 1), (Reg.PWR_LAN.AUTO_ON, 1)]).powered = false ∧
      (offState [(Reg.PWR_STAT.VIN_VALID, 1), (Reg.PWR_LAN.AUTO_ON, 1)]).flag Reg.PWR_STAT.VIN_VALID = true ∧
      (offState [(Reg.PWR_STAT.VIN_VALID, 1), (Reg.PWR_LAN.AUTO_ON, 1)]).flag Reg.PWR_LAN.AUTO_ON = true ∧
      (offState [(Reg.PWR_STAT.VIN_VALID, 1), (Reg.PWR_LAN.AUTO_ON, 1)]).flag Reg.PWR_LAN.STAY_OFF = false ∧
      (offState [(Reg.PWR_STAT.VIN_VALID, 1), (Reg.PWR_LAN.AUTO_ON, 1)]).pwr.retryDue = false) ∧
    (State.powered { offState [] with pwr := { Pwr.reset with retryDue := true } } = false ∧
      ({ offState [] with pwr := { Pwr.reset with retryDue := true } } : Machine.State).pwr.retryDue = true) ∧
    (rising.get Reg.PWR_STAT.SEQ = 1 ∧ rising.pwr.underway = false ∧ rising.flag (Reg.PWR_RAIL_CTL.EN (3 : Fin 16)) = true ∧
      rising.flag (Reg.PWR_RAIL_CTL.PG (3 : Fin 16)) = false) ∧
    ((offState []).flag Reg.PWR_STAT.VIN_VALID = false ∧ 2 < (3 : Nat)) := by decide

/-- A device with some rails on, and its timed shutdown. -/
def railState : Machine.State := upAt PState.UNARMED [(Reg.PWR_STAT.SEQ, 2), (Reg.PWR_RAIL_CTL.EN 0, 1), (Reg.PWR_RAIL_CTL.EN 15, 1),
  (Reg.PWR_RAIL_CTL.PG 0, 1), (Reg.PWR_RAIL_CTL.PG 15, 1), (Reg.PWR_RAIL_CTL.RANK 0, 4)]

theorem witness_ShutdownStepsAndRails : (∀ n ∈ ([0, 15] : List (Fin 16)), railState.supervised n = true) ∧
    ({ railState with pwr := { Pwr.reset with underway := true } } : Machine.State).pwr.underway = true ∧ 15 ∈ railState.railsOn ∧
    (railState.powered = true ∧ railState.pwr.underway = false) ∧
    (railState.get Reg.PWR_STAT.SEQ = 2 ∧ railState.pwr.underway = false ∧ railState.saving = false) := by decide

/-- Power is up and the Keeper is not. -/
def bootState : Machine.State := At [(Reg.GLB_STATE.STATE, PState.KEEPER_BOOT), (Reg.PWR_STAT.SEQ, 2)]

/-- PLL 8 running and not locked, and a domain that waits for its DMA channels. -/
def pllState : Machine.State := upAt PState.UNARMED [(Reg.CLK_PLL_STAT.RUNNING, 0x101), (Reg.CLK_PLL_STAT.LOCKED, 1),
  (Reg.CLK_DOM_STAT.ON, 0x103), (Reg.CLK_DOM_STAT.CHANGING, 2)]

theorem witness_ResetsSuppliesAndClocks : (upState.powered = true ∧ upState.pwr.noReturn = false ∧ upState.get Reg.PWR_STAT.SEQ ≠ 1 ∧
      upState.fogged = false ∧ upState.ready Reg.GLB_READY.KEEPER_UP = true ∧ upState.cpx.restarting = false) ∧
    (rising.powered = true ∧ rising.pwr.noReturn = false ∧ rising.get Reg.PWR_STAT.SEQ = 1) ∧
    (bootState.powered = true ∧ bootState.pwr.noReturn = false ∧ bootState.get Reg.PWR_STAT.SEQ ≠ 1 ∧
      bootState.fogged = false ∧ bootState.ready Reg.GLB_READY.KEEPER_UP = false) ∧
    ((4299 : Nat) < 4300 ∧ (4400 : Nat) ≤ 4400 ∧ (4499 : Nat) < 4500 ∧ (4600 : Nat) ≤ 4600) ∧
    upState.flag Reg.CLK_PLL_STAT.REF_LOST = false ∧
    (bitOf (pllState.get Reg.CLK_PLL_STAT.RUNNING) (8 : Fin 9) = true ∧ bitOf (pllState.get Reg.CLK_PLL_STAT.LOCKED) (8 : Fin 9) = false) ∧
    ((∀ d ∈ [1, 7], domainNamed (BitVec.ofNat 4 d).toNat = true) ∧ pllState.unitFailed pwrUnit = false) ∧
    (pllState.domainOn (1#4).toNat = true ∧ bitOf (pllState.get Reg.CLK_DOM_STAT.CHANGING) (1#4).toNat = true) ∧
    ((At [(Reg.GLB_READY.KEEPER_UP, 1)]).fwAlive = false ∧
      (At [(Reg.GLB_READY.KEEPER_UP, 1)]).ready Reg.GLB_READY.KEEPER_UP = true) := by decide

/-- A pack present with its charger in a state. -/
def packState (l : List (Fld × Nat)) : Machine.State := { upAt PState.ARMED ([(Reg.RSV_STAT.PRESENT, 1), (Reg.PWR_STAT.VIN_VALID, 1)] ++ l) with
  rsv := { Rsv.reset with tenthC := 250 } }

theorem witness_PackSamplesAndCharging : upState.ready Reg.GLB_READY.KEEPER_UP = true ∧
    (packState [(Reg.RSV_STAT.DSG_ON, 1)]).flag Reg.RSV_STAT.DSG_ON = true ∧
    (packState [(Reg.RSV_STAT.CHG_STATE, 3)]).get Reg.RSV_STAT.CHG_STATE = 3 ∧
    ((packState [(Reg.RSV_STAT.CHG_STATE, 4)]).get Reg.RSV_STAT.CHG_STATE = 4 ∧ (packState [(Reg.RSV_STAT.CHG_STATE, 4)]).pauses = false) ∧
    ((packState []).get Reg.RSV_STAT.CHG_STATE ≠ 6 ∧ (packState []).flag Reg.RSV_STAT.PRESENT = true ∧
      (packState []).flag Reg.RSV_STAT.CHARGING = false ∧ (packState [(Reg.RSV_STAT.CHARGING, 1)]).get Reg.RSV_STAT.CHG_STATE ≠ 6 ∧
      (packState [(Reg.RSV_STAT.CHARGING, 1)]).flag Reg.RSV_STAT.CHARGING = true) ∧
    (∀ c ∈ [2, 3], (packState [(Reg.RSV_STAT.CHG_STATE, 6), (Reg.RSV_STAT.FAULT_CAUSE, c), (Reg.RSV_STAT.FAULT_RETRIES, 2)]).get
        Reg.RSV_STAT.CHG_STATE = 6 ∧
      (packState [(Reg.RSV_STAT.CHG_STATE, 6), (Reg.RSV_STAT.FAULT_CAUSE, c), (Reg.RSV_STAT.FAULT_RETRIES, 2)]).get Reg.RSV_STAT.FAULT_CAUSE = c ∧
      (packState [(Reg.RSV_STAT.CHG_STATE, 6), (Reg.RSV_STAT.FAULT_CAUSE, c), (Reg.RSV_STAT.FAULT_RETRIES, 2)]).get
        Reg.RSV_STAT.FAULT_RETRIES < 3) := by decide
theorem witness_RestEvaluationAndLanternCycles : (upState.ready Reg.GLB_READY.KEEPER_UP = true ∧ upState.cpx.restarting = false) ∧
    ((packState []).get Reg.RSV_STAT.CHG_STATE ≠ 1 ∧ (packState []).get Reg.RSV_STAT.CHG_STATE ≠ 2 ∧
      (packState []).get Reg.RSV_STAT.CHG_STATE ≠ 3 ∧ (packState []).flag Reg.RSV_STAT.PRESENT = true) ∧
    (packState [(Reg.RSV_STAT.REST_ACTIVE, 1)]).flag Reg.RSV_STAT.REST_ACTIVE = true ∧
    ((packState []).flag Reg.RSV_STAT.REST_ACTIVE = false ∧ (packState []).fogged = false) ∧ (offState []).powered = false ∧
    (State.armable { armState with regs := armState.regs.set Reg.GLB_ARM.AUTO_ARM 1 } = true ∧
      (State.trial { armState with regs := armState.regs.set Reg.GLB_ARM.AUTO_ARM 1 }).mayArm = true ∧
      State.ready { armState with regs := armState.regs.set Reg.GLB_ARM.AUTO_ARM 1 } Reg.GLB_READY.PERSIST_ARMED = false ∧
      State.flag { armState with regs := armState.regs.set Reg.GLB_ARM.AUTO_ARM 1 } Reg.GLB_ARM.AUTO_ARM = true ∧
      armState.flag Reg.GLB_ARM.ARM_HOLD = false ∧ armState.cpx.restarting = false ∧ armState.fogged = false) := by decide +kernel

/-- Flash channels 0 to 2 populated, with an OPEN ring block 3 and an OPEN index block 4 on each; the Keeper requests listed;
record 1 in block 1; and block 2 as listed. -/
def flashWith (two : Block) (gc : List GcOp) (p : Nat) (l : List (Fld × Nat)) : Machine.State := { upAt p ([(Reg.NFC_CH_STAT.UP 0, 1),
    (Reg.NFC_CH_CFG.ENABLE 0, 1), (Reg.NFC_CH_CFG.ENABLE 1, 1), (Reg.NFC_CH_CFG.ENABLE 2, 1), (Reg.NFC_CH_STAT.UP 1, 1),
    (Reg.NFC_CH_STAT.UP 2, 1), (Reg.NFC_CH_STAT.UP 31, 1), (Reg.NFC_ECC_THR.BLANK_THR, 16),
    (Reg.NFC_POP.PLANES, 4), (Reg.NFC_POP.TGT_PER_CH, 1), (Reg.NFC_GEOM.BLOCKS, 100), (Reg.NFC_GEOM.PAGES_M1, 100)] ++ l) with
  pop := ⟨0, [0, 1, 2]⟩
  flash := { Flash.reset with
    gc, records := [(1, ⟨7, 2 ^ 19, ⟨[], 0⟩, 1, false⟩)], baseIndex := [(7, 1)], ringBlocks := [3, 2 ^ 22 + 3, 2 ^ 23 + 3]
    blocks := [(1, ⟨7, 1, 101, 0, 0, false, false, false⟩), (2, two), (3, ⟨6, 4, 0, 0, 0, false, false, false⟩), (4, ⟨6, 4, 0, 0, 0, false, false, false⟩),
      (2 ^ 22 + 3, ⟨6, 4, 0, 0, 0, false, false, false⟩), (2 ^ 22 + 4, ⟨6, 4, 0, 0, 0, false, false, false⟩),
      (2 ^ 23 + 3, ⟨6, 4, 0, 0, 0, false, false, false⟩), (2 ^ 23 + 4, ⟨6, 4, 0, 0, 0, false, false, false⟩)] } }
/-- The same with block 2 ERASED. -/
def flashState : List GcOp → Nat → List (Fld × Nat) → Machine.State := flashWith ⟨4, 0, 0, 0, 0, false, false, false⟩
/-- The first page of block 2 of channel 0. -/
def freshPage : Nat := 2 * 2 ^ 19
/-- An erase of block 1 before or after its INTENT entry, with an epoch open. -/
def eraseState (intent : Bool) : Machine.State := { flashState [.erase 1 intent] PState.ARMED [] with drp := { Drp.reset with openEpoch := 9 } }
/-- The same before the INTENT entry, with no ring block and, since the LUNs have but their LABEL block besides, nothing ERASED. -/
def scrubbedState : Machine.State := { eraseState false with
  regs := (eraseState false).regs.set Reg.NFC_GEOM.BLOCKS 1, flash := { (eraseState false).flash with blocks := [], blankSt := 2, ringBlocks := [] } }

theorem witness_FlashMaintenanceCommands : upState.permits .fw .f ∧
    ((flashState [.relocate 1 []] 4 []).relocation (1#27).toNat = some [] ∧
      (([] : List Nat).dropWhile fun n => !(flashState [.relocate 1 []] 4 []).referenced n) = []) ∧
    ((flashState [.relocate 1 [5, 1]] 4 []).relocation (1#27).toNat = some [5, 1] ∧
      ([5, 1].dropWhile fun n => !(flashState [.relocate 1 [5, 1]] 4 []).referenced n) = [1] ∧
      (flashState [.relocate 1 [5, 1]] 4 []).channelUp (faChannel freshPage) = true ∧
      (flashState [.relocate 1 [5, 1]] 4 []).faValid freshPage = true ∧
      ((flashState [.relocate 1 [5, 1]] 4 []).block (faBlock freshPage)).st ≠ 5 ∧
      ((flashState [.relocate 1 [5, 1]] 4 []).block (faBlock freshPage)).st ≠ 6 ∧
      (flashState [.relocate 1 [5, 1]] 4 []).ready Reg.GLB_READY.FW_RUN = true ∧
      (flashState [.relocate 1 [5, 1]] 4 []).channelUp (blockChannel (1#27).toNat) = true) ∧
    ((eraseState false).erasing (1#27).toNat = some false ∧ (eraseState false).erasesRun = true ∧
      (eraseState false).channelUp (blockChannel (1#27).toNat) = true ∧
      (eraseState false).ringSpots (· != blockChannel (1#27).toNat) = some (2 ^ 43 + 3 * 2 ^ 19, 2 ^ 44 + 3 * 2 ^ 19)) ∧
    (scrubbedState.erasing (1#27).toNat = some false ∧ scrubbedState.erasesRun = true ∧
      scrubbedState.channelUp (blockChannel (1#27).toNat) = true ∧ scrubbedState.flash.ringBlocks = [] ∧
      scrubbedState.ringSpots (· != blockChannel (1#27).toNat) = none) ∧
    ((eraseState true).erasing (1#27).toNat = some true ∧ (eraseState true).erasesRun = true ∧
      (eraseState true).channelUp (blockChannel (1#27).toNat) = true ∧
      (eraseState true).ringSpots (fun _ => true) = some (2 ^ 43 + 3 * 2 ^ 19, 2 ^ 44 + 3 * 2 ^ 19) ∧
      16 ≤ (eraseState true).get Reg.NFC_ECC_THR.BLANK_THR ∧ (eraseState true).get Reg.NFC_ECC_THR.BLANK_THR < 17) ∧
    (eraseState true).secondChannel 2 = some 0 ∧
    (∀ ch ∈ ([0, 31] : List (Fin 32)), (flashState [] 4 []).flag (Reg.NFC_CH_STAT.UP ch) = true) ∧ hottest [(3, 84), (63, 85)] = some (63, 85) ∧
    (State.unitFailed { upState with faults := [(nfcUnit 0, ⟨none, [], true⟩)] } (nfcUnit 0) = true ∧ nfcUnit 0 / 256 ≠ 1) := by
  simp only [State.permits]; decide

/-- Channel 7 up with eight ranks, scrubbed within 24 h, activates counted to a threshold of 2. -/
def dramState (l : List (Fld × Nat)) : Machine.State := upAt PState.ARMED ([(Reg.DMC_STAT.UP 7, 1), (Reg.DMC_SCRUB.SCRUB_H 7, 24),
  (Reg.DMC_PWR.PD_TIMER 7, 1), (Reg.DMC_CFG.RANKS 7, 8), (Reg.DMC_RD_CFG.ACT_THR 7, 2)] ++ l)
/-- A migration of rank 0 to the spare, one unit of which is copied, and the scrub's pass at a line of the spare or at its end. -/
def migrating (n : Nat) : Machine.State := { dramState ((Reg.DMC_SPARE.STATE 7, 2) :: (Reg.DMC_MIG_WM.WM_4K 7, 1) ::
    (List.range 8).map fun l => (Reg.DMC_RANK_MAP.LR 7 l, if l < 7 then l else 0xF)) with
  dmc := { Dmc.reset with scrub := [(7, 7 * 2 ^ 29 + n)] } }

/-- Activates of bank 31 of rank 7, most of them LD3's and as many as ACT_THR, and a TIMED row of it that has been idle longest. -/
def actsState : Machine.State := { dramState [] with dmc := { Dmc.reset with
  acts := [(63 * 512 + 31, [3, 20, 3])], counts := [(63 * 512 + 31, 2)], rows := [(63 * 512 + 31, ⟨5, hintTimed, 1⟩)], issued := 9 } }

theorem witness_DramControllerEvents : ((dramState []).dmcRuns (7 : Fin 8) = true ∧ 3 < (4 : Nat) ∧
      (dramState []).get (Reg.DMC_RANK_MAP.LR (7 : Fin 8) (7 : Fin 8)) ≠ 0xF) ∧
    ((migrating 0).dmcRuns (7 : Fin 8) = true ∧ (migrating 0).get (Reg.DMC_SPARE.STATE (7 : Fin 8)) = 2 ∧
      ∀ l ∈ (migrating 0).unitLines (7 : Fin 8), (migrating 0).pageRecovering (l / 64) = false) ∧
    ((dramState []).flag (Reg.DMC_STAT.UP (7 : Fin 8)) = true ∧ (dramState []).flag (Reg.DMC_STAT.SELF_REFRESH (7 : Fin 8)) = false ∧
      ∀ rank ∈ ([0, 7] : List (Fin 8)), (dramState []).rankLives (7 : Fin 8) rank = true) ∧
    (actsState.offence (7 : Fin 8) (3 : Fin 22) (7 : Fin 8) (31 : Fin 32) = some (63 * 512 + 31) ∧ actsState.dmcRuns (7 : Fin 8) = true) ∧
    ((dramState []).get (Reg.DMC_PWR.PD_TIMER (7 : Fin 8)) ≠ 0 ∧ (dramState []).flag (Reg.DMC_STAT.PANIC (7 : Fin 8)) = false ∧
      (dramState []).get (Reg.DMC_SPARE.STATE (7 : Fin 8)) ≠ 2 ∧ (dramState []).flag Reg.TRN_STAT.ACTIVE = false) ∧
    actsState.dmc.idleRow (7 : Fin 8) = some (63 * 512 + 31) ∧
    ((dramState []).scrubRuns (7 : Fin 8) = true ∧ (NMap.find? (dramState []).dmc.scrub (7 : Fin 8)).getD 0 < (dramState []).scrubLines (7 : Fin 8) ∧
      ∃ l, (dramState []).scrubLine (7 : Fin 8) 0 = some l ∧ (dramState []).pageRecovering (l / 64) = false) ∧
    (∀ n ∈ [63, 64], (migrating n).scrubRuns (7 : Fin 8) = true ∧ (NMap.find? (migrating n).dmc.scrub (7 : Fin 8)).getD 0 = 7 * 2 ^ 29 + n ∧
      7 * 2 ^ 29 + n < (migrating n).scrubLines (7 : Fin 8)) ∧
    (∃ l, (migrating 63).scrubLine (7 : Fin 8) (7 * 2 ^ 29 + 63) = some l ∧ (migrating 63).pageRecovering (l / 64) = false) ∧
    (migrating 64).scrubLine (7 : Fin 8) (7 * 2 ^ 29 + 64) = none := by
  refine ⟨by decide, by decide, by decide, by decide, by decide, by decide, ⟨by decide, by decide, _, rfl, by decide⟩, by decide,
    ⟨_, rfl, by decide⟩, by decide⟩

/-! ## Witnesses: Foghorn, save, start, images, epochs, sideband -/

theorem witness_SupplyLossAndGpfStartTheFoghorn : (upAt PState.SAVED [(Reg.PWR_STAT.VIN_VALID, 1)]).flag Reg.PWR_STAT.VIN_VALID = true ∧
    upState.flag Reg.PWR_STAT.VIN_VALID = false ∧
    (mailState.headUp 0 = true ∧ NMap.find? mailState.hif.gpf2 (0 : Fin 4).val = none) ∧
    (graceState.get Reg.SAV_STAT.PHASE = 1 ∧ graceState.fogged = true ∧ graceState.pwr.underway = false) := by decide

/-- A save with page 0 marked in a frozen granule and page 16 in a dirty one, both restored, before its save-open record; its reserve
is used up. -/
def saveState : Machine.State := { flashWith ⟨6, 2, 0, 0, 0, false, false, false⟩ [] PState.SAVING [(Reg.PWR_STAT.FOGHORN, 1)] with
  rse := { Rse.reset with restored := [(0, 32)] }
  drp := { Drp.reset with sealEpoch := 8, sealStep := .sealQueued, grans := [(0, ⟨.frozen, 1, 0, 0⟩), (1, ⟨.dirty, 1, 0, 0⟩)] } }
/-- The same with the sealing epoch at a step. -/
def saveSealing (st : SealStep) : Machine.State := { saveState with drp := { saveState.drp with sealStep := st } }
/-- The same with page 0 in a feed buffer after a failed program, and with no flash channel left. -/
def saveHolding : Machine.State := { saveState with sav := { Sav.reset with held := [⟨0, 0, ⟨[], 0⟩, 0⟩] } }
def saveFull : Machine.State := { saveState with pop := ⟨0, []⟩ }
/-- A save with only its cut index left, or only its cut commit record. -/
def saveEnd (indexed : Bool) : Machine.State := { flashWith ⟨6, 2, 0, 0, 0, false, false, false⟩ [] PState.SAVING [(Reg.PWR_STAT.FOGHORN, 1)] with
  sav := { Sav.reset with opened := true, mirrored := true, indexed, recs := [(16, 1)] } }

theorem witness_SaveRunsFromTheCutToSaved : ((upAt PState.CUTTING []).pstate = PState.CUTTING ∧ (upAt PState.CUTTING []).pwr.underway = false ∧
      (upAt PState.CUTTING []).cutQuiet = true) ∧
    (saveState.pstate = PState.SAVING ∧ saveState.pwr.underway = false ∧
      saveState.ringSpots (fun _ => true) = some (2 ^ 43 + 3 * 2 ^ 19, 2 ^ 44 + 3 * 2 ^ 19) ∧ saveState.sav.opened = false ∧
      saveState.drp.sealEpoch ≠ 0 ∧ saveState.drp.sealStep = .sealQueued ∧ (saveSealing .commitQueued).drp.sealStep = .commitQueued ∧
      (saveSealing .commitQueued).ringSpots (fun _ => true) = some (2 ^ 43 + 3 * 2 ^ 19, 2 ^ 44 + 3 * 2 ^ 19)) ∧
    ((saveSealing .indexQueued).drp.sealStep = .indexQueued ∧ (State.wordSpots (saveSealing .indexQueued).segmentKeys.length
        (saveSealing .indexQueued) (saveSealing .indexQueued).segmentKeys.length).isSome = true ∧
      saveState.sav.mirrored = false ∧ (State.wordSpots 16 saveState 16).isSome = true ∧ (saveEnd false).saveStep = 7 ∧
      (State.wordSpots (indexKeys (saveEnd false).cutPages).length (saveEnd false) (indexKeys (saveEnd false).cutPages).length).isSome = true) ∧
    (saveState.savRole 0 = some .sealing ∧ saveState.savRole 16 = some .opened ∧ (saveState.heldPage 0).isSome = false ∧
      saveState.savTarget false freshPage = true ∧ saveState.feedRoom (faChannel freshPage) 0 = true ∧
      saveState.inOrder freshPage = true ∧ saveState.savTarget false (freshPage + 2 ^ 7) = true ∧ saveState.inOrder (freshPage + 2 ^ 7) = false) ∧
    (saveHolding.savRole 0 = some .sealing ∧ saveHolding.savTarget (saveHolding.heldPage 0).isSome freshPage = true ∧
      saveHolding.feedRoom (faChannel freshPage) 0 = true ∧ saveHolding.pstate = PState.SAVING ∧ saveHolding.pwr.underway = false) ∧
    (saveState.saveTarget (.page 0) freshPage = true ∧ saveState.saveTarget .openRecord (3 * 2 ^ 19) = true ∧
      saveState.saveTarget .mirror (4 * 2 ^ 19) = true ∧ saveState.itemPending .openRecord = true ∧ saveState.itemPending .mirror = true) ∧
    (saveFull.pstate = PState.SAVING ∧ saveFull.pwr.underway = false ∧ saveFull.itemPending .openRecord = true ∧
      saveFull.itemPending .sealRecord = true ∧ saveFull.ringSpots (fun _ => true) = none ∧ saveFull.itemPending .mirror = true ∧
      State.wordSpots 16 saveFull 16 = none) ∧
    ((saveEnd true).saveStep = 8 ∧ (saveEnd true).pwr.underway = false ∧ (saveEnd true).pstate = PState.SAVING ∧
      (saveEnd true).ringSpots (fun _ => true) = some (2 ^ 43 + 3 * 2 ^ 19, 2 ^ 44 + 3 * 2 ^ 19)) ∧
    (State.pstate { upAt PState.RESUMING [] with sav := { Sav.reset with latched := some (1, false, 0, 1) } } = PState.RESUMING ∧
      ({ upAt PState.RESUMING [] with sav := { Sav.reset with latched := some (1, false, 0, 1) } } : Machine.State).sav.latched ≠ none) :=
  ⟨by decide, by decide, by decide, by decide, by decide, by decide, by decide, by decide, by decide⟩
/-- A Keeper that restarts. -/
def restarting : Machine.State := { upState with cpx := { Cpx.reset with restarting := true } }
/-- A start that may judge its images. -/
def judging : Machine.State := { At [(Reg.GLB_READY.KEEPER_UP, 1), (Reg.GLB_STATE.STATE, PState.KEEPER_BOOT), (Reg.RSE_STAT.PHASE, 1),
  (Reg.DMC_MAP.CHANNELS, 1), (Reg.NFC_CH_STAT.UP 0, 1)] with pop := ⟨1, [0]⟩ }
/-- A window that closes after a while. -/
def windowState : Machine.State := { upAt PState.RESTORING [(Reg.GLB_IMAGE.SELECT_OPEN, 1)] with kst := { Kst.reset with selectWait := 0xFFFE } }

theorem witness_StartAndImageEvents : (bootState.pstate = PState.KEEPER_BOOT ∧ bootState.get Reg.PWR_STAT.SEQ = 2 ∧
      bootState.ready Reg.GLB_READY.KEEPER_UP = false ∧ bootState.pwr.underway = false) ∧
    (upState.ready Reg.GLB_READY.KEEPER_UP = true ∧ upState.pwr.noReturn = false ∧ upState.ready Reg.GLB_READY.SIDEBAND_UP = true ∧
      upState.cpx.restarting = false) ∧ restarting.cpx.restarting = true ∧
    (judging.ready Reg.GLB_READY.KEEPER_UP = true ∧ judging.get Reg.RSE_STAT.PHASE = 1 ∧ judging.fogged = false ∧
      judging.pwr.underway = false ∧ judging.cpx.restarting = false ∧ judging.populated = true ∧
      decideImage (judging.judgeAll (judging.keyRead true) [] [] []).flash.onFlash none
        (judging.judgeAll (judging.keyRead true) [] [] []).flash.images = (0, 0, false, none) ∧
      newestSave (judging.judgeAll (judging.keyRead true) [] [] []).flash.ring
        ((judging.judgeAll (judging.keyRead true) [] [] []).readRing (judging.keyRead true) []) = none) ∧
    (windowState.flag Reg.GLB_IMAGE.SELECT_OPEN = true ∧ windowState.kst.selectWait ≠ 0xFFFF ∧ windowState.fogged = false ∧
      windowState.pwr.underway = false ∧ windowState.cpx.restarting = false) ∧
    ((upAt PState.RESTORING [(Reg.RSE_STAT.PHASE, 3)]).pstate = PState.RESTORING ∧
      (upAt PState.RESTORING [(Reg.RSE_STAT.PHASE, 3)]).get Reg.RSE_STAT.PHASE = 3 ∧
      (upAt PState.RESTORING [(Reg.RSE_STAT.PHASE, 3)]).fogged = false) := by decide

/-- A restore with four extents of memory, page 5 faulted in and a line of page 6 in recovery. -/
def restoring (phase : Nat) : Machine.State := { upAt PState.RESTORING [(Reg.RSE_STAT.PHASE, phase)] with
  pop := ⟨1, [0]⟩, rse := { Rse.reset with faultIns := [5], recovering := [400] } }

theorem witness_PagesAreRestoredAndRecovered : (∀ phase ∈ [4, 5], (restoring phase).get Reg.RSE_STAT.PHASE = phase ∧
      (restoring phase).fogged = false ∧ (restoring phase).rse.sweeping = none ∧ (restoring phase).sweepPage = some 0) ∧
    ((restoring 4).rse.faultIns.contains 5 = true ∧ (restoring 4).channelFailed 5 = false ∧ (restoring 4).pstate ≠ PState.SAVING ∧ (restoring 4).pstate ≠ PState.SAVED) ∧
    ((restoring 4).rse.recovering.filter (fun l => l / 64 == 6) = [400] ∧ (restoring 4).recordWaits 6 = false) := by decide

/-- A write that waits for the budget in a band, and page 9 copied or persisted directly. -/
def held : HostReq := ⟨0, 0, 15, 0, 9 * 4096, true, [], false, .admission, false, false⟩
def waitState (l : List (Fld × Nat)) : Machine.State := { flashState [] PState.ARMED l with
  hif := { Hif.reset with reqs := [held, { held with id := 1, stage := .direct }] }
  drp := { Drp.reset with tracking := true, openEpoch := 9, sealEpoch := 8, heldCredit := 1, tokens := 1, copying := [9], directs := [9] } }
/-- The same in Paced with no page's credit left. -/
def tokenState : Machine.State := { waitState [(Reg.DRP_ADM.BAND, 1)] with
  drp := { Drp.reset with tracking := true, openEpoch := 9, sealEpoch := 8, tokens := 1 } }

theorem witness_WaitingWritesAndCarafe : (∀ b ∈ [0, 3], (waitState [(Reg.DRP_ADM.BAND, b)]).nextWaiter = some held ∧
      (waitState [(Reg.DRP_ADM.BAND, b)]).flag Reg.DRP_ADM.STALL = false ∧
      (waitState [(Reg.DRP_ADM.BAND, b)]).get Reg.DRP_ADM.BAND ≠ 1 ∧ (waitState [(Reg.DRP_ADM.BAND, b)]).get Reg.DRP_ADM.BAND ≠ 2 ∧
      (waitState [(Reg.DRP_ADM.BAND, b)]).oldestWaiter = some held) ∧
    (tokenState.nextWaiter = some held ∧ tokenState.flag Reg.DRP_ADM.STALL = false ∧ tokenState.get Reg.DRP_ADM.BAND = 1 ∧
      tokenState.drp.heldCredit = 0 ∧ tokenState.drp.tokens ≠ 0) ∧
    (∀ b ∈ [1, 2], (waitState [(Reg.DRP_ADM.BAND, b)]).nextWaiter = some held ∧ (waitState [(Reg.DRP_ADM.BAND, b)]).get Reg.DRP_ADM.BAND = b ∧
      (waitState [(Reg.DRP_ADM.BAND, b)]).drp.heldCredit ≠ 0) ∧
    (waitState [(Reg.DRP_ADM.STALL, 1)]).flag Reg.DRP_ADM.STALL = true ∧
    ((waitState []).drp.copying.contains 9 = true ∧ (waitState []).drp.directs.contains 9 = true ∧
      (waitState []).dripTarget freshPage = true ∧ (waitState []).inOrder freshPage = true) ∧
    ((waitState []).drp.sealEpoch ≠ 0 ∧
      ((waitState []).hif.reqs.any fun r => r.stage == Stage.copy || r.stage == Stage.direct) = true) ∧
    ((waitState []).drp.tracking = true ∧ ({ waitState [] with pop := ⟨1, [0]⟩ } : Machine.State).drp.tracking = true ∧
      511 < ({ waitState [] with pop := ⟨1, [0]⟩ } : Machine.State).pop.dramGiB * 512) := by decide

/-- Drip with a sealing page to program, one in flight, and extent 3 to fill. -/
def prog7 : DripProg := ⟨7, .sealing, 1, 2 ^ 19, ⟨[], 0⟩, [], false⟩
def fill3 : Extent := ⟨.sanitizing, false, false, 0, 0, .free, 0, true, 0, 0⟩
def dripState : Machine.State := { flashState [] PState.ARMED [] with
  drp := { Drp.reset with tracking := true, openEpoch := 9, sealEpoch := 8, sealStep := .persisting, grans := [(0, ⟨.frozen, 1, 0, 0⟩)], progs := [prog7] }
  rgn := ⟨[(3, fill3)], [], [], false⟩, rse := { Rse.reset with restored := [(0, 4 * 65536)] } }

/-- A save in which Drip's program fails, and one that has no flash channel left for its repetition. -/
def saveFailing : Machine.State := { saveState with drp := { saveState.drp with progs := [prog7] } }
def savePressed : Machine.State := { saveFailing with pop := ⟨0, []⟩ }

theorem witness_DripPagesAndFills : (dripState.dripRuns = true ∧ dripState.dripTarget freshPage = true ∧
      dripState.nextPage = some (0, .sealing) ∧ dripState.inOrder freshPage = true) ∧
    (takeFirst (fun p => p.page == 7) dripState.drp.progs = some (prog7, []) ∧ faBlock freshPage ≠ faBlock prog7.fa ∧
      dripState.saving = false) ∧
    (takeFirst (fun p => p.page == 7) saveFailing.drp.progs = some (prog7, []) ∧ saveFailing.inOrder freshPage = true ∧
      saveFailing.saving = true ∧ saveFailing.pstate = PState.SAVING ∧ saveFailing.savTarget true freshPage = true ∧
      saveFailing.pwr.underway = false ∧ (saveFailing.programFailed prog7.fa).pageSpace true = true) ∧
    (takeFirst (fun p => p.page == 7) savePressed.drp.progs = some (prog7, []) ∧ savePressed.pstate = PState.SAVING ∧
      savePressed.pwr.underway = false ∧ (savePressed.programFailed prog7.fa).pageSpace true = false) ∧
    dripState.ready Reg.GLB_READY.KEEPER_UP = true ∧
    (NMap.find? dripState.rgn.exts 3 = some fill3 ∧ fill3.st = .sanitizing ∧ fill3.fillEpoch = 0 ∧ dripState.extReady 3 = true ∧
      dripState.get Reg.DRP_ADM.BAND = 0 ∧ dripState.flag Reg.DRP_ADM.STALL = false ∧ dripState.drp.openEpoch ≠ 0 ∧
      dripState.drp.owedUncopied (3 * pagesPerExtent + fill3.fillNext) = false ∧ fill3.ld < 16) := by decide

/-- An epoch that seals at a step; BEACON locked, source, or with an accepted frame. -/
def sealing (st : SealStep) : Machine.State := { flashState [] PState.ARMED [] with
  drp := { Drp.reset with tracking := true, openEpoch := 9, sealEpoch := 8, sealStep := st, bcnAccepted := some 12 } }

theorem witness_EpochStepsAndBeaconEvents : (epochState.epochsRun = true ∧ epochState.localTiming = true) ∧
    (∀ st ∈ [SealStep.sealQueued, .indexQueued, .commitQueued], (sealing st).drp.sealEpoch ≠ 0 ∧ (sealing st).drp.sealStep = st ∧
      (sealing st).saving = false ∧ (sealing st).drp.sealStep ≠ .persisting ∧ (sealing st).channelUp (faChannel freshPage) = true ∧
      (sealing st).ringSpots (fun _ => true) = some (2 ^ 43 + 3 * 2 ^ 19, 2 ^ 44 + 3 * 2 ^ 19) ∧
      (State.wordSpots (sealing st).segmentKeys.length (sealing st) (sealing st).segmentKeys.length).isSome = true) ∧
    (∀ st ∈ [SealStep.sealQueued, .commitQueued], (sealing st).ringTarget (3 * 2 ^ 19) = true ∧ (sealing st).inOrder (3 * 2 ^ 19) = true) ∧
    ((sealing .indexQueued).indexTarget (4 * 2 ^ 19) = true ∧ (sealing .indexQueued).inOrder (4 * 2 ^ 19) = true) ∧
    (∀ item ∈ [SaveItem.openRecord, .sealRecord], saveState.itemPending item = true ∧ saveState.saveTarget item (3 * 2 ^ 19) = true) ∧
    (saveState.pstate = PState.SAVING ∧ saveState.pwr.underway = false ∧ (saveSealing .indexQueued).itemPending .sealIndex = true ∧
      (saveSealing .indexQueued).saveTarget .sealIndex (4 * 2 ^ 19) = true ∧ (saveSealing .commitQueued).itemPending .sealCommit = true ∧
      (saveEnd false).itemPending .cutIndex = true ∧ (saveEnd true).itemPending .cutCommit = true ∧
      (saveEnd true).saveTarget .cutCommit (3 * 2 ^ 19) = true) ∧
    (upState.powered = true ∧ upState.get Reg.DRP_BND_CFG.TIMING ≠ 2) ∧
    ((upAt PState.ARMED [(Reg.GLB_READY.BEACON_LOCK, 1)]).ready Reg.GLB_READY.BEACON_LOCK = true ∧
      (upAt PState.ARMED [(Reg.GLB_READY.BEACON_LOCK, 1)]).fogged = false) ∧
    ((upAt PState.ARMED [(Reg.DRP_BND_CFG.TIMING, 2)]).powered = true ∧ (upAt PState.ARMED [(Reg.DRP_BND_CFG.TIMING, 2)]).get Reg.DRP_BND_CFG.TIMING = 2 ∧
      (upAt PState.ARMED [(Reg.DRP_BND_CFG.TIMING, 2)]).ready Reg.GLB_READY.IMAGE_INDEXED = true ∧
      (upAt PState.ARMED [(Reg.DRP_BND_CFG.TIMING, 2)]).ready Reg.GLB_READY.SIDEBAND_UP = true ∧
      (upAt PState.ARMED [(Reg.DRP_BND_CFG.TIMING, 2)]).saving = false ∧ (upAt PState.ARMED [(Reg.DRP_BND_CFG.TIMING, 2)]).pwr.noReturn = false) ∧
    (sealing .persisting).drp.bcnAccepted = some 12 := by decide

/-- TWI-U with a packet begun and host notify bits set. -/
def twiuState : Machine.State := { upState with twi := { Twi.reset with partialPacket := [1], notify := 1 } }

set_option maxRecDepth 4000 in
theorem witness_ManagementPortExchanges : (∀ n ∈ [1, 255], twiuState.twiTakes (List.replicate n 0#8) = true) ∧
    twiuState.twi.partialPacket ≠ [] ∧ upState.twi.partialPacket = [] ∧ upState.twiTakes [0] = true ∧ upState.portUp .twiu = true ∧
    upState.cpx.rom = false ∧ (twiuState.twi.notify ≠ 0 ∧ twiuState.portUp .twiu = true ∧ twiuState.cpx.rom = false) := by decide

/-- Both chain links up. -/
def chainState : Machine.State := upAt PState.ARMED [(Reg.NCH_CHAIN_STAT.UP_LINK, 1), (Reg.NCH_CHAIN_STAT.DN_LINK, 1)]
/-- A packet with no payload, by FLAGS and DIST. -/
def chainPacket (flags dist : Nat) : Bytes := packet 0x100 flags 0x30 1#32 0 0 dist []

theorem witness_ChainFramesAndPackets : (chainState.chainLink true = true ∧ chainState.chainLink false = true) ∧
    (∀ flags ∈ [0, 1], ∀ dist ∈ [0, 1, 254], 16 ≤ (chainPacket flags dist).length ∧ chainPacket flags dist ≠ [] ∧
      pkReply (chainPacket flags dist) = (flags == 1) ∧ pkDist (chainPacket flags dist) ≠ 255) ∧
    (upState.chainLink true = false ∧ upState.chainLink false = false ∧ upState.ready Reg.GLB_READY.KEEPER_UP = true) := by decide

/-- A write of record 4 first in order, and an erase of sector 3 with its failures. -/
def write4 : RecWrite := ⟨4, .owner 0, some (.keeper, 1#32)⟩
def storeState (fails : Nat) : Machine.State := { upState with
  cmd := { Cmd.reset with writes := [write4] }
  kst := { Kst.reset with erases := [⟨3, none, fails, true⟩] } }

theorem witness_KeeperStoreWritesAndErasesEnd : ((storeState 0).powered = true ∧ (storeState 0).flag Reg.KST_STAT.VSUP_HOLD = false ∧
      (storeState 0).unitFailed kstUnit = false ∧ takeFirst (fun w => w.record == 4) (storeState 0).cmd.writes = some (write4, []) ∧
      ((storeState 0).journalSectors ((storeState 0).targetSectors 4)).journalsFit = true) ∧
    (∀ n ∈ [0, 1, 2], (storeState n).kst.erases.find? (fun e => e.sector == 3) = some ⟨3, none, n, true⟩) ∧ (1 : Nat) < 2 ∧ (2 : Nat) ≤ 2 := by decide
theorem witness_HostRequestsAreServed : ((memState PState.ARMED [(Reg.GLB_READY.MEM_PARTIAL, 0)]).reaches 0 0 = true ∧
      (memState PState.ARMED [(Reg.GLB_READY.MEM_PARTIAL, 0)]).saving = false ∧
      (memState PState.ARMED [(Reg.GLB_READY.MEM_PARTIAL, 0)]).ready Reg.GLB_READY.MEM_PARTIAL = false) ∧
    ((memState PState.ARMED []).reaches 0 0 = true ∧ (memState PState.ARMED []).saving = false ∧
      (memState PState.ARMED []).ready Reg.GLB_READY.MEM_PARTIAL = true ∧
      (∀ lpa ∈ [0, 2 ^ 28 - 64], (memState PState.ARMED []).translate 0 lpa = .inl lpa ∧
        (memState PState.ARMED []).pageRestored (lpa / 4096) = true) ∧
      (memState PState.ARMED []).translate 0 (2 ^ 28) = .inr 2 ∧
      State.translate { memState PState.ARMED [] with rse := Rse.reset } 0 0 = .inl 0 ∧
      State.pageRestored { memState PState.ARMED [] with rse := Rse.reset } 0 = false) := by decide

end Sys2Proof.Tests
end

section
/-! Which requesters a visibility class admits (R13), and the obligation of 00_scope.md on it. -/

namespace Sys2Proof

namespace Machine

variable (s : State) (v : Vis)

@[simp] theorem State.entitled_keeper : s.entitled .keeper v = true := rfl

@[simp] theorem State.entitled_fw : s.entitled .fw v = true ↔ v ≠ .k := bne_iff_ne

/-- Head visibility follows the owner head of the state, which `HIF_CFG.OWNER` names. -/
@[simp] theorem State.entitled_head (h : Fin 4) :
    s.entitled (.head h) v = true ↔ v = .a ∨ (v = .h ∧ s.owner = h.val) := by
  simp only [State.entitled, Bool.or_eq_true, Bool.and_eq_true, beq_iff_eq]

end Machine

/-- Settles O11: one equation of `State.entitled` for each of the three kinds of requester. -/
theorem onlyEntitledRequestersSeeAField : Obligations.OnlyEntitledRequestersSeeAField := by
  unfold Obligations.OnlyEntitledRequestersSeeAField
  intro s v
  exact ⟨s.entitled_keeper v, s.entitled_fw v, s.entitled_head v⟩

end Sys2Proof
end

section
/-! Register reads that capture (R78): which captures a read leaves, what a later read finds, and the obligation of
02_persistence_model.md on the _LO and _HI pairs. -/

namespace Sys2Proof

namespace Machine

/-! ## Captures -/

/-- What the captures show depends on no other part of the state. -/
theorem State.captured_congr {s t : State} (hcaps : t.caps = s.caps) (r : Req) (off : Nat) :
    t.captured r off = s.captured r off := by
  unfold State.captured
  rw [hcaps]

/-- Outside the words of the recorder's window that follow its first, a requester that has no capture for an offset finds none. -/
theorem State.captured_of_forall_ne {s : State} {r : Req} {off : Nat} (hoff : ¬(0x20104 ≤ off ∧ off < 0x20200))
    (hnone : ∀ c ∈ s.caps, ¬(c.req = r ∧ c.off = off)) : s.captured r off = none := by
  have hfind : s.caps.find? (fun c => c.req == r && c.off == off) = none := by simpa [List.find?_eq_none] using hnone
  simp [State.captured, hoff, hfind]

/-- Outside the same words, a requester finds the first word of what was captured last for it at the offset. -/
theorem State.captured_capture_self (s : State) (r : Req) {off : Nat} (hoff : ¬(0x20104 ≤ off ∧ off < 0x20200)) (w : Nat)
    (ws : List Nat) : (s.capture r off (w :: ws)).captured r off = some w := by
  have hdropped : (s.dropCapture r off).caps.find? (fun c => c.req == r && c.off == off) = none :=
    List.find?_eq_none.mpr fun c hc => by simpa [imp_iff_not_or] using (List.mem_filter.mp hc).2
  simp [State.captured, hoff, State.capture, List.find?_append, hdropped]

@[simp] theorem State.wordNow_dropCapture (s : State) (q r : Req) (o off : Nat) (d : RegDef) :
    (s.dropCapture q o).wordNow r off d = s.wordNow r off d := rfl

/-! ## Reads -/

/-- The fields a requester may see depend on the owner head alone (R13). -/
theorem State.visible_congr {s t : State} (howner : t.owner = s.owner) (r : Req) (d : RegDef) :
    t.visible r d = s.visible r d := by
  unfold State.visible State.entitled
  rw [howner]

@[simp] theorem State.readEffects_caps (s : State) (off : Nat) : (s.readEffects off).caps = s.caps := by
  unfold State.readEffects
  split
  · rfl
  · split
    · rfl
    · split <;> rfl

/-- An aligned 32-bit read returns the fields the requester may see, of the captured word if there is one and else of the
present word; where it may see none, that is 0. -/
theorem State.busRead_value {s : State} {r : Req} {off : Nat} {d : RegDef} (haligned : off % 4 = 0)
    (hreg : regAt r off = some d) :
    (s.busRead r off 4).1 =
      pickBytes (maskFields (s.visible r d) ((s.captured r off).getD (s.wordNow r off d))) off 4 := by
  have hword : off / 4 * 4 = off := by omega
  simp only [State.busRead, hword, hreg]
  split
  next hempty => simp [List.isEmpty_iff.mp hempty, maskFields, pickBytes]
  next => rfl

/-- What an aligned read clears and removes leaves the captures that the read makes or uses up. -/
theorem State.busRead_caps {s : State} {r : Req} {off : Nat} {d : RegDef} (haligned : off % 4 = 0)
    (hreg : regAt r off = some d) (hvisible : (s.visible r d).isEmpty = false) (size : Nat) :
    (s.busRead r off size).2.caps = (s.readCaptures r off).caps := by
  have hword : off / 4 * 4 = off := by omega
  simp only [State.busRead, hword, hreg, hvisible, Bool.false_eq_true, if_false, State.readEffects_caps]
  exact State.each_keeps State.caps _ (fun t f => by split <;> rfl) _ _

/-! ## The pairs of R78 -/

/-- Both registers of a pair are aligned words outside the recorder's window, and no _LO register is the first of the
save-set counters. -/
theorem loRegs_placed : ∀ lo ∈ loRegs, lo % 4 = 0 ∧ ¬(0x20100 ≤ lo ∧ lo < 0x20200) ∧
    ¬(0x20104 ≤ lo + 4 ∧ lo + 4 < 0x20200) ∧ lo ≠ 0x300008 := by decide

/-- A read of an _LO register uses up its own capture and captures the present _HI word. -/
theorem State.readCaptures_lo (s : State) {r : Req} {lo : Nat} {e : RegDef} (hlo : lo ∈ loRegs)
    (hhi : regAt r (lo + 4) = some e) :
    s.readCaptures r lo = (s.dropCapture r lo).capture r (lo + 4) [s.wordNow r (lo + 4) e] := by
  obtain ⟨-, hwindow, -, hcounters⟩ := loRegs_placed lo hlo
  have hfirst : lo ≠ 0x20100 := by omega
  have hrest : ¬(0x20104 ≤ lo ∧ lo < 0x20200) := by omega
  simp [State.readCaptures, hfirst, hrest, hcounters, hlo, hhi]

/-- After a read of an _LO register the requester holds the _HI word of the time of that read. -/
theorem State.captured_hi_of_read_lo {s u : State} {r : Req} {lo : Nat} {d e : RegDef} (hlo : lo ∈ loRegs)
    (hreg : regAt r lo = some d) (hhi : regAt r (lo + 4) = some e) (hvisible : (s.visible r d).isEmpty = false)
    (hcaps : u.caps = (s.busRead r lo 4).2.caps) : u.captured r (lo + 4) = some (s.wordNow r (lo + 4) e) := by
  obtain ⟨haligned, -, hwindow, -⟩ := loRegs_placed lo hlo
  rw [State.busRead_caps haligned hreg hvisible, State.readCaptures_lo s hlo hhi] at hcaps
  rw [State.captured_congr hcaps, State.captured_capture_self _ _ hwindow]

end Machine

open Machine

/-- Settles O12: a read of _HI returns the captured word or else the present one, and a read of _LO captures the former. -/
theorem loReadCapturesForTheHiRead : Obligations.LoReadCapturesForTheHiRead := by
  unfold Obligations.LoReadCapturesForTheHiRead
  intro req lo d e s hlo hreg hhi hvisible
  obtain ⟨haligned, -, hwindow, -⟩ := loRegs_placed lo hlo
  have haligned' : (lo + 4) % 4 = 0 := by omega
  refine ⟨fun u hcaps howner => ?_, fun hnone => ?_⟩
  · rw [State.busRead_value haligned' hhi, State.captured_hi_of_read_lo hlo hreg hhi hvisible hcaps,
      State.visible_congr howner, Option.getD_some]
  · rw [State.busRead_value haligned' hhi, State.captured_of_forall_ne hwindow hnone, Option.getD_none]

end Sys2Proof
end

section
/-! What a packet that fails a test of R479 is answered, and the obligation of 02_persistence_model.md on the commands
refused during a save and without an open epoch (R104). -/

namespace Sys2Proof

namespace Machine

variable {s : State} {c : CmdSpec} {h : Hdr} {src : Src} {st : Status}

/-! ## The tests of R479, in order -/

/-- Row 3: neither the Keeper nor a class that the opcode lists is denied. -/
theorem CmdSpec.denies_eq_false (hsrc : src = .keeper ∨ src ∈ c.srcs) :
    (src != .keeper && !c.srcs.contains src) = false := by
  simpa [or_iff_not_imp_left] using hsrc

/-- Row 4: a command for which the Keeper is available and the required readiness holds. -/
theorem State.unready_eq_none (hfw : c.fw = false) (hrestarting : s.cpx.restarting = false) (hready : c.ready s = true) :
    s.unready c = none := by
  simp [State.unready, hfw, hrestarting, hready]

/-- Row 4: a command for which the Keeper is available, but which requires a readiness that does not hold. -/
theorem State.unready_eq_notReady (hfw : c.fw = false) (hrestarting : s.cpx.restarting = false) (hready : c.ready s = false) :
    s.unready c = some .notReady := by
  simp [State.unready, hfw, hrestarting, hready]

/-- Row 5: a state condition that fails is the answer once the payload is long enough. -/
theorem State.condition_of_early (hlayout : c.layout h.payload ≤ h.payload.length) (hearly : c.early h s = some st) :
    s.condition c h src = some st := by
  simp [State.condition, Nat.not_lt.mpr hlayout, hearly]

/-- With rows 1 to 3 passed, a test of row 4 that fails is the answer. -/
theorem State.cmdTest_of_unready (hlength : badLength h = false) (hsrc : src = .keeper ∨ src ∈ c.srcs)
    (hunready : s.unready c = some st) : s.cmdTest c h src = some st := by
  simp only [State.cmdTest, hlength, CmdSpec.denies_eq_false hsrc, hunready, Bool.false_eq_true, if_false]

/-- With rows 1 to 4 passed, a test of row 5 that fails is the answer. -/
theorem State.cmdTest_of_condition (hlength : badLength h = false) (hsrc : src = .keeper ∨ src ∈ c.srcs)
    (hunready : s.unready c = none) (hcondition : s.condition c h src = some st) : s.cmdTest c h src = some st := by
  simp only [State.cmdTest, hlength, CmdSpec.denies_eq_false hsrc, hunready, hcondition, Bool.false_eq_true, if_false]

/-! ## The answer -/

/-- Only a denial is recorded (R515): any other refusal is the reply and nothing else. -/
theorem State.refuse_eq_reply (hst : st ≠ .denied) :
    s.refuse c h src st = s.reply h.port c.opcode h.tag st.code h.dist.toNat [] := by
  simp [State.refuse, hst]

/-- A command that a test other than the privilege test turns away is answered with that status and nothing else. -/
theorem State.runSpec_of_turnsAway (haway : s.turnsAway c h st) (hst : st ≠ .denied) :
    s.runSpec c h = s.reply h.port c.opcode h.tag st.code h.dist.toNat [] := by
  obtain ⟨hrom, htakes, hawaits, htest⟩ := haway
  simp [State.runSpec, hrom, htakes, hawaits, htest, State.refuse_eq_reply hst]

/-! ## BUSY_SAVING and NOT_READY -/

section TakenByTheKeeper

variable (hrom : s.cpx.rom = false) (htakes : s.takes h.port = true) (hawaits : s.awaits h.port = false)
  (hlength : badLength h = false) (hrestarting : s.cpx.restarting = false)
  (hsrc : s.srcOf h.port = .keeper ∨ s.srcOf h.port ∈ c.srcs) (hfw : c.fw = false)

include hrom htakes hawaits hlength hrestarting hsrc hfw

/-- During a save, a command of the Keeper that `notSaving` guards is answered with BUSY_SAVING and nothing else. -/
theorem State.runSpec_eq_busySaving (hsaving : s.saving = true) (hready : c.ready s = true)
    (hlayout : c.layout h.payload ≤ h.payload.length) (hearly : c.early = notSaving) :
    s.runSpec c h = s.reply h.port c.opcode h.tag 0x0011 h.dist.toNat [] := by
  have hguard : c.early h s = some .busySaving := by rw [hearly, notSaving, if_pos hsaving]
  have hcondition : s.condition c h (s.srcOf h.port) = some .busySaving := State.condition_of_early hlayout hguard
  have htest := State.cmdTest_of_condition hlength hsrc (State.unready_eq_none hfw hrestarting hready) hcondition
  exact State.runSpec_of_turnsAway ⟨hrom, htakes, hawaits, htest⟩ (by decide)

/-- A command of the Keeper whose required readiness does not hold is answered with NOT_READY and nothing else. -/
theorem State.runSpec_eq_notReady (hready : c.ready s = false) :
    s.runSpec c h = s.reply h.port c.opcode h.tag 0x0020 h.dist.toNat [] := by
  have htest := State.cmdTest_of_unready hlength hsrc (State.unready_eq_notReady hfw hrestarting hready)
  exact State.runSpec_of_turnsAway ⟨hrom, htakes, hawaits, htest⟩ (by decide)

end TakenByTheKeeper

/-! ## The commands of R104 -/

theorem exec_disarm (h : Hdr) (s : State) : exec (.disarm h) s = .next (s.runSpec disarmSpec h) := rfl
theorem exec_restoreSelect (h : Hdr) (s : State) : exec (.restoreSelect h) s = .next (s.runSpec restoreSelectSpec h) := rfl
theorem exec_restoreProceed (h : Hdr) (s : State) : exec (.restoreProceed h) s = .next (s.runSpec restoreProceedSpec h) := rfl
theorem exec_sealBarrier (h : Hdr) (s : State) : exec (.sealBarrier h) s = .next (s.runSpec sealBarrierSpec h) := rfl

end Machine

open Machine

/-- Settles O13: `notSaving` guards the three commands of the save, and SEAL_BARRIER requires an open epoch for its readiness. -/
theorem commandsRefusedWhileSaving : Obligations.CommandsRefusedWhileSaving := by
  unfold Obligations.CommandsRefusedWhileSaving
  intro h s hrom htakes hawaits hlength hrestarting
  refine ⟨fun hsaving => ⟨fun hsrc => ?disarm, fun hsrc hindexed => ⟨fun hlayout => ?select, ?proceed⟩⟩,
    fun hsrc hclosed => ?barrier⟩
  case disarm =>
    have hpermitted : s.srcOf h.port = .keeper ∨ s.srcOf h.port ∈ disarmSpec.srcs := by
      simpa [disarmSpec, ownerBmc, or_comm, or_left_comm] using hsrc
    rw [exec_disarm, State.runSpec_eq_busySaving hrom htakes hawaits hlength hrestarting hpermitted rfl hsaving rfl
      (Nat.zero_le _) rfl]
    rfl
  case select =>
    have hpermitted : s.srcOf h.port = .keeper ∨ s.srcOf h.port ∈ restoreSelectSpec.srcs := by
      simpa [restoreSelectSpec, or_comm] using hsrc
    rw [exec_restoreSelect, State.runSpec_eq_busySaving hrom htakes hawaits hlength hrestarting hpermitted rfl hsaving
      hindexed hlayout rfl]
    rfl
  case proceed =>
    have hpermitted : s.srcOf h.port = .keeper ∨ s.srcOf h.port ∈ restoreProceedSpec.srcs := by
      simpa [restoreProceedSpec, or_comm] using hsrc
    rw [exec_restoreProceed, State.runSpec_eq_busySaving hrom htakes hawaits hlength hrestarting hpermitted rfl hsaving
      hindexed (Nat.zero_le _) rfl]
    rfl
  case barrier =>
    have hpermitted : s.srcOf h.port = .keeper ∨ s.srcOf h.port ∈ sealBarrierSpec.srcs := by
      simpa [sealBarrierSpec, or_comm, or_left_comm] using hsrc
    have hnoEpoch : sealBarrierSpec.ready s = false := by simp [sealBarrierSpec, hclosed]
    rw [exec_sealBarrier, State.runSpec_eq_notReady hrom htakes hawaits hlength hrestarting hpermitted rfl hnoEpoch]
    rfl

end Sys2Proof
end

section
/-! The boundary instant (R163): what the event recorder and the budget leave of the epochs, and the obligation of
04_epoch_boundary_and_carafe.md on BOUNDARY_DUE. -/

namespace Sys2Proof

namespace Machine

/-! ## Recording an event leaves the requests of the hosts -/

@[simp] theorem State.signal_hif (s : State) (ld : Fin 16) (v : Nat) : (s.signal ld v).hif = s.hif := by
  unfold State.signal
  split <;> rfl

@[simp] theorem State.signalAll_hif (s : State) (v : Nat) : (s.signalAll v).hif = s.hif :=
  State.each_keeps State.hif _ (fun s ld => by split <;> simp) s allLds

@[simp] theorem State.recorderInterrupt_hif (s : State) : s.recorderInterrupt.hif = s.hif := by
  simp only [State.recorderInterrupt]
  split <;> rfl

/-- An event log changes what a logical device keeps, not the requests. -/
@[simp] theorem State.cxlLog_reqs (s : State) (log : Nat) (r : EvRecord) (lds : List (Fin 16)) :
    (s.cxlLog log r lds).hif.reqs = s.hif.reqs :=
  State.each_keeps (fun s => s.hif.reqs) _ (fun s ld => by simp only [State.signal_hif]; split <;> rfl) s lds

@[simp] theorem State.place_reqs (s : State) (r : EvRecord) (priv : Bool) (tied : Option (Fin 16)) :
    (s.place r priv tied).hif.reqs = s.hif.reqs := by
  unfold State.place
  extract_lets e placed log logged
  have hplaced : placed.hif = s.hif := by
    dsimp only [placed]
    split
    · split <;> rfl
    · rfl
  have hlogged : logged.hif.reqs = s.hif.reqs := by simp [logged, hplaced]
  split
  · exact hlogged
  · split
    · exact hlogged
    · rw [State.each_keeps State.hif _ (fun s ld => by split <;> simp)]
      exact hlogged

@[simp] theorem State.newRecord_reqs (s : State) (src : Source) (code data : Nat) (tied : Option (Fin 16)) :
    (s.newRecord src code data tied).hif.reqs = s.hif.reqs := by
  unfold State.newRecord
  split
  · rfl
  · dsimp only
    split
    · exact State.place_reqs _ _ _ _
    · rfl

@[simp] theorem State.recordNow_reqs (s : State) (src : Source) (code data : Nat) (tied : Option (Fin 16)) :
    (s.recordNow src code data tied).hif.reqs = s.hif.reqs := by
  unfold State.recordNow
  split
  · split
    · rfl
    · exact State.newRecord_reqs ..
  · exact State.newRecord_reqs ..

@[simp] theorem State.record_reqs (s : State) (src : Source) (code : Nat) (vals : List (Nat × Nat)) :
    (s.record src code vals).hif.reqs = s.hif.reqs := by
  simp only [State.record, State.recordFor]
  split
  · rfl
  · exact State.recordNow_reqs ..

/-- No write waits for admission where no request is at that stage. -/
theorem State.waiters_eq_nil_iff (s : State) :
    s.waiters = [] ↔ (s.hif.reqs.any fun (r : HostReq) => r.stage == .admission) = false := by
  simp [State.waiters, List.filter_eq_nil_iff]

/-! ## What the budget and the admission figures leave -/

/-- The fields of the DRP that have shadows (R196). -/
def shadowFields : List Fld := [Reg.DRP_CFG.BUDGET_CFG, Reg.DRP_BND_CFG.TIMING, Reg.DRP_BND_CFG.PERIOD_MS]

/-- The fields that a boundary settles: those that take their shadows, and the number of the open epoch (R201). -/
def boundaryFields : List Fld := shadowFields ++ [Reg.GLB_OPEN_EPOCH_LO.LO, Reg.GLB_OPEN_EPOCH_HI.HI]

theorem shadowFields_subset : shadowFields ⊆ boundaryFields := List.subset_append_left ..

/-- No field with a shadow is one of the number of the open epoch. -/
theorem shadowFields_apart : ∀ f ∈ shadowFields,
    f.key ≠ Reg.GLB_OPEN_EPOCH_LO.LO.key ∧ f.key ≠ Reg.GLB_OPEN_EPOCH_HI.HI.key := by decide

/-- From one state to another the epochs, the granules, device memory and the fields of the boundary stay, and no write comes to wait
for admission. -/
structure EpochsKept (s t : State) : Prop where
  grans : t.drp.grans = s.drp.grans
  openEpoch : t.drp.openEpoch = s.drp.openEpoch
  sealEpoch : t.drp.sealEpoch = s.drp.sealEpoch
  sealStep : t.drp.sealStep = s.drp.sealStep
  dram : t.dram = s.dram
  waiters : s.waiters = [] → t.waiters = []
  fields : ∀ f ∈ boundaryFields, t.get f = s.get f

namespace EpochsKept

variable {s₀ s : State}

theorem refl (s : State) : EpochsKept s s := ⟨rfl, rfl, rfl, rfl, rfl, id, fun _ _ => rfl⟩

theorem put (hk : EpochsKept s₀ s) (f : Fld) (v : Nat) (hf : ∀ g ∈ boundaryFields, g.key ≠ f.key := by decide) :
    EpochsKept s₀ (s.put f v) :=
  { hk with fields := fun g hg => (State.get_put_ne s v (hf g hg)).trans (hk.fields g hg) }

theorem count (hk : EpochsKept s₀ s) (f : Fld) (n : Nat) (hf : ∀ g ∈ boundaryFields, g.key ≠ f.key := by decide) :
    EpochsKept s₀ (s.count f n) := hk.put f _ hf

/-- Several fields are set, none of which is one of the boundary. -/
theorem putAll (hk : EpochsKept s₀ s) (l : List (Fld × Nat))
    (hl : ∀ g ∈ boundaryFields, ∀ f ∈ l.map Prod.fst, g.key ≠ f.key := by
      simp only [List.map_cons, List.map_nil]; decide) : EpochsKept s₀ (s.putAll l) :=
  { hk with fields := fun g hg => (State.get_putAll_of_notMem s l g fun _ he =>
      hl g hg _ (List.mem_map_of_mem he)).trans (hk.fields g hg) }

theorem tick (hk : EpochsKept s₀ s) : EpochsKept s₀ s.tick := { hk with }

/-- The Drip engine changes in other parts than the epochs and the granules. -/
theorem withDrp (hk : EpochsKept s₀ s) (d : Drp) (hgrans : d.grans = s.drp.grans := by rfl)
    (hopen : d.openEpoch = s.drp.openEpoch := by rfl) (hseal : d.sealEpoch = s.drp.sealEpoch := by rfl)
    (hstep : d.sealStep = s.drp.sealStep := by rfl) : EpochsKept s₀ { s with drp := d } :=
  { hk with
    grans := hgrans.trans hk.grans
    openEpoch := hopen.trans hk.openEpoch
    sealEpoch := hseal.trans hk.sealEpoch
    sealStep := hstep.trans hk.sealStep }

/-- A state that differs only in what recording an event may change, with the requests and the fields of the boundary as they were. -/
theorem of_apart {t : State} (hk : EpochsKept s₀ s) (hapart : t.apart = s.apart) (hreqs : t.hif.reqs = s.hif.reqs)
    (hfields : ∀ g ∈ boundaryFields, t.get g = s.get g) : EpochsKept s₀ t := by
  have hdrp : t.apart.drp = s.apart.drp := congrArg State.drp hapart
  have hdram : t.apart.dram = s.apart.dram := congrArg State.dram hapart
  have hwaiters : t.waiters = s.waiters := by simp only [State.waiters, hreqs]
  exact {
    grans := (congrArg Drp.grans hdrp).trans hk.grans
    openEpoch := (congrArg Drp.openEpoch hdrp).trans hk.openEpoch
    sealEpoch := (congrArg Drp.sealEpoch hdrp).trans hk.sealEpoch
    sealStep := (congrArg Drp.sealStep hdrp).trans hk.sealStep
    dram := hdram.trans hk.dram
    waiters := fun hnone => hwaiters.trans (hk.waiters hnone)
    fields := fun g hg => (hfields g hg).trans (hk.fields g hg) }

theorem record (hk : EpochsKept s₀ s) (src : Source) (code : Nat) (vals : List (Nat × Nat)) :
    EpochsKept s₀ (s.record src code vals) := by
  have hfields : ∀ g ∈ boundaryFields, g.key ∉ evrFields := by decide
  exact hk.of_apart (State.record_apart ..) (State.record_reqs ..) fun g hg => State.record_get _ _ _ _ (hfields g hg)

theorem signalAll (hk : EpochsKept s₀ s) (v : Nat) : EpochsKept s₀ (s.signalAll v) :=
  hk.of_apart (State.signalAll_apart ..) (by rw [State.signalAll_hif]) fun g _ => State.signalAll_get s v g

theorem setReady (hk : EpochsKept s₀ s) (f : Fld) (v : Bool)
    (hf : ∀ g ∈ boundaryFields, g.key ≠ f.key := by decide)
    (hchg : ∀ g ∈ boundaryFields, g.key ≠ (⟨Reg.GLB_READY_CHG.KEEPER_UP.off, f.lo, 1⟩ : Fld).key := by decide) :
    EpochsKept s₀ (s.setReady f v) := by
  unfold State.setReady
  split
  · exact hk
  · extract_lets changed recorded _ notified
    have hrecorded : EpochsKept s₀ recorded := ((hk.put f _ hf).put _ _ hchg).record ..
    have hnotified : EpochsKept s₀ notified := { hrecorded with }
    exact hnotified.signalAll 7

theorem enter (hk : EpochsKept s₀ s) (p : Nat) : EpochsKept s₀ (s.enter p) := by
  unfold State.enter
  split
  · exact hk
  · exact ((hk.put ..).put ..).put ..

theorem showWear (hk : EpochsKept s₀ s) : EpochsKept s₀ s.showWear := by
  unfold State.showWear
  extract_lets gb shown limit
  have hshown : EpochsKept s₀ shown := hk.put ..
  split
  · exact hshown.put ..
  · exact (hshown.put ..).tick

theorem setOverCap (hk : EpochsKept s₀ s) (v : Bool) : EpochsKept s₀ (s.setOverCap v) := (hk.put ..).showWear

theorem refresh (hk : EpochsKept s₀ s) : EpochsKept s₀ s.refresh := by
  unfold State.refresh
  split
  · exact hk
  · extract_lets n capped old b _ bucket left credited stall began shown
    have hcapped : EpochsKept s₀ capped := by
      dsimp only [capped]
      split
      · exact hk.setOverCap false
      · exact hk
    have hbucket : EpochsKept s₀ { capped with drp := bucket } := by
      dsimp only [bucket]
      split
      · exact hcapped.withDrp _
      · split
        · exact hcapped.withDrp _
        · exact hcapped
    have hcredited : EpochsKept s₀ { capped with drp := credited } := by
      dsimp only [credited]
      split
      · exact hbucket
      · exact hbucket.withDrp _
    have hshown : EpochsKept s₀ shown := hcredited.putAll _
    split
    · exact (hshown.count ..).record ..
    · exact hshown

theorem setBudget (hk : EpochsKept s₀ s) (steps csave limiter : Nat) (under : Bool) :
    EpochsKept s₀ (s.setBudget steps csave limiter under) := by
  unfold State.setBudget
  extract_lets _ budget shown capped
  have hbudget : EpochsKept s₀ budget := hk.withDrp _
  have hshown : EpochsKept s₀ shown := hbudget.putAll _
  have hcapped : EpochsKept s₀ capped := by
    dsimp only [capped]
    split
    · exact (hshown.setOverCap true).record ..
    · exact hshown
  exact hcapped.refresh

theorem noFigureBudget (hk : EpochsKept s₀ s) : EpochsKept s₀ s.noFigureBudget := hk.setBudget ..

theorem showCeiling (hk : EpochsKept s₀ s) : EpochsKept s₀ s.showCeiling := by
  unfold State.showCeiling
  split
  · exact hk
  · exact hk.put ..

/-- Writes that wait when PERSIST_ARMED clears are handled by POLICY; where none waits, none is handled. -/
theorem policyOnWaiters (hk : EpochsKept s₀ s) : EpochsKept s₀ s.policyOnWaiters := by
  unfold State.policyOnWaiters
  split
  · exact hk
  next hwaiting =>
    extract_lets hold _ handled
    have hhandled : EpochsKept s₀ handled := { hk with
      waiters := fun hnone => absurd ((State.waiters_eq_nil_iff s).mp (hk.waiters hnone)) (by simpa using hwaiting) }
    split
    · exact hhandled.put ..
    · exact hhandled

theorem disarm (hk : EpochsKept s₀ s) : EpochsKept s₀ s.disarm := by
  unfold State.disarm
  extract_lets cleared
  have hcleared : EpochsKept s₀ cleared := ((hk.setReady ..).put ..).policyOnWaiters
  split
  · exact hcleared.enter _
  · exact hcleared

theorem loseReserve (hk : EpochsKept s₀ s) (term : Nat) : EpochsKept s₀ (s.loseReserve term) := by
  unfold State.loseReserve
  extract_lets recorded _ lost disarmed
  have hrecorded : EpochsKept s₀ recorded := hk.record ..
  have hlost : EpochsKept s₀ lost := hrecorded.withDrp _
  have hdisarmed : EpochsKept s₀ disarmed := by
    dsimp only [disarmed]
    split
    · exact hlost.disarm
    · exact hlost
  exact (hdisarmed.setReady ..).noFigureBudget

theorem recompute (hk : EpochsKept s₀ s) : EpochsKept s₀ s.recompute := by
  unfold State.recompute
  split
  · have hrate : EpochsKept s₀ { s with drp := { s.drp with rateA := (0, 1) } } := hk.withDrp _
    exact hrate.noFigureBudget.showCeiling
  · extract_lets t ku csave cfg b steps lost shown was _ rated
    have hshown : EpochsKept s₀ shown := hk.putAll _
    have hrated : EpochsKept s₀ rated := hshown.withDrp _
    refine EpochsKept.showCeiling ?_
    split
    · split
      · exact hrated.noFigureBudget
      · exact hrated.loseReserve _
    · exact hrated.setBudget ..

theorem unlock (hk : EpochsKept s₀ s) : EpochsKept s₀ s.unlock := by
  unfold State.unlock
  extract_lets cleared
  have hcleared : EpochsKept s₀ cleared := (hk.setReady ..).putAll _
  exact hcleared.withDrp _

end EpochsKept

/-! ## The shadows of class B (R16, R17, R196) -/

@[simp] theorem State.takeShadow_drp (s : State) (f : Fld) : (s.takeShadow f).drp = s.drp := by
  unfold State.takeShadow
  split <;> rfl

@[simp] theorem State.takeShadow_dram (s : State) (f : Fld) : (s.takeShadow f).dram = s.dram := by
  unfold State.takeShadow
  split <;> rfl

@[simp] theorem State.takeShadow_hif (s : State) (f : Fld) : (s.takeShadow f).hif = s.hif := by
  unfold State.takeShadow
  split <;> rfl

/-- A field whose shadow waits takes it. -/
theorem State.get_takeShadow_self {s : State} {f : Fld} {v : Nat} (hshadow : NMap.find? s.shadows f.key = some v) :
    (s.takeShadow f).get f = v % 2 ^ f.w := by
  simp only [State.takeShadow, hshadow]
  exact State.get_put_self s f v

theorem State.get_takeShadow_ne (s : State) {f g : Fld} (hkey : g.key ≠ f.key) : (s.takeShadow f).get g = s.get g := by
  unfold State.takeShadow
  split
  · rfl
  · exact State.get_put_ne s _ hkey

/-- A shadow is taken alone: those of other fields wait on. -/
theorem State.find?_takeShadow_shadows_ne (s : State) {f g : Fld} (hkey : g.key ≠ f.key) :
    NMap.find? (s.takeShadow f).shadows g.key = NMap.find? s.shadows g.key := by
  unfold State.takeShadow
  split
  · rfl
  · exact NMap.find?_erase_ne s.shadows hkey

/-- The shadows of the DRP in the order in which `State.takeShadows` takes them. -/
def State.shadowsTaken (s : State) : State :=
  ((s.takeShadow Reg.DRP_CFG.BUDGET_CFG).takeShadow Reg.DRP_BND_CFG.TIMING).takeShadow Reg.DRP_BND_CFG.PERIOD_MS

@[simp] theorem State.shadowsTaken_drp (s : State) : s.shadowsTaken.drp = s.drp := by simp [State.shadowsTaken]
@[simp] theorem State.shadowsTaken_dram (s : State) : s.shadowsTaken.dram = s.dram := by simp [State.shadowsTaken]
@[simp] theorem State.shadowsTaken_waiters (s : State) : s.shadowsTaken.waiters = s.waiters := by
  simp [State.shadowsTaken, State.waiters]

/-- The shadows of the DRP are in force once they are taken. -/
theorem State.get_shadowsTaken (s : State) {f : Fld} (hf : f ∈ shadowFields) {v : Nat}
    (hshadow : NMap.find? s.shadows f.key = some v) : s.shadowsTaken.get f = v % 2 ^ f.w := by
  have htiming : Reg.DRP_BND_CFG.TIMING.key ≠ Reg.DRP_CFG.BUDGET_CFG.key := by decide
  have hperiod : Reg.DRP_BND_CFG.PERIOD_MS.key ≠ Reg.DRP_CFG.BUDGET_CFG.key := by decide
  have hboth : Reg.DRP_BND_CFG.PERIOD_MS.key ≠ Reg.DRP_BND_CFG.TIMING.key := by decide
  unfold State.shadowsTaken
  simp only [shadowFields, List.mem_cons, List.not_mem_nil, or_false] at hf
  obtain rfl | rfl | rfl := hf
  · rw [State.get_takeShadow_ne _ hperiod.symm, State.get_takeShadow_ne _ htiming.symm, State.get_takeShadow_self hshadow]
  · rw [State.get_takeShadow_ne _ hboth.symm, State.get_takeShadow_self]
    rw [State.find?_takeShadow_shadows_ne _ htiming, hshadow]
  · rw [State.get_takeShadow_self]
    rw [State.find?_takeShadow_shadows_ne _ hboth, State.find?_takeShadow_shadows_ne _ hperiod, hshadow]

/-- What follows from the shadows taken leaves the epochs and the fields that were taken. -/
theorem EpochsKept.takeShadows (s : State) : EpochsKept s.shadowsTaken s.takeShadows := by
  unfold State.takeShadows
  extract_lets oldCfg oldTiming taken inForce _ _ unlocked _ _ retimed
  have hinForce : EpochsKept s.shadowsTaken inForce := (EpochsKept.refl s.shadowsTaken).put ..
  have hunlocked : EpochsKept s.shadowsTaken unlocked := by
    dsimp only [unlocked]
    split
    · exact hinForce.unlock
    · exact (hinForce.put Reg.DRP_BCN_STAT.GOOD_RUN 0).withDrp _
  have hretimed : EpochsKept s.shadowsTaken retimed := by
    dsimp only [retimed]
    split
    · exact hinForce
    · split
      · exact hunlocked
      · exact (hunlocked.put Reg.DRP_BCN_STAT.SENDING 0).withDrp _
  split
  · exact hretimed
  · exact hretimed.recompute

/-! ## The registers of the epochs (R77, R201, R202) -/

@[simp] theorem State.showEpochs_drp (s : State) : s.showEpochs.drp = s.drp := rfl
@[simp] theorem State.showEpochs_dram (s : State) : s.showEpochs.dram = s.dram := rfl
@[simp] theorem State.showEpochs_hif (s : State) : s.showEpochs.hif = s.hif := rfl
@[simp] theorem State.showEpochs_waiters (s : State) : s.showEpochs.waiters = s.waiters := by
  simp only [State.waiters, State.showEpochs_hif]

/-- A 48-bit number that a pair of registers takes is read back. -/
theorem State.pair_putPair (s : State) {lo hi : Fld} (hkey : lo.key ≠ hi.key) (hlo : lo.w = 32) (hhi : hi.w = 16) {n : Nat}
    (hn : n < 2 ^ 48) : (s.putPair lo hi n).pair lo hi = n := by
  simp only [State.pair, State.putPair, State.get_put_self, State.get_put_ne _ _ hkey, hlo, hhi]
  omega

theorem State.get_putPair_ne (s : State) {lo hi g : Fld} (n : Nat) (hlo : g.key ≠ lo.key) (hhi : g.key ≠ hi.key) :
    (s.putPair lo hi n).get g = s.get g := by
  rw [State.putPair, State.get_put_ne _ _ hhi, State.get_put_ne _ _ hlo]

/-- The fields of the boundary that showing the sealing epoch and the flags of DRP_BND_STAT leaves. -/
theorem State.get_showEpochs (s : State) {f : Fld} (hf : f ∈ boundaryFields) :
    s.showEpochs.get f = (s.putPair Reg.GLB_OPEN_EPOCH_LO.LO Reg.GLB_OPEN_EPOCH_HI.HI s.drp.openEpoch).get f := by
  have hlo : ∀ g ∈ boundaryFields, g.key ≠ Reg.DRP_BND_SEAL_EPOCH_LO.LO.key := by decide
  have hhi : ∀ g ∈ boundaryFields, g.key ≠ Reg.DRP_BND_SEAL_EPOCH_HI.HI.key := by decide
  have hstat : ∀ g ∈ boundaryFields, ∀ k ∈ [Reg.DRP_BND_STAT.OPEN, Reg.DRP_BND_STAT.SEALING, Reg.DRP_BND_STAT.DEFERRED,
      Reg.DRP_BND_STAT.RACK], g.key ≠ k.key := by decide
  unfold State.showEpochs
  extract_lets d opened shown
  rw [State.get_putAll_of_notMem _ _ _ fun e he => hstat f hf e.1 (List.mem_map_of_mem he),
    State.get_putPair_ne _ _ (hlo f hf) (hhi f hf)]

/-- GLB_OPEN_EPOCH shows the number of the open epoch. -/
theorem State.pair_showEpochs (s : State) (hn : s.drp.openEpoch < 2 ^ 48) :
    s.showEpochs.pair Reg.GLB_OPEN_EPOCH_LO.LO Reg.GLB_OPEN_EPOCH_HI.HI = s.drp.openEpoch := by
  have hlo := s.get_showEpochs (by decide : Reg.GLB_OPEN_EPOCH_LO.LO ∈ boundaryFields)
  have hhi := s.get_showEpochs (by decide : Reg.GLB_OPEN_EPOCH_HI.HI ∈ boundaryFields)
  rw [State.pair, hlo, hhi]
  exact State.pair_putPair s (by decide) rfl rfl hn

/-! ## The boundary instant (R163) -/

/-- A granule at the boundary: frozen with its mask, nothing of it owed or copied yet. -/
def Gran.atBoundary (g : Gran) : Gran := { g with st := .frozen, owed := 0, copied := 0 }

/-- From one state to another a boundary has fallen that opens the epoch `n` (R163). -/
structure BoundaryFallen (n : Nat) (s t : State) : Prop where
  grans : t.drp.grans = s.drp.grans.map fun e => (e.1, e.2.atBoundary)
  sealEpoch : t.drp.sealEpoch = s.drp.openEpoch
  openEpoch : t.drp.openEpoch = n
  sealStep : t.drp.sealStep = .sealQueued
  dram : t.dram = s.dram
  waiters : s.waiters = [] → t.waiters = []
  shown : n < 2 ^ 48 → t.pair Reg.GLB_OPEN_EPOCH_LO.LO Reg.GLB_OPEN_EPOCH_HI.HI = n
  inForce : ∀ f ∈ shadowFields, ∀ v : Nat, NMap.find? s.shadows f.key = some v → t.get f = v % 2 ^ f.w

theorem State.boundary_fallen (s : State) (n : Nat) (rack : Bool) : BoundaryFallen n s (s.boundary n rack) := by
  unfold State.boundary
  extract_lets d sealed grans progs _ _ frozen
  have htaken : EpochsKept frozen.shadowsTaken frozen.takeShadows := EpochsKept.takeShadows frozen
  have hdrp : frozen.shadowsTaken.drp = frozen.drp := frozen.shadowsTaken_drp
  have hreqs : frozen.hif = s.hif := rfl
  have hwaiters : frozen.waiters = s.waiters := by rw [State.waiters, hreqs, State.waiters]
  have hfresh := (EpochsKept.refl frozen.takeShadows.showEpochs).refresh
  have hopen : frozen.takeShadows.drp.openEpoch = n := by rw [htaken.openEpoch, hdrp]
  exact {
    grans := by rw [hfresh.grans, State.showEpochs_drp, htaken.grans, hdrp]; rfl
    sealEpoch := by rw [hfresh.sealEpoch, State.showEpochs_drp, htaken.sealEpoch, hdrp]
    openEpoch := by rw [hfresh.openEpoch, State.showEpochs_drp, hopen]
    sealStep := by rw [hfresh.sealStep, State.showEpochs_drp, htaken.sealStep, hdrp]
    dram := by rw [hfresh.dram, State.showEpochs_dram, htaken.dram, State.shadowsTaken_dram]
    waiters := fun hnone => hfresh.waiters <| by
      rw [State.showEpochs_waiters]
      exact htaken.waiters (by rw [State.shadowsTaken_waiters, hwaiters, hnone])
    shown := fun hn => by
      have hpair := frozen.takeShadows.pair_showEpochs (by rw [hopen]; exact hn)
      rw [State.pair, hfresh.fields _ (by decide), hfresh.fields _ (by decide)]
      exact hpair.trans hopen
    inForce := fun f hf v hshadow => by
      have hboundary : f ∈ boundaryFields := shadowFields_subset hf
      have hapart := shadowFields_apart f hf
      rw [hfresh.fields f hboundary, State.get_showEpochs _ hboundary, State.get_putPair_ne _ _ hapart.1 hapart.2,
        htaken.fields f hboundary]
      exact frozen.get_shadowsTaken hf hshadow }

theorem exec_boundaryDue (s : State) : exec .boundaryDue s = execBoundaryDue s := rfl

/-- Under local timing a boundary that is due with no epoch sealing falls at once. -/
theorem exec_boundaryDue_of_noSeal {s : State} (hrun : s.epochsRun = true) (hlocal : s.localTiming = true)
    (hseal : s.drp.sealEpoch = 0) :
    exec .boundaryDue s = .next (s.boundary (s.drp.openEpoch + 1) false).settle := by
  simp [exec_boundaryDue, execBoundaryDue, hrun, hlocal, State.boundaryDue, hseal]

/-! ## What a change of the save set leads to -/

@[simp] theorem State.advanceSave_drp (s : State) : s.advanceSave.drp = s.drp := by
  unfold State.advanceSave
  split <;> rfl

@[simp] theorem State.advanceSave_dram (s : State) : s.advanceSave.dram = s.dram := by
  unfold State.advanceSave
  split <;> rfl

/-- A seal whose record is queued does not advance. -/
theorem State.advanceSeal_of_sealQueued {s : State} (hstep : s.drp.sealStep = .sealQueued) : s.advanceSeal = s := by
  have hnot : (SealStep.sealQueued == SealStep.persisting) = false := rfl
  simp [State.advanceSeal, hstep, hnot]

/-- Where no write waits and the seal record is queued, a change of the save set is judged for the figures and a save alone. -/
theorem State.settle_of_noWaiters {s : State} (hnone : s.waiters = []) (hstep : s.drp.sealStep = .sealQueued) :
    s.settle = s.refresh.advanceSave := by
  have hfresh := (EpochsKept.refl s).refresh
  have hlength : s.refresh.waiters.length = 0 := by rw [hfresh.waiters hnone, List.length_nil]
  simp only [State.settle, hlength, State.drainFree]
  rw [State.advanceSeal_of_sealQueued (hfresh.sealStep.trans hstep)]

end Machine

open Machine

/-- Settles O14: the boundary freezes the granules and queues the seal record; the shadows, the figures and the settling after it
keep both (`EpochsKept`). -/
theorem boundaryInstantIsOneStep : Obligations.BoundaryInstantIsOneStep := by
  unfold Obligations.BoundaryInstantIsOneStep
  intro s hrun hlocal hseal
  have hfallen := s.boundary_fallen (s.drp.openEpoch + 1) false
  refine ⟨s.boundary (s.drp.openEpoch + 1) false, exec_boundaryDue_of_noSeal hrun hlocal hseal, fun e he => ?frozenAll,
    fun e he => ?onlyFrozen, hfallen.sealEpoch, hfallen.openEpoch, hfallen.shown, hfallen.inForce, hfallen.sealStep,
    hfallen.dram, fun hnone => ?settled⟩
  case frozenAll =>
    rw [hfallen.grans]
    exact ⟨e.2.atBoundary, List.mem_map_of_mem he, rfl, rfl⟩
  case onlyFrozen =>
    rw [hfallen.grans] at he
    obtain ⟨old, -, rfl⟩ := List.mem_map.mp he
    rfl
  case settled =>
    have hfresh := (EpochsKept.refl (s.boundary (s.drp.openEpoch + 1) false)).refresh
    rw [State.settle_of_noWaiters (hfallen.waiters hnone) hfallen.sealStep, State.advanceSave_drp, State.advanceSave_dram]
    exact ⟨hfresh.grans, hfresh.sealEpoch, hfresh.openEpoch, hfresh.sealStep, hfresh.dram⟩

end Sys2Proof
end

section
/-! What a packet that fails only the field tests of R479 is answered, and the obligation of 11_command_set.md on the
configurations that LD_CONFIG refuses (R502). -/

namespace Sys2Proof

namespace Machine

variable {s : State} {c : CmdSpec} {h : Hdr} {src : Src}

/-! ## The tests of rows 5 and 6 of R479 -/

/-- Row 5: the payload is long enough, neither state condition fails, and the result table of the port has room (R483). -/
theorem State.condition_eq_none (hlayout : c.layout h.payload ≤ h.payload.length) (hearly : c.early h s = none)
    (hroom : s.resultCount h.port < 16) (hbusy : c.busy h src s = none) : s.condition c h src = none := by
  simp [State.condition, Nat.not_lt.mpr hlayout, hearly, Nat.not_le.mpr hroom, hbusy]

/-- Row 6: the opcode's own field test fails the fields, whatever the tag. -/
theorem State.fieldsBad_of_bad (hbad : c.bad h src s = true) : s.fieldsBad c h src = true := by
  rw [State.fieldsBad, hbad, Bool.or_true]

/-- With rows 1 to 5 passed, a field test that fails is answered with BAD_FIELD. -/
theorem State.cmdTest_of_fieldsBad (hlength : badLength h = false) (hsrc : src = .keeper ∨ src ∈ c.srcs)
    (hunready : s.unready c = none) (hcondition : s.condition c h src = none) (hfields : s.fieldsBad c h src = true) :
    s.cmdTest c h src = some .badField := by
  simp only [State.cmdTest, hlength, CmdSpec.denies_eq_false hsrc, hunready, hcondition, hfields, Bool.false_eq_true, if_false,
    if_true]

/-! ## LD_CONFIG -/

theorem exec_ldConfig (h : Hdr) (s : State) : exec (.ldConfig h) s = .next (s.runSpec ldConfigSpec h) := rfl

/-- The field test of LD_CONFIG: a logical device that no part has, or one of the three cases of R502, judged for the Carafe in
force and for every logical device of the configuration that would be left (log entry 71). -/
theorem State.ldConfigBad_iff (s : State) (p : Bytes) :
    s.ldConfigBad p = true ↔ 15 < byteAt p 0 ∨
      (∃ e ∈ s.ldAfter p, headUnder (s.bifurAfter p) e.2.head = false) ∨
      (∃ e ∈ s.ldAfter p, 32767 < e.2.stat + e.2.dcMax) ∨
      s.mappable < ((s.ldAfter p).map fun e => e.2.stat).sum := by
  simp only [State.ldConfigBad, Bool.or_eq_true, decide_eq_true_eq, List.any_eq_true, Bool.not_eq_true', or_assoc]

/-- LD_CONFIG is permitted from the owner, the BMC and the Keeper (R490, R501). -/
theorem ldConfigSpec_permits (hsrc : src = .owner ∨ src = .bmc ∨ src = .keeper) :
    src = .keeper ∨ src ∈ ldConfigSpec.srcs := by
  simpa [ldConfigSpec, ownerBmc, or_comm, or_left_comm] using hsrc

end Machine

open Machine

/-- Settles O17: with rows 1 to 5 of R479 passed, each of the three cases of R502 fails the field test of LD_CONFIG, and a
refusal with BAD_FIELD is the reply alone. -/
theorem ldConfigBadFieldCases : Obligations.LdConfigBadFieldCases := by
  unfold Obligations.LdConfigBadFieldCases
  intro h s hrom htakes hawaits hlength hsrc hrestarting hlayout hroom hwrite hcases
  have hunready : s.unready ldConfigSpec = none := State.unready_eq_none rfl hrestarting rfl
  have hcondition : s.condition ldConfigSpec h (s.srcOf h.port) = none := State.condition_eq_none hlayout rfl hroom hwrite
  have hbad : s.ldConfigBad h.payload = true := (s.ldConfigBad_iff h.payload).mpr (.inr hcases)
  have htest : s.cmdTest ldConfigSpec h (s.srcOf h.port) = some .badField :=
    State.cmdTest_of_fieldsBad hlength (ldConfigSpec_permits hsrc) hunready hcondition (State.fieldsBad_of_bad hbad)
  rw [exec_ldConfig, State.runSpec_of_turnsAway ⟨hrom, htakes, hawaits, htest⟩ (by decide)]
  rfl

end Sys2Proof
end

section
/-! How a record enters the severity area (R715): what placing a record does to the recorder's areas and to the count of records
kept out, and the obligation of 18_event_recorder.md on it. -/

namespace Sys2Proof

namespace Machine

/-! ## The first element that passes a test -/

/-- Where the elements before one that passes fail the test, that one is taken and the others stay in their order. -/
theorem takeFirst_append_cons {α : Type} {p : α → Bool} {a : List α} {o : α} (hbefore : ∀ x ∈ a, p x = false) (ho : p o = true)
    (b : List α) : takeFirst p (a ++ o :: b) = some (o, a ++ b) := by
  induction a with
  | nil => simp [takeFirst, ho]
  | cons x a ih =>
    obtain ⟨hx, ha⟩ := List.forall_mem_cons.mp hbefore
    simp [takeFirst, hx, ih ha]

theorem takeFirst_eq_none {α : Type} {p : α → Bool} {l : List α} (hl : ∀ x ∈ l, p x = false) : takeFirst p l = none := by
  induction l with
  | nil => rfl
  | cons x l ih =>
    obtain ⟨hx, hrest⟩ := List.forall_mem_cons.mp hl
    simp [takeFirst, hx, ih hrest]

/-! ## The three areas (R713) -/

@[simp] theorem Evr.lose_sev (e : Evr) (area seq : Nat) : (e.lose area seq).sev = e.sev := rfl

@[simp] theorem Evr.programFirst_sev (e : Evr) : e.programFirst.sev = e.sev := by
  unfold Evr.programFirst
  split <;> rfl

/-- The first area leaves the severity area. -/
@[simp] theorem Evr.toFirst_sev (e : Evr) (r : EvRecord) : (e.toFirst r).sev = e.sev := by
  unfold Evr.toFirst
  split
  · dsimp only
    split
    · exact Evr.programFirst_sev _
    · rfl
  · rfl

/-- The circulating area leaves the severity area. -/
@[simp] theorem Evr.toCirc_sev (e : Evr) (r : EvRecord) : (e.toCirc r).sev = e.sev := by
  unfold Evr.toCirc
  split
  · rfl
  · split <;> rfl

section Severity

variable {e : Evr} {r : EvRecord}

/-- R715: a free slot takes the record. -/
theorem Evr.toSev_of_free (hfree : e.sev.length < 128) : e.toSev r = ({ e with sev := e.sev ++ [r] }, false) := by
  simp [Evr.toSev, hfree]

/-- R715: in a full area the record replaces the oldest one of equal or lower severity. -/
theorem Evr.toSev_of_replaced {a b : List EvRecord} {o : EvRecord} (hsev : e.sev = a ++ o :: b) (hfull : 128 ≤ e.sev.length)
    (ho : o.severity ≤ r.severity) (holder : ∀ x ∈ a, r.severity < x.severity) :
    e.toSev r = ({ e with sev := a ++ b ++ [r] }.lose 2 o.seq, false) := by
  have htaken : takeFirst (fun x => decide (x.severity ≤ r.severity)) e.sev = some (o, a ++ b) := by
    rw [hsev]
    exact takeFirst_append_cons (fun x hx => decide_eq_false (Nat.not_le.mpr (holder x hx))) (decide_eq_true ho) b
  simp [Evr.toSev, Nat.not_lt.mpr hfull, htaken]

/-- R715: a full area that holds only higher severities keeps the record out. -/
theorem Evr.toSev_of_higher (hfull : 128 ≤ e.sev.length) (hhigher : ∀ x ∈ e.sev, r.severity < x.severity) :
    e.toSev r = (e, true) := by
  have hnone : takeFirst (fun x => decide (x.severity ≤ r.severity)) e.sev = none :=
    takeFirst_eq_none fun x hx => decide_eq_false (Nat.not_le.mpr (hhigher x hx))
  simp [Evr.toSev, Nat.not_lt.mpr hfull, hnone]

end Severity

/-! ## Placing a record -/

/-- The part of placing a privileged record that concerns the areas: the record in all three, or counted as kept out of the last. -/
def State.enterAreas (s : State) (r : EvRecord) : State :=
  let entered := ((s.evr.toFirst r).toCirc r).toSev r
  let s := { s with evr := entered.1 }
  if entered.2 then s.count Reg.EVR_CNT.SEV_DROP 1 else s

/-- Whatever the interrupt, the CXL logs and the signals leave is, once the record is placed, what the areas made it. -/
theorem State.place_eq_enterAreas {β : Type} (p : State → β) (hinterrupt : ∀ s, p s.recorderInterrupt = p s)
    (hlog : ∀ s log r lds, p (State.cxlLog s log r lds) = p s) (hsignal : ∀ s ld vector, p (State.signal s ld vector) = p s)
    (s : State) (r : EvRecord) (tied : Option (Fin 16)) : p (s.place r true tied) = p (s.enterAreas r) := by
  unfold State.place
  extract_lets e entered log logged
  have hlogged : p logged = p (s.enterAreas r) := (hlog ..).trans (hinterrupt _)
  split
  · exact hlogged
  · split
    · exact hlogged
    · refine (State.each_keeps p _ (fun s ld => ?_) _ _).trans hlogged
      split
      · exact hsignal ..
      · rfl

@[simp] theorem State.signal_evr (s : State) (ld : Fin 16) (v : Nat) : (s.signal ld v).evr = s.evr := by
  unfold State.signal
  split <;> rfl

@[simp] theorem State.recorderInterrupt_evr (s : State) : s.recorderInterrupt.evr = s.evr := by
  simp only [State.recorderInterrupt]
  split <;> rfl

@[simp] theorem State.cxlLog_evr (s : State) (log : Nat) (r : EvRecord) (lds : List (Fin 16)) :
    (s.cxlLog log r lds).evr = s.evr :=
  State.each_keeps State.evr _ (fun s ld => by simp only [State.signal_evr]; split <;> rfl) s lds

/-- The one field that the CXL logs set is HIF_LD_EVT.OVERFLOW (R459). -/
theorem State.cxlLog_get_of_ne (s : State) (log : Nat) (r : EvRecord) (lds : List (Fin 16)) {f : Fld}
    (hf : f.key ≠ Reg.HIF_LD_EVT.OVERFLOW.key) : (s.cxlLog log r lds).get f = s.get f :=
  State.each_keeps (fun s => s.get f) _ (fun s ld => by
    simp only [State.signal_get]
    split
    · rfl
    · rw [State.get_put_ne _ _ hf, State.get_setLd]) s lds

/-- The recorder after placing a privileged record: the three areas have taken it in turn. -/
theorem State.place_evr (s : State) (r : EvRecord) (tied : Option (Fin 16)) :
    (s.place r true tied).evr = (((s.evr.toFirst r).toCirc r).toSev r).1 := by
  rw [State.place_eq_enterAreas State.evr State.recorderInterrupt_evr State.cxlLog_evr State.signal_evr]
  simp only [State.enterAreas]
  split <;> rfl

/-- A record kept out of the severity area is counted. -/
theorem State.place_sevDrop_of_dropped {s : State} {r : EvRecord} (hdropped : (((s.evr.toFirst r).toCirc r).toSev r).2 = true)
    (tied : Option (Fin 16)) :
    (s.place r true tied).get Reg.EVR_CNT.SEV_DROP = satAdd Reg.EVR_CNT.SEV_DROP.w (s.get Reg.EVR_CNT.SEV_DROP) 1 := by
  rw [State.place_eq_enterAreas (fun s => s.get Reg.EVR_CNT.SEV_DROP) (fun s => s.recorderInterrupt_get _)
    (fun s log r lds => s.cxlLog_get_of_ne log r lds (by decide)) (fun s ld v => s.signal_get ld v _)]
  simp only [State.enterAreas, hdropped, if_true]
  rw [State.get_count, if_pos rfl]
  rfl

end Machine

open Machine

/-- Settles O16: the first two areas leave the severity area, and there the record meets the three cases of R715. -/
theorem severityAreaTakesAPrivilegedRecord : Obligations.SeverityAreaTakesAPrivilegedRecord := by
  unfold Obligations.SeverityAreaTakesAPrivilegedRecord
  intro r tied s
  have hsev : ((s.evr.toFirst r).toCirc r).sev = s.evr.sev := by simp
  rw [← hsev, State.place_evr]
  refine ⟨fun hfree => ?free, fun a b o hheld hfull ho holder => ?replaced, fun hfull hhigher => ?higher⟩
  case free => rw [Evr.toSev_of_free hfree]
  case replaced => rw [Evr.toSev_of_replaced hheld hfull ho holder, Evr.lose_sev]
  case higher =>
    have hout := Evr.toSev_of_higher hfull hhigher
    exact ⟨by rw [hout], State.place_sevDrop_of_dropped (by rw [hout]) tied⟩

end Sys2Proof
end

section
/-! What every row leaves (from the lemmas of Laws/Kept*.lean): each answers a next state, keeps the queue and the canonical memories, and
writes the memories named for it alone; and the obligations on the step, on memory and on the rows that write it. -/

namespace Sys2Proof

namespace Machine

open Host

/-! ## Every row -/

/-- The memories that a row may change. -/
def rowWrites (c : Instr) : Writes := ⟨mayWriteMemory c, mayWriteSram c, mayWriteUserArea c⟩

/-- Every row answers a next state with the same queue, and changes only the memories named for it. -/
theorem exec_answers (c : Instr) (s : State) : Answers (rowWrites c) s (exec c s) :=
  match c with
  | .identify h => execIdentify_answers h s (.refl s)
  | .readyGet h => execReadyGet_answers h s (.refl s)
  | .resultGet h => execResultGet_answers h s (.refl s)
  | .fwDownload h => execFwDownload_answers h s (.refl s)
  | .fwStatus h => execFwStatus_answers h s (.refl s)
  | .keeperUpdate h => execKeeperUpdate_answers h s (.refl s)
  | .keeperUpdateStatus h => execKeeperUpdateStatus_answers h s (.refl s)
  | .persistConfig h => execPersistConfig_answers h s (.refl s)
  | .arm h => execArm_answers h s (.refl s)
  | .disarm h => execDisarm_answers h s (.refl s)
  | .sealBarrier h => execSealBarrier_answers h s (.refl s)
  | .epochList h => execEpochList_answers h s (.refl s)
  | .restoreSelect h => execRestoreSelect_answers h s (.refl s)
  | .restoreProceed h => execRestoreProceed_answers h s (.refl s)
  | .lossAccept h => execLossAccept_answers h s (.refl s)
  | .budgetConfig h => execBudgetConfig_answers h s (.refl s)
  | .wearConfig h => execWearConfig_answers h s (.refl s)
  | .saveModelConfig h => execSaveModelConfig_answers h s (.refl s)
  | .epochConfig h => execEpochConfig_answers h s (.refl s)
  | .saveConfig h => execSaveConfig_answers h s (.refl s)
  | .restoreConfig h => execRestoreConfig_answers h s (.refl s)
  | .foghornRaise h => execFoghornRaise_answers h s (.refl s)
  | .ldConfig h => execLdConfig_answers h s (.refl s)
  | .headOwnerSet h => execHeadOwnerSet_answers h s (.refl s)
  | .regionDcAdd h => execRegionDcAdd_answers h s (.refl s)
  | .regionDcRelease h => execRegionDcRelease_answers h s (.refl s)
  | .regionList h => execRegionList_answers h s (.refl s)
  | .reserveStatus h => execReserveStatus_answers h s (.refl s)
  | .reserveFigure h => execReserveFigure_answers h s (.refl s)
  | .reserveConfig h => execReserveConfig_answers h s (.refl s)
  | .reserveRest h => execReserveRest_answers h s (.refl s)
  | .eventRead h => execEventRead_answers h s (.refl s)
  | .eventClear h => execEventClear_answers h s (.refl s)
  | .eventRoute h => execEventRoute_answers h s (.refl s)
  | .dramConfig h => execDramConfig_answers h s (.refl s)
  | .dramStatus h => execDramStatus_answers h s (.refl s)
  | .trainRun h => execTrainRun_answers h s (.refl s)
  | .speedSelect h => execSpeedSelect_answers h s (.refl s)
  | .delaySetList h => execDelaySetList_answers h s (.refl s)
  | .delaySetLoad h => execDelaySetLoad_answers h s (.refl s)
  | .flashConfig h => execFlashConfig_answers h s (.refl s)
  | .flashStatus h => execFlashStatus_answers h s (.refl s)
  | .kstProtect h => execKstProtect_answers h s (.refl s)
  | .kstUserRead h => execKstUserRead_answers h s (.refl s)
  | .kstUserProgram h => execKstUserProgram_answers h s (.refl s)
  | .kstUserErase h => execKstUserErase_answers h s (.refl s)
  | .railStatus h => execRailStatus_answers h s (.refl s)
  | .railConfig h => execRailConfig_answers h s (.refl s)
  | .beaconConfig h => execBeaconConfig_answers h s (.refl s)
  | .twiConfig h => execTwiConfig_answers h s (.refl s)
  | .twiPortEnable h => execTwiPortEnable_answers h s (.refl s)
  | .chainSend h => execChainSend_answers h s (.refl s)
  | .sidebandStatus h => execSidebandStatus_answers h s (.refl s)
  | .echo h => execEcho_answers h s (.refl s)
  | .regRead h => execRegRead_answers h s (.refl s)
  | .regWrite h => execRegWrite_answers h s (.refl s)
  | .flashDiagRead h => execFlashDiagRead_answers h s (.refl s)
  | .flashDiagProgram h => execFlashDiagProgram_answers h s (.refl s)
  | .commandReplyTimeout port tag => execCommandReplyTimeout_answers port tag s (.refl s)
  | .asyncCommandCompletion port tag status result => execAsyncCommandCompletion_answers port tag status result s (.refl s)
  | .chunkTransferTimeout opcode => execChunkTransferTimeout_answers opcode s (.refl s)
  | .chainSendTimeout tag => execChainSendTimeout_answers tag s (.refl s)
  | .identifyMemoryDevice ld => execIdentifyMemoryDevice_answers ld s (.refl s)
  | .getSupportedLogs ld => execGetSupportedLogs_answers ld s (.refl s)
  | .getLog ld uuid offset length => execGetLog_answers ld uuid offset length s (.refl s)
  | .getLsa ld offset length => execGetLsa_answers ld offset length s (.refl s)
  | .setLsa ld offset data => execSetLsa_answers ld offset data s (.refl s)
  | .getHealthInfo ld => execGetHealthInfo_answers ld s (.refl s)
  | .getAlertConfiguration ld => execGetAlertConfiguration_answers ld s (.refl s)
  | .setAlertConfiguration ld settings => execSetAlertConfiguration_answers ld settings s (.refl s)
  | .getShutdownState ld => execGetShutdownState_answers ld s (.refl s)
  | .setShutdownState ld dirty => execSetShutdownState_answers ld dirty s (.refl s)
  | .getPoisonList ld start length => execGetPoisonList_answers ld start length s (.refl s)
  | .clearPoison ld lpa data => execClearPoison_answers ld lpa data s (.refl s)
  | .injectPoison ld lpa => execInjectPoison_answers ld lpa s (.refl s)
  | .scanMedia ld lpa length uncorrectable => execScanMedia_answers ld lpa length uncorrectable s (.refl s)
  | .getScanMediaResults ld => execGetScanMediaResults_answers ld s (.refl s)
  | .getEventRecords ld log => execGetEventRecords_answers ld log s (.refl s)
  | .clearEventRecords ld log all handles => execClearEventRecords_answers ld log all handles s (.refl s)
  | .getEventInterruptPolicy ld => execGetEventInterruptPolicy_answers ld s (.refl s)
  | .setEventInterruptPolicy ld policy => execSetEventInterruptPolicy_answers ld policy s (.refl s)
  | .getDynamicCapacityConfig ld => execGetDynamicCapacityConfig_answers ld s (.refl s)
  | .getDynamicCapacityExtentList ld => execGetDynamicCapacityExtentList_answers ld s (.refl s)
  | .addDynamicCapacityResponse ld accepted => execAddDynamicCapacityResponse_answers ld accepted s (.refl s)
  | .releaseDynamicCapacity ld lpas => execReleaseDynamicCapacity_answers ld lpas s (.refl s)
  | .initiateDynamicCapacityAdd h => execInitiateDynamicCapacityAdd_answers h s (.refl s)
  | .initiateDynamicCapacityRelease h => execInitiateDynamicCapacityRelease_answers h s (.refl s)
  | .unsupportedCxlCommand ld opcode => execUnsupportedCxlCommand_answers ld opcode s (.refl s)
  | .dcWaitExpired ld => execDcWaitExpired_answers ld s (.refl s)
  | .trnStart req ch => execTrnStart_answers req ch s (.refl s)
  | .trnCommit req verified => execTrnCommit_answers req verified s (.refl s)
  | .trnAbort req => execTrnAbort_answers req s (.refl s)
  | .trnStore req => execTrnStore_answers req s (.refl s)
  | .nextBinWrite req bin => execNextBinWrite_answers req bin s (.refl s)
  | .trainingSlice delays eyes uncorrectable complete => execTrainingSlice_answers delays eyes uncorrectable complete s (.refl s)
  | .dmaStart req ch => execDmaStart_answers req ch s (.refl s)
  | .dmaPause req ch => execDmaPause_answers req ch s (.refl s)
  | .dmaResume req ch => execDmaResume_answers req ch s (.refl s)
  | .dmaDrain req ch => execDmaDrain_answers req ch s (.refl s)
  | .dmaHalt req ch => execDmaHalt_answers req ch s (.refl s)
  | .dmaSwreq req lines => execDmaSwreq_answers req lines s (.refl s)
  | .dmaBurstDone ch => execDmaBurstDone_answers ch s (.refl s)
  | .dmaBeatTimeout ch write addr => execDmaBeatTimeout_answers ch write addr s (.refl s)
  | .evrCursorOldest req => execEvrCursorOldest_answers req s (.refl s)
  | .evrCursorAdvance req => execEvrCursorAdvance_answers req s (.refl s)
  | .evrCursorSeek req => execEvrCursorSeek_answers req s (.refl s)
  | .evrAreaSelect req area => execEvrAreaSelect_answers req area s (.refl s)
  | .evrWin0Read req => execEvrWin0Read_answers req s (.refl s)
  | .epochLoCaptureRead req off => execEpochLoCaptureRead_answers req off s (.refl s)
  | .drpSsDirtyRead req => execDrpSsDirtyRead_answers req s (.refl s)
  | .rcRegisterRead req off size => execRcRegisterRead_answers req off size s (.refl s)
  | .rgnFaultRead req => execRgnFaultRead_answers req s (.refl s)
  | .cpxViolInfoRead req => execCpxViolInfoRead_answers req s (.refl s)
  | .adcResultRead req => execAdcResultRead_answers req s (.refl s)
  | .adcUrgResRead req => execAdcUrgResRead_answers req s (.refl s)
  | .adcUrg req value => execAdcUrg_answers req value s (.refl s)
  | .adcConversionDone conv code ovr => execAdcConversionDone_answers conv code ovr s (.refl s)
  | .urgentConversionDone conv code ovr => execUrgentConversionDone_answers conv code ovr s (.refl s)
  | .lanternAdcCycle packId packNtc packV vsup => execLanternAdcCycle_answers packId packNtc packV vsup s (.refl s)
  | .twiRxdataRead req port => execTwiRxdataRead_answers req port s (.refl s)
  | .twiTxdataWrite req port byte => execTwiTxdataWrite_answers req port byte s (.refl s)
  | .twiXfer req port value => execTwiXfer_answers req port value s (.refl s)
  | .twiTransactionDone port result data => execTwiTransactionDone_answers port result data s (.refl s)
  | .twiTargetTimeout port => execTwiTargetTimeout_answers port s (.refl s)
  | .busRecovery port freed => execBusRecovery_answers port freed s (.refl s)
  | .relocate req block => execRelocate_answers req block s (.refl s)
  | .erase req block => execErase_answers req block s (.refl s)
  | .domainPowerUp req domain => execDomainPowerUp_answers req domain s (.refl s)
  | .domainPowerDown req domain => execDomainPowerDown_answers req domain s (.refl s)
  | .domainDmaWaitTimeout domain => execDomainDmaWaitTimeout_answers domain s (.refl s)
  | .cpxWdtKick req value => execCpxWdtKick_answers req value s (.refl s)
  | .hifHeadCtoWrite req h value => execHifHeadCtoWrite_answers req h value s (.refl s)
  | .kstVmodeEccWrite req ecc value => execKstVmodeEccWrite_answers req ecc value s (.refl s)
  | .pwrCfgWrite req vin value => execPwrCfgWrite_answers req vin value s (.refl s)
  | .registerWrite req off size value => execRegisterWrite_answers req off size value s (.refl s)
  | .appCoreAccess core kind addr size value => execAppCoreAccess_answers core kind addr size value s (.refl s)
  | .hostWrite h ld lpa data poison => execHostWrite_answers h ld lpa data poison s (.refl s)
  | .hostRead h ld lpa found => execHostRead_answers h ld lpa found s (.refl s)
  | .waitingWriteAdmitted => execWaitingWriteAdmitted_answers s (.refl s)
  | .admissionTimeout => execAdmissionTimeout_answers s (.refl s)
  | .arming => execArming_answers s (.refl s)
  | .copyBeforeWriteDone page errors => execCopyBeforeWriteDone_answers page errors s (.refl s)
  | .directPersistDone page fa errors => execDirectPersistDone_answers page fa errors s (.refl s)
  | .carafeWaitExpired => execCarafeWaitExpired_answers s (.refl s)
  | .trackUe word => execTrackUe_answers word s (.refl s)
  | .maskUe line => execMaskUe_answers line s (.refl s)
  | .dripPageRead fa errors => execDripPageRead_answers fa errors s (.refl s)
  | .dripProgramPass page => execDripProgramPass_answers page s (.refl s)
  | .dripProgramFail page fa => execDripProgramFail_answers page fa s (.refl s)
  | .wearCreditWrite => execWearCreditWrite_answers s (.refl s)
  | .boundaryDue => execBoundaryDue_answers s (.refl s)
  | .beaconFrame number crc valid inWindow => execBeaconFrame_answers number crc valid inWindow s (.refl s)
  | .beaconWindowMiss => execBeaconWindowMiss_answers s (.refl s)
  | .beaconSourceFrame => execBeaconSourceFrame_answers s (.refl s)
  | .beaconAcceptedBoundary => execBeaconAcceptedBoundary_answers s (.refl s)
  | .sealRecordPassed => execSealRecordPassed_answers s (.refl s)
  | .indexSegmentPassed => execIndexSegmentPassed_answers s (.refl s)
  | .epochDurable => execEpochDurable_answers s (.refl s)
  | .ringRecordProgramFail fa => execRingRecordProgramFail_answers fa s (.refl s)
  | .sanitizeFillPage ext => execSanitizeFillPage_answers ext s (.refl s)
  | .vinMainFall shortDip => execVinMainFall_answers shortDip s (.refl s)
  | .vinLossDetected => execVinLossDetected_answers s (.refl s)
  | .gpfPhase1 h => execGpfPhase1_answers h s (.refl s)
  | .gpfPhase2 h => execGpfPhase2_answers h s (.refl s)
  | .graceExpired => execGraceExpired_answers s (.refl s)
  | .cuttingEnd => execCuttingEnd_answers s (.refl s)
  | .saveProgramPass item fa errors => execSaveProgramPass_answers item fa errors s (.refl s)
  | .saveProgramFail item program => execSaveProgramFail_answers item program s (.refl s)
  | .cutCommitPassed => execCutCommitPassed_answers s (.refl s)
  | .vinValidQualified => execVinValidQualified_answers s (.refl s)
  | .resumeTimeout => execResumeTimeout_answers s (.refl s)
  | .railPgLow rail => execRailPgLow_answers rail s (.refl s)
  | .timedShutdownStep before after => execTimedShutdownStep_answers before after s (.refl s)
  | .pbtnPress => execPbtnPress_answers s (.refl s)
  | .pbtnOff => execPbtnOff_answers s (.refl s)
  | .wakeRequest => execWakeRequest_answers s (.refl s)
  | .autoPowerOn => execAutoPowerOn_answers s (.refl s)
  | .powerupRetry => execPowerupRetry_answers s (.refl s)
  | .powerupRankStep => execPowerupRankStep_answers s (.refl s)
  | .powerupTimeout rail => execPowerupTimeout_answers rail s (.refl s)
  | .keeperBootStart disagree refused flash => execKeeperBootStart_answers disagree refused flash s (.refl s)
  | .mrstN => execMrstN_answers s (.refl s)
  | .vsupLevelCrossing mv => execVsupLevelCrossing_answers mv s (.refl s)
  | .lanternReset => execLanternReset_answers s (.refl s)
  | .pllUnlock pll => execPllUnlock_answers pll s (.refl s)
  | .refLost => execRefLost_answers s (.refl s)
  | .pllLocked pll => execPllLocked_answers pll s (.refl s)
  | .dieOverTemperature => execDieOverTemperature_answers s (.refl s)
  | .rsvSample mv ma tenthC idCode => execRsvSample_answers mv ma tenthC idCode s (.refl s)
  | .keeperReserveEval => execKeeperReserveEval_answers s (.refl s)
  | .dsgCutoff => execDsgCutoff_answers s (.refl s)
  | .chargeEnd => execChargeEnd_answers s (.refl s)
  | .rechargeStart => execRechargeStart_answers s (.refl s)
  | .chgFault cause => execChgFault_answers cause s (.refl s)
  | .chgFaultRetry => execChgFaultRetry_answers s (.refl s)
  | .restPoint mv => execRestPoint_answers mv s (.refl s)
  | .maintenanceRestTimeout => execMaintenanceRestTimeout_answers s (.refl s)
  | .stepResistanceSample r25 => execStepResistanceSample_answers r25 s (.refl s)
  | .imageIndexed keyOk reads badCrc foreign => execImageIndexed_answers keyOk reads badCrc foreign s (.refl s)
  | .selectWaitExpired => execSelectWaitExpired_answers s (.refl s)
  | .directoryLoaded => execDirectoryLoaded_answers s (.refl s)
  | .sweepPageDone uncorrectable retries shown => execSweepPageDone_answers uncorrectable retries shown s (.refl s)
  | .zeroFillPage => execZeroFillPage_answers s (.refl s)
  | .faultInDone page uncorrectable retries shown => execFaultInDone_answers page uncorrectable retries shown s (.refl s)
  | .dramRecoveryDone page uncorrectable retries corrected => execDramRecoveryDone_answers page uncorrectable retries corrected s (.refl s)
  | .dramAlert ch replays rank lost => execDramAlert_answers ch replays rank lost s (.refl s)
  | .migrationUnitDone ch errors => execMigrationUnitDone_answers ch errors s (.refl s)
  | .refreshDue ch rank bank feeds => execRefreshDue_answers ch rank bank feeds s (.refl s)
  | .mr4Poll ch above1x => execMr4Poll_answers ch above1x s (.refl s)
  | .rowDisturbThrottle ch id rank bank => execRowDisturbThrottle_answers ch id rank bank s (.refl s)
  | .throttleEnd ch id => execThrottleEnd_answers ch id s (.refl s)
  | .powerDownTimer ch rank => execPowerDownTimer_answers ch rank s (.refl s)
  | .timedRowClose ch => execTimedRowClose_answers ch s (.refl s)
  | .scrubPeriodEnd ch => execScrubPeriodEnd_answers ch s (.refl s)
  | .eraseIntentPassed block => execEraseIntentPassed_answers block s (.refl s)
  | .eraseDone block result => execEraseDone_answers block result s (.refl s)
  | .relocationCopyDone block fa read => execRelocationCopyDone_answers block fa read s (.refl s)
  | .flashTempPoll ch temps => execFlashTempPoll_answers ch temps s (.refl s)
  | .recordWriteDone rec ok => execRecordWriteDone_answers rec ok s (.refl s)
  | .kstEraseDone sector blank => execKstEraseDone_answers sector blank s (.refl s)
  | .linkUp h width gts flit256 => execLinkUp_answers h width gts flit256 s (.refl s)
  | .linkDown h => execLinkDown_answers h s (.refl s)
  | .configSpaceReady h => execConfigSpaceReady_answers h s (.refl s)
  | .cxlMemEnable ld on => execCxlMemEnable_answers ld on s (.refl s)
  | .portReset port kind => execPortReset_answers port kind s (.refl s)
  | .functionLevelReset ld => execFunctionLevelReset_answers ld s (.refl s)
  | .twiuBlockWriteFirst data pecOk => execTwiuBlockWriteFirst_answers data pecOk s (.refl s)
  | .twiuBlockWriteNext data pecOk => execTwiuBlockWriteNext_answers data pecOk s (.refl s)
  | .twiuRawWrite data => execTwiuRawWrite_answers data s (.refl s)
  | .hostNotify acked collision => execHostNotify_answers acked collision s (.refl s)
  | .hostNotifyNackRetry acked => execHostNotifyNackRetry_answers acked s (.refl s)
  | .chainFrame down packet crcOk => execChainFrame_answers down packet crcOk s (.refl s)
  | .chainAckTimeout down => execChainAckTimeout_answers down s (.refl s)
  | .chainLinkUp down => execChainLinkUp_answers down s (.refl s)
  | .chainLinkDown down => execChainLinkDown_answers down s (.refl s)
  | .keeperRestartEnd ok => execKeeperRestartEnd_answers ok s (.refl s)
  | .patrolScrubRead ch correctable uncorrectable => execPatrolScrubRead_answers ch correctable uncorrectable s (.refl s)
  | .failedUnitRestart unit retire => execFailedUnitRestart_answers unit retire s (.refl s)
  | .malformedCommandPacket port packet => execMalformedCommandPacket_answers port packet s (.refl s)
  | .cmdBootSet => execCmdBootSet_answers s (.refl s)
  | .fwReadySignal => execFwReadySignal_answers s (.refl s)
  | .fwReadyTimeout => execFwReadyTimeout_answers s (.refl s)
  | .fwWatchdogExpired => execFwWatchdogExpired_answers s (.refl s)
  | .fwCrash => execFwCrash_answers s (.refl s)
  | .pdAppIdleTimeout => execPdAppIdleTimeout_answers s (.refl s)
  | .keeperLockstep => execKeeperLockstep_answers s (.refl s)
  | .twiuReplyRead => execTwiuReplyRead_answers s (.refl s)
  | .twiuReplyReadNext => execTwiuReplyReadNext_answers s (.refl s)
  | .twiuStatusRead => execTwiuStatusRead_answers s (.refl s)
  | .twiuRawRead => execTwiuRawRead_answers s (.refl s)
  | .twiuStartAbort => execTwiuStartAbort_answers s (.refl s)
  | .twiuSclTimeout => execTwiuSclTimeout_answers s (.refl s)
  | .twiuSdaStuck => execTwiuSdaStuck_answers s (.refl s)
  | .vinMainReturn => execVinMainReturn_answers s (.refl s)
  | .sidebandUp => execSidebandUp_answers s (.refl s)

/-- What a row leaves, read off the next state that it answers. -/
theorem exec_kept {c : Instr} {s t : State} (hexec : exec c s = .next t) : Kept (rowWrites c) s t := by
  obtain ⟨u, hu, hkept⟩ := exec_answers c s
  rw [hexec] at hu
  cases hu
  exact hkept

/-! ## A step -/

theorem step_of_pending_nil {s : State} (hpending : s.pending = []) : step s = .next s := by
  simp only [step, hpending]

theorem step_of_pending_cons {s : State} {c : Instr} {rest : List Instr} (hpending : s.pending = c :: rest) :
    step s = exec c { s with pending := rest } := by
  simp only [step, hpending]

/-- A step idles, or runs the command at the front on the state with the rest of the queue. -/
theorem step_cases {s t : State} (hstep : step s = .next t) :
    s.pending = [] ∧ t = s ∨
      ∃ c rest, s.pending = c :: rest ∧ exec c { s with pending := rest } = .next t := by
  match hpending : s.pending with
  | [] =>
    rw [step_of_pending_nil hpending] at hstep
    cases hstep
    exact .inl ⟨rfl, rfl⟩
  | c :: rest => exact .inr ⟨c, rest, rfl, (step_of_pending_cons hpending).symm.trans hstep⟩

/-! ## Memory -/

/-- What a memory reads after a write: the bytes written at their addresses, and elsewhere what it read before. -/
theorem dramByte_dramWrite {m : List Cell} (hwf : Memory.wf m = true) (a x : Nat) (b : Bytes) :
    dramByte (dramWrite m a b) x = if a ≤ x ∧ x < a + b.length then b.getD (x - a) 0 else dramByte m x := by
  induction b generalizing m a with
  | nil =>
    rw [if_neg (by simp only [List.length_nil]; omega)]
    rfl
  | cons v b ih =>
    have htail : dramByte (dramWrite m a (v :: b)) x = dramByte (dramWrite (dramPut m a v) (a + 1) b) x := rfl
    rw [htail, ih (dramPut_wf hwf a v), dramByte_dramPut hwf]
    simp only [List.length_cons]
    obtain hbelow | rfl | habove := Nat.lt_trichotomy x a
    · rw [if_neg (by omega), if_neg (by omega), if_neg (by omega)]
    · rw [if_neg (by omega), if_pos rfl, if_pos (by omega), Nat.sub_self, List.getD_cons_zero]
    · have hindex : x - a = (x - (a + 1)) + 1 := by omega
      rw [hindex, List.getD_cons_succ, if_neg (show x ≠ a by omega)]
      exact if_congr (by omega) rfl rfl

theorem State.reset_memoryCanonical : State.reset.memoryCanonical := ⟨rfl, rfl, rfl⟩

theorem State.reset_pstate : State.reset.get Reg.GLB_STATE.STATE = PState.KEEPER_BOOT := by decide +kernel

end Machine

open Machine

/-- Settles O4: a step idles or runs one row, and every row keeps the canonical form of each memory. -/
theorem stepKeepsMemoryCanonical : Obligations.StepKeepsMemoryCanonical := by
  unfold Obligations.StepKeepsMemoryCanonical
  intro s t hcanonical hstep
  obtain ⟨-, rfl⟩ | ⟨c, rest, -, hexec⟩ := step_cases hstep
  · exact hcanonical
  · exact (exec_kept hexec).memory hcanonical

/-- Settles O7: what a row keeps says which memories it leaves. -/
theorem onlyTheNamedRowsWriteMemory : Obligations.OnlyTheNamedRowsWriteMemory := by
  unfold Obligations.OnlyTheNamedRowsWriteMemory
  intro c s t hexec
  have hkept := exec_kept hexec
  exact ⟨hkept.dram, hkept.sram, hkept.user⟩

/-- Settles O2: an empty queue idles, and every row answers. -/
theorem everyStepAnswersNext : Obligations.EveryStepAnswersNext := by
  unfold Obligations.EveryStepAnswersNext
  intro s
  match hpending : s.pending with
  | [] => exact ⟨s, step_of_pending_nil hpending⟩
  | c :: rest =>
    obtain ⟨t, ht, -⟩ := exec_answers c { s with pending := rest }
    exact ⟨t, (step_of_pending_cons hpending).trans ht⟩

/-- Settles O3: a step takes the front command away, and no row changes the queue. -/
theorem stepTakesOneCommandFromTheQueue : Obligations.StepTakesOneCommandFromTheQueue := by
  unfold Obligations.StepTakesOneCommandFromTheQueue
  intro s t hstep
  obtain ⟨hempty, rfl⟩ | ⟨c, rest, hpending, hexec⟩ := step_cases hstep
  · rw [hempty, List.tail_nil]
  · rw [hpending, List.tail_cons, (exec_kept hexec).queue]

/-- Settles O6: one equation for what a memory reads after a write. -/
theorem memoryReadsBackWhatWasWritten : Obligations.MemoryReadsBackWhatWasWritten := by
  unfold Obligations.MemoryReadsBackWhatWasWritten
  intro m a b hwf
  refine ⟨fun i hi => ?written, fun x hx => ?elsewhere⟩
  case written =>
    rw [dramByte_dramWrite hwf, if_pos (by omega), Nat.add_sub_cancel_left]
  case elsewhere =>
    rw [dramByte_dramWrite hwf, if_neg (by omega)]

/-- Settles O1: the two cases of a step. -/
theorem stepRunsFrontCommand : Obligations.StepRunsFrontCommand := by
  unfold Obligations.StepRunsFrontCommand
  exact ⟨fun c rest s => step_of_pending_cons rfl, fun s hpending => step_of_pending_nil hpending⟩

/-- Settles O5: the memories of the reset state are empty, and with no command waiting the step idles. -/
theorem resetMeetsTheMemoryInvariant : Obligations.ResetMeetsTheMemoryInvariant := by
  unfold Obligations.ResetMeetsTheMemoryInvariant
  exact ⟨State.reset_memoryCanonical, rfl, State.reset_pstate, step_of_pending_nil rfl⟩

end Sys2Proof
end

section
/-! What reporting leaves: recording an event, replies, completions and the bookkeeping of CMD, in the terms of `State.onlyReports`;
and the obligations on packets that a test turns away and on the commands that only report or queue a record write. -/

namespace Sys2Proof

namespace Machine

namespace State.onlyReports

variable {s₀ s : State}

theorem refl (s : State) : s.onlyReports s := ⟨rfl, fun _ _ => rfl⟩

/-- What a part of the device that only reports does to a state keeps it reporting only. -/
theorem of {t : State} (hr : s₀.onlyReports s) (haside : t.aside = s.aside := by rfl)
    (hget : ∀ f : Fld, f.key ∉ talkFields → t.get f = s.get f := by intros; rfl) : s₀.onlyReports t :=
  ⟨haside.trans hr.1, fun f hf => (hget f hf).trans (hr.2 f hf)⟩

/-- A field that reporting may change is set. -/
theorem put (hr : s₀.onlyReports s) (f : Fld) (v : Nat) (hf : f.key ∈ talkFields := by decide) : s₀.onlyReports (s.put f v) :=
  hr.of rfl fun _ hg => State.get_put_ne s v fun he => hg (he ▸ hf)

theorem count (hr : s₀.onlyReports s) (f : Fld) (n : Nat) (hf : f.key ∈ talkFields := by decide) : s₀.onlyReports (s.count f n) :=
  hr.put f _ hf

theorem emit (hr : s₀.onlyReports s) (o : Out) : s₀.onlyReports (s.emit o) := hr.of

theorem tick (hr : s₀.onlyReports s) : s₀.onlyReports s.tick := hr.of

theorem setLd (hr : s₀.onlyReports s) (ld : Nat) (d : LdState) : s₀.onlyReports (s.setLd ld d) := hr.of

theorem each {α : Type} {g : State → α → State} (hg : ∀ s a, s₀.onlyReports s → s₀.onlyReports (g s a)) (l : List α)
    (hr : s₀.onlyReports s) : s₀.onlyReports (s.each l g) := by
  induction l generalizing s with
  | nil => exact hr
  | cons a l ih => exact ih (hg s a hr)

theorem ite {a b : State} {p : Prop} [Decidable p] (ha : s₀.onlyReports a) (hb : s₀.onlyReports b) :
    s₀.onlyReports (if p then a else b) := by
  split <;> assumption

/-! ## The event recorder -/

theorem signal (hr : s₀.onlyReports s) (ld : Fin 16) (v : Nat) : s₀.onlyReports (s.signal ld v) :=
  ite (hr.emit _) hr

theorem recorderInterrupt (hr : s₀.onlyReports s) : s₀.onlyReports s.recorderInterrupt := ite (hr.emit _) hr

theorem cxlLog (hr : s₀.onlyReports s) (log : Nat) (r : EvRecord) (lds : List (Fin 16)) : s₀.onlyReports (s.cxlLog log r lds) :=
  each (fun _ _ hs => signal (ite (hs.setLd ..) ((hs.setLd ..).put Reg.HIF_LD_EVT.OVERFLOW _)) _ _) lds hr

theorem place (hr : s₀.onlyReports s) (r : EvRecord) (priv : Bool) (tied : Option (Fin 16)) :
    s₀.onlyReports (s.place r priv tied) := by
  unfold State.place
  extract_lets e placed log logged
  have hplaced : s₀.onlyReports placed := by
    dsimp only [placed]
    split
    · have hentered : s₀.onlyReports { s with evr := (e.toSev r).1 } := hr.of
      exact ite (hentered.count Reg.EVR_CNT.SEV_DROP 1) hentered
    · exact hr.of
  have hlogged : s₀.onlyReports logged := hplaced.recorderInterrupt.cxlLog ..
  split
  · exact hlogged
  · exact ite hlogged (each (fun _ _ hs => ite (hs.signal ..) hs) _ hlogged)

theorem newRecord (hr : s₀.onlyReports s) (src : Source) (code data : Nat) (tied : Option (Fin 16)) :
    s₀.onlyReports (s.newRecord src code data tied) := by
  unfold State.newRecord
  split
  · exact hr.count Reg.EVR_CNT.LOST 1
  · extract_lets r _ _ numbered
    have hnumbered : s₀.onlyReports numbered := hr.of
    split
    · exact hnumbered.place ..
    · exact hnumbered.of

theorem recordNow (hr : s₀.onlyReports s) (src : Source) (code data : Nat) (tied : Option (Fin 16)) :
    s₀.onlyReports (s.recordNow src code data tied) := by
  unfold State.recordNow
  split
  · exact ite hr.of (hr.newRecord ..)
  · exact hr.newRecord ..

theorem record (hr : s₀.onlyReports s) (src : Source) (code : Nat) (vals : List (Nat × Nat)) :
    s₀.onlyReports (s.record src code vals) :=
  ite hr.of (hr.recordNow ..)

/-! ## Replies and completions -/

theorem chainSend (hr : s₀.onlyReports s) (down relayed : Bool) (pk : Bytes) : s₀.onlyReports (s.chainSend down relayed pk) := by
  unfold State.chainSend
  extract_lets first counted _ queued
  have hcounted : s₀.onlyReports counted := ite (hr.count Reg.NCH_CHAIN_CNT.RELAYED 1) hr
  have hqueued : s₀.onlyReports queued := hcounted.of
  have hdiscarded := hr.count Reg.NCH_CHAIN_CNT.DISCARD 1
  exact ite (ite hdiscarded hr) (ite hdiscarded (ite (hqueued.emit _) hqueued))

theorem dropTwiReply (hr : s₀.onlyReports s) : s₀.onlyReports s.dropTwiReply := by
  have hcounted := hr.count (Reg.TWI_ERR.FRAME 0) 1
  exact of (ite hcounted hr)

theorem reply (hr : s₀.onlyReports s) (port : Port) (opcode : Nat) (tag : BitVec 32) (status dist : Nat) (payload : Bytes) :
    s₀.onlyReports (s.reply port opcode tag status dist payload) := by
  have hsent := hr.emit (.reply port opcode tag status payload)
  unfold State.reply
  refine ite ?_ hr
  cases port
  case twiu => exact hsent.dropTwiReply.of
  case chainUp => exact hsent.chainSend ..
  all_goals exact hsent

theorem notifyPort (hr : s₀.onlyReports s) (port : Port) (opcode : Nat) (tag : BitVec 32) (status dist : Nat) (result : Bytes) :
    s₀.onlyReports (s.notifyPort port opcode tag status dist result) := by
  have hsent := hr.emit (.completion port opcode tag status result)
  unfold State.notifyPort
  cases port
  case mailbox ld => exact hsent.signal ld 0
  case twiu => exact hsent.of
  case chainUp => exact ite hsent (hsent.chainSend ..)
  all_goals exact hsent

theorem dropResult (hr : s₀.onlyReports s) (port : Port) (tag : BitVec 32) : s₀.onlyReports (s.dropResult port tag) := hr.of

theorem complete (hr : s₀.onlyReports s) (port : Port) (tag : BitVec 32) (status : Nat) (result : Bytes) :
    s₀.onlyReports (s.complete port tag status result) := by
  unfold State.complete
  extract_lets ended
  have hended : s₀.onlyReports ended := hr.of
  split
  · exact hended
  · split
    · exact hended
    · have hheld : ∀ l, s₀.onlyReports { ended with cmd := { ended.cmd with results := l } } := fun _ => hended.of
      exact ite (hended.dropResult ..) (ite ((hheld _).notifyPort ..) ((hended.dropResult ..).reply ..))

theorem finish (hr : s₀.onlyReports s) (op : Nat) (h : Hdr) (st : Status) (payload : Bytes) :
    s₀.onlyReports (s.finish op h st payload) := by
  unfold State.finish
  split
  · exact ite (hr.complete ..) (hr.reply ..)
  · exact hr.reply ..

theorem done (hr : s₀.onlyReports s) (op : Nat) (h : Hdr) (payload : Bytes) : s₀.onlyReports (s.done op h payload) :=
  hr.finish ..

theorem takeEntry (hr : s₀.onlyReports s) (op : Nat) (h : Hdr) : s₀.onlyReports (s.takeEntry op h) := hr.of

theorem startWrite (hr : s₀.onlyReports s) (rec : Nat) (upd : RecUpdate) (h : Hdr) : s₀.onlyReports (s.startWrite rec upd h) :=
  hr.of

/-! ## A packet that reaches CMD -/

theorem refuse (hr : s₀.onlyReports s) (c : CmdSpec) (h : Hdr) (src : Src) (st : Status) : s₀.onlyReports (s.refuse c h src st) :=
  (ite (hr.record ..) hr).reply ..

theorem turnAway (hr : s₀.onlyReports s) (op : Nat) (h : Hdr) : s₀.onlyReports (s.turnAway op h) := by
  unfold State.turnAway
  split
  · exact hr
  · exact hr
  · exact hr.reply ..

end State.onlyReports

/-- The execution of a command only reports. -/
def CmdSpec.OnlyReports (c : CmdSpec) : Prop := ∀ (h : Hdr) (src : Src) (s₀ s : State), s₀.onlyReports s → s₀.onlyReports (c.run h src s)

/-- A packet of a command that only reports does, on every path through the tests. -/
theorem State.onlyReports.runSpec {s₀ s : State} {c : CmdSpec} (hc : c.OnlyReports) (hr : s₀.onlyReports s) (h : Hdr) :
    s₀.onlyReports (s.runSpec c h) := by
  have hrom : s₀.onlyReports (s.romRun c h) := by
    unfold State.romRun
    refine ite hr ?_
    split
    · exact hr.reply ..
    · exact hc _ _ _ _ hr
  unfold State.runSpec
  refine ite hrom (ite hr (ite (hr.turnAway ..) ?_))
  extract_lets src
  split
  · exact hr.refuse ..
  · exact hc _ _ _ _ (ite (hr.takeEntry ..) hr)

/-! ## The commands that only report -/

theorem identifySpec_onlyReports : identifySpec.OnlyReports := fun _ _ _ _ hr => hr.done ..
theorem readyGetSpec_onlyReports : readyGetSpec.OnlyReports := fun _ _ _ _ hr => hr.done ..
theorem fwStatusSpec_onlyReports : fwStatusSpec.OnlyReports := fun _ _ _ _ hr => hr.done ..
theorem keeperUpdateStatusSpec_onlyReports : keeperUpdateStatusSpec.OnlyReports := fun _ _ _ _ hr => hr.done ..
theorem epochListSpec_onlyReports : epochListSpec.OnlyReports := fun _ _ _ _ hr => hr.done ..
theorem regionListSpec_onlyReports : regionListSpec.OnlyReports := fun _ _ _ _ hr => hr.done ..
theorem reserveStatusSpec_onlyReports : reserveStatusSpec.OnlyReports := fun _ _ _ _ hr => hr.done ..
theorem eventReadSpec_onlyReports : eventReadSpec.OnlyReports := fun _ _ _ _ hr => hr.done ..
theorem dramStatusSpec_onlyReports : dramStatusSpec.OnlyReports := fun _ _ _ _ hr => hr.done ..
theorem delaySetListSpec_onlyReports : delaySetListSpec.OnlyReports := fun _ _ _ _ hr => hr.done ..
theorem flashStatusSpec_onlyReports : flashStatusSpec.OnlyReports := fun _ _ _ _ hr => hr.tick.tick.done ..
theorem railStatusSpec_onlyReports : railStatusSpec.OnlyReports := fun _ _ _ _ hr => hr.tick.done ..
theorem echoSpec_onlyReports : echoSpec.OnlyReports := fun _ _ _ _ hr => hr.done ..

/-- SIDEBAND_STATUS clears the two counts of the chain, which reporting may change. -/
theorem sidebandStatusSpec_onlyReports : sidebandStatusSpec.OnlyReports := fun _ _ _ _ hr =>
  ((hr.put Reg.NCH_CHAIN_CNT.RELAYED 0).put Reg.NCH_CHAIN_CNT.DISCARD 0).done ..

/-- RESULT_GET frees at most its own entry of the result table. -/
theorem resultGetSpec_onlyReports : resultGetSpec.OnlyReports := by
  intro h _ s₀ s hr
  unfold resultGetSpec
  dsimp only
  split
  · exact hr
  · exact (State.onlyReports.ite (hr.dropResult ..) hr).done ..

/-- A configuration command queues its record write. -/
theorem configSpec_onlyReports (op rec layout : Nat) (vals : Bytes → List (Fld × Nat)) (wait : Bytes → Option Nat)
    (clash : State → List (Fld × Nat) → Bool) : (configSpec op rec layout vals wait clash).OnlyReports :=
  fun _ _ _ _ hr => hr.startWrite ..

theorem persistConfigSpec_onlyReports : persistConfigSpec.OnlyReports := configSpec_onlyReports _ _ _ _ _ _
theorem budgetConfigSpec_onlyReports : budgetConfigSpec.OnlyReports := configSpec_onlyReports _ _ _ _ _ _
theorem wearConfigSpec_onlyReports : wearConfigSpec.OnlyReports := configSpec_onlyReports _ _ _ _ _ _
theorem saveModelConfigSpec_onlyReports : saveModelConfigSpec.OnlyReports := configSpec_onlyReports _ _ _ _ _ _
theorem epochConfigSpec_onlyReports : epochConfigSpec.OnlyReports := configSpec_onlyReports _ _ _ _ _ _
theorem saveConfigSpec_onlyReports : saveConfigSpec.OnlyReports := configSpec_onlyReports _ _ _ _ _ _
theorem restoreConfigSpec_onlyReports : restoreConfigSpec.OnlyReports := configSpec_onlyReports _ _ _ _ _ _
theorem reserveConfigSpec_onlyReports : reserveConfigSpec.OnlyReports := configSpec_onlyReports _ _ _ _ _ _
theorem dramConfigSpec_onlyReports : dramConfigSpec.OnlyReports := configSpec_onlyReports _ _ _ _ _ _
theorem flashConfigSpec_onlyReports : flashConfigSpec.OnlyReports := configSpec_onlyReports _ _ _ _ _ _
theorem beaconConfigSpec_onlyReports : beaconConfigSpec.OnlyReports := configSpec_onlyReports _ _ _ _ _ _
theorem ldConfigSpec_onlyReports : ldConfigSpec.OnlyReports := fun _ _ _ _ hr => hr.startWrite ..
theorem headOwnerSetSpec_onlyReports : headOwnerSetSpec.OnlyReports := fun _ _ _ _ hr => hr.startWrite ..
theorem eventRouteSpec_onlyReports : eventRouteSpec.OnlyReports := fun _ _ _ _ hr => hr.startWrite ..
theorem railConfigSpec_onlyReports : railConfigSpec.OnlyReports := fun _ _ _ _ hr => hr.startWrite ..
theorem twiConfigSpec_onlyReports : twiConfigSpec.OnlyReports := fun _ _ _ _ hr => hr.startWrite ..

/-- The quiet rows are packets, and their commands only report. -/
theorem packetRow_of_quietRow {c : Instr} (hquiet : quietRow c = true) :
    ∃ p, packetRow c = some p ∧ p.1.OnlyReports := by
  unfold quietRow at hquiet
  split at hquiet
  · exact ⟨_, rfl, identifySpec_onlyReports⟩
  · exact ⟨_, rfl, readyGetSpec_onlyReports⟩
  · exact ⟨_, rfl, fwStatusSpec_onlyReports⟩
  · exact ⟨_, rfl, keeperUpdateStatusSpec_onlyReports⟩
  · exact ⟨_, rfl, epochListSpec_onlyReports⟩
  · exact ⟨_, rfl, regionListSpec_onlyReports⟩
  · exact ⟨_, rfl, reserveStatusSpec_onlyReports⟩
  · exact ⟨_, rfl, eventReadSpec_onlyReports⟩
  · exact ⟨_, rfl, dramStatusSpec_onlyReports⟩
  · exact ⟨_, rfl, delaySetListSpec_onlyReports⟩
  · exact ⟨_, rfl, flashStatusSpec_onlyReports⟩
  · exact ⟨_, rfl, railStatusSpec_onlyReports⟩
  · exact ⟨_, rfl, sidebandStatusSpec_onlyReports⟩
  · exact ⟨_, rfl, echoSpec_onlyReports⟩
  · exact ⟨_, rfl, persistConfigSpec_onlyReports⟩
  · exact ⟨_, rfl, budgetConfigSpec_onlyReports⟩
  · exact ⟨_, rfl, wearConfigSpec_onlyReports⟩
  · exact ⟨_, rfl, saveModelConfigSpec_onlyReports⟩
  · exact ⟨_, rfl, epochConfigSpec_onlyReports⟩
  · exact ⟨_, rfl, saveConfigSpec_onlyReports⟩
  · exact ⟨_, rfl, restoreConfigSpec_onlyReports⟩
  · exact ⟨_, rfl, ldConfigSpec_onlyReports⟩
  · exact ⟨_, rfl, headOwnerSetSpec_onlyReports⟩
  · exact ⟨_, rfl, reserveConfigSpec_onlyReports⟩
  · exact ⟨_, rfl, eventRouteSpec_onlyReports⟩
  · exact ⟨_, rfl, dramConfigSpec_onlyReports⟩
  · exact ⟨_, rfl, flashConfigSpec_onlyReports⟩
  · exact ⟨_, rfl, railConfigSpec_onlyReports⟩
  · exact ⟨_, rfl, beaconConfigSpec_onlyReports⟩
  · exact ⟨_, rfl, twiConfigSpec_onlyReports⟩
  · exact ⟨_, rfl, resultGetSpec_onlyReports⟩
  · exact absurd hquiet Bool.false_ne_true

/-! ## Packets -/

/-- A management packet reaches CMD with the specification of its opcode. -/
theorem exec_of_packetRow {c : Instr} {p : CmdSpec × Hdr} (hpacket : packetRow c = some p) (s : State) :
    exec c s = .next (s.runSpec p.1 p.2) := by
  unfold packetRow at hpacket
  split at hpacket <;> cases hpacket <;> rfl

/-- A test that turns a packet away is answered by a refusal. -/
theorem State.runSpec_eq_refuse {s : State} {c : CmdSpec} {h : Hdr} {st : Status} (haway : s.turnsAway c h st) :
    s.runSpec c h = s.refuse c h (s.srcOf h.port) st := by
  obtain ⟨hrom, htakes, hawaits, htest⟩ := haway
  simp [State.runSpec, hrom, htakes, hawaits, htest]

@[simp] theorem State.chainSend_cmd (s : State) (down relayed : Bool) (pk : Bytes) : (s.chainSend down relayed pk).cmd = s.cmd := by
  unfold State.chainSend
  extract_lets first counted _ queued
  have hqueued : queued.cmd = s.cmd := by
    dsimp only [queued, counted]
    split <;> rfl
  split
  · split <;> rfl
  · split
    · rfl
    · split <;> exact hqueued

@[simp] theorem State.dropTwiReply_cmd (s : State) : s.dropTwiReply.cmd = s.cmd := by
  unfold State.dropTwiReply
  dsimp only
  split <;> rfl

/-- A reply leaves the commands in progress. -/
@[simp] theorem State.reply_cmd (s : State) (port : Port) (opcode : Nat) (tag : BitVec 32) (status dist : Nat) (payload : Bytes) :
    (s.reply port opcode tag status dist payload).cmd = s.cmd := by
  unfold State.reply
  split
  · cases port <;> simp
  · rfl

theorem State.record_cmd (s : State) (src : Source) (code : Nat) (vals : List (Nat × Nat)) :
    (s.record src code vals).cmd = s.cmd :=
  have hcmd : (s.record src code vals).apart.cmd = s.apart.cmd := congrArg State.cmd (s.record_apart src code vals)
  hcmd

theorem State.record_twi (s : State) (src : Source) (code : Nat) (vals : List (Nat × Nat)) :
    (s.record src code vals).twi = s.twi :=
  have htwi : (s.record src code vals).apart.twi = s.apart.twi := congrArg State.twi (s.record_apart src code vals)
  htwi

end Machine

open Machine

/-- Settles O9: a refusal is the reply to the state itself or, at the privilege test, to the state with the denial recorded. -/
theorem aCommandThatFailsATestHasNoEffect : Obligations.ACommandThatFailsATestHasNoEffect := by
  unfold Obligations.ACommandThatFailsATestHasNoEffect
  intro c p s st hpacket haway
  obtain ⟨c', h⟩ := p
  have hexec : exec c s = .next (s.refuse c' h (s.srcOf h.port) st) := by
    rw [exec_of_packetRow hpacket, State.runSpec_eq_refuse haway]
  have hs := State.onlyReports.refl s
  refine ⟨_, if st == .denied && !c'.srcs.contains (s.srcOf h.port) && s.srcOf h.port != .keeper then
      s.record Ev.CMD_DENIED wide [(1, (s.srcOf h.port).code)] else s, hexec, hs.refuse .., ?cmd, rfl, .ite (hs.record ..) hs, ?_, ?_⟩
  case cmd =>
    simp only [State.refuse, State.reply_cmd]
    split
    · exact State.record_cmd ..
    · rfl
  · split
    · exact State.record_twi ..
    · rfl
  · split
    · exact State.record_cmd ..
    · rfl

/-- Settles O10: a quiet row is a packet whose command only reports, and so do all the tests before it. -/
theorem queriesAndSettingsOnlyReportAndQueue : Obligations.QueriesAndSettingsOnlyReportAndQueue := by
  unfold Obligations.QueriesAndSettingsOnlyReportAndQueue
  intro c s t hquiet hexec
  obtain ⟨⟨c', h⟩, hpacket, honly⟩ := packetRow_of_quietRow hquiet
  rw [exec_of_packetRow hpacket] at hexec
  cases hexec
  exact (State.onlyReports.refl s).runSpec honly h

end Sys2Proof
end

section
/-! The cut at the end of the grace (R65, R213, R215): what the budget and the panic of the feeds leave of the phase that the device is
in, and the obligation on GRACE_EXPIRED. -/

namespace Sys2Proof

namespace Machine

/-! ## What the figures leave of the persistence state -/

/-- The fields that say where the device stands: its state, PERSIST_ARMED and MODE. -/
def standFields : List Fld := [Reg.GLB_STATE.STATE, Reg.GLB_READY.PERSIST_ARMED, Reg.GLB_ARM.MODE]

/-- From one state to another the save and the fields that say where the device stands stay. -/
structure StandKept (s t : State) : Prop where
  sav : t.sav = s.sav
  fields : ∀ f ∈ standFields, t.get f = s.get f

namespace StandKept

variable {s₀ s : State}

theorem refl (s : State) : StandKept s s := ⟨rfl, fun _ _ => rfl⟩

theorem trans {t u : State} (h₁ : StandKept s t) (h₂ : StandKept t u) : StandKept s u :=
  ⟨h₂.sav.trans h₁.sav, fun f hf => (h₂.fields f hf).trans (h₁.fields f hf)⟩

/-- The same register file and the same save. -/
theorem of {t : State} (hk : StandKept s₀ s) (hregs : t.regs = s.regs := by rfl) (hsav : t.sav = s.sav := by rfl) : StandKept s₀ t :=
  ⟨hsav.trans hk.sav, fun f hf => by
    have hget : t.get f = s.get f := by simp only [State.get, hregs]
    exact hget.trans (hk.fields f hf)⟩

theorem put (hk : StandKept s₀ s) (f : Fld) (v : Nat) (hf : ∀ g ∈ standFields, g.key ≠ f.key := by decide) :
    StandKept s₀ (s.put f v) :=
  ⟨hk.sav, fun g hg => (State.get_put_ne s v (hf g hg)).trans (hk.fields g hg)⟩

theorem count (hk : StandKept s₀ s) (f : Fld) (n : Nat) (hf : ∀ g ∈ standFields, g.key ≠ f.key := by decide) :
    StandKept s₀ (s.count f n) := hk.put f _ hf

theorem putAll (hk : StandKept s₀ s) (l : List (Fld × Nat))
    (hl : ∀ g ∈ standFields, ∀ f ∈ l.map Prod.fst, g.key ≠ f.key := by
      simp only [List.map_cons, List.map_nil]; decide) : StandKept s₀ (s.putAll l) :=
  ⟨hk.sav, fun g hg => (State.get_putAll_of_notMem s l g fun _ he => hl g hg _ (List.mem_map_of_mem he)).trans (hk.fields g hg)⟩

theorem tick (hk : StandKept s₀ s) : StandKept s₀ s.tick := hk.of

theorem record (hk : StandKept s₀ s) (src : Source) (code : Nat) (vals : List (Nat × Nat)) :
    StandKept s₀ (s.record src code vals) := by
  have hfields : ∀ g ∈ standFields, g.key ∉ evrFields := by decide
  have hsav : (s.record src code vals).apart.sav = s.apart.sav := congrArg State.sav (s.record_apart src code vals)
  exact ⟨hsav.trans hk.sav, fun g hg => (State.record_get _ _ _ _ (hfields g hg)).trans (hk.fields g hg)⟩

/-- A readiness bit other than PERSIST_ARMED changes. -/
theorem setReady (hk : StandKept s₀ s) (f : Fld) (v : Bool)
    (hf : ∀ g ∈ standFields, g.key ≠ f.key := by decide)
    (hchg : ∀ g ∈ standFields, g.key ≠ (⟨Reg.GLB_READY_CHG.KEEPER_UP.off, f.lo, 1⟩ : Fld).key := by decide) :
    StandKept s₀ (s.setReady f v) := by
  unfold State.setReady
  split
  · exact hk
  · extract_lets changed recorded _ notified
    have hnotified : StandKept s₀ notified := (((hk.put f _ hf).put _ _ hchg).record ..).of
    have hsav : (notified.signalAll 7).apart.sav = notified.apart.sav := congrArg State.sav (notified.signalAll_apart 7)
    exact ⟨hsav.trans hnotified.sav, fun g hg => (State.signalAll_get ..).trans (hnotified.fields g hg)⟩

theorem showWear (hk : StandKept s₀ s) : StandKept s₀ s.showWear := by
  unfold State.showWear
  extract_lets gb shown limit
  have hshown : StandKept s₀ shown := hk.put ..
  split
  · exact hshown.put ..
  · exact (hshown.put ..).tick

theorem setOverCap (hk : StandKept s₀ s) (v : Bool) : StandKept s₀ (s.setOverCap v) := (hk.put ..).showWear

theorem refresh (hk : StandKept s₀ s) : StandKept s₀ s.refresh := by
  unfold State.refresh
  split
  · exact hk
  · extract_lets n capped old b _ bucket left credited stall began shown
    have hcapped : StandKept s₀ capped := by
      dsimp only [capped]
      split
      · exact hk.setOverCap false
      · exact hk
    have hcredited : StandKept s₀ { capped with drp := credited } := hcapped.of
    have hshown : StandKept s₀ shown := hcredited.putAll _
    split
    · exact (hshown.count ..).record ..
    · exact hshown

theorem setBudget (hk : StandKept s₀ s) (steps csave limiter : Nat) (under : Bool) :
    StandKept s₀ (s.setBudget steps csave limiter under) := by
  unfold State.setBudget
  extract_lets _ budget shown capped
  have hbudget : StandKept s₀ budget := hk.of
  have hshown : StandKept s₀ shown := hbudget.putAll _
  have hcapped : StandKept s₀ capped := by
    dsimp only [capped]
    split
    · exact (hshown.setOverCap true).record ..
    · exact hshown
  exact hcapped.refresh

theorem noFigureBudget (hk : StandKept s₀ s) : StandKept s₀ s.noFigureBudget := hk.setBudget ..

theorem showCeiling (hk : StandKept s₀ s) : StandKept s₀ s.showCeiling := by
  unfold State.showCeiling
  split
  · exact hk
  · exact hk.put ..

/-- A device that is not armed has nothing to disarm when its reserve is lost. -/
theorem loseReserve (hk : StandKept s₀ s) (hunarmed : s.ready Reg.GLB_READY.PERSIST_ARMED = false) (term : Nat) :
    StandKept s₀ (s.loseReserve term) := by
  unfold State.loseReserve
  extract_lets recorded _ lost disarmed
  have hlost : StandKept s lost := ((refl s).record ..).of
  have hsame : lost.ready Reg.GLB_READY.PERSIST_ARMED = false := by
    rw [State.ready, State.flag, hlost.fields _ (by decide)]
    exact hunarmed
  have hdisarmed : disarmed = lost := by simp only [disarmed, hsame, Bool.false_eq_true, if_false]
  rw [hdisarmed]
  exact ((hk.trans hlost).setReady ..).noFigureBudget

theorem recompute (hk : StandKept s₀ s) (hunarmed : s.ready Reg.GLB_READY.PERSIST_ARMED = false) : StandKept s₀ s.recompute := by
  unfold State.recompute
  split
  · have hrate : StandKept s₀ { s with drp := { s.drp with rateA := (0, 1) } } := hk.of
    exact hrate.noFigureBudget.showCeiling
  · extract_lets t ku csave cfg b steps lost shown was _ rated
    have hshown : StandKept s shown := (refl s).putAll _
    have hrated : StandKept s rated := hshown.of
    have hsame : rated.ready Reg.GLB_READY.PERSIST_ARMED = false := by
      rw [State.ready, State.flag, hrated.fields _ (by decide)]
      exact hunarmed
    refine hk.trans (showCeiling ?_)
    split
    · split
      · exact hrated.noFigureBudget
      · exact hrated.loseReserve hsame _
    · exact hrated.setBudget ..

end StandKept

/-! ## The panic of the feeds -/

/-- The end of the panic of a channel changes the DRAM controller, and three fields. -/
theorem State.showPanic_keeps {β : Type} (p : State → β) (c : Nat) (hdmc : ∀ s d, p { s with dmc := d } = p s)
    (hput : ∀ s v, ∀ f ∈ [Reg.DMC_STAT.PANIC c, Reg.DMC_REF.POSTPONED c, Reg.SAV_STAT.PANIC], p (State.put s f v) = p s)
    (s : State) : p (s.showPanic c false) = p s := by
  have hshown := hput s 0 (Reg.DMC_STAT.PANIC c) (by simp)
  refine (hput _ _ Reg.SAV_STAT.PANIC (by simp)).trans ?_
  refine (hput _ _ (Reg.DMC_REF.POSTPONED c) (by simp)).trans ?_
  exact (State.each_keeps p _ (fun s e => hdmc s _) _ _).trans ((hdmc _ _).trans hshown)

/-- When panic ends, all but the DRAM controller and the register fields stays. -/
theorem State.endPanic_keeps {β : Type} (p : State → β) (hdmc : ∀ s d, p { s with dmc := d } = p s)
    (hput : ∀ s f v, p (State.put s f v) = p s) (s : State) : p s.endPanic = p s :=
  State.each_keeps p _ (fun s c => s.showPanic_keeps p c hdmc fun s v f _ => hput s f v) s _

@[simp] theorem State.endPanic_drp (s : State) : s.endPanic.drp = s.drp :=
  s.endPanic_keeps State.drp (fun _ _ => rfl) fun _ _ _ => rfl
@[simp] theorem State.endPanic_sav (s : State) : s.endPanic.sav = s.sav :=
  s.endPanic_keeps State.sav (fun _ _ => rfl) fun _ _ _ => rfl
@[simp] theorem State.endPanic_dram (s : State) : s.endPanic.dram = s.dram :=
  s.endPanic_keeps State.dram (fun _ _ => rfl) fun _ _ _ => rfl

/-- Registers below those of the DRAM controller stay when panic ends. -/
theorem State.endPanic_get (s : State) {f : Fld} (hf : f.key < (Reg.DMC_STAT.PANIC 0).key) : s.endPanic.get f = s.get f := by
  refine State.each_keeps (fun s => s.get f) _ (fun s c => ?_) s _
  have hpanic : f.key ≠ (Reg.DMC_STAT.PANIC c).key := by
    simp only [Fld.key, Reg.DMC_STAT.PANIC] at hf ⊢
    omega
  have hpostponed : f.key ≠ (Reg.DMC_REF.POSTPONED c).key := by
    simp only [Fld.key, Reg.DMC_STAT.PANIC, Reg.DMC_REF.POSTPONED] at hf ⊢
    omega
  have hsave : f.key ≠ Reg.SAV_STAT.PANIC.key := by
    simp only [Fld.key, Reg.DMC_STAT.PANIC, Reg.SAV_STAT.PANIC] at hf ⊢
    omega
  exact s.showPanic_keeps (fun s => s.get f) c (fun _ _ => rfl) fun s v g hg => State.get_put_ne s v (by
    simp only [List.mem_cons, List.not_mem_nil, or_false] at hg
    obtain rfl | rfl | rfl := hg
    · exact hpanic
    · exact hpostponed
    · exact hsave)

/-! ## The cut -/

theorem exec_graceExpired (s : State) : exec .graceExpired s = execGraceExpired s := rfl

/-- The state that `enter` leads to. -/
theorem State.pstate_enter (s : State) {p : Nat} (hp : p < 16) : (s.enter p).pstate = p := by
  unfold State.enter
  split
  next hsame => exact eq_of_beq hsame
  next => exact (State.get_put_self ..).trans (Nat.mod_eq_of_lt hp)

@[simp] theorem State.enter_drp (s : State) (p : Nat) : (s.enter p).drp = s.drp := by
  unfold State.enter
  split <;> rfl

@[simp] theorem State.enter_dram (s : State) (p : Nat) : (s.enter p).dram = s.dram := by
  unfold State.enter
  split <;> rfl

theorem StandKept.showEpochs {s₀ s : State} (hk : StandKept s₀ s) : StandKept s₀ s.showEpochs := by
  unfold State.showEpochs
  extract_lets d opened sealed
  have hopened : StandKept s₀ opened := (hk.put ..).put ..
  have hsealed : StandKept s₀ sealed := (hopened.put ..).put ..
  exact hsealed.putAll _

theorem StandKept.endPanic {s₀ s : State} (hk : StandKept s₀ s) : StandKept s₀ s.endPanic :=
  have hbelow : ∀ f ∈ standFields, f.key < (Reg.DMC_STAT.PANIC 0).key := by decide
  ⟨s.endPanic_sav.trans hk.sav, fun f hf => (s.endPanic_get (hbelow f hf)).trans (hk.fields f hf)⟩

@[simp] theorem State.setReady_sav (s : State) (f : Fld) (v : Bool) : (s.setReady f v).sav = s.sav := by
  unfold State.setReady
  split
  · rfl
  · extract_lets changed recorded _ notified
    have hnotified : (notified.signalAll 7).apart.sav = notified.apart.sav := congrArg State.sav (notified.signalAll_apart 7)
    have hrecorded : recorded.apart.sav = changed.apart.sav := congrArg State.sav (changed.record_apart Ev.READY_CHANGE wide [])
    exact hnotified.trans hrecorded

/-- From one state to another the cut has fallen at the open epoch (R215). -/
structure CutFallen (s t : State) : Prop where
  pstate : t.pstate = PState.CUTTING
  epoch : t.sav.epoch = s.drp.openEpoch
  openEpoch : t.drp.openEpoch = 0
  shown : t.pair Reg.GLB_OPEN_EPOCH_LO.LO Reg.GLB_OPEN_EPOCH_HI.HI = 0
  unarmed : t.ready Reg.GLB_READY.PERSIST_ARMED = false
  mode : t.get Reg.GLB_ARM.MODE = 0
  sealEpoch : t.drp.sealEpoch = s.drp.sealEpoch
  grans : t.drp.grans = s.drp.grans
  dram : t.dram = s.dram

/-- What ends the cut: the device is disarmed, and the figures, the registers of the epochs and the feeds follow. -/
theorem CutFallen.finish {s u : State} (hstate : u.pstate = PState.CUTTING) (hmode : u.get Reg.GLB_ARM.MODE = 0)
    (hepoch : u.sav.epoch = s.drp.openEpoch) (hopen : u.drp.openEpoch = 0) (hseal : u.drp.sealEpoch = s.drp.sealEpoch)
    (hgrans : u.drp.grans = s.drp.grans) (hdram : u.dram = s.dram) :
    CutFallen s (u.setReady Reg.GLB_READY.PERSIST_ARMED false).recompute.showEpochs.endPanic := by
  have hunarmed : (u.setReady Reg.GLB_READY.PERSIST_ARMED false).ready Reg.GLB_READY.PERSIST_ARMED = false :=
    u.setReady_flag _ false (by decide) (by decide) (by decide)
  have hfigures := (EpochsKept.refl u).setReady Reg.GLB_READY.PERSIST_ARMED false |>.recompute
  have hstand := (StandKept.refl (u.setReady Reg.GLB_READY.PERSIST_ARMED false)).recompute hunarmed |>.showEpochs.endPanic
  have hother : ∀ f ∈ [Reg.GLB_STATE.STATE, Reg.GLB_ARM.MODE],
      (u.setReady Reg.GLB_READY.PERSIST_ARMED false).recompute.showEpochs.endPanic.get f = u.get f := by
    intro f hf
    have hkeys : ∀ g ∈ [Reg.GLB_STATE.STATE, Reg.GLB_ARM.MODE], g ∈ standFields ∧ g.key ∉ evrFields ∧
        g.key ≠ Reg.GLB_READY.PERSIST_ARMED.key ∧
        g.key ≠ (⟨Reg.GLB_READY_CHG.KEEPER_UP.off, Reg.GLB_READY.PERSIST_ARMED.lo, 1⟩ : Fld).key := by decide
    obtain ⟨hmem, hevr, harmed, hchg⟩ := hkeys f hf
    exact (hstand.fields f hmem).trans (u.setReady_get_ne _ _ hevr harmed hchg)
  have hnone : (u.setReady Reg.GLB_READY.PERSIST_ARMED false).recompute.drp.openEpoch = 0 := hfigures.openEpoch.trans hopen
  exact {
    pstate := (hother _ (by decide)).trans hstate
    epoch := by rw [hstand.sav, State.setReady_sav, hepoch]
    openEpoch := by rw [State.endPanic_drp, State.showEpochs_drp, hnone]
    shown := by
      have hpair := State.pair_showEpochs (u.setReady Reg.GLB_READY.PERSIST_ARMED false).recompute (by rw [hnone]; decide)
      rw [State.pair, State.endPanic_get _ (by decide), State.endPanic_get _ (by decide)]
      exact hpair.trans hnone
    unarmed := by
      rw [State.ready, State.flag, hstand.fields _ (by decide)]
      exact hunarmed
    mode := (hother _ (by decide)).trans hmode
    sealEpoch := by rw [State.endPanic_drp, State.showEpochs_drp, hfigures.sealEpoch, hseal]
    grans := by rw [State.endPanic_drp, State.showEpochs_drp, hfigures.grans, hgrans]
    dram := by rw [State.endPanic_dram, State.showEpochs_dram, hfigures.dram, hdram] }

theorem State.cut_fallen (s : State) : CutFallen s s.cut := by
  unfold State.cut
  extract_lets gone held waited entered _ _ _ marked shown recorded
  have hdrp : entered.drp = s.drp := s.enter_drp _
  have hdram : entered.dram = s.dram := s.enter_dram _
  have hstate : shown.pstate = PState.CUTTING :=
    (State.get_putAll_of_notMem marked _ _ (by simp only [List.forall_mem_cons]; decide)).trans
      (s.pstate_enter (p := PState.CUTTING) (by decide))
  have hmode : shown.get Reg.GLB_ARM.MODE = 0 := by
    simp only [shown, State.putAll_cons, State.putAll_nil]
    rw [State.get_put_ne _ _ (by decide), State.get_put_self, Nat.zero_mod]
  have hepoch : shown.sav.epoch = s.drp.openEpoch := (congrArg Drp.openEpoch hdrp :)
  have hseal : shown.drp.sealEpoch = s.drp.sealEpoch := (congrArg Drp.sealEpoch hdrp :)
  have hgrans : shown.drp.grans = s.drp.grans := (congrArg Drp.grans hdrp :)
  dsimp only [recorded]
  split
  · exact .finish hstate hmode hepoch rfl hseal hgrans hdram
  · have hfigures := (EpochsKept.refl shown).record Ev.CUT_DISCARD wide []
    have hstand := (StandKept.refl shown).record Ev.CUT_DISCARD wide []
    exact .finish ((hstand.fields _ (by decide)).trans hstate) ((hstand.fields _ (by decide)).trans hmode)
      ((congrArg Sav.epoch hstand.sav).trans hepoch) hfigures.openEpoch (hfigures.sealEpoch.trans hseal)
      (hfigures.grans.trans hgrans) (hfigures.dram.trans hdram)

end Machine

open Machine

/-- Settles O15: in the grace GRACE_EXPIRED is the cut, and what follows the cut keeps what it left. -/
theorem cutStepsOfTheGraceEnd : Obligations.CutStepsOfTheGraceEnd := by
  unfold Obligations.CutStepsOfTheGraceEnd
  intro s hphase hfogged hunderway
  have hexec : exec .graceExpired s = .next s.cut := by
    simp [exec_graceExpired, execGraceExpired, hphase, hfogged, hunderway]
  have hcut := s.cut_fallen
  exact ⟨s.cut, hexec, hcut.pstate, hcut.epoch, hcut.openEpoch, hcut.shown, hcut.unarmed, hcut.mode, hcut.sealEpoch,
    hcut.grans, hcut.dram⟩

end Sys2Proof
end

section
/-! Where a host write goes: what the side table and the banks leave of the address map, what a write on its way through admission stores,
and the obligation on HOST_WRITE. -/

namespace Sys2Proof

namespace Machine

open Host

/-! ## The address map -/

/-- A field of a register that places lines on channels and ranks, or says where a migration stands: DMC_CFG and DMC_MAP, DMC_SPARE and
DMC_MIG_WM, each at its offset within the 64 KiB of a channel. -/
def Fld.places (f : Fld) : Prop := f.key / 32 % 65536 = 0 ∨ f.key / 32 % 65536 = 0x3C ∨ f.key / 32 % 65536 = 0x40

/-- From one state to another device memory, the units in FAILED and the fields that place lines stay. -/
structure PlaceKept (s t : State) : Prop where
  dram : t.dram = s.dram
  faults : t.faults = s.faults
  fields : ∀ f : Fld, f.places → t.get f = s.get f

namespace PlaceKept

variable {s₀ s t : State}

theorem refl (s : State) : PlaceKept s s := ⟨rfl, rfl, fun _ _ => rfl⟩

theorem of (hk : PlaceKept s₀ s) (hdram : t.dram = s.dram := by rfl) (hfaults : t.faults = s.faults := by rfl)
    (hregs : t.regs = s.regs := by rfl) : PlaceKept s₀ t :=
  ⟨hdram.trans hk.dram, hfaults.trans hk.faults, fun f hf => by
    have hget : t.get f = s.get f := by simp only [State.get, hregs]
    exact hget.trans (hk.fields f hf)⟩

theorem put (hk : PlaceKept s₀ s) {f : Fld} (hf : ¬f.places) (v : Nat) : PlaceKept s₀ (s.put f v) :=
  ⟨hk.dram, hk.faults, fun g hg => (State.get_put_ne s v fun he => hf (by simpa only [Fld.places, he] using hg)).trans (hk.fields g hg)⟩

theorem count (hk : PlaceKept s₀ s) {f : Fld} (hf : ¬f.places) (n : Nat) : PlaceKept s₀ (s.count f n) := hk.put hf _

theorem each {α : Type} {g : State → α → State} (hg : ∀ s a, PlaceKept s₀ s → PlaceKept s₀ (g s a)) (l : List α)
    (hk : PlaceKept s₀ s) : PlaceKept s₀ (s.each l g) := by
  induction l generalizing s with
  | nil => exact hk
  | cons a l ih => exact ih (hg s a hk)

theorem accessLines (hk : PlaceKept s₀ s) (lines : List Nat) (id : Nat) (copy write : Bool) :
    PlaceKept s₀ (s.accessLines lines id copy write) := by
  have hshown : ∀ (s : State) (c n : Nat) (v : Nat), PlaceKept s₀ s →
      PlaceKept s₀ ((s.put (Reg.DMC_STAT.INORDER c) v).count (Reg.DMC_RD_CNT.RFM c) n) := by
    intro s c n v hs
    have hinorder : ¬(Reg.DMC_STAT.INORDER c).places := by simp only [Fld.places, Fld.key, Reg.DMC_STAT.INORDER]; omega
    have hrfm : ¬(Reg.DMC_RD_CNT.RFM c).places := by simp only [Fld.places, Fld.key, Reg.DMC_RD_CNT.RFM]; omega
    exact (hs.put hinorder v).count hrfm n
  unfold State.accessLines State.arriveAll State.showBanks
  exact each (fun s c hs => hshown s c _ _ hs) _ hk.of

theorem sideTable (hk : PlaceKept s₀ s) (page : Nat) : PlaceKept s₀ (s.sideTable page) := by
  unfold State.sideTable
  extract_lets line c victim roomy
  split
  · exact hk
  · have hroomy : PlaceKept s₀ roomy := by
      dsimp only [roomy]
      split
      · exact hk
      · exact accessLines hk.of ..
    exact accessLines hroomy.of ..

theorem classifyPage (hk : PlaceKept s₀ s) (page : Nat) : PlaceKept s₀ (s.classifyPage page) := by
  unfold State.classifyPage
  extract_lets looked classified
  have hclassified : PlaceKept s₀ classified := (hk.sideTable page).of
  split
  · split
    · exact hclassified.of
    · exact hclassified
  · exact hclassified

theorem channelOf (hk : PlaceKept s t) (dpa : Nat) : t.channelOf dpa = s.channelOf dpa := by
  have hmap : ∀ f ∈ [Reg.DMC_MAP.BASE, Reg.DMC_MAP.GRAIN, Reg.DMC_MAP.CHANNELS], t.get f = s.get f :=
    fun f hf => hk.fields f (by simp only [List.mem_cons, List.not_mem_nil, or_false] at hf; obtain rfl | rfl | rfl := hf <;> exact .inl rfl)
  simp only [State.channelOf, State.chanBits, hmap _ (List.mem_cons_self ..), hmap Reg.DMC_MAP.GRAIN (by simp),
    hmap Reg.DMC_MAP.CHANNELS (by simp)]

theorem lineFailed (hk : PlaceKept s t) (line : Nat) : t.lineFailed line = s.lineFailed line := by
  simp only [State.lineFailed, State.unitFailed, hk.channelOf, hk.faults]

theorem inUnit (hk : PlaceKept s t) (dpa : Nat) : t.inUnit dpa = s.inUnit dpa := by
  have hgrain : t.get Reg.DMC_MAP.GRAIN = s.get Reg.DMC_MAP.GRAIN := hk.fields _ (.inl rfl)
  have hchannels : t.get Reg.DMC_MAP.CHANNELS = s.get Reg.DMC_MAP.CHANNELS := hk.fields _ (.inl rfl)
  have hsize : ∀ c, t.get (Reg.DMC_CFG.RANK_SIZE c) = s.get (Reg.DMC_CFG.RANK_SIZE c) := fun c =>
    hk.fields _ (by simp only [Fld.places, Fld.key, Reg.DMC_CFG.RANK_SIZE]; omega)
  have hstate : ∀ c, t.get (Reg.DMC_SPARE.STATE c) = s.get (Reg.DMC_SPARE.STATE c) := fun c =>
    hk.fields _ (by simp only [Fld.places, Fld.key, Reg.DMC_SPARE.STATE]; omega)
  have hrank : ∀ c, t.get (Reg.DMC_SPARE.SRC_LRANK c) = s.get (Reg.DMC_SPARE.SRC_LRANK c) := fun c =>
    hk.fields _ (by simp only [Fld.places, Fld.key, Reg.DMC_SPARE.SRC_LRANK]; omega)
  have hmark : ∀ c, t.get (Reg.DMC_MIG_WM.WM_4K c) = s.get (Reg.DMC_MIG_WM.WM_4K c) := fun c =>
    hk.fields _ (by simp only [Fld.places, Fld.key, Reg.DMC_MIG_WM.WM_4K]; omega)
  simp only [State.inUnit, State.lrankOf, State.rankOffset, State.channelAddr, State.chanBits, State.rankSize, hk.channelOf, hgrain,
    hchannels, hsize, hstate, hrank, hmark]

end PlaceKept

/-! ## What a write stores -/

/-- Of device memory, a write on its way stores its line or nothing. -/
def HostReq.Stores (r : HostReq) (s t : State) : Prop := t.dram = s.dram ∨ t.dram = r.bytes s.dram

/-- Operations that write no device memory leave what a write has stored. -/
theorem HostReq.Stores.kept {r : HostReq} {s t u : State} (hst : r.Stores s t) {wr wu : Bool} (hk : Kept ⟨false, wr, wu⟩ t u) :
    r.Stores s u := by
  rw [HostReq.Stores, hk.dram rfl]
  exact hst

theorem HostReq.Stores.of_kept {r : HostReq} {s t : State} {wr wu : Bool} (hk : Kept ⟨false, wr, wu⟩ s t) : r.Stores s t :=
  .inl (hk.dram rfl)

theorem State.refresh_dram (s : State) : s.refresh.dram = s.dram :=
  (State.refresh_kept s (.refl s : Kept ⟨false, false, false⟩ s s)).dram rfl

/-- A line on a channel in service goes to device memory. -/
theorem State.storeLine_dram (s : State) (r : HostReq) :
    (s.storeLine r).dram = if s.lineFailed (r.dpa / 64) then s.dram else r.bytes s.dram := by
  unfold State.storeLine
  extract_lets line bad accessed written marked d lpa list listed
  have haccessed : PlaceKept s accessed := (PlaceKept.refl s).accessLines ..
  have hwritten : written.dram = if s.lineFailed line then s.dram else r.bytes s.dram := by
    dsimp only [written]
    rw [haccessed.lineFailed, ← haccessed.dram]
    split <;> rfl
  have hmarked : marked.dram = written.dram := by
    dsimp only [marked]
    split <;> rfl
  have hlisted : listed.dram = marked.dram := by
    dsimp only [listed]
    split
    · rfl
    · split
      · exact (State.recordFor_kept _ _ _ _ _ (State.setLd_kept _ _ _ (.refl marked : Kept ⟨false, false, false⟩ _ _))).dram rfl
      · rfl
  have hcompleted : (listed.completeWrite r).dram = listed.dram :=
    (State.completeWrite_kept _ _ (.refl listed : Kept ⟨false, false, false⟩ _ _)).dram rfl
  rw [hcompleted, hlisted, hmarked, hwritten]

theorem State.storeLine_stores (s : State) (r : HostReq) : r.Stores s (s.storeLine r) := by
  rw [HostReq.Stores, State.storeLine_dram]
  split
  · exact .inl rfl
  · exact .inr rfl

theorem State.store_stores (s : State) (r : HostReq) : r.Stores s (s.store r) := by
  unfold State.store
  split
  · exact .inl rfl
  · exact s.storeLine_stores r

theorem State.carry_stores (s : State) (r : HostReq) : r.Stores s (s.carry r) := by
  have hclassified : PlaceKept s (s.classifyPage (r.dpa / 4096)) := (PlaceKept.refl s).classifyPage _
  have hstored : r.Stores s ((s.classifyPage (r.dpa / 4096)).store r) := by
    rw [HostReq.Stores, ← hclassified.dram]
    exact State.store_stores ..
  have hwaits : ∀ t : State, t.dram = (s.classifyPage (r.dpa / 4096)).dram → r.Stores s t := fun t ht => .inl (ht.trans hclassified.dram)
  unfold State.carry
  dsimp only
  refine HostReq.Stores.kept ?_ (State.refresh_kept _ (.refl _ : Kept ⟨false, false, false⟩ _ _))
  split
  · exact hstored
  · split
    · exact hwaits _ rfl
    · split
      · exact hwaits _ rfl
      · split <;> exact hwaits _ rfl

theorem State.perform_stores (s : State) (r : HostReq) : r.Stores s (s.perform r) := by
  unfold State.perform
  extract_lets page
  split
  · exact .of_kept (State.faultIn_kept s r (.refl s : Kept ⟨false, false, false⟩ s s))
  · split
    · exact .inl rfl
    · exact s.carry_stores r

theorem State.countUnprotected_dram (s : State) (r : HostReq) : (s.countUnprotected r).dram = s.dram := by
  unfold State.countUnprotected
  split <;> rfl

theorem State.admitReq_stores (s : State) (r : HostReq) : r.Stores s (s.admitReq r) := by
  have hcounted : ((s.countUnprotected r).count (Reg.DRP_LD_NEWPG.NEW_PAGES r.ld) 1).dram = s.dram := s.countUnprotected_dram r
  rw [HostReq.Stores, ← hcounted]
  exact State.perform_stores ..

theorem State.admission_stores (s : State) (r : HostReq) : r.Stores s (s.admission r) := by
  have hwaits : ∀ stage, r.Stores s (s.wait r stage) := fun _ => .inl rfl
  have hcredited : ∀ d : Drp, r.Stores s (State.admitReq { s with drp := d } r) := fun d => State.admitReq_stores { s with drp := d } r
  unfold State.admission
  split
  · exact hwaits _
  split
  · rw [HostReq.Stores, ← s.countUnprotected_dram r]
    exact State.perform_stores ..
  split
  · exact hwaits _
  split
  · exact s.admitReq_stores r
  split
  · exact hcredited _
  split
  · exact hcredited _
  · exact hwaits _

/-- A write whose address translates stores its line at that address, or nothing. -/
theorem State.serveWrite_stores {s : State} {r : HostReq} {dpa : Nat} (htranslate : s.translate r.ld r.lpa = .inl dpa) :
    HostReq.Stores { r with dpa } s (s.serveWrite r) := by
  unfold State.serveWrite
  rw [htranslate]
  dsimp only
  split
  · exact s.admission_stores { r with dpa }
  · split
    · exact .inl rfl
    · exact s.admission_stores { r with dpa, unprotected := true }

/-! ## A write that nothing holds up -/

/-- A write to a restored page, not owed, on a channel in service and in no unit being copied, is stored at once. -/
theorem State.perform_dram {s : State} {r : HostReq} (hrestored : s.pageRestored (r.dpa / 4096) = true)
    (hrecovering : s.pageRecovering (r.dpa / 4096) = false) (howed : s.drp.owedUncopied (r.dpa / 4096) = false)
    (hfailed : s.lineFailed (r.dpa / 64) = false) (hunit : s.inUnit r.dpa = false) : (s.perform r).dram = r.bytes s.dram := by
  have hclassified := (PlaceKept.refl s).classifyPage (r.dpa / 4096)
  have hcarry : s.perform r = ((s.classifyPage (r.dpa / 4096)).storeLine r).refresh := by
    simp [State.perform, hrestored, hrecovering, State.carry, howed, State.store, hclassified.inUnit, hunit]
  rw [hcarry, State.refresh_dram, State.storeLine_dram, hclassified.lineFailed, hfailed, hclassified.dram]
  rfl

/-- In Free without stall, a write that none waiting precedes is performed (R132, R135). -/
theorem State.admission_dram {s : State} {r : HostReq} (hband : s.get Reg.DRP_ADM.BAND = 0) (hstall : s.get Reg.DRP_ADM.STALL = 0)
    (hwaiters : s.waiters = [] ∨ s.drp.marked (r.dpa / 4096) = true ∧ ∀ x ∈ s.waiters, x.dpa / 4096 ≠ r.dpa / 4096)
    (hprotected : r.unprotected = false) (hrestored : s.pageRestored (r.dpa / 4096) = true)
    (hrecovering : s.pageRecovering (r.dpa / 4096) = false) (howed : s.drp.owedUncopied (r.dpa / 4096) = false)
    (hfailed : s.lineFailed (r.dpa / 64) = false) (hunit : s.inUnit r.dpa = false) : (s.admission r).dram = r.bytes s.dram := by
  have hbehind : s.behind r = false := by
    rw [State.behind, List.any_eq_false]
    intro x hx
    obtain hnone | ⟨-, hpages⟩ := hwaiters
    · rw [hnone] at hx; cases hx
    · simp [hpages x hx]
  have hcount : s.countUnprotected r = s := by simp [State.countUnprotected, hprotected]
  by_cases hmarked : s.drp.marked (r.dpa / 4096) = true
  · have hperform : s.admission r = s.perform r := by simp [State.admission, hbehind, hmarked, hcount]
    rw [hperform]
    exact State.perform_dram hrestored hrecovering howed hfailed hunit
  · have hnone : s.waiters = [] := hwaiters.resolve_right fun h => hmarked h.1
    have hadmit : s.admission r = (s.count (Reg.DRP_LD_NEWPG.NEW_PAGES r.ld) 1).perform r := by
      simp [State.admission, hbehind, hmarked, State.flag, hstall, hnone, hband, State.admitReq, hcount]
    have hnew : ¬(Reg.DRP_LD_NEWPG.NEW_PAGES r.ld).places := by
      simp only [Fld.places, Fld.key, Reg.DRP_LD_NEWPG.NEW_PAGES]
      omega
    have hplaces := (PlaceKept.refl s).count hnew 1
    rw [hadmit]
    exact State.perform_dram hrestored hrecovering howed ((hplaces.lineFailed _).trans hfailed) ((hplaces.inUnit _).trans hunit)

/-! ## HOST_WRITE -/

/-- The request that a host write becomes, at the address that it translates to. -/
def State.hostWriteReq (s : State) (h : Fin 4) (ld : Fin 16) (lpa dpa : Nat) (data : Bytes) (poison : Bool) : HostReq :=
  { (s.newReq h ld lpa true data poison).2 with dpa }

/-- What device memory reads after the write of a line: the data from their address on, as far as the line goes. -/
theorem HostReq.dramByte_bytes {m : List Cell} (hwf : Memory.wf m = true) (r : HostReq) (x : Nat) :
    dramByte (r.bytes m) x =
      if r.dpa ≤ x ∧ x < r.dpa + min (64 - r.dpa % 64) r.data.length then r.data.getD (x - r.dpa) 0 else dramByte m x := by
  rw [HostReq.bytes, dramByte_dramWrite hwf, List.length_take]
  split
  next hin =>
    have hindex : x - r.dpa < 64 - r.dpa % 64 := by omega
    simp [List.getD_eq_getElem?_getD, hindex]
  next => rfl

/-- A host write that reaches its logical device once memory is ready is served as a request. -/
theorem exec_hostWrite {s : State} {h : Fin 4} {ld : Fin 16} (lpa : Nat) (data : Bytes) (poison : Bool) (hreaches : s.reaches h ld = true)
    (hsaving : s.saving = false) (hready : s.ready Reg.GLB_READY.MEM_PARTIAL = true) :
    exec (.hostWrite h ld lpa data poison) s =
      .next ((s.newReq h ld lpa true data poison).1.serveWrite (s.newReq h ld lpa true data poison).2) := by
  have hsame : (s.newReq h ld lpa true data poison).1.ready Reg.GLB_READY.MEM_PARTIAL = true := hready
  show execHostWrite h ld lpa data poison s = _
  simp [execHostWrite, hreaches, hsaving, hsame]

end Machine

open Machine

/-- Settles O8: a write stores its line at the translated address or nothing (`State.serveWrite_stores`), and stores it where nothing
holds it up (`State.admission_dram`). -/
theorem hostWriteStoresItsLineAndNoOther : Obligations.HostWriteStoresItsLineAndNoOther := by
  unfold Obligations.HostWriteStoresItsLineAndNoOther
  intro h ld lpa dpa data poison s hcanonical hreaches hsaving hready htranslate
  have hwf : Memory.wf s.dram = true := hcanonical.1
  have hexec := exec_hostWrite lpa data poison hreaches hsaving hready
  refine ⟨fun t ht x hx => ?outside, fun harmed hband hstall hwaiters hrestored hrecovering howed hfailed hunit => ?stored⟩
  case outside =>
    rw [hexec] at ht
    cases ht
    have hserved : (s.hostWriteReq h ld lpa dpa data poison).Stores s
        ((s.newReq h ld lpa true data poison).1.serveWrite (s.newReq h ld lpa true data poison).2) :=
      State.serveWrite_stores (s := (s.newReq h ld lpa true data poison).1) htranslate
    obtain hsame | hline := hserved
    · rw [hsame]
    · rw [hline, HostReq.dramByte_bytes hwf, if_neg (by simp only [State.hostWriteReq, State.newReq]; omega)]
  case stored =>
    have hserve : (s.newReq h ld lpa true data poison).1.serveWrite (s.newReq h ld lpa true data poison).2 =
        (s.newReq h ld lpa true data poison).1.admission (s.hostWriteReq h ld lpa dpa data poison) := by
      have hsame : (s.newReq h ld lpa true data poison).1.translate (s.newReq h ld lpa true data poison).2.ld
        (s.newReq h ld lpa true data poison).2.lpa = .inl dpa := htranslate
      have harmed' : (s.newReq h ld lpa true data poison).1.ready Reg.GLB_READY.PERSIST_ARMED = true := harmed
      simp [State.serveWrite, hsame, harmed', State.hostWriteReq]
    have hdram : ((s.newReq h ld lpa true data poison).1.admission (s.hostWriteReq h ld lpa dpa data poison)).dram =
        (s.hostWriteReq h ld lpa dpa data poison).bytes s.dram :=
      State.admission_dram (s := (s.newReq h ld lpa true data poison).1) (r := s.hostWriteReq h ld lpa dpa data poison) hband hstall
        hwaiters rfl hrestored hrecovering howed hfailed hunit
    refine ⟨_, hexec.trans (congrArg _ hserve), fun i hi hline => ?_, fun x hx => ?_⟩
    · rw [hdram, HostReq.dramByte_bytes hwf, if_pos (by simp only [State.hostWriteReq, State.newReq]; omega)]
      simp only [State.hostWriteReq, State.newReq, Nat.add_sub_cancel_left]
    · rw [hdram, HostReq.dramByte_bytes hwf, if_neg (by simp only [State.hostWriteReq, State.newReq]; omega)]

end Sys2Proof
end

section
/-! What a packet that passes the tests of R479 does, and the obligations on the commands that report, on results and registers, and on the
configuration commands. -/

namespace Sys2Proof

namespace Machine

/-- A packet that CMD accepts takes its entry of the result table, where its command has one, and is executed. -/
theorem State.runSpec_of_accepts {s : State} {c : CmdSpec} {h : Hdr} (haccepts : s.accepts c h) :
    s.runSpec c h = s.execute c h (s.srcOf h.port) := by
  obtain ⟨hrom, htakes, hawaits, htest⟩ := haccepts
  simp [State.runSpec, hrom, htakes, hawaits, htest]

/-- An accepted management packet executes the command of its opcode. -/
theorem exec_of_accepts {c : Instr} {p : CmdSpec × Hdr} {s : State} (hpacket : packetRow c = some p) (haccepts : s.accepts p.1 p.2) :
    exec c s = .next (s.execute p.1 p.2 (s.srcOf p.2.port)) := by
  rw [exec_of_packetRow hpacket, State.runSpec_of_accepts haccepts]

/-- A command without an entry in the result table is executed on the state itself. -/
theorem exec_of_accepts_noEntry {c : Instr} {spec : CmdSpec} {h : Hdr} {s : State} (haccepts : s.accepts spec h)
    (hpacket : packetRow c = some (spec, h)) (hentry : spec.entry h.payload = false) :
    exec c s = .next (spec.run h (s.srcOf h.port) s) := by
  rw [exec_of_accepts hpacket haccepts, State.execute, hentry]
  rfl

/-- A command with an entry in the result table is executed once it has taken it. -/
theorem exec_of_accepts_entry {c : Instr} {spec : CmdSpec} {h : Hdr} {s : State} (haccepts : s.accepts spec h)
    (hpacket : packetRow c = some (spec, h)) (hentry : spec.entry h.payload = true) :
    exec c s = .next (spec.run h (s.srcOf h.port) (s.takeEntry spec.opcode h)) := by
  rw [exec_of_accepts hpacket haccepts, State.execute, hentry]
  rfl

/-- No test of row 6 fails for a packet that is accepted: the opcode's own field test passes. -/
theorem State.bad_of_accepts {s : State} {c : CmdSpec} {h : Hdr} (haccepts : s.accepts c h) :
    c.bad h (s.srcOf h.port) s = false := by
  obtain ⟨-, -, -, htest⟩ := haccepts
  unfold State.cmdTest at htest
  split at htest
  · cases htest
  split at htest
  · cases htest
  split at htest
  · cases htest
  split at htest
  · cases htest
  split at htest
  · cases htest
  next hfields =>
    rw [Bool.not_eq_true, State.fieldsBad, Bool.or_eq_false_iff] at hfields
    exact hfields.2

end Machine

open Machine

/-- Settles O20: the four commands take no entry, and each replies in one step. -/
theorem identityAndReadinessReplies : Obligations.IdentityAndReadinessReplies := by
  unfold Obligations.IdentityAndReadinessReplies
  intro h s
  refine ⟨fun ha => ?identify, fun ha => ?readyGet, fun ha => ?fwStatus, fun ha => ?updateStatus⟩
  case identify => exact exec_of_accepts_noEntry ha rfl rfl
  case readyGet => exact exec_of_accepts_noEntry ha rfl rfl
  case fwStatus => exact exec_of_accepts_noEntry ha rfl rfl
  case updateStatus => exact exec_of_accepts_noEntry ha rfl rfl

/-- Settles O21: but for DELAY_SET_LIST the commands take no entry, and each replies in one step. -/
theorem statusListAndDiagnosticReplies : Obligations.StatusListAndDiagnosticReplies := by
  unfold Obligations.StatusListAndDiagnosticReplies
  refine ⟨fun h s => ⟨fun ha => ?epochList, fun ha => ?eventRead, fun ha => ?regionList, fun ha => ?reserveStatus⟩,
    fun h s => ⟨fun ha => ?echo, fun ha => ?dramStatus, fun ha => ?delaySetList, fun ha => ?flashStatus, fun ha => ?railStatus,
      fun ha => ?sidebandStatus⟩⟩
  case epochList => exact exec_of_accepts_noEntry ha rfl rfl
  case eventRead => exact ⟨_, rfl, exec_of_accepts_noEntry ha rfl rfl⟩
  case regionList => exact ⟨_, _, rfl, rfl, exec_of_accepts_noEntry ha rfl rfl⟩
  case reserveStatus => exact exec_of_accepts_noEntry ha rfl rfl
  case echo => exact exec_of_accepts_noEntry ha rfl rfl
  case dramStatus => exact exec_of_accepts_noEntry ha rfl rfl
  case delaySetList => exact (exec_of_accepts_entry ha rfl rfl).trans rfl
  case flashStatus => exact (exec_of_accepts_noEntry ha rfl rfl).trans rfl
  case railStatus => exact exec_of_accepts_noEntry ha rfl rfl
  case sidebandStatus => exact exec_of_accepts_noEntry ha rfl rfl

/-- RESULT_GET is accepted for an entry of its port alone. -/
theorem State.resultNamed_of_accepts {s : State} {h : Hdr} (haccepts : s.accepts resultGetSpec h) :
    ∃ e, s.resultNamed h = some e := by
  match hnamed : s.resultNamed h with
  | some e => exact ⟨e, rfl⟩
  | none =>
    have hbad : resultGetSpec.bad h (s.srcOf h.port) s = true := by simp [resultGetSpec, hnamed]
    rw [State.bad_of_accepts haccepts] at hbad
    cases hbad

/-- Settles O22: the entry that RESULT_GET names exists where the packet is accepted, and the register commands act on the bus. -/
theorem resultsAndRegistersThroughCommands : Obligations.ResultsAndRegistersThroughCommands := by
  unfold Obligations.ResultsAndRegistersThroughCommands
  intro h s
  refine ⟨fun ha => ?resultGet, fun ha => ?regRead, fun ha => ?regWrite⟩
  case resultGet =>
    obtain ⟨e, hnamed⟩ := State.resultNamed_of_accepts ha
    refine ⟨e, _, hnamed, rfl, (exec_of_accepts_noEntry ha rfl rfl).trans ?_⟩
    simp only [resultGetSpec, hnamed]
    rfl
  case regRead => exact exec_of_accepts_noEntry ha rfl rfl
  case regWrite => exact exec_of_accepts_noEntry ha rfl rfl

/-- Settles O23: each of the sixteen takes its entry, and its execution is the start of its record write. -/
theorem configurationCommandsQueueTheirRecordWrite : Obligations.ConfigurationCommandsQueueTheirRecordWrite := by
  unfold Obligations.ConfigurationCommandsQueueTheirRecordWrite
  refine ⟨fun h s => ⟨fun ha => ?persist, fun ha => ?budget, fun ha => ?wear, fun ha => ?saveModel, fun ha => ?epoch, fun ha => ?save,
    fun ha => ?restore, fun ha => ?reserve, fun ha => ?dram, fun ha => ?flash, fun ha => ?beacon⟩,
    fun h s => ⟨fun ha => ?ld, fun ha => ?owner, fun ha => ?route, fun ha => ?rail, fun ha => ?twi⟩⟩
  case persist => exact exec_of_accepts_entry ha rfl rfl
  case budget => exact exec_of_accepts_entry ha rfl rfl
  case wear => exact exec_of_accepts_entry ha rfl rfl
  case saveModel => exact exec_of_accepts_entry ha rfl rfl
  case epoch => exact exec_of_accepts_entry ha rfl rfl
  case save => exact exec_of_accepts_entry ha rfl rfl
  case restore => exact exec_of_accepts_entry ha rfl rfl
  case reserve => exact exec_of_accepts_entry ha rfl rfl
  case dram => exact exec_of_accepts_entry ha rfl rfl
  case flash => exact exec_of_accepts_entry ha rfl rfl
  case beacon => exact exec_of_accepts_entry ha rfl rfl
  case ld => exact exec_of_accepts_entry ha rfl rfl
  case owner => exact exec_of_accepts_entry ha rfl rfl
  case route => exact exec_of_accepts_entry ha rfl rfl
  case rail => exact exec_of_accepts_entry ha rfl rfl
  case twi => exact exec_of_accepts_entry ha rfl rfl

/-- Settles O24: whether the device is armed, and whether Foghorn is asserted, decides what ARM and DISARM do after their reply. -/
theorem armAndDisarm : Obligations.ArmAndDisarm := by
  unfold Obligations.ArmAndDisarm
  intro h s
  refine ⟨fun ha harmed => ?armed, fun ha hunarmed t ht => ?arms, fun ha hunarmed => ?unarmed, fun ha harmed hfog => ?disarms⟩
  case armed =>
    rw [exec_of_accepts_noEntry (c := .arm h) ha rfl rfl]
    simp only [armSpec, harmed, if_true]
  case arms =>
    rw [exec_of_accepts_noEntry (c := .arm h) ha rfl rfl, ht]
    simp only [armSpec, hunarmed, Bool.false_eq_true, if_false, State.tryArm]
    split
    · rw [Option.getD_some]
    · rw [Option.getD_none]
  case unarmed =>
    rw [exec_of_accepts_noEntry (c := .disarm h) ha rfl rfl]
    simp only [disarmSpec, hunarmed, Bool.not_false, if_true]
  case disarms =>
    rw [exec_of_accepts_noEntry (c := .disarm h) ha rfl rfl]
    simp only [disarmSpec, harmed, hfog, Bool.not_true, Bool.false_eq_true, if_false]

/-- Settles O25: the commands that take an entry reply ACCEPTED from it; RESTORE_SELECT finds the image that it names. -/
theorem barrierImageChoiceAndFoghornCommands : Obligations.BarrierImageChoiceAndFoghornCommands := by
  unfold Obligations.BarrierImageChoiceAndFoghornCommands
  intro h s
  refine ⟨fun ha => ?barrier, fun i ha hselected => ?select, fun ha => ?proceed, fun ha => ?loss, fun ha => ?raise⟩
  case barrier =>
    rw [exec_of_accepts_entry (c := .sealBarrier h) ha rfl rfl]
    simp only [sealBarrierSpec]
  case select =>
    rw [exec_of_accepts_noEntry (c := .restoreSelect h) ha rfl rfl]
    simp only [restoreSelectSpec, hselected]
  case proceed =>
    rw [exec_of_accepts_noEntry (c := .restoreProceed h) ha rfl rfl]
    simp only [restoreProceedSpec]
  case loss =>
    rw [exec_of_accepts_entry (c := .lossAccept h) ha rfl rfl]
    simp only [lossAcceptSpec, State.completeFor, State.completeCode, originOf, Status.code]
  case raise =>
    rw [exec_of_accepts_noEntry (c := .foghornRaise h) ha rfl rfl]
    simp only [foghornRaiseSpec]

end Sys2Proof
end

section
/-! Dynamic capacity: what the commands and the host's answers make of the extents (R442–R447), and the obligation on them. -/

namespace Sys2Proof

namespace Machine

/-- The extents that an add takes do not depend on the result table. -/
@[simp] theorem State.addTakes_takeEntry (s : State) (op : Nat) (h : Hdr) (p : Bytes) : (s.takeEntry op h).addTakes p = s.addTakes p := rfl

theorem exec_regionDcAdd_of_accepts {s : State} {h : Hdr} (haccepts : s.accepts regionDcAddSpec h) :
    exec (.regionDcAdd h) s = .next ((s.takeEntry Opc.REGION_DC_ADD h).offer (Fin.ofNat 16 (byteAt h.payload 0))
      (s.addTakes h.payload) (some (h.port, h.tag))) := by
  rw [exec_of_accepts_entry (c := .regionDcAdd h) haccepts rfl rfl]
  simp only [regionDcAddSpec, State.addTakes_takeEntry, originOf]

theorem exec_regionDcRelease_of_accepts {s : State} {h : Hdr} (haccepts : s.accepts regionDcReleaseSpec h) :
    exec (.regionDcRelease h) s = .next (((s.takeEntry Opc.REGION_DC_RELEASE h).accept Opc.REGION_DC_RELEASE h).askRelease
      (Fin.ofNat 16 (byteAt h.payload 0)) ((List.range (fieldAt h.payload 2 2)).map fun n => fieldAt h.payload (4 + 2 * n) 2)
      (bitOf (byteAt h.payload 1) 0) (bitOf (byteAt h.payload 1) 1) (some (h.port, h.tag))) := by
  rw [exec_of_accepts_entry (c := .regionDcRelease h) haccepts rfl rfl]
  simp only [regionDcReleaseSpec, listedExtents, originOf]

/-- The owner head's fabric manager starts an add as REGION_DC_ADD does (R464). -/
theorem exec_initiateDynamicCapacityAdd {s : State} {h : Hdr} (howner : s.fromOwnerFm h.port = true) :
    exec (.initiateDynamicCapacityAdd h) s = exec (.regionDcAdd h) s := by
  show execInitiateDynamicCapacityAdd h s = execRegionDcAdd h s
  simp only [execInitiateDynamicCapacityAdd, howner, if_true, execRegionDcAdd]

/-- The owner head's fabric manager starts a release as REGION_DC_RELEASE does (R464). -/
theorem exec_initiateDynamicCapacityRelease {s : State} {h : Hdr} (howner : s.fromOwnerFm h.port = true) :
    exec (.initiateDynamicCapacityRelease h) s = exec (.regionDcRelease h) s := by
  show execInitiateDynamicCapacityRelease h s = execRegionDcRelease h s
  simp only [execInitiateDynamicCapacityRelease, howner, if_true, execRegionDcRelease]

/-- Where each address names an extent, the extents named are those. -/
theorem filterMap_id_of_map_some {α β : Type} {l : List α} {f : α → Option β} {m : List β} (hl : l.map f = m.map some) :
    (l.map f).filterMap id = m ∧ (l.map f).any Option.isNone = false := by
  rw [hl]
  exact ⟨by simp [List.filterMap_map], by simp⟩

end Machine

open Machine

/-- Settles O26: the packets, and the branches of the host's answers and of the end of the wait. -/
theorem dynamicCapacityCommandsAndAnswers : Obligations.DynamicCapacityCommandsAndAnswers := by
  unfold Obligations.DynamicCapacityCommandsAndAnswers
  refine ⟨fun h s => ⟨fun ha => exec_regionDcAdd_of_accepts ha, fun ha howner => ?fmAdd, fun ha => exec_regionDcRelease_of_accepts ha,
    fun ha howner => ?fmRelease⟩, fun ld accepted o take s hup hfind htake w hw => ?response,
    fun ld lpas exts s hup hsaving hnamed hready w hw => ?release, fun ld o s hsaving hfind hadd => ?addExpired,
    fun ld o left s hsaving hfind hadd hleft => ?releaseExpired⟩
  case fmAdd => rw [exec_initiateDynamicCapacityAdd howner, exec_regionDcAdd_of_accepts ha]
  case fmRelease => rw [exec_initiateDynamicCapacityRelease howner, exec_regionDcRelease_of_accepts ha]
  case response =>
    show execAddDynamicCapacityResponse ld accepted s = _
    simp only [execAddDynamicCapacityResponse, hup, hfind, Bool.not_true, Bool.false_eq_true, if_false, ← htake, ← hw,
      List.isEmpty_iff, beq_iff_eq]
    split <;> rfl
  case release =>
    obtain ⟨hexts, hsome⟩ := filterMap_id_of_map_some hnamed
    have hall : (exts.any fun e => !s.extReady e) = false := by simpa using hready
    show execReleaseDynamicCapacity ld lpas s = _
    simp only [execReleaseDynamicCapacity, hexts, hsome, hup, hsaving, hall, Bool.not_true, Bool.false_eq_true, if_false, Bool.or_false,
      beq_iff_eq, hw, Bool.and_eq_true, Bool.not_eq_true']
  case addExpired =>
    show execDcWaitExpired ld s = _
    simp only [execDcWaitExpired, hfind, hsaving, hadd, if_true, Bool.false_eq_true, if_false, State.endDc]
  case releaseExpired =>
    show execDcWaitExpired ld s = _
    simp only [execDcWaitExpired, hfind, hsaving, hadd, Bool.false_eq_true, if_false, State.endDc, ← hleft, List.isEmpty_iff,
      apply_ite Status.code]
    split <;> rfl

end Sys2Proof
end

section
/-! The reserve commands, training, flash diagnostics, the integrator area, image transfers and the timers of CMD: the obligations on them. -/

namespace Sys2Proof

namespace Machine

/-! ### A read of the flash leaves the page records -/

@[simp] theorem State.record_flash (s : State) (src : Source) (code : Nat) (vals : List (Nat × Nat)) :
    (s.record src code vals).flash = s.flash :=
  (congrArg State.flash (State.record_apart s src code vals) :)

@[simp] theorem State.setBlock_records (s : State) (b : Nat) (x : Block) : (s.setBlock b x).flash.records = s.flash.records := rfl

@[simp] theorem State.suspendErase_flash (s : State) (lun : Nat) : (s.suspendErase lun).flash = s.flash := by
  unfold State.suspendErase
  dsimp only
  split <;> rfl

@[simp] theorem State.abandonSession_flash (s : State) (last : Nat) : (s.abandonSession last).flash = s.flash := by
  unfold State.abandonSession
  split
  · rw [State.record_flash]
    rfl
  · rfl

@[simp] theorem State.dropSweep_flash (s : State) : s.dropSweep.flash = s.flash := by
  unfold State.dropSweep
  split
  · rfl
  · split <;> rfl

@[simp] theorem State.sweepSkips_flash (s : State) (n : Nat) : (s.sweepSkips n).flash = s.flash := by
  simp only [State.sweepSkips]
  split <;> simp

@[simp] theorem State.showFailedFc_flash (s : State) : s.showFailedFc.flash = s.flash := by
  unfold State.showFailedFc
  split <;> rfl

@[simp] theorem State.strikeUnit_flash (s : State) (u sev : Nat) (brief : Bool) : (s.strikeUnit u sev brief).flash = s.flash := by
  unfold State.strikeUnit
  dsimp only
  split
  · split <;> rfl
  split
  · split <;> rfl
  split
  · rfl
  split
  · rfl
  split
  · rfl
  split
  · simp
  split
  · split <;> simp
  · simp

@[simp] theorem State.nfcFault_flash (s : State) (n sev : Nat) (brief : Bool) : (s.nfcFault n sev brief).flash = s.flash := by
  simp only [State.nfcFault]
  split <;> simp

theorem State.flashRead_records (s : State) (fa corrected retries : Nat) (bad : Bool) :
    (s.flashRead fa corrected retries bad).flash.records = s.flash.records := by
  simp only [State.flashRead]
  split
  · split <;> simp
  split
  · split <;> simp
  · split <;> simp

theorem State.flashRead_dram (s : State) (fa corrected retries : Nat) (bad : Bool) : (s.flashRead fa corrected retries bad).dram = s.dram :=
  (State.flashRead_kept (wd := false) (wr := false) (wu := false) s fa corrected retries bad (Kept.refl s)).dram rfl

/-- Looking up the tag of a place takes free values at most. -/
theorem State.tagAt_keeps (s : State) (fa : Nat) : (s.tagAt fa).2.2.2.dram = s.dram ∧ (s.tagAt fa).2.2.2.flash = s.flash := by
  unfold State.tagAt
  split <;> exact ⟨rfl, rfl⟩

/-- Counting the bits that differ takes a free value at most. -/
theorem State.diffBits_keeps (s : State) (payload : Option Bytes) (pattern seed slot : Nat) :
    (s.diffBits payload pattern seed slot).2.dram = s.dram ∧ (s.diffBits payload pattern seed slot).2.flash = s.flash := by
  unfold State.diffBits
  split <;> exact ⟨rfl, rfl⟩

/-- The figure of FLASH_DIAG_READ, and the state in which it is replied: the bits that differ where the codeword could be read and its
TYPE is 0x00. -/
def State.diagDiff (s : State) (h : Hdr) (bad : Bool) : Nat × State :=
  let found := s.tagAt (fieldAt h.payload 0 8)
  if found.2.2.1 && !bad then
    found.2.2.2.diffBits found.2.1 (byteAt h.payload 8) (fieldAt h.payload 12 4) (faSlot (fieldAt h.payload 0 8))
  else (0xFFFFFFFF, found.2.2.2)

theorem State.diagDiff_keeps (s : State) (h : Hdr) (bad : Bool) :
    (s.diagDiff h bad).2.dram = s.dram ∧ (s.diagDiff h bad).2.flash = s.flash := by
  obtain ⟨hdram, hflash⟩ := s.tagAt_keeps (fieldAt h.payload 0 8)
  simp only [State.diagDiff]
  split
  · obtain ⟨hdram', hflash'⟩ := (s.tagAt (fieldAt h.payload 0 8)).2.2.2.diffBits_keeps (s.tagAt (fieldAt h.payload 0 8)).2.1
      (byteAt h.payload 8) (fieldAt h.payload 12 4) (faSlot (fieldAt h.payload 0 8))
    exact ⟨hdram'.trans hdram, hflash'.trans hflash⟩
  · exact ⟨hdram, hflash⟩

theorem State.diagDiff_bad (s : State) (h : Hdr) : (s.diagDiff h true).1 = 0xFFFFFFFF := by
  simp only [State.diagDiff, Bool.not_true, Bool.and_false, Bool.false_eq_true, if_false]

/-- FLASH_DIAG_READ on a channel that is up (R512): the result lies in its ranges, and memory and the records stay. -/
theorem State.diagRead_done {s : State} {h : Hdr} (hup : s.channelUp (faChannel (fieldAt h.payload 0 8)) = true) :
    ∃ (tag : Bytes) (corrected level diff : Nat) (bad : Bool) (t : State),
      corrected < 73 ∧ level < 16 ∧ (bad = true → diff = 0xFFFFFFFF) ∧ t.dram = s.dram ∧ t.flash.records = s.flash.records ∧
      s.diagRead h = t.done Opc.FLASH_DIAG_READ h
        (tag ++ leBytes 2 corrected ++ leBytes 1 level ++ leBytes 1 (ofBool bad) ++ leBytes 4 diff) := by
  let bad : Bool := s.tick.tick.free % 2 == 1 || s.tick.tick.gone (fieldAt h.payload 0 8)
  let r : State := s.tick.tick.tick.flashRead (fieldAt h.payload 0 8) (s.free % 73) (s.tick.free % 16) bad
  obtain ⟨hdram, hflash⟩ := r.diagDiff_keeps h bad
  refine ⟨(r.tagAt (fieldAt h.payload 0 8)).1, s.free % 73, s.tick.free % 16, (r.diagDiff h bad).1, bad, (r.diagDiff h bad).2,
    Nat.mod_lt _ (by decide), Nat.mod_lt _ (by decide), fun hbad => ?_, ?_, ?_, ?_⟩
  · rw [hbad, State.diagDiff_bad]
  · rw [hdram]
    exact State.flashRead_dram ..
  · rw [hflash]
    exact State.flashRead_records ..
  · simp only [State.diagRead, hup, Bool.not_true, Bool.false_eq_true, if_false]
    rfl

/-- ACCEPTED is only a report. -/
theorem State.onlyReports.accept {s₀ s : State} (hr : s₀.onlyReports s) (op : Nat) (h : Hdr) : s₀.onlyReports (s.accept op h) :=
  State.onlyReports.reply hr.of ..

theorem State.onlyReports.kst {s t : State} (hr : s.onlyReports t) : t.kst = s.kst := (congrArg State.kst hr.1 :)

end Machine

open Machine

/-- Settles O27: RESERVE_FIGURE takes no entry; RESERVE_REST takes one and replies ACCEPTED from it. -/
theorem reserveCommands : Obligations.ReserveCommands := by
  unfold Obligations.ReserveCommands
  intro h s
  refine ⟨fun ha => ?figure, fun ha => ?rest⟩
  case figure =>
    rw [exec_of_accepts_noEntry (c := .reserveFigure h) ha rfl rfl]
    simp only [reserveFigureSpec]
  case rest =>
    rw [exec_of_accepts_entry (c := .reserveRest h) ha rfl rfl]
    simp only [reserveRestSpec, originOf]

/-- Settles O28: the three packets, and the timers of CMD branch by branch. -/
theorem eventClearPortEnableAndCommandTimers : Obligations.EventClearPortEnableAndCommandTimers := by
  unfold Obligations.EventClearPortEnableAndCommandTimers
  refine ⟨fun h s => ⟨fun ha => ?clear, fun ha => ?enable⟩, fun port tag e s hfind hreplied hstatus => ?late,
    fun op s htransfer hupdate hdownload => ?chunk, fun port tag status st result s hstatus hinstalling hexecuting htrain => ?ends,
    fun h s ha hall => ?broadcast, fun h s ha hone => ?send, fun tag c s hfind => ?noReply⟩
  case clear =>
    rw [exec_of_accepts_noEntry (c := .eventClear h) ha rfl rfl]
    simp only [eventClearSpec, wide]
  case enable =>
    rw [exec_of_accepts_noEntry (c := .twiPortEnable h) ha rfl rfl]
    simp only [twiPortEnableSpec]
  case late =>
    show execCommandReplyTimeout port tag s = _
    simp [execCommandReplyTimeout, State.acceptLate, hfind, hreplied, hstatus]
  case chunk =>
    show execChunkTransferTimeout op s = _
    simp only [execChunkTransferTimeout, htransfer, if_true, beq_eq_false_iff_ne.mpr hupdate, beq_eq_false_iff_ne.mpr hdownload,
      Bool.false_and, Bool.false_eq_true, if_false]
  case ends =>
    show execAsyncCommandCompletion port tag status result s = _
    simp only [execAsyncCommandCompletion, hstatus, beq_eq_false_iff_ne.mpr hinstalling, hexecuting, htrain, Bool.and_self,
      Bool.false_eq_true, if_false, if_true]
  case broadcast =>
    rw [exec_of_accepts_noEntry (c := .chainSend h) ha rfl (by simp [chainSendSpec, hall])]
    simp only [chainSendSpec, hall, beq_self_eq_true, if_true]
  case send =>
    rw [exec_of_accepts_entry (c := .chainSend h) ha rfl (by simpa [chainSendSpec] using hone)]
    simp only [chainSendSpec, beq_eq_false_iff_ne.mpr hone, Bool.false_eq_true, if_false]
  case noReply =>
    show execChainSendTimeout tag s = _
    simp only [execChainSendTimeout, State.endChainSend, hfind]

/-- Settles O29: each command takes its entry; DELAY_SET_LOAD turns on the chunk that it carries. -/
theorem trainingAndDelayCommands : Obligations.TrainingAndDelayCommands := by
  unfold Obligations.TrainingAndDelayCommands
  intro h s
  refine ⟨fun ha => ?train, fun ha hgather => ?speed, fun ha hmore => ?chunk, fun b ha hlast hb => ?last⟩
  case train =>
    rw [exec_of_accepts_entry (c := .trainRun h) ha rfl rfl]
    simp only [trainRunSpec]
  case speed =>
    have hentered : (s.takeEntry Opc.SPEED_SELECT h).flag Reg.TRN_STAT.GATHER = false := hgather
    rw [exec_of_accepts_entry (c := .speedSelect h) ha rfl rfl]
    simp only [speedSelectSpec, hentered, Bool.false_eq_true, if_false]
  case chunk =>
    rw [exec_of_accepts_entry (c := .delaySetLoad h) ha rfl rfl]
    simp only [delaySetLoadSpec, hmore, Bool.false_eq_true, if_false]
  case last =>
    have hentered : (s.takeEntry Opc.DELAY_SET_LOAD h).received Opc.DELAY_SET_LOAD h = b := hb.symm
    rw [exec_of_accepts_entry (c := .delaySetLoad h) ha rfl rfl]
    simp only [delaySetLoadSpec, hlast, hentered, if_true, originOf]

/-- Settles O30: the flash diagnostics on a channel that is up, and the commands of the integrator area. -/
theorem flashDiagnosticAndIntegratorAreaCommands : Obligations.FlashDiagnosticAndIntegratorAreaCommands := by
  unfold Obligations.FlashDiagnosticAndIntegratorAreaCommands
  refine ⟨fun h s => ⟨fun ha hup => ?diagRead, fun ha hup horder x hx => ?diagProgram⟩,
    fun h s => ⟨fun ha hunlock hmatch => ?unlock, fun ha hlock => ?lock, fun ha => ?read, fun ha hblank hfailed hunit t ht => ?program,
      fun ha hfailed => ?erase⟩⟩
  case diagRead =>
    have hentered : (s.takeEntry Opc.FLASH_DIAG_READ h).channelUp (faChannel (fieldAt h.payload 0 8)) = true := hup
    obtain ⟨tag, corrected, level, diff, bad, t, hcorrected, hlevel, hbad, hdram, hrecords, hdone⟩ := State.diagRead_done hentered
    refine ⟨tag, corrected, level, diff, bad, t, hcorrected, hlevel, hbad, hdram, hrecords, ?_⟩
    rw [exec_of_accepts_entry (c := .flashDiagRead h) ha rfl rfl]
    simp only [flashDiagReadSpec, hdone]
  case diagProgram =>
    have hentered : (s.takeEntry Opc.FLASH_DIAG_PROGRAM h).channelUp (faChannel (fieldAt h.payload 0 8)) = true := hup
    have hplaced : (s.takeEntry Opc.FLASH_DIAG_PROGRAM h).inOrder (fieldAt h.payload 0 8) = true := horder
    rw [exec_of_accepts_entry (c := .flashDiagProgram h) ha rfl rfl]
    simp only [flashDiagProgramSpec, State.diagProgram, hentered, hplaced, Bool.not_true, Bool.false_eq_true, if_false, beq_iff_eq]
    subst hx
    rfl
  case unlock =>
    rw [exec_of_accepts_noEntry (c := .kstProtect h) ha rfl (by simp [kstProtectSpec, setsPassword, hunlock])]
    simp only [kstProtectSpec, State.protect, hunlock, hmatch, Bool.or_true, if_true]
  case lock =>
    rw [exec_of_accepts_noEntry (c := .kstProtect h) ha rfl (by simp [kstProtectSpec, setsPassword, hlock])]
    simp only [kstProtectSpec, State.protect, hlock, beq_self_eq_true, Bool.true_or, if_true]
  case read =>
    rw [exec_of_accepts_noEntry (c := .kstUserRead h) ha rfl rfl]
    simp only [kstUserReadSpec, beq_iff_eq]
    rfl
  case program =>
    rw [exec_of_accepts_noEntry (c := .kstUserProgram h) ha rfl rfl]
    simp only [kstUserProgramSpec, State.userProgram, hblank, hfailed, hunit, Bool.or_self, Bool.false_eq_true, if_false, ← ht, beq_iff_eq, wide]
  case erase =>
    have haccepted : ((s.takeEntry Opc.KST_USER_ERASE h).accept Opc.KST_USER_ERASE h).userFailed (fieldAt h.payload 0 4) = false := by
      simp only [State.userFailed, (((State.onlyReports.refl s).takeEntry Opc.KST_USER_ERASE h).accept Opc.KST_USER_ERASE h).kst]
      exact hfailed
    rw [exec_of_accepts_entry (c := .kstUserErase h) ha rfl rfl]
    simp only [kstUserEraseSpec, haccepted, Bool.false_eq_true, if_false, originOf]

/-- Settles O31: a chunk takes an entry where it is the last one, and the last one goes on to the checks. -/
theorem imageTransferCommands : Obligations.ImageTransferCommands := by
  unfold Obligations.ImageTransferCommands
  intro h s
  refine ⟨fun ha hoff hmore => ?download, fun ha hoff hlast => ?downloadLast, fun ha hmore => ?update, fun ha hlast => ?updateLast⟩
  case download =>
    rw [exec_of_accepts_noEntry (c := .fwDownload h) ha rfl hmore]
    simp only [fwDownloadSpec, beq_eq_false_iff_ne.mpr hoff, hmore, Bool.false_eq_true, if_false, chunkData]
  case downloadLast =>
    rw [exec_of_accepts_entry (c := .fwDownload h) ha rfl hlast]
    simp only [fwDownloadSpec, beq_eq_false_iff_ne.mpr hoff, hlast, Bool.false_eq_true, if_false, if_true, chunkData]
    rfl
  case update =>
    rw [exec_of_accepts_noEntry (c := .keeperUpdate h) ha rfl hmore]
    simp only [keeperUpdateSpec, hmore, Bool.not_false, if_true]
  case updateLast =>
    have hrom : (((s.takeEntry Opc.KEEPER_UPDATE h).takeChunk Opc.KEEPER_UPDATE h).put Reg.KST_UPD.PHASE 1).cpx.rom = false := ha.1
    rw [exec_of_accepts_entry (c := .keeperUpdate h) ha rfl hlast]
    simp only [keeperUpdateSpec, hlast, hrom, Bool.not_true, Bool.false_eq_true, if_false]
    rfl

end Sys2Proof
end

section
/-! Responses and the mailbox: DevLoad, and the standard CXL commands: the obligations on them. -/

namespace Sys2Proof

namespace Machine

/-! ### DevLoad -/

/-- The DevLoad of a response is what the head shows after it (R455). -/
theorem State.get_devLoad_responded (s : State) (r : HostReq) :
    (s.responded r).get (Reg.HIF_HEAD_STAT.DEVLOAD r.head) = s.devLoad r.ld % 4 := by
  have hkey : (Reg.HIF_HEAD_STAT.DEVLOAD r.head).key ≠ (Reg.HIF_HEAD_LAT.MAX_US r.head).key := by
    simp only [Fld.key, Reg.HIF_HEAD_STAT.DEVLOAD, Reg.HIF_HEAD_LAT.MAX_US]
    omega
  calc (s.responded r).get (Reg.HIF_HEAD_STAT.DEVLOAD r.head)
      = ((s.overTime r.head).put (Reg.HIF_HEAD_STAT.DEVLOAD r.head) (s.devLoad r.ld)).get (Reg.HIF_HEAD_STAT.DEVLOAD r.head) :=
        State.get_put_ne _ _ hkey
    _ = s.devLoad r.ld % 4 := State.get_put_self ..

theorem State.devLoad_of_stall {s : State} {ld : Nat} (h : s.get Reg.DRP_ADM.STALL ≠ 0 ∨
    ∃ c : Fin 8, bitOf (s.get (Reg.DMC_RD_STAT.THROTTLED c)) ld = true) : s.devLoad ld = 3 := by
  unfold State.devLoad
  rw [if_pos]
  rw [Bool.or_eq_true, State.flag, bne_iff_ne, List.any_eq_true]
  exact h.imp id fun ⟨c, hc⟩ => ⟨c, List.mem_range.mpr c.isLt, hc⟩

/-- Neither the stall nor a throttle of the logical device holds. -/
theorem State.noStall {s : State} {ld : Nat} (hstall : s.get Reg.DRP_ADM.STALL = 0)
    (hthrottled : ∀ c : Fin 8, bitOf (s.get (Reg.DMC_RD_STAT.THROTTLED c)) ld = false) :
    (s.flag Reg.DRP_ADM.STALL || (List.range 8).any fun c => bitOf (s.get (Reg.DMC_RD_STAT.THROTTLED c)) ld) = false := by
  rw [Bool.or_eq_false_iff, State.flag, hstall, List.any_eq_false]
  exact ⟨rfl, fun c hc => by rw [hthrottled ⟨c, List.mem_range.mp hc⟩]; exact Bool.false_ne_true⟩

/-! ### The mailbox -/

/-- A mailbox whose link is up answers (R452). -/
theorem State.answer_of_mailboxUp {s : State} {ld : Fin 16} (hup : s.mailboxUp ld = true) (code : Nat) (payload : Bytes) :
    s.answer ld code payload = .next (s.emit (.mailbox ld code payload)) := by
  rw [State.answer, if_pos hup]

/-- A mailbox command that writes a mapped line (R66, R107). -/
theorem State.mailboxWrite_of_mapped {s : State} {ld : Fin 16} {lpa dpa : Nat} (hup : s.mailboxUp ld = true) (hsaving : s.saving = false)
    (hmapped : s.translate ld lpa = .inl dpa) (data : Bytes) (poison : Bool) :
    s.mailboxWrite ld lpa data poison =
      let t := (s.newReq (Fin.ofNat 4 (s.ldHead ld)) ld lpa true data poison).1
      let r := { (s.newReq (Fin.ofNat 4 (s.ldHead ld)) ld lpa true data poison).2 with clear := true }
      .next (if t.ready Reg.GLB_READY.MEM_PARTIAL = true then t.serveWrite r else t.wait r .memPartial) := by
  simp only [State.mailboxWrite, hup, hsaving, hmapped, Bool.not_true, Bool.false_eq_true, if_false]

end Machine

open Machine

/-- Settles O18: the stall and a throttle come first, then the band. -/
theorem devLoadFollowsTheAdmissionBand : Obligations.DevLoadFollowsTheAdmissionBand := by
  unfold Obligations.DevLoadFollowsTheAdmissionBand
  intro r s v hv
  rw [State.get_devLoad_responded] at hv
  subst hv
  refine ⟨fun h => by rw [State.devLoad_of_stall h], fun hstall hthrottled => ?_⟩
  have hno := State.noStall hstall hthrottled
  refine ⟨fun hband hbelow => ?light, fun hband habove => ?optimal, fun hband => ?moderate, fun hband => ?severe⟩
  case light =>
    simp only [State.devLoad, hno, Bool.false_eq_true, if_false, hband, if_pos (show s.drp.saveSet * 2 < s.beff by omega)]
  case optimal =>
    simp only [State.devLoad, hno, Bool.false_eq_true, if_false, hband, if_neg (show ¬s.drp.saveSet * 2 < s.beff by omega)]
  case moderate =>
    simp only [State.devLoad, hno, Bool.false_eq_true, if_false, hband]
  case severe =>
    obtain ⟨band, hget⟩ := Nat.exists_eq_add_of_le' hband
    simp only [State.devLoad, hno, Bool.false_eq_true, if_false, hget]

/-- Settles O32: each of the fourteen is an answer of the mailbox. -/
theorem mailboxQueriesAnswerAndChangeNothingElse : Obligations.MailboxQueriesAnswerAndChangeNothingElse := by
  unfold Obligations.MailboxQueriesAnswerAndChangeNothingElse
  intro ld s hup
  refine ⟨?identify, ?logs, fun u o n => ?log, fun o n => ?lsa, ?alert, ?shutdown, fun a n l hl => ?poison, fun hscan => ?noScan,
    fun a n l hscan => ?scan, fun log l hl => ?records, ?policy, fun p => ?setPolicy, ?dc, fun l hl => ?extents, fun op => ?unsupported⟩
  case identify => exact State.answer_of_mailboxUp hup ..
  case logs => exact State.answer_of_mailboxUp hup ..
  case log =>
    show execGetLog ld u o n s = _
    simp only [execGetLog, State.answer_of_mailboxUp hup, Bool.and_eq_true, beq_iff_eq, decide_eq_true_eq]
    split <;> rfl
  case lsa =>
    show execGetLsa ld o n s = _
    simp only [execGetLsa, State.answer_of_mailboxUp hup]
    split <;> rfl
  case alert => exact State.answer_of_mailboxUp hup ..
  case shutdown => exact State.answer_of_mailboxUp hup ..
  case poison =>
    subst hl
    exact State.answer_of_mailboxUp hup ..
  case noScan =>
    show execGetScanMediaResults ld s = _
    simp only [execGetScanMediaResults, hscan, State.answer_of_mailboxUp hup]
  case scan =>
    show execGetScanMediaResults ld s = _
    simp only [execGetScanMediaResults, hscan, State.answer_of_mailboxUp hup]
  case records =>
    subst hl
    exact State.answer_of_mailboxUp hup ..
  case policy => exact State.answer_of_mailboxUp hup ..
  case setPolicy =>
    show execSetEventInterruptPolicy ld p s = _
    simp only [execSetEventInterruptPolicy, State.answer_of_mailboxUp hup, beq_iff_eq]
  case dc => exact State.answer_of_mailboxUp hup ..
  case extents =>
    subst hl
    exact State.answer_of_mailboxUp hup ..
  case unsupported => exact State.answer_of_mailboxUp hup ..

/-- Settles O33: each setting on a mailbox that is up, with its test passed. -/
theorem mailboxSettingsTakeEffect : Obligations.MailboxSettingsTakeEffect := by
  unfold Obligations.MailboxSettingsTakeEffect
  intro ld s hup
  refine ⟨fun o data hlength hfree => ?setLsa, fun b => ?setAlert, fun d => ?setShutdown, ?health, fun log hs d hd => ?clearAll,
    fun log hs hnamed => ?clear⟩
  case setLsa =>
    have hwrites : (s.cmd.writes.any fun w => w.record == 16 + ld.val) = false := by simpa using hfree
    show execSetLsa ld o data s = _
    simp only [execSetLsa, hup, hwrites, if_neg (Nat.not_lt.mpr hlength), Bool.not_true, Bool.false_eq_true, if_false]
  case setAlert =>
    show execSetAlertConfiguration ld b s = _
    simp only [execSetAlertConfiguration, hup, if_true]
  case setShutdown =>
    show execSetShutdownState ld d s = _
    simp only [execSetShutdownState, hup, if_true]
  case health =>
    show execGetHealthInfo ld s = _
    simp only [execGetHealthInfo, hup, if_true]
    rfl
  case clearAll =>
    subst hd
    show execClearEventRecords ld log true hs s = _
    simp only [execClearEventRecords, hup, Bool.not_true, Bool.false_eq_true, if_false, if_true]
  case clear =>
    have hall : (hs.all fun h => (s.ldState ld).logs.any fun r => r.log == log.val && h.toNat == r.handle) = true := by
      simp only [List.all_eq_true, List.any_eq_true, Bool.and_eq_true, beq_iff_eq]
      intro h hh
      obtain ⟨r, hr, hlog, hhandle⟩ := hnamed h hh
      exact ⟨r, hr, hlog, hhandle.symm⟩
    show execClearEventRecords ld log false hs s = _
    simp only [execClearEventRecords, hup, hall, Bool.not_true, Bool.false_eq_true, if_false, if_true]

/-- Settles O34: the poison commands are writes of the mailbox; Scan Media ends its scan before it answers. -/
theorem scanAndPoisonCommandsAnswer : Obligations.ScanAndPoisonCommandsAnswer := by
  unfold Obligations.ScanAndPoisonCommandsAnswer
  refine ⟨fun ld lpa dpa data s hup hsaving hmapped t r ht hr => ?clear, fun ld lpa why data s hup hsaving hunmapped => ?invalid,
    fun ld lpa dpa s hup hsaving henabled hmapped t r ht hr => ?inject, fun ld lpa s hup hdisabled => ?disabled,
    fun ld lpa length bad s hup => ?scan⟩
  case clear =>
    subst ht hr
    exact State.mailboxWrite_of_mapped hup hsaving hmapped data false
  case invalid =>
    show s.mailboxWrite ld lpa data false = _
    simp only [State.mailboxWrite, hup, hsaving, hunmapped, Bool.not_true, Bool.false_eq_true, if_false, State.answer_of_mailboxUp hup]
  case inject =>
    subst ht hr
    show execInjectPoison ld lpa s = _
    simp only [execInjectPoison, henabled, hmapped, Bool.not_true, Bool.false_eq_true, if_false]
    exact State.mailboxWrite_of_mapped hup hsaving hmapped _ true
  case disabled =>
    show execInjectPoison ld lpa s = _
    simp only [execInjectPoison, hdisabled, Bool.not_false, if_true, State.answer_of_mailboxUp hup]
  case scan =>
    refine ⟨_, _, _, _, rfl, rfl, rfl, rfl, ?_⟩
    show execScanMedia ld lpa length bad s = _
    simp only [execScanMedia, hup, Bool.not_true, Bool.false_eq_true, if_false] <;> rfl

end Sys2Proof
end

section
/-! Links, the enables of CXL.mem, and the training unit: the obligations on them. -/

namespace Sys2Proof

namespace Machine

/-- An operation of an entitled requester takes place (R13, R14). -/
theorem State.guard_of_permits {s : State} {req : Req} {v : Vis} (hpermits : s.permits req v) (go : State → State) :
    s.guard req v go = .next (go s) := by
  obtain ⟨hchain, hentitled⟩ := hpermits
  simp only [State.guard, beq_eq_false_iff_ne.mpr hchain, hentitled, Bool.false_eq_true, if_false, if_true]

theorem State.linkDown_of_up {s : State} {h : Nat} (hup : s.headUp h = true) :
    s.linkDown h =
      let t := s.putAll [(Reg.HIF_HEAD_STAT.UP h, 0), (Reg.HIF_HEAD_STAT.WIDTH h, 0), (Reg.HIF_HEAD_STAT.RATE h, 0),
        (Reg.HIF_HEAD_STAT.FLIT_LO h, 0)]
      (State.record { t with hif := { t.hif with
        reqs := t.hif.reqs.filter fun r => !r.lostWith h
        ready := t.hif.ready.filter (· != h)
        gpf2 := NMap.erase t.hif.gpf2 h
        degraded := t.hif.degraded.filter (· != h) } } Ev.LINK_DOWN h []).showHeld.showLinks := by
  simp only [State.linkDown, hup, Bool.not_true, Bool.false_eq_true, if_false]

/-- A link below its minimum (R426). -/
theorem linkLow_eq_false_iff (w gts : Nat) (flit256 : Bool) :
    (decide (w < 4) || decide (gts < 32) || !flit256) = false ↔ 4 ≤ w ∧ 32 ≤ gts ∧ flit256 = true := by
  simp [and_assoc]

/-- A completion timeout below 4 ms is short (R463). -/
theorem ctoShort_iff (d : Nat) : (d != 0 && decide (d < 40)) = true ↔ 0 < d ∧ d < 40 := by
  simp [Nat.pos_iff_ne_zero]

end Machine

open Machine

/-- Settles O35: each event with its tests passed. -/
theorem linkTrainingAndEnableEvents : Obligations.LinkTrainingAndEnableEvents := by
  unfold Obligations.LinkTrainingAndEnableEvents
  refine ⟨fun h width gts w flit256 s t hkeeper hdown hexists hw hwidth hunderway hdomain hsaving hsaved ht u hu => ?linkUp,
    fun h s hup hready => ?ready, fun ld on s hpresent hup hready hdegraded => ?enable, fun h s t hup ht => ?linkDown,
    fun port kind s => ?portReset, fun ld s hpresent => ?reset, fun req h v d s hpermits hd => ?cto⟩
  case linkUp =>
    show execLinkUp h width gts flit256 s = _
    simp only [execLinkUp, hkeeper, hdown, hexists, ← hw, beq_eq_false_iff_ne.mpr hwidth, hunderway, hdomain,
      beq_eq_false_iff_ne.mpr hsaving, beq_eq_false_iff_ne.mpr hsaved, Bool.not_true, Bool.or_false, Bool.false_eq_true, if_false, ← ht, ← hu]
    by_cases hfull : 4 ≤ w ∧ 32 ≤ gts ∧ flit256 = true
    · rw [(linkLow_eq_false_iff ..).mpr hfull, if_pos hfull]
      rfl
    · rw [Bool.not_eq_false _ |>.mp fun hlow => hfull ((linkLow_eq_false_iff ..).mp hlow), if_neg hfull]
      rfl
  case ready =>
    show execConfigSpaceReady h s = _
    simp only [execConfigSpaceReady, hup, hready, Bool.not_false, Bool.and_self, if_true]
  case enable =>
    show execCxlMemEnable ld on s = _
    simp only [execCxlMemEnable, hpresent, hup, hready, hdegraded, Bool.not_true, Bool.or_self, Bool.false_eq_true, if_false]
  case linkDown =>
    subst ht
    exact congrArg Host.Outcome.next (State.linkDown_of_up hup)
  case portReset => cases kind <;> rfl
  case reset =>
    show execFunctionLevelReset ld s = _
    simp only [execFunctionLevelReset, hpresent, Bool.not_true, Bool.false_eq_true, if_false, Bool.and_eq_true, beq_iff_eq,
      Option.isNone_iff_eq_none]
  case cto =>
    subst hd
    show execHifHeadCtoWrite req h v s = _
    rw [execHifHeadCtoWrite, State.guard_of_permits hpermits]
    by_cases hshort : 0 < v.toNat % 65536 ∧ v.toNat % 65536 < 40
    · simp only [if_pos hshort, (ctoShort_iff _).mpr hshort, if_true]
      rfl
    · simp only [if_neg hshort, Bool.not_eq_true _ |>.mp fun h => hshort ((ctoShort_iff _).mp h), Bool.false_eq_true, if_false]
      rfl

/-- Settles O36: the requests of an entitled requester, and the two ways of a slice. -/
theorem trainingUnitCommandsAndSlices : Obligations.TrainingUnitCommandsAndSlices := by
  unfold Obligations.TrainingUnitCommandsAndSlices
  refine ⟨⟨fun req ch s hpermits haccepted hfirmware => ?start, fun req ch s hpermits hrefused => ?refused,
      fun req s t hpermits hactive hfirmware ht => ?commit, fun req s hpermits hactive hfirmware => ?fails, fun req s hpermits hactive => ?abort,
      fun req s hpermits htrained hactive => ?store, fun req bin s hpermits hgather => ⟨fun hmin hmax => ?bin, fun hout => ?ignored⟩⟩,
    fun delays eyes bad complete s hactive hblocked => ?blocked,
    fun delays eyes bad complete c rank s v t u hactive hc hblocked hrank hv ht hu => ?slice⟩
  case start =>
    refine (State.guard_of_permits hpermits fun s => s.trnStart ch).trans ?_
    simp only [State.trnStart, haccepted, hfirmware, Option.isSome_none, Bool.not_true, Bool.or_self, Bool.false_eq_true, if_false]
    rfl
  case refused =>
    have hcond : ((s.trainRefusal ch).isSome || !s.ready Reg.GLB_READY.FW_RUN) = true := by
      rw [Bool.or_eq_true, Option.isSome_iff_ne_none, Bool.not_eq_true']
      exact hrefused
    refine (State.guard_of_permits hpermits fun s => s.trnStart ch).trans ?_
    simp only [State.trnStart, hcond, if_true, State.trnReject]
  case commit =>
    refine (State.guard_of_permits hpermits fun s => s.trnCommit true).trans ?_
    simp only [State.trnCommit, hactive, hfirmware, Bool.not_true, Bool.or_self, Bool.false_eq_true, if_false, if_true, ← ht,
      List.all_eq_true, beq_iff_eq]
  case fails =>
    refine (State.guard_of_permits hpermits fun s => s.trnCommit false).trans ?_
    simp only [State.trnCommit, hactive, hfirmware, Bool.not_true, Bool.or_self, Bool.false_eq_true, if_false]
  case abort =>
    refine (State.guard_of_permits hpermits fun s => s.abandonSession 3).trans ?_
    simp only [State.abandonSession, hactive, if_true]
  case store =>
    refine (State.guard_of_permits hpermits State.trnStore).trans ?_
    simp only [State.trnStore, htrained, hactive, Bool.not_true, Bool.or_self, Bool.false_eq_true, if_false]
  case bin =>
    refine (State.guard_of_permits hpermits fun s => s.nextBin bin.toNat).trans ?_
    simp only [State.nextBin, hgather, Bool.false_eq_true, if_false, if_neg (show ¬(bin.toNat < minBin ∨ maxBin < bin.toNat) by omega)]
    rfl
  case ignored =>
    refine (State.guard_of_permits hpermits fun s => s.nextBin bin.toNat).trans ?_
    simp only [State.nextBin, hgather, Bool.false_eq_true, if_false, if_pos hout]
  case blocked =>
    show execTrainingSlice delays eyes bad complete s = _
    simp only [execTrainingSlice, hactive, hblocked, Bool.not_true, Bool.false_eq_true, if_false, if_true]
  case slice =>
    show execTrainingSlice delays eyes bad complete s = _
    simp only [execTrainingSlice, ← hc, hactive, hblocked, Bool.not_true, Bool.false_eq_true, if_false, ← hrank, ← hv, ← ht, ← hu,
      Bool.and_eq_true]

end Sys2Proof
end

section
/-! The DMA engine, runtime firmware and the accesses of the application cores: the obligations on them. -/

namespace Sys2Proof

namespace Machine

/-- The operations of a channel (R698), in the states that take them. -/
theorem State.dmaOp_start {s : State} {n : Nat} (hunit : s.unitFailed (dmaUnit n) = false)
    (hstate : s.dmaState n = 0 ∨ s.dmaState n = 4 ∨ s.dmaState n = 5 ∨ s.dmaState n = 6 ∨ s.dmaState n = 7) :
    s.dmaOp n 1 =
      let r := if s.dmaState n = 7 then s.endFault (dmaUnit n) else s
      (State.putAll { r with dma := { r.dma with jobs := NMap.erase r.dma.jobs n } } [
        (Reg.DMA_CH_STAT.DESC_DONE n, 0), (Reg.DMA_CH_STAT.CAUSE n, 0), (Reg.DMA_CH_ERR_INFO.KIND n, 0),
        (Reg.DMA_CH_ERR_INFO.DIR n, 0), (Reg.DMA_CH_ERR_INFO.DESC_FETCH n, 0)]).dmaFetch n (r.get (Reg.DMA_CH_DESC.ADDR n)) false := by
  have hidle : (s.dmaState n == 0 || s.dmaState n == 4 || s.dmaState n == 5 || s.dmaState n == 6 || s.dmaState n == 7) = true := by
    simpa [or_assoc] using hstate
  simp only [State.dmaOp, hunit, hidle, Bool.false_eq_true, if_false, if_true, beq_iff_eq]

theorem State.dmaOp_drain {s : State} {n : Nat} {j : DmaJob} (hstate : s.dmaState n = 1 ∨ s.dmaState n = 2)
    (hjob : NMap.find? s.dma.jobs n = some j) :
    s.dmaOp n 4 = { s.put (Reg.DMA_CH_STAT.STATE n) 1 with
      dma := { s.dma with jobs := NMap.insert s.dma.jobs n { j with drain := true } } } := by
  have hruns : (s.dmaState n == 1 || s.dmaState n == 2) = true := by simpa using hstate
  simp only [State.dmaOp, hruns, hjob, if_true]

theorem State.dmaOp_halt {s : State} {n : Nat} (hstate : s.dmaState n = 1 ∨ s.dmaState n = 2 ∨ s.dmaState n = 3) :
    s.dmaOp n 5 = s.dmaHalt n 1 := by
  have hruns : (s.dmaState n == 1 || s.dmaState n == 2 || s.dmaState n == 3) = true := by simpa [or_assoc] using hstate
  simp only [State.dmaOp, hruns, if_true]

/-- A restart needs all three of R532. -/
theorem restartRefused_iff (s : State) :
    (s.fogged || decide (s.get Reg.CPX_FW_CFG.RESTART_MAX ≤ s.get Reg.CPX_FW_STAT.RESTARTS) || !s.codeIntact) = true ↔
      s.fogged = true ∨ s.get Reg.CPX_FW_CFG.RESTART_MAX ≤ s.get Reg.CPX_FW_STAT.RESTARTS ∨
        Config.sha384 (dramRead s.cpx.ram 4096 s.cpx.codeLen ++ s.cpx.rest) ≠ s.cpx.hash := by
  rw [Bool.or_eq_true, Bool.or_eq_true, decide_eq_true_eq, Bool.not_eq_true', State.codeIntact, beq_eq_false_iff_ne, or_assoc]

/-- A core's read or fetch (R28–R30, R382, R534), granted or denied by the fence. -/
theorem exec_appCoreAccess_of_read {core : Fin 4} {k : AccessKind} {addr : BitVec 44} {size : Fin 5} {v : Word} {s : State}
    (halive : s.fwAlive = true) (hsize : size ≠ 0) (hk : k ≠ .write) :
    exec (.appCoreAccess core k addr size v) s =
      if s.fenceGrants (.core core) k addr.toNat size then
        if s.awaitsRecovery addr.toNat size then .next s
        else .next ((s.fabricRead .fw addr.toNat size).2.emit
          (if s.meetsPoison addr.toNat size then .corePoison core else .coreRead core (s.fabricRead .fw addr.toNat size).1))
      else .next (((s.emit (.coreRead core 0)).emit (.busError .fw)).fenceDenied (.core core) k addr.toNat) := by
  show execAppCoreAccess core k addr size v s = _
  simp only [execAppCoreAccess, halive, beq_eq_false_iff_ne.mpr hsize, Bool.not_true, Bool.or_self, Bool.false_eq_true, if_false]
  cases k with
  | write => exact absurd rfl hk
  | read => rfl
  | execute => rfl

end Machine

open Machine

/-- Settles O37: the operations of an entitled requester, and a burst that is made, timed out or held back. -/
theorem dmaChannelOperations : Obligations.DmaChannelOperations := by
  unfold Obligations.DmaChannelOperations
  refine ⟨fun req ch s r t hpermits hunit hstate hr ht => ?start, fun req ch s hpermits hunit => ?failed,
    fun req ch s hpermits hstate => ?pause, fun req ch s hpermits hstate => ?resume, fun req ch j s hpermits hstate hjob => ?drain,
    fun req ch s hpermits hstate => ?halt, fun req lines s hpermits => ?lines,
    fun ch w a base i count j s t u hjob ht hslot hcount hbase hwhere hi hu => ?timeout,
    fun ch j s t hjob ht => ⟨fun hslot hwaits => ?burst, fun hheld => ?held⟩⟩
  case start =>
    subst hr ht
    exact (State.guard_of_permits hpermits fun s => s.dmaOp ch 1).trans (congrArg Host.Outcome.next (State.dmaOp_start hunit hstate))
  case failed =>
    refine (State.guard_of_permits hpermits fun s => s.dmaOp ch 1).trans ?_
    simp only [State.dmaOp, hunit, if_true]
  case pause =>
    refine (State.guard_of_permits hpermits fun s => s.dmaOp ch 2).trans ?_
    simp only [State.dmaOp, hstate, beq_self_eq_true, if_true]
  case resume =>
    refine (State.guard_of_permits hpermits fun s => s.dmaOp ch 3).trans ?_
    simp only [State.dmaOp, hstate, beq_self_eq_true, if_true]
  case drain =>
    exact (State.guard_of_permits hpermits fun s => s.dmaOp ch 4).trans (congrArg Host.Outcome.next (State.dmaOp_drain hstate hjob))
  case halt =>
    exact (State.guard_of_permits hpermits fun s => s.dmaOp ch 5).trans (congrArg Host.Outcome.next (State.dmaOp_halt hstate))
  case lines => exact State.guard_of_permits hpermits fun s => s.dmaRequest lines.toNat
  case timeout =>
    show execDmaBeatTimeout ch w a s = _
    simp only [execDmaBeatTimeout, hjob, ← ht, hslot, ← hcount, ← hbase, Bool.not_true, Bool.false_or]
    rcases hwhere with ⟨hmoves, hle, hbeat⟩ | ⟨hfixed, heq, hbeat⟩
    · simp only [hmoves, Bool.false_and, Bool.or_false, Bool.false_eq_true, if_false, ← hbeat, ← hu, beq_iff_eq,
        decide_eq_false (Nat.not_lt.mpr hle), decide_eq_false (Nat.not_le.mpr hi)]
    · simp only [hfixed, if_true, ← hbeat, ← hu, heq, bne_self_eq_false, Bool.and_false, Bool.or_false, beq_iff_eq,
        decide_eq_false (Nat.lt_irrefl base), decide_eq_false (Nat.not_le.mpr hi), Bool.false_eq_true, if_false]
  case burst =>
    show execDmaBurstDone ch s = _
    simp only [execDmaBurstDone, hjob, ← ht, hslot, hwaits, Bool.not_true, Bool.or_self, Bool.false_eq_true, if_false]
  case held =>
    have hcond : (!t.dma.slots.contains ch.val || s.burstWaits ch j) = true := by
      rw [Bool.or_eq_true, Bool.not_eq_true']
      exact hheld
    show execDmaBurstDone ch s = _
    simp only [execDmaBurstDone, hjob, ← ht, hcond, if_true]
    rfl

/-- Settles O38: the firmware's events where they apply, and a core's access as the fence judges it. -/
theorem firmwareEventsAndCoreAccesses : Obligations.FirmwareEventsAndCoreAccesses := by
  unfold Obligations.FirmwareEventsAndCoreAccesses
  refine ⟨⟨fun s t hreleased hrun ht => ?ready, fun s hreleased hrun => ?missed, fun s halive => ⟨?watchdog, ?crash⟩,
      fun req v s hpermits => ?kick, fun req v s hchain hentitled => ?denied, fun s hrefused => ?stays, fun s hfog hmax hintact => ?restarts⟩,
    fun core addr size v s halive hsize => ⟨fun hgrant => ?write, fun k hk hgrant => ⟨fun hawaits => ?waits, fun hawaits => ?read⟩,
      fun hdeny => ?writeDenied, fun k hk hdeny => ?readDenied⟩⟩
  case ready =>
    show execFwReadySignal s = _
    simp only [execFwReadySignal, hreleased, hrun, Bool.not_true, Bool.or_self, Bool.false_eq_true, if_false, ← ht, apply_ite Host.Outcome.next]
    rfl
  case missed =>
    show execFwReadyTimeout s = _
    simp only [execFwReadyTimeout, hreleased, hrun, Bool.not_false, Bool.and_self, if_true]
  case watchdog =>
    show execFwWatchdogExpired s = _
    simp only [execFwWatchdogExpired, halive, if_true]
  case crash =>
    show execFwCrash s = _
    simp only [execFwCrash, halive, if_true]
  case kick => exact State.guard_of_permits hpermits id
  case denied =>
    show s.guard req .f id = _
    simp only [State.guard, beq_eq_false_iff_ne.mpr hchain, hentitled, Bool.false_eq_true, if_false]
  case stays =>
    unfold State.restartFw
    rw [if_pos ((restartRefused_iff s).mpr hrefused)]
  case restarts =>
    unfold State.restartFw
    rw [if_neg]
    rw [restartRefused_iff]
    rintro (h | h | h)
    · rw [hfog] at h
      cases h
    · exact Nat.not_le.mpr hmax h
    · exact h hintact
  case write =>
    show execAppCoreAccess core .write addr size v s = _
    simp only [execAppCoreAccess, halive, beq_eq_false_iff_ne.mpr hsize, hgrant, Bool.not_true, Bool.or_self, Bool.false_eq_true, if_false, if_true]
  case waits =>
    rw [exec_appCoreAccess_of_read halive hsize hk, if_pos hgrant, if_pos hawaits]
  case read =>
    rw [exec_appCoreAccess_of_read halive hsize hk, if_pos hgrant, if_neg (Bool.not_eq_true _ ▸ hawaits)]
  case writeDenied =>
    show execAppCoreAccess core .write addr size v s = _
    simp only [execAppCoreAccess, halive, beq_eq_false_iff_ne.mpr hsize, hdeny, Bool.not_true, Bool.or_self, Bool.false_eq_true, if_false]
  case readDenied =>
    rw [exec_appCoreAccess_of_read halive hsize hk, if_neg (Bool.not_eq_true _ ▸ hdeny)]

end Sys2Proof
end

section
/-! Register accesses on the bus, reads that have an effect, and the cursors of the event recorder: the obligations on them. -/

namespace Sys2Proof

namespace Machine

/-! ### The bus -/

theorem State.busRead_of_undefined {r : Req} {off : Nat} (hreg : regAt r (off / 4 * 4) = none) (s : State) (size : Nat) :
    s.busRead r off size = (0, s) := by
  simp only [State.busRead, hreg]

theorem State.busRead_of_hidden {s : State} {r : Req} {off : Nat} {d : RegDef} (hreg : regAt r (off / 4 * 4) = some d)
    (hhidden : s.visible r d = []) (size : Nat) : s.busRead r off size = (0, s) := by
  simp only [State.busRead, hreg, hhidden, List.isEmpty_nil, if_true]

theorem State.busWrite_of_undefined {r : Req} {off : Nat} (hreg : regAt r (off / 4 * 4) = none) (s : State) (size v : Nat) :
    s.busWrite r off size v = s := by
  simp only [State.busWrite, State.checkWrite, hreg]

/-- A narrow or unaligned write, or one by a requester entitled to no field, is denied (R14, R15). -/
theorem State.busWrite_of_denied {s : State} {r : Req} {off size : Nat} {d : RegDef} (hreg : regAt r (off / 4 * 4) = some d)
    (hdenied : (size != 4 || off % 4 != 0 || (s.visible r d).isEmpty) = true) (v : Nat) : s.busWrite r off size v = s.accessDenied := by
  simp only [State.busWrite, State.checkWrite, hreg, hdenied, if_true]

/-! ### What a read leaves -/

/-- A read makes and uses up captures, and nothing else. -/
theorem State.readCaptures_eq (s : State) (r : Req) (off : Nat) : s.readCaptures r off = { s with caps := (s.readCaptures r off).caps } := by
  unfold State.readCaptures
  dsimp only
  split
  · rfl
  split
  · rfl
  split
  · rfl
  split
  · split <;> rfl
  · rfl

/-- An RC field that the requester may read is cleared (R10). -/
def State.clearRead (s : State) (off : Nat) (f : FieldDef) : State := if f.acc == .rc then s.put ⟨off, f.lo, f.w⟩ 0 else s

/-- The state after an aligned read of a register of which the requester sees a field. -/
theorem State.busRead_state {s : State} {r : Req} {off : Nat} {d : RegDef} (haligned : off / 4 * 4 = off) (hreg : regAt r off = some d)
    (hvisible : s.visible r d ≠ []) (size : Nat) :
    (s.busRead r off size).2 =
      ((s.readCaptures r off).each (s.visible r d) fun s f => s.clearRead off f).readEffects off := by
  have hseen : (s.visible r d).isEmpty = false := by simpa using hvisible
  simp only [State.busRead, haligned, hreg, hseen, Bool.false_eq_true, if_false]
  rfl

/-- A read of a register without RC fields clears none. -/
theorem State.busRead_state_of_noRc {s : State} {r : Req} {off : Nat} {d : RegDef} (haligned : off / 4 * 4 = off)
    (hreg : regAt r off = some d) (hvisible : s.visible r d ≠ []) (hrc : ∀ f ∈ d.fields, (f.acc == .rc) = false) (size : Nat) :
    (s.busRead r off size).2 = (s.readCaptures r off).readEffects off := by
  have hnone : ∀ (l : List FieldDef) (t : State), (∀ f ∈ l, (f.acc == .rc) = false) → t.each l (fun s f => s.clearRead off f) = t := by
    intro l
    induction l with
    | nil => exact fun t _ => rfl
    | cons f l ih =>
      intro t hl
      rw [State.each_cons, State.clearRead, hl f (List.mem_cons_self ..)]
      exact ih t fun g hg => hl g (List.mem_cons_of_mem _ hg)
  rw [State.busRead_state haligned hreg hvisible, hnone (s.visible r d) _ fun f hf => hrc f (List.mem_filter.mp hf).1]

/-- A requester entitled to a field of a register sees it. -/
theorem State.visible_ne_nil {s : State} {r : Req} {d : RegDef} {f : FieldDef} (hf : f ∈ d.fields) (hentitled : s.entitled r f.vis = true) :
    s.visible r d ≠ [] :=
  List.ne_nil_of_mem (List.mem_filter.mpr ⟨hf, hentitled⟩)

/-- Every requester is entitled to a field of class A. -/
theorem State.entitled_a (s : State) (r : Req) : s.entitled r .a = true := by
  cases r <;> rfl

/-! ### The registers whose reads have an effect -/

/-- ADC_URG_RES, ADC_RESULT. -/
def resultReg (off : Nat) : RegDef :=
  ⟨off, 0, 1, [.ro 0 12 .f, .ro 12 4 .f, .ro 16 2 .f, .ro 18 4 .f, .ro 22 5 .f, .ro 27 1 .f, .ro 28 1 .f, .ro 29 1 .f, .ro 30 1 .f, .ro 31 1 .f]⟩

theorem regAt_adcResult (r : Req) : regAt r 0x40014 = some (resultReg 0x40014) := by rfl

theorem regAt_urgentResult (r : Req) : regAt r 0x40010 = some (resultReg 0x40010) := by rfl

/-- TWI_RXDATA. -/
def rxReg : RegDef := ⟨0x80018, 0x1000, 3, [.ro 0 8 .f, .ro 8 1 .f, .ro 9 23 .f]⟩

theorem regAt_rxdata (r : Req) (port : Fin 3) : regAt r (0x80018 + 0x1000 * port) = some rxReg := by
  match port with
  | 0 => rfl
  | 1 => rfl
  | 2 => rfl

theorem regAt_ssDirty (r : Req) : regAt r 0x300008 = some ⟨0x300008, 0, 1, [.ro 0 32 .a]⟩ := by rfl

theorem regAt_window (r : Req) : regAt r 0x20100 = some ⟨0x20100, 4, 64, [.ro 0 32 .a]⟩ := by rfl

/-- RGN_FAULT. -/
def faultReg : RegDef := ⟨0x100010, 0, 1, [.ro 0 18 .a, .ro 18 2 .a, .ro 20 4 .a, .ro 24 3 .a, .ro 27 1 .a, .rc 28 4 .a]⟩

theorem regAt_fault (r : Req) : regAt r 0x100010 = some faultReg := by rfl

/-- CPX_VIOL_INFO, a register of the Keeper alone (R545). -/
def violationReg : RegDef := ⟨0xE0000024, 0, 1, [.rc 0 1 .k, .ro 1 15 .k, .ro 16 5 .k, .ro 21 5 .k, .ro 26 2 .k, .ro 28 4 .k]⟩

theorem regAt_violation : regAt .keeper 0xE0000024 = some violationReg := by rfl

theorem State.visible_fault (s : State) (r : Req) : s.visible r faultReg = faultReg.fields :=
  List.filter_eq_self.mpr fun f hf => by
    have hvis : f.vis = .a := by revert f; decide
    rw [hvis, State.entitled_a]

theorem State.readEffects_rxdata (s : State) (port : Fin 3) : s.readEffects (0x80018 + 0x1000 * port) =
    { s with twi := { s.twi with rx := NMap.insert s.twi.rx port ((s.rxFifo port).drop 1) } } := by
  match port with
  | 0 => rfl
  | 1 => rfl
  | 2 => rfl

/-! ### The cursors -/

theorem State.cursorArea_of_other {s : State} {r : Req} {area : Nat} (harea : area ≤ 2) (hother : area ≠ (s.evr.cursor r).area) :
    s.cursorArea r area = s.cursorOldest r area := by
  unfold State.cursorArea
  rw [if_neg]
  simpa using ⟨harea, hother⟩

theorem State.cursorArea_of_same {s : State} {r : Req} {area : Nat} (h : 2 < area ∨ area = (s.evr.cursor r).area) : s.cursorArea r area = s := by
  unfold State.cursorArea
  rw [if_pos]
  simpa using h

end Machine

open Machine

/-- Settles O39: what the bus answers for each offset, and the two registers kept in records. -/
theorem registerAccessesReachTheBus : Obligations.RegisterAccessesReachTheBus := by
  unfold Obligations.RegisterAccessesReachTheBus
  refine ⟨⟨fun req off size s hsize => ?read, fun req off size v s hchain hsize => ?write, fun req off s hlo => ?pair,
      fun req vin v s hchain => ?power, fun req off size v s hreg => ⟨State.busRead_of_undefined hreg s size, State.busWrite_of_undefined hreg s size v⟩,
      fun req off size v d s hreg hhidden => ⟨State.busRead_of_hidden hreg hhidden size, State.busWrite_of_denied hreg ?hidden v⟩,
      fun req off size v d s hreg hnarrow => State.busWrite_of_denied hreg ?narrow v⟩,
    fun req v m s t hpermits hm ht => ?vmode, fun req v s hpermits hlow hhigh => ?ecc,
    fun v s => ⟨rfl, fun h howner => ⟨?ownerHead, fun k hk => ?otherHead⟩, fun h howner => ?deniedHead⟩⟩
  case read =>
    show execRcRegisterRead req off size s = _
    simp only [execRcRegisterRead, beq_eq_false_iff_ne.mpr hsize, Bool.false_eq_true, if_false, State.answerRead]
  case write =>
    show execRegisterWrite req off size v s = _
    simp only [execRegisterWrite, beq_eq_false_iff_ne.mpr hsize, beq_eq_false_iff_ne.mpr hchain, Bool.or_self, Bool.false_eq_true, if_false]
  case pair =>
    show execEpochLoCaptureRead req off s = _
    simp only [execEpochLoCaptureRead, hlo, if_true, State.answerRead]
  case power =>
    show execPwrCfgWrite req vin v s = _
    simp only [execPwrCfgWrite, beq_eq_false_iff_ne.mpr hchain, Bool.false_eq_true, if_false]
  case hidden => rw [hhidden, List.isEmpty_nil, Bool.or_true]
  case narrow =>
    rw [Bool.or_eq_true, Bool.or_eq_true, bne_iff_ne, bne_iff_ne]
    exact Or.inl hnarrow
  case vmode =>
    subst hm ht
    refine (State.guard_of_permits hpermits fun s => if false = true then s.eccWrite v.toNat else s.vmodeWrite v.toNat).trans ?_
    simp only [Bool.false_eq_true, if_false, State.vmodeWrite, beq_iff_eq, State.locked]
  case ecc =>
    refine (State.guard_of_permits hpermits fun s => if true = true then s.eccWrite v.toNat else s.vmodeWrite v.toNat).trans ?_
    simp only [if_true, State.eccWrite, hlow, hhigh, decide_true, Bool.and_self]
  case ownerHead => exact (State.entitled_head ..).mpr (Or.inr ⟨rfl, howner⟩)
  case otherHead =>
    rw [← Bool.not_eq_true, State.entitled_head]
    rintro (h | ⟨-, hsame⟩)
    · cases h
    · exact hk (Fin.ext (hsame.symm.trans howner))
  case deniedHead =>
    have hdenied : s.entitled (.head h) .h = false := by
      rw [← Bool.not_eq_true, State.entitled_head]
      rintro (h | ⟨-, hsame⟩)
      · cases h
      · exact howner hsame
    show execKstVmodeEccWrite (.head h) true v s = _
    simp only [execKstVmodeEccWrite, State.guard, hdenied, Bool.false_eq_true, if_false]
    rfl

/-- Settles O40: the state that each read leaves is what its captures, its RC fields and its own effect make of it. -/
theorem readsWithEffectsAndCursorCommands : Obligations.ReadsWithEffectsAndCursorCommands := by
  unfold Obligations.ReadsWithEffectsAndCursorCommands
  refine ⟨fun req s => ⟨fun hentitled => ?result, fun hentitled => ?urgent, fun port hentitled => ?received, ?dirty, ?window, ?fault,
      fun hkeeper => ?violation⟩,
    fun req s hpermits => ?oldest, fun req x s hpermits hcaptured => ?advance, fun req s hpermits => ?seek,
    fun req area s hpermits harea hother => ?area, fun req s hpermits area hsame => ?sameArea⟩
  case result =>
    have hvisible : s.visible req (resultReg 0x40014) ≠ [] := State.visible_ne_nil (List.mem_cons_self ..) hentitled
    have hstate := State.busRead_state_of_noRc rfl (regAt_adcResult req) hvisible (by decide) 4
    rw [State.readCaptures_eq] at hstate
    refine ⟨_, (s.busRead req 0x40014 4).2, rfl, ?_, ?_⟩
    · rw [hstate]
      rfl
    · rw [hstate]
      rfl
  case urgent =>
    have hvisible : s.visible req (resultReg 0x40010) ≠ [] := State.visible_ne_nil (List.mem_cons_self ..) hentitled
    have hstate := State.busRead_state_of_noRc rfl (regAt_urgentResult req) hvisible (by decide) 4
    rw [State.readCaptures_eq] at hstate
    refine ⟨_, (s.busRead req 0x40010 4).2, rfl, ?_, ?_⟩
    · rw [hstate]
      rfl
    · rw [hstate]
      rfl
  case received =>
    have haligned : (0x80018 + 0x1000 * port.val) / 4 * 4 = 0x80018 + 0x1000 * port.val := by omega
    have hvisible : s.visible req rxReg ≠ [] := State.visible_ne_nil (List.mem_cons_self ..) hentitled
    have hstate := State.busRead_state_of_noRc haligned (regAt_rxdata req port) hvisible (by decide) 4
    rw [State.readCaptures_eq, State.readEffects_rxdata] at hstate
    refine ⟨_, (s.busRead req (0x80018 + 0x1000 * port) 4).2, rfl, ?_, ?_⟩
    · rw [hstate]
      rfl
    · rw [hstate]
  case dirty =>
    have hvisible : s.visible req ⟨0x300008, 0, 1, [.ro 0 32 .a]⟩ ≠ [] := State.visible_ne_nil (List.mem_cons_self ..) (s.entitled_a req)
    have hstate := State.busRead_state_of_noRc rfl (regAt_ssDirty req) hvisible (by decide) 4
    refine ⟨_, (s.busRead req 0x300008 4).2, rfl, ?_, ?_⟩
    · rw [hstate, State.readCaptures_eq]
      rfl
    · rw [hstate]
      rfl
  case window =>
    have hvisible : s.visible req ⟨0x20100, 4, 64, [.ro 0 32 .a]⟩ ≠ [] := State.visible_ne_nil (List.mem_cons_self ..) (s.entitled_a req)
    have hstate := State.busRead_state_of_noRc rfl (regAt_window req) hvisible (by decide) 4
    refine ⟨_, (s.busRead req 0x20100 4).2, rfl, ?_, ?_, ?_⟩
    · rw [hstate, State.readCaptures_eq]
      rfl
    · rw [hstate, State.readCaptures_eq]
      rfl
    · rw [hstate]
      rfl
  case fault =>
    have hvisible : s.visible req faultReg ≠ [] := State.visible_ne_nil (List.mem_cons_self ..) (s.entitled_a req)
    have hstate := State.busRead_state rfl (regAt_fault req) hvisible 4
    rw [State.visible_fault] at hstate
    refine ⟨_, (s.busRead req 0x100010 4).2, rfl, ?_⟩
    rw [hstate]
    exact State.get_put_self (s.readCaptures req 0x100010) Reg.RGN_FAULT.KIND 0
  case violation =>
    subst hkeeper
    have hvisible : s.visible .keeper violationReg ≠ [] := State.visible_ne_nil (List.mem_cons_self ..) rfl
    have hstate := State.busRead_state rfl regAt_violation hvisible 4
    refine ⟨_, (s.busRead .keeper 0xE0000024 4).2, rfl, ?_⟩
    rw [hstate]
    exact State.get_put_self (s.readCaptures .keeper 0xE0000024) Reg.CPX_VIOL_INFO.VALID 0
  case oldest => exact State.guard_of_permits hpermits fun s => s.cursorOldest req (s.evr.cursor req).area
  case advance =>
    refine (State.guard_of_permits hpermits fun s => s.cursorAdvance req).trans ?_
    simp only [State.cursorAdvance, hcaptured]
  case seek => exact State.guard_of_permits hpermits fun s => s.cursorSeek req
  case area =>
    refine (State.guard_of_permits hpermits fun s => s.cursorArea req area.toNat).trans ?_
    rw [State.cursorArea_of_other harea hother]
    rfl
  case sameArea =>
    refine (State.guard_of_permits hpermits fun s => s.cursorArea req area.toNat).trans ?_
    rw [State.cursorArea_of_same]
    exact hsame.imp (fun h => by rw [h]; decide) id

end Sys2Proof
end

section
/-! The converters, the two-wire ports, power-on and the timed shutdown: the obligations on them. -/

namespace Sys2Proof

namespace Machine

/-! ### Ranks -/

/-- A running maximum is at least its start and each value met. -/
theorem le_foldl_max (f : Nat → Nat) (l : List Nat) (a : Nat) :
    a ≤ l.foldl (fun acc n => max acc (f n)) a ∧ ∀ n ∈ l, f n ≤ l.foldl (fun acc n => max acc (f n)) a := by
  induction l generalizing a with
  | nil => simp
  | cons x l ih =>
    obtain ⟨hstart, hmet⟩ := ih (max a (f x))
    refine ⟨le_trans (le_max_left ..) hstart, fun n hn => ?_⟩
    rcases List.mem_cons.mp hn with rfl | hn
    · exact le_trans (le_max_right ..) hstart
    · exact hmet n hn

theorem State.rank_le_topRank (s : State) {l : List Nat} {n : Nat} (hn : n ∈ l) : s.get (Reg.PWR_RAIL_CTL.RANK n) ≤ s.topRank l :=
  (le_foldl_max (fun n => s.get (Reg.PWR_RAIL_CTL.RANK n)) l 0).2 n hn

/-! ### The power-up and the timed shutdown -/

/-- A rank-step of the power-up (R596): the used rails of the rank show power-good. -/
def State.ranksGood (s : State) : State :=
  s.each (List.range 16) fun s n => if s.railUsed n = true ∧ s.flag (Reg.PWR_RAIL_CTL.EN n) = true then s.put (Reg.PWR_RAIL_CTL.PG n) 1 else s

theorem State.ranksGood_eq {s t : State} (ht : t = s.each (List.range 16) fun s n =>
    if s.railUsed n = true ∧ s.flag (Reg.PWR_RAIL_CTL.EN n) = true then s.put (Reg.PWR_RAIL_CTL.PG n) 1 else s) : t = s.ranksGood := by
  rw [ht, State.ranksGood]

theorem exec_powerupRankStep {s : State} (hseq : s.get Reg.PWR_STAT.SEQ = 1) (hunderway : s.pwr.underway = false) :
    exec .powerupRankStep s = .next (if s.ranksGood.nextRank (s.get Reg.PWR_STAT.STEP_RANK + 1) = [] then s.ranksGood.released
      else s.ranksGood.enableRails (s.ranksGood.nextRank (s.get Reg.PWR_STAT.STEP_RANK + 1))) := by
  show execPowerupRankStep s = _
  simp only [execPowerupRankStep, hseq, hunderway, bne_self_eq_false, Bool.or_self, Bool.false_eq_true, if_false, Bool.and_eq_true]
  rw [← State.ranksGood]
  split
  next hnone => rw [if_pos hnone]
  next hsome => rw [if_neg hsome]

/-- A request other than the button and wake keeps STAY_OFF, and without valid input or with low supply is noted as ignored (R593). -/
theorem State.powerOn_ignored {s : State} {source : Nat} (hsupply : s.flag Reg.PWR_STAT.VIN_VALID = false ∨ s.pwr.vsupOut = true)
    (hsource : 2 < source) : s.powerOn source = s.put Reg.PWR_LAN.IGNORED 1 := by
  have hother : (source == 1 || source == 2) = false := by
    rw [Bool.or_eq_false_iff, beq_eq_false_iff_ne, beq_eq_false_iff_ne]
    omega
  have hcond : (!s.flag Reg.PWR_STAT.VIN_VALID || s.pwr.vsupOut) = true := by
    rw [Bool.or_eq_true, Bool.not_eq_true']
    exact hsupply
  simp only [State.powerOn, hother, hcond, Bool.false_eq_true, if_false, if_true]

end Machine

open Machine

/-- Settles O41: a slot, an urgent conversion, and a request of an entitled requester. -/
theorem converterCommands : Obligations.ConverterCommands := by
  unfold Obligations.ConverterCommands
  refine ⟨fun conv ovr code n s hpowered hnext hstart hinput => ?idle,
    fun conv ovr code n input c w adc s t u hpowered hnext hstart hinput hc hw ht hu => ?slot,
    fun conv ovr code u k w s hurgent hpowered hpairs hhold hk hw => ?urgent, fun req v s hpermits hgo hfree => ?request,
    fun req v s hpermits hgo hwaits => ?ignored⟩
  case idle =>
    show execAdcConversionDone conv code ovr s = _
    simp only [execAdcConversionDone, State.adcRuns, hpowered, hnext, hstart, hinput, Bool.not_true, Bool.false_eq_true, if_false]
  case slot =>
    show execAdcConversionDone conv code ovr s = _
    simp only [execAdcConversionDone, State.adcRuns, hpowered, hnext, hstart, hinput, Bool.not_true, Bool.false_eq_true, if_false,
      clampCode, ← hc, ← hw, ← ht]
    subst ht
    rw [← hu]
  case urgent =>
    show execUrgentConversionDone conv code ovr s = _
    simp only [execUrgentConversionDone, State.adcRuns, hurgent, hpowered, hpairs, hhold, Bool.not_true, Option.isSome_none, bne_self_eq_false,
      Bool.or_self, Bool.false_eq_true, if_false, clampCode, ← hk, ← hw]
  case request =>
    refine (State.guard_of_permits hpermits fun s => s.urgentWrite v.toNat).trans ?_
    simp only [State.urgentWrite, hgo, hfree, Bool.not_true, Option.isSome_none, Bool.false_eq_true, if_false]
  case ignored =>
    refine (State.guard_of_permits hpermits fun s => s.urgentWrite v.toNat).trans ?_
    simp only [State.urgentWrite, hgo, Option.isSome_iff_ne_none.mpr hwaits, Bool.not_true, Bool.false_eq_true, if_false, if_true]

/-- Settles O42: the transmit FIFO, the start of a transaction, its ends, and the two results of a recovery. -/
theorem twoWirePortCommands : Obligations.TwoWirePortCommands := by
  unfold Obligations.TwoWirePortCommands
  refine ⟨fun req p b s hpermits hroom => ?byte, fun req p b s hpermits hfull => ?full,
    fun req p v s t hpermits hp hgo hrd hwr hresult hdisabled hup hunit ht => ?start,
    fun p data s hbusy hrecovering => ⟨?done, ?addrNack, ?dataNack, ?busError, ?timeout⟩,
    fun p s hneeds => ⟨fun r hr => ?freed, fun t u ht hu => ?stuck⟩⟩
  case byte =>
    refine (State.guard_of_permits hpermits fun s => s.txWrite p b).trans ?_
    simp only [State.txWrite, if_pos hroom]
  case full =>
    refine (State.guard_of_permits hpermits fun s => s.txWrite p b).trans ?_
    simp only [State.txWrite, if_neg (Nat.not_lt.mpr hfull)]
  case start =>
    subst ht
    refine (State.guard_of_permits hpermits fun s => s.xferWrite p v.toNat).trans ?_
    simp only [State.xferWrite, beq_eq_false_iff_ne.mpr hp, hgo, hunit, decide_eq_false (Nat.not_lt.mpr hrd), decide_eq_false (Nat.not_lt.mpr hwr),
      beq_eq_false_iff_ne.mpr hresult, hdisabled, hup, Bool.not_true, Bool.or_self, Bool.false_eq_true, if_false]
  case done =>
    show execTwiTransactionDone p .done data s = _
    simp only [execTwiTransactionDone, hbusy, hrecovering, Bool.not_true, Bool.or_self, Bool.false_eq_true, if_false]
  case addrNack =>
    show execTwiTransactionDone p .addrNack data s = _
    simp only [execTwiTransactionDone, hbusy, hrecovering, Bool.not_true, Bool.or_self, Bool.false_eq_true, if_false]
  case dataNack =>
    show execTwiTransactionDone p .dataNack data s = _
    simp only [execTwiTransactionDone, hbusy, hrecovering, Bool.not_true, Bool.or_self, Bool.false_eq_true, if_false]
  case busError =>
    show execTwiTransactionDone p .busError data s = _
    simp only [execTwiTransactionDone, hbusy, hrecovering, Bool.not_true, Bool.or_self, Bool.false_eq_true, if_false]
  case timeout =>
    show execTwiTargetTimeout p s = _
    simp only [execTwiTargetTimeout, hbusy, hrecovering, Bool.not_true, Bool.or_self, Bool.false_eq_true, if_false]
  all_goals
    have hruns : (!s.flag (Reg.TWI_STAT.RECOVERING p) &&
        !(s.flag (Reg.TWI_STAT.DISABLED p) && decide (s.get (Reg.TWI_STAT.RETRIES p) < 3))) = false := by
      rw [Bool.and_eq_false_iff, Bool.not_eq_false', Bool.not_eq_false', Bool.and_eq_true, decide_eq_true_eq]
      exact hneeds
  case freed =>
    show execBusRecovery p true s = _
    simp only [execBusRecovery, hruns, Bool.false_eq_true, if_false, if_true, ← hr]
  case stuck =>
    have hretries : (if s.flag (Reg.TWI_STAT.DISABLED p) = true then s.get (Reg.TWI_STAT.RETRIES p) + 1 else s.get (Reg.TWI_STAT.RETRIES p)) =
        s.get (Reg.TWI_STAT.RETRIES p) + if s.flag (Reg.TWI_STAT.DISABLED p) = true then 1 else 0 := by
      split <;> rfl
    show execBusRecovery p false s = _
    simp only [execBusRecovery, hruns, Bool.false_eq_true, if_false, hretries, ← ht, ← hu]

/-- Settles O43: the requests by their tests, and a rank-step by what is left to enable. -/
theorem powerOnRequestsAndPowerUp : Obligations.PowerOnRequestsAndPowerUp := by
  unfold Obligations.PowerOnRequestsAndPowerUp
  refine ⟨fun s hoff => ⟨?button, ?wake⟩, fun s hpowered hunderway hseq => ?pressed, fun s hoff hvin hauto hstay hretry => ?auto,
    fun s hoff hretry => ?retry, fun s t hseq hunderway ht => ?rankStep, fun n s hseq hunderway henabled hlow => ?timeout,
    fun s source hsupply hsource => State.powerOn_ignored hsupply hsource⟩
  case button =>
    show execPbtnPress s = _
    simp only [execPbtnPress, hoff, Bool.not_false, if_true]
  case wake =>
    show execWakeRequest s = _
    simp only [execWakeRequest, hoff, Bool.false_eq_true, if_false]
  case pressed =>
    show execPbtnPress s = _
    simp only [execPbtnPress, hpowered, hunderway, beq_eq_false_iff_ne.mpr hseq, Bool.not_true, Bool.or_self, Bool.false_eq_true, if_false]
  case auto =>
    show execAutoPowerOn s = _
    simp only [execAutoPowerOn, hoff, hvin, hauto, hstay, hretry, Bool.not_true, Bool.or_self, Bool.false_eq_true, if_false]
  case retry =>
    show execPowerupRetry s = _
    simp only [execPowerupRetry, hoff, hretry, Bool.not_true, Bool.or_self, Bool.false_eq_true, if_false]
  case rankStep =>
    rw [State.ranksGood_eq ht]
    exact exec_powerupRankStep hseq hunderway
  case timeout =>
    show execPowerupTimeout n s = _
    simp only [execPowerupTimeout, hseq, hunderway, henabled, hlow, bne_self_eq_false, Bool.not_true, Bool.or_self, Bool.false_eq_true, if_false]

/-- Settles O44: a step is the disable of the highest rank on, and the rest turns on the tests of each event. -/
theorem shutdownStepsAndRails : Obligations.ShutdownStepsAndRails := by
  unfold Obligations.ShutdownStepsAndRails
  refine ⟨fun n s hsupervised => ?pgLow, fun before after s t u hunderway ht hu => ?step, fun s n hn => s.rank_le_topRank hn,
    fun s hpowered hreturn => ?button, fun s hseq hunderway hsaving => ?temperature⟩
  case pgLow =>
    show execRailPgLow n s = _
    simp only [execRailPgLow, hsupervised, Bool.not_true, Bool.false_eq_true, if_false]
  case step =>
    subst ht hu
    show execTimedShutdownStep before after s = _
    by_cases hno : s.pwr.noReturn = true
    · simp only [execTimedShutdownStep, hunderway, hno, Bool.not_true, Bool.false_eq_true, if_false, if_true, List.isEmpty_iff]
      rfl
    · simp only [execTimedShutdownStep, hunderway, hno, State.putAll_pwr, Bool.not_true, Bool.false_eq_true, if_false, List.isEmpty_iff]
      rfl
  case button =>
    have hcond : (s.pwr.underway && s.pwr.noReturn) = false := by
      rw [Bool.and_eq_false_iff]
      exact hreturn
    show execPbtnOff s = _
    simp only [execPbtnOff, hpowered, hcond, Bool.not_true, Bool.or_self, Bool.false_eq_true, if_false]
  case temperature =>
    show execDieOverTemperature s = _
    simp only [execDieOverTemperature, hseq, hunderway, hsaving, bne_self_eq_false, Bool.or_self, Bool.false_eq_true, if_false, Bool.or_eq_true,
      beq_iff_eq, apply_ite Host.Outcome.next]

end Sys2Proof
end

section
/-! Resets, the pack, its charger, rests and arming: the obligations on them. -/

namespace Sys2Proof

namespace Machine

/-! ### A Lantern reset and the retained images -/

@[simp] theorem State.enter_flash (s : State) (p : Nat) : (s.enter p).flash = s.flash := by
  unfold State.enter
  split <;> rfl

@[simp] theorem State.disableRail_flash (s : State) (n : Nat) : (s.disableRail n).flash = s.flash := by
  unfold State.disableRail
  dsimp only
  split <;> rfl

theorem State.coldReset_flash (s : State) : s.coldReset.flash = s.flash.atStart := rfl

/-- After a Lantern reset the image log holds what a start finds (R326, R606). -/
theorem lanternReset_flash {s t : State} (hexec : exec .lanternReset s = .next t) : t.flash = s.flash.atStart := by
  have hnext : execLanternReset s = .next t := hexec
  simp only [execLanternReset, Host.Outcome.next.injEq] at hnext
  rw [← hnext, State.coldReset_flash, State.enter_flash]
  simp only [apply_ite State.flash, State.emit_flash, ite_self]
  exact congrArg Flash.atStart (State.each_keeps State.flash _ State.disableRail_flash _ _)

/-- A state with a retained image whose commit record no ring record of the image log is (R326): none is kept, since no ring block is. -/
def imageWithoutRing : State :=
  { State.reset with flash := { Flash.reset with images := [⟨false, 5, false, false, true, true, false, [], 4, 32, 129, [], 2, 1⟩] } }

theorem imageWithoutRing_atStart : imageWithoutRing.flash.atStart.images = [] := rfl

end Machine

open Machine

/-- Refutes O45: a Lantern reset leaves only the retained images whose commit record lies in a ring block that a start reads, and
`imageWithoutRing` retains an image without one. -/
theorem not_resetsSuppliesAndClocks : ¬ Obligations.ResetsSuppliesAndClocks := by
  unfold Obligations.ResetsSuppliesAndClocks
  intro h
  obtain ⟨-, -, hlantern, -⟩ := h
  obtain ⟨t, hexec, -, -, -, -, -, -, himages⟩ := hlantern imageWithoutRing
  rw [lanternReset_flash hexec, imageWithoutRing_atStart] at himages
  cases himages

/-- Settles O46: a sample by its tests, and each event of the charger. -/
theorem packSamplesAndCharging : Obligations.PackSamplesAndCharging := by
  unfold Obligations.PackSamplesAndCharging
  refine ⟨fun mv idCode ma tenthC s t u w hkeeper ht hu hw => ?sample, fun s hon => ?cutoff, fun s hstate => ?ended,
    fun s hstate hpauses => ?recharge, fun cause s hstate hcause => ?fault, fun s t hstate hcause hretries ht => ?retry⟩
  case sample =>
    show execRsvSample mv ma tenthC idCode s = _
    simp only [execRsvSample, hkeeper, Bool.not_true, Bool.false_eq_true, if_false, ← ht, ← hu, Bool.and_eq_true, Bool.not_eq_true',
      decide_eq_true_eq]
    subst hw
    subst hu
    rfl
  case cutoff =>
    show execDsgCutoff s = _
    simp only [execDsgCutoff, hon, if_true]
  case ended =>
    show execChargeEnd s = _
    simp only [execChargeEnd, hstate, beq_self_eq_true, if_true]
  case recharge =>
    show execRechargeStart s = _
    simp only [execRechargeStart, hstate, hpauses, beq_self_eq_true, Bool.not_false, Bool.and_self, if_true]
  case fault =>
    show execChgFault cause s = _
    rcases hcause with ⟨rfl, hpresent⟩ | ⟨rfl | rfl, hcharging⟩ | ⟨rfl, hcharging, hpresent⟩
    · simp only [execChgFault, hpresent, beq_eq_false_iff_ne.mpr hstate, Fin.val_one, Bool.not_true, Bool.or_self, Bool.false_eq_true, if_false]
    · simp only [execChgFault, hcharging, beq_eq_false_iff_ne.mpr hstate, Fin.val_two, Bool.not_true, Bool.or_self, Bool.false_eq_true, if_false]
    · simp [execChgFault, hcharging, hstate]
    · simp [execChgFault, hcharging, hpresent, hstate]
  case retry =>
    have hagain : (s.get Reg.RSV_STAT.FAULT_CAUSE == 2 || s.get Reg.RSV_STAT.FAULT_CAUSE == 3) = true := by simpa using hcause
    show execChgFaultRetry s = _
    simp only [execChgFaultRetry, hstate, hagain, decide_eq_true hretries, beq_self_eq_true, Bool.and_self, if_true, ← ht]

/-- Settles O47: the evaluation of a second, the rest points, the Lantern cycle and the arming, each with its tests passed. -/
theorem restEvaluationAndLanternCycles : Obligations.RestEvaluationAndLanternCycles := by
  unfold Obligations.RestEvaluationAndLanternCycles
  refine ⟨fun s t u hkeeper hrestart ht hu => ?eval, fun mv s t h1 h2 h3 hpresent ht u hu => ?restPoint, fun s hactive => ?timeout,
    fun r25 s hpresent hactive hfog => ?resistance, fun id ntc v vsup mv s t hoff hmv ht => ?lantern,
    fun s harmable htrial hunarmed hauto hhold hrestart hfog => ?arming⟩
  case eval =>
    show execKeeperReserveEval s = _
    simp only [execKeeperReserveEval, hkeeper, hrestart, Bool.not_true, Bool.or_self, Bool.false_eq_true, if_false, ← ht, Bool.or_eq_true,
      Bool.not_eq_true', ← hu]
  case restPoint =>
    show execRestPoint mv s = _
    simp only [execRestPoint, beq_eq_false_iff_ne.mpr h1, beq_eq_false_iff_ne.mpr h2, beq_eq_false_iff_ne.mpr h3, hpresent, Bool.not_true,
      Bool.or_self, Bool.false_eq_true, if_false, ← ht, ← hu]
  case timeout =>
    show execMaintenanceRestTimeout s = _
    simp only [execMaintenanceRestTimeout, hactive, if_true]
  case resistance =>
    show execStepResistanceSample r25 s = _
    simp only [execStepResistanceSample, hpresent, hactive, hfog, Bool.not_true, Bool.or_self, Bool.false_eq_true, if_false]
  case lantern =>
    subst hmv
    show execLanternAdcCycle id ntc v vsup s = _
    cases hid : idCodeOf id.toNat with
    | none =>
      simp only [hid, true_or, if_true] at ht
      simp only [execLanternAdcCycle, hoff, hid, Bool.false_eq_true, if_false, if_true, ← ht, Bool.and_eq_true, beq_iff_eq, decide_eq_true_eq]
    | some k =>
      simp only [hid, reduceCtorEq, false_or, Option.some.injEq] at ht
      simp only [execLanternAdcCycle, hoff, hid, Bool.false_eq_true, if_false, Bool.or_eq_true, beq_iff_eq, ← ht, Bool.and_eq_true,
        decide_eq_true_eq]
  case arming =>
    show execArming s = _
    simp only [execArming, harmable, hunarmed, hauto, hhold, hrestart, State.tryArm, htrial, Bool.not_false, Bool.and_self, if_true]

end Sys2Proof
end

section
/-! The flash and the DRAM channels at work: the obligations on them. -/

namespace Sys2Proof

namespace Machine

/-! ### What leaves the list of ring records as it was -/

@[simp] theorem State.openAt_ring (s : State) (fa owner : Nat) : (s.openAt fa owner).flash.ring = s.flash.ring :=
  (congrArg Flash.ring (State.suspendErase_flash s (faLun fa)) :)

@[simp] theorem State.closePage_ring (s : State) (b : Nat) : (s.closePage b).flash.ring = s.flash.ring := by
  unfold State.closePage
  dsimp only
  split <;> rfl

@[simp] theorem State.keeperPage_ring (s : State) (fa n : Nat) : (s.keeperPage fa n).flash.ring = s.flash.ring := by
  have hopen := State.each_keeps (fun t => t.flash.ring) (fun t x => t.openAt x 4) (fun t x => State.openAt_ring t x 4) s
    ((List.range n).map (fa + ·))
  unfold State.keeperPage
  dsimp only
  split
  · exact (State.closePage_ring _ _).trans hopen
  · exact (State.closePage_ring _ _).trans hopen

@[simp] theorem State.ringCopy_ring (s : State) (r : RingRec) (flags fa : Nat) : (s.ringCopy r flags fa).flash.ring = s.flash.ring :=
  State.keeperPage_ring s fa 1

theorem State.putJournal_flash (s : State) (j : Nat) (l : List JrnlSector) : (s.putJournal j l).flash = s.flash := rfl

theorem State.appendEntry_flash (s : State) (j kind sector : Nat) : (s.appendEntry j kind sector).flash = s.flash := rfl

@[simp] theorem State.tidyJournals_flash (fuel : Nat) (s : State) : (State.tidyJournals fuel s).flash = s.flash := by
  induction fuel generalizing s with
  | zero => rfl
  | succ fuel ih =>
    unfold State.tidyJournals
    split
    · rfl
    · split
      · rfl
      · rw [ih, State.appendEntry_flash, State.putJournal_flash, State.appendEntry_flash]

@[simp] theorem State.journalErase_flash (s : State) (k x : Nat) : (s.journalErase k x).flash = s.flash :=
  (State.tidyJournals_flash 4 _).trans (State.appendEntry_flash s (journalOf x) k x)

@[simp] theorem State.journalSectors_flash (s : State) (l : List Nat) : (s.journalSectors l).flash = s.flash :=
  State.each_keeps State.flash _ (fun t x => by rw [State.journalErase_flash, State.journalErase_flash]) s l

@[simp] theorem State.writeCopy_flash (s : State) (rec : Nat) (ok : Bool) : (s.writeCopy rec ok).flash = s.flash := by
  unfold State.writeCopy
  dsimp only
  split <;> rfl

@[simp] theorem State.addRingBlocks_ring (s : State) (l : List Nat) : (s.addRingBlocks l).flash.ring = s.flash.ring := by
  unfold State.addRingBlocks
  dsimp only
  split
  · rfl
  · simp only [State.listRing, State.writeCopy_flash, apply_ite State.flash, State.journalSectors_flash, ite_self]

/-- A ring record heads the ring with its two addresses, LSN and key generation (R325). -/
theorem State.addRing_ring (s : State) (fa fb : Nat) (body : RingBody) :
    (s.addRing fa fb body).flash.ring = ⟨s.flash.nextLsn, fa, fb, fa, s.get Reg.NFC_KEY.KEYGEN, body⟩ :: s.flash.ring := by
  simp only [State.addRing, State.addRingBlocks_ring, State.ringCopy_ring]
  rfl

theorem State.secondChannel_spec {s : State} {c d : Nat} (h : s.secondChannel c = some d) : d ≠ c ∧ s.channelUp d = true := by
  simpa using List.find?_some h

/-! ### Erases and copies, where they go on -/

theorem State.eraseJournal_of_spots {s : State} {allowed : Nat → Bool} {fa fb : Nat} (b kind : Nat) (k : State → Res)
    (hspots : s.ringSpots allowed = some (fa, fb)) :
    s.eraseJournal b kind allowed k = k (s.repeatPassed.journalBlock b kind fa fb) := by
  simp only [State.eraseJournal, hspots]

theorem State.eraseJournal_of_none {s : State} {allowed : Nat → Bool} (b kind : Nat) (k : State → Res)
    (hspots : s.ringSpots allowed = none) (hring : s.flash.ringBlocks = []) : s.eraseJournal b kind allowed k = k s := by
  simp only [State.eraseJournal, hspots, hring, List.isEmpty_nil, if_true]

theorem State.gcTarget_of {s : State} {fa : Nat} (hup : s.channelUp (faChannel fa) = true) (hvalid : s.faValid fa = true)
    (hreserve : (s.block (faBlock fa)).st ≠ 5) (hopen : (s.block (faBlock fa)).st = 6 → (s.block (faBlock fa)).owner = 3) :
    s.gcTarget fa = true := by
  by_cases h : (s.block (faBlock fa)).st = 6
  · simp [State.gcTarget, hup, hvalid, h, hopen h]
  · simp [State.gcTarget, hup, hvalid, h, hreserve]

end Machine

open Machine

/-- Settles O48: requests, copies and erases on each of their outcomes, the place of a ring record, and the units of the flash. -/
theorem flashMaintenanceCommands : Obligations.FlashMaintenanceCommands := by
  unfold Obligations.FlashMaintenanceCommands
  refine ⟨fun req b s hpermits => ⟨State.guard_of_permits hpermits fun s => s.gcRequest 1 b.toNat,
      State.guard_of_permits hpermits fun s => s.gcRequest 2 b.toNat⟩,
    fun b fa corrected retries bad l s hfw hrel hdrop => ?passedOver,
    fun b fa corrected retries n bad l rest s hfw hrel hdrop hup hto hvalid hreserve hopen t ht => ?copied,
    fun b s u herasing hrun hup hjournal => ?intent,
    fun b zeros s herasing hrun hup => ⟨fun hblank fa fb hspots => ?blank, fun t u ht hu => ⟨?failed, fun hthr => ?redone⟩⟩,
    fun fa fb body s => State.addRing_ring s fa fb body, fun c d s h => State.secondChannel_spec h,
    fun ch temps lun v s t hup hhot ht => ?temps, fun unit retire s t hfailed hunit ht => ?restart⟩
  case passedOver =>
    show execRelocationCopyDone b fa _ s = _
    simp only [execRelocationCopyDone, hfw, hrel, hdrop, if_true]
  case copied =>
    show execRelocationCopyDone b fa _ s = _
    simp only [execRelocationCopyDone, hfw, hrel, hdrop, hup, State.gcTarget_of hto hvalid hreserve hopen, if_true, Bool.not_true, Bool.or_self,
      Bool.false_eq_true, if_false, ← ht, List.isEmpty_iff]
    cases s.inOrder fa <;> rfl
  case intent =>
    show execEraseIntentPassed b s = _
    simp only [execEraseIntentPassed, herasing, hrun, hup, bne_self_eq_false, Bool.not_true, Bool.or_self, Bool.false_eq_true, if_false]
    rcases hjournal with ⟨fa, fb, hspots, rfl⟩ | ⟨hspots, hring, rfl⟩
    · exact State.eraseJournal_of_spots _ _ _ hspots
    · exact State.eraseJournal_of_none _ _ _ hspots hring
  case blank =>
    show execEraseDone b (.ended zeros) s = _
    simp only [execEraseDone, herasing, hrun, hup, State.blankEnough, decide_eq_true hblank, bne_self_eq_false, Bool.not_true, Bool.or_self,
      Bool.false_eq_true, if_false, if_true]
    exact State.eraseJournal_of_spots _ _ _ hspots
  case failed =>
    show execEraseDone b .failed s = _
    simp only [execEraseDone, herasing, hrun, hup, State.blankEnough, bne_self_eq_false, Bool.not_true, Bool.or_self, Bool.false_and,
      Bool.false_eq_true, if_false, ← ht, hu]
    rfl
  case redone =>
    show execEraseDone b (.ended zeros) s = _
    simp only [execEraseDone, herasing, hrun, hup, State.blankEnough, decide_eq_false (Nat.not_le.mpr hthr), bne_self_eq_false, Bool.not_true,
      Bool.or_self, Bool.false_eq_true, if_false, ← ht, hu, apply_ite Host.Outcome.next]
    simp
    rfl
  case temps =>
    show execFlashTempPoll ch temps s = _
    simp only [execFlashTempPoll, hup, hhot, Bool.not_true, Bool.false_eq_true, if_false, ← ht]
  case restart =>
    show execFailedUnitRestart unit retire s = _
    simp only [execFailedUnitRestart, hfailed, beq_eq_false_iff_ne.mpr hunit, Bool.not_true, Bool.or_self, Bool.false_eq_true, if_false, ← ht,
      beq_iff_eq, apply_ite Host.Outcome.next]

/-- Settles O49: each event of a DRAM channel with its tests passed. -/
theorem dramControllerEvents : Obligations.DramControllerEvents := by
  unfold Obligations.DramControllerEvents
  refine ⟨fun ch rank replays lost s hruns hreplays hlr => ?alert, fun ch e lines s t u hruns hspare hlines hrecovering ht hu => ?unit,
    fun ch hot s hruns hself => ?mr4, fun ch rank bank p feeds s t u hup hself hlives ht hp hu => ?refresh,
    fun ch rank id bank b s t hruns hself hoffence ht => ?disturb, fun ch id m s hm => ?throttleEnd,
    fun ch rank s hruns hself htimer hpanic hcopying htraining hlives t ht => ?down, fun ch bank s hruns hrow => ?close,
    fun ch ce ue n o s t hruns hn hlt ht ho => ⟨fun l hline hrecovering => ?line, fun hline u hu => ?spare⟩,
    fun ch s t hruns ht => ?period⟩
  case alert =>
    show execDramAlert ch replays rank lost s = _
    simp only [execDramAlert, hruns, decide_eq_false (Nat.not_le.mpr hreplays), beq_eq_false_iff_ne.mpr hlr, Bool.not_true, Bool.or_self,
      Bool.false_eq_true, if_false]
  case unit =>
    have hnone : (lines.any fun l => s.pageRecovering (l / 64)) = false := by simpa using hrecovering
    show execMigrationUnitDone ch e s = _
    simp only [execMigrationUnitDone, ← hlines, hruns, hspare, hnone, bne_self_eq_false, Bool.not_true, Bool.or_self, Bool.false_eq_true,
      if_false, ← ht, ← hu]
  case mr4 =>
    show execMr4Poll ch hot s = _
    simp only [execMr4Poll, hruns, hself, Bool.not_true, Bool.or_self, Bool.false_eq_true, if_false]
  case refresh =>
    show execRefreshDue ch rank bank feeds s = _
    simp only [execRefreshDue, hup, hself, hlives, Bool.not_true, Bool.or_self, Bool.false_eq_true, if_false, ← ht, ← hp, ← hu, Bool.and_eq_true,
      decide_eq_true_eq, apply_ite Host.Outcome.next]
  case disturb =>
    show execRowDisturbThrottle ch id rank bank s = _
    simp only [execRowDisturbThrottle, hruns, hself, hoffence, Bool.not_true, Bool.or_self, Bool.false_eq_true, if_false, ← ht]
  case throttleEnd =>
    show execThrottleEnd ch id s = _
    simp only [execThrottleEnd, ← hm, ofBool, bne_iff_ne, ne_eq, ite_not]
  case down =>
    have hcopies : (s.get (Reg.DMC_SPARE.STATE ch) == 2 && (s.get (Reg.DMC_SPARE.SPARE_PRANK ch) == rank.val ||
        s.get (Reg.DMC_RANK_MAP.LR ch (s.get (Reg.DMC_SPARE.SRC_LRANK ch))) == rank.val)) = false := by
      rcases hcopying with h | ⟨h₁, h₂⟩
      · rw [beq_eq_false_iff_ne.mpr h, Bool.false_and]
      · rw [beq_eq_false_iff_ne.mpr h₁, beq_eq_false_iff_ne.mpr h₂, Bool.or_self, Bool.and_false]
    have htrains : (s.flag Reg.TRN_STAT.ACTIVE && s.get Reg.TRN_STAT.CH == ch.val) = false := by
      rcases htraining with h | h
      · rw [h, Bool.false_and]
      · rw [beq_eq_false_iff_ne.mpr h, Bool.and_false]
    show execPowerDownTimer ch rank s = _
    simp only [execPowerDownTimer, hruns, hself, beq_eq_false_iff_ne.mpr htimer, hpanic, hcopies, htrains, hlives, Bool.not_true, Bool.or_self,
      Bool.false_eq_true, if_false, ← ht]
  case close =>
    show execTimedRowClose ch s = _
    simp only [execTimedRowClose, hrow, hruns, Bool.not_true, Bool.false_eq_true, if_false]
  case line =>
    show execPatrolScrubRead ch ce ue s = _
    simp only [execPatrolScrubRead, hruns, ← hn, hline, Option.any_some, hrecovering, decide_eq_false (Nat.not_le.mpr hlt), Bool.not_true,
      Bool.or_self, Bool.false_eq_true, if_false, ← ht]
  case spare =>
    show execPatrolScrubRead ch ce ue s = _
    simp only [execPatrolScrubRead, hruns, ← hn, hline, Option.any_none, decide_eq_false (Nat.not_le.mpr hlt), Bool.not_true,
      Bool.or_self, Bool.false_eq_true, if_false, ← ht, ← ho, ← hu]
  case period =>
    show execScrubPeriodEnd ch s = _
    simp only [execScrubPeriodEnd, hruns, Bool.not_true, Bool.false_eq_true, if_false, ← ht, decide_eq_true_eq]
    split
    case isTrue hlate => simp only [decide_eq_true hlate, ofBool, if_true]
    case isFalse hlate => simp only [decide_eq_false hlate, ofBool, Bool.false_eq_true, if_false]

end Sys2Proof
end

section
/-! The loss of the supply and the save: the obligations on them. -/

namespace Sys2Proof

namespace Machine

/-! ### The steps of the save (R218, R219) -/

theorem State.saveRing_of_spots {s : State} {fa fb : Nat} (k : Nat → Nat → State → State) (hspots : s.ringSpots (fun _ => true) = some (fa, fb)) :
    s.saveRing k = .next (k fa fb s.repeatPassed).saveOn := by
  simp only [State.saveRing, hspots]

theorem State.saveRing_of_none {s : State} (k : Nat → Nat → State → State) (hspots : s.ringSpots (fun _ => true) = none) :
    s.saveRing k = .next s.stopForSpace := by
  simp only [State.saveRing, hspots]

theorem State.saveIndex_of_spots {s : State} {n : Nat} {fas : List Nat} (k : List Nat → State → State)
    (hspots : State.wordSpots n s n = some fas) : s.saveIndex n k = .next (k fas s.repeatPassed).saveOn := by
  simp only [State.saveIndex, hspots]

theorem State.saveIndex_of_none {s : State} {n : Nat} (k : List Nat → State → State) (hspots : State.wordSpots n s n = none) :
    s.saveIndex n k = .next s.stopForSpace := by
  simp only [State.saveIndex, hspots]

/-- The last step comes after every other (R219). -/
theorem State.saveStep_last {s : State} (hlast : s.saveStep = 8) :
    s.sav.opened = true ∧ s.drp.sealEpoch = 0 ∧ s.cutPagesLeft = false ∧ s.sav.mirrored = true ∧ s.sav.indexed = true := by
  unfold State.saveStep at hlast
  by_cases hopened : s.sav.opened = true
  case neg => simp [hopened] at hlast
  by_cases hseal : s.drp.sealEpoch = 0
  case neg =>
    cases hstep : s.drp.sealStep <;> simp [hopened, hseal, hstep] at hlast
  by_cases hleft : s.cutPagesLeft = true
  case pos => simp [hopened, hseal, hleft] at hlast
  by_cases hmirrored : s.sav.mirrored = true
  case neg => simp [hopened, hseal, hleft, hmirrored] at hlast
  by_cases hindexed : s.sav.indexed = true
  case neg => simp [hopened, hseal, hleft, hmirrored, hindexed] at hlast
  exact ⟨hopened, hseal, eq_false_of_ne_true hleft, hmirrored, hindexed⟩

/-- A step of the sealing epoch is due in a save while the epoch has not passed it. -/
theorem State.sealing_due {s : State} {step : SealStep} (hseal : s.drp.sealEpoch ≠ 0) (hstep : s.drp.sealStep = step) :
    (s.drp.sealEpoch != 0 && s.drp.sealStep == step) = true := by
  rw [hstep, bne_iff_ne.mpr hseal, beq_self_eq_true, Bool.and_self]

end Machine

open Machine

/-- Settles O50: the falls and returns of the main input, both phases of GPF, and the end of the grace. -/
theorem supplyLossAndGpfStartTheFoghorn : Obligations.SupplyLossAndGpfStartTheFoghorn := by
  unfold Obligations.SupplyLossAndGpfStartTheFoghorn
  refine ⟨fun short s t hvalid ht => ?fall, fun s hvalid => ⟨?loss, ?back⟩, fun s t hvalid ht => ?qualified, fun h s t hup ht => ?phase1,
    fun h before s hup hnone hbefore => ?phase2, fun s hphase hfog hpower => ?grace⟩
  case fall =>
    show execVinMainFall short s = _
    simp only [execVinMainFall, hvalid, Bool.not_true, Bool.false_eq_true, if_false, ← ht, Bool.and_eq_true, beq_iff_eq, Bool.not_eq_true']
  case loss =>
    show execVinLossDetected s = _
    simp only [execVinLossDetected, hvalid, Bool.false_eq_true, if_false]
  case back =>
    show execVinMainReturn s = _
    simp only [execVinMainReturn, hvalid, Bool.false_eq_true, if_false]
  case qualified =>
    subst ht
    show execVinValidQualified s = _
    simp only [execVinValidQualified, hvalid, Bool.not_true, Bool.false_eq_true, if_false, Bool.and_eq_true, beq_iff_eq, Bool.not_eq_true']
  case phase1 =>
    show execGpfPhase1 h s = _
    simp only [execGpfPhase1, hup, Bool.not_true, Bool.false_eq_true, if_false, ← ht]
  case phase2 =>
    show execGpfPhase2 h s = _
    simp only [execGpfPhase2, hup, hnone, Option.isSome_none, Bool.not_true, Bool.or_self, Bool.false_eq_true, if_false, ← hbefore]
  case grace =>
    show execGraceExpired s = _
    simp only [execGraceExpired, hphase, hfog, hpower, beq_self_eq_true, Bool.not_false, Bool.and_self, if_true]

/-- Settles O51: the start of the save, each of its programs that passes, has no place or fails, its last step and its end. -/
theorem saveRunsFromTheCutToSaved : Obligations.SaveRunsFromTheCutToSaved := by
  unfold Obligations.SaveRunsFromTheCutToSaved
  refine ⟨fun s t u hcutting hpower hquiet ht hu => ?start, fun fa fb x e s hsaving hpower hspots => ⟨fun hopened => ?opened,
      fun hseal hstep => ?sealRecord, fun hseal hstep => ?sealCommit⟩,
    fun x e fas s hsaving hpower => ⟨fun hseal hstep hspots t ht => ?sealIndex, fun hmirrored hspots => ?mirror, fun hstep hspots => ?cutIndex⟩,
    fun item x e s hsaving hpower hdue hspace => ?noSpace, fun page fa e role s hsaving hpower hrole htarget hroom => ?page,
    fun item fa e s hsaving hpower hdue htarget hitem => ?failed,
    fun page fa e role f s t u hsaving hpower hrole htarget hfeed hu => ?pageFailed, fun s => State.saveStep_last,
    fun fa fb s t u v hsaving hpower hlast hspots ht hu hv => ?commit, fun s hresuming hlatched hpower => ?timeout⟩
  case start =>
    show execCuttingEnd s = _
    simp only [execCuttingEnd, hcutting, hpower, hquiet, bne_self_eq_false, Bool.not_true, Bool.or_self, Bool.false_eq_true, if_false, ← ht, ← hu]
  case opened =>
    show execSaveProgramPass .openRecord x e s = _
    simp only [execSaveProgramPass, hsaving, hpower, State.itemPending, hopened, bne_self_eq_false, Bool.not_false, Bool.not_true, Bool.or_self,
      Bool.false_eq_true, if_false]
    exact State.saveRing_of_spots _ hspots
  case sealRecord =>
    show execSaveProgramPass .sealRecord x e s = _
    simp only [execSaveProgramPass, hsaving, hpower, State.itemPending, State.sealing_due hseal hstep, bne_self_eq_false, Bool.not_true,
      Bool.or_self, Bool.false_eq_true, if_false]
    exact State.saveRing_of_spots _ hspots
  case sealCommit =>
    show execSaveProgramPass .sealCommit x e s = _
    simp only [execSaveProgramPass, hsaving, hpower, State.itemPending, State.sealing_due hseal hstep, bne_self_eq_false, Bool.not_true,
      Bool.or_self, Bool.false_eq_true, if_false]
    exact State.saveRing_of_spots _ hspots
  case sealIndex =>
    subst ht
    show execSaveProgramPass .sealIndex x e s = _
    simp only [execSaveProgramPass, hsaving, hpower, State.itemPending, State.sealing_due hseal hstep, bne_self_eq_false, Bool.not_true,
      Bool.or_self, Bool.false_eq_true, if_false]
    exact State.saveIndex_of_spots _ hspots
  case mirror =>
    show execSaveProgramPass .mirror x e s = _
    simp only [execSaveProgramPass, hsaving, hpower, State.itemPending, hmirrored, bne_self_eq_false, Bool.not_false, Bool.not_true,
      Bool.or_self, Bool.false_eq_true, if_false]
    exact State.saveIndex_of_spots _ hspots
  case cutIndex =>
    show execSaveProgramPass .cutIndex x e s = _
    simp only [execSaveProgramPass, hsaving, hpower, State.itemPending, hstep, beq_self_eq_true, bne_self_eq_false, Bool.not_true,
      Bool.or_self, Bool.false_eq_true, if_false]
    exact State.saveIndex_of_spots _ hspots
  case noSpace =>
    show execSaveProgramPass item x e s = _
    simp only [execSaveProgramPass, hsaving, hpower, hdue, bne_self_eq_false, Bool.not_true, Bool.or_self, Bool.false_eq_true, if_false]
    rcases hspace with ⟨rfl | rfl | rfl, hnone⟩ | ⟨rfl, hnone⟩
    · exact State.saveRing_of_none _ hnone
    · exact State.saveRing_of_none _ hnone
    · exact State.saveRing_of_none _ hnone
    · exact State.saveIndex_of_none _ hnone
  case page =>
    show execSaveProgramPass (.page page) fa e s = _
    simp only [execSaveProgramPass, hsaving, hpower, State.itemPending, hrole, Option.isSome_some, htarget, hroom, bne_self_eq_false,
      Bool.not_true, Bool.or_self, Bool.false_eq_true, if_false]
    cases s.inOrder fa with
    | false => simp only [Bool.not_false, if_true, Bool.false_eq_true, if_false]
    | true => simp only [Bool.not_true, Bool.false_eq_true, if_false, if_true]
  case failed =>
    show execSaveProgramFail item ⟨fa, e⟩ s = _
    simp only [execSaveProgramFail, hsaving, hpower, hdue, htarget, bne_self_eq_false, Bool.not_true, Bool.or_self, Bool.false_eq_true, if_false]
    cases s.inOrder fa with
    | false => simp only [Bool.not_false, if_true, Bool.false_eq_true, if_false]
    | true =>
      -- `hitem` leaves the last arm of the items
      simp only [Bool.not_true, Bool.false_eq_true, if_false, if_true]
  case pageFailed =>
    show execSaveProgramFail (.page page) ⟨fa, e⟩ s = _
    simp only [execSaveProgramFail, hsaving, hpower, State.itemPending, hrole, Option.isSome_some, htarget, bne_self_eq_false, Bool.not_true,
      Bool.or_self, Bool.false_eq_true, if_false, hfeed, ← hu]
    cases s.inOrder fa with
    | false => simp only [Bool.not_false, if_true, Bool.false_eq_true, if_false]
    | true => simp only [Bool.not_true, Bool.false_eq_true, if_false, if_true]
  case commit =>
    show execCutCommitPassed s = _
    simp only [execCutCommitPassed, hsaving, hpower, hlast, hspots, State.ringProgram, Option.isNone_some, bne_self_eq_false, Bool.or_self,
      Bool.false_eq_true, if_false, ← ht, ← hu, ← hv]
  case timeout =>
    show execResumeTimeout s = _
    simp only [execResumeTimeout, hresuming, Option.isSome_iff_ne_none.mpr hlatched, hpower, beq_self_eq_true, Bool.not_false, Bool.and_self,
      if_true]

end Sys2Proof
end

section
/-! The start, the choice of the image, restored pages and waiting writes: the obligations on them. -/

namespace Sys2Proof

namespace Machine

/-- The third restart that counts, and a failed check, lose the state of the Keeper (R540). -/
theorem keeperLost_iff (ok manual : Bool) (n : Nat) :
    (!ok || (!manual && decide (3 ≤ n))) = true ↔ ok = false ∨ manual = false ∧ 3 ≤ n := by
  simp

end Machine

open Machine

/-- Settles O52: the steps of the Keeper's start and restart, the judgement of the images, and the directory. -/
theorem startAndImageEvents : Obligations.StartAndImageEvents := by
  unfold Obligations.StartAndImageEvents
  refine ⟨fun disagree refused mm lost records s hboot hseq hkeeper hpower => ?boot,
    fun s hkeeper hreturn => ⟨?sideband, fun hready => ?cmdBoot, fun hrestarting t ht => ?lockstep⟩, fun ok s t u hrestarting ht hu => ?restart,
    fun keyOk key older capacity reads badCrc foreign bad source reason img save s t hkeeper hphase hfog hpower hrestarting hpopulated hkey hbad
      ht hsave himage hcapacity => ?indexed,
    fun s hopen hwait hfog hpower hrestarting => ?window, fun s t hstate hphase hfog ht => ?directory⟩
  case boot =>
    show execKeeperBootStart disagree refused ⟨mm, lost, records⟩ s = _
    simp only [execKeeperBootStart, hboot, hseq, hkeeper, hpower, bne_self_eq_false, Bool.or_self, Bool.false_eq_true, if_false,
      apply_ite Host.Outcome.next]
  case sideband =>
    show execSidebandUp s = _
    simp only [execSidebandUp, hkeeper, hreturn, Bool.not_false, Bool.and_self, if_true]
  case cmdBoot =>
    have hrequires : (s.ready Reg.GLB_READY.SIDEBAND_UP || !s.hif.ready.isEmpty) = true := by
      rw [Bool.or_eq_true, Bool.not_eq_true', List.isEmpty_eq_false_iff]
      exact hready
    show execCmdBootSet s = _
    simp only [execCmdBootSet, hkeeper, hrequires, hreturn, Bool.not_false, Bool.and_self, if_true]
  case lockstep =>
    show execKeeperLockstep s = _
    simp only [execKeeperLockstep, hkeeper, hrestarting, hreturn, Bool.not_true, Bool.or_self, Bool.false_eq_true, if_false, ← ht]
  case restart =>
    show execKeeperRestartEnd ok s = _
    simp only [execKeeperRestartEnd, hrestarting, Bool.not_true, Bool.false_eq_true, if_false, ← ht, keeperLost_iff, ← hu, Bool.and_eq_true,
      beq_iff_eq, Bool.not_eq_true']
  case indexed =>
    show execImageIndexed keyOk reads badCrc foreign s = _
    simp only [execImageIndexed, hkeeper, hphase, hfog, hpower, hrestarting, hpopulated, bne_self_eq_false, Bool.not_true, Bool.or_self,
      Bool.false_eq_true, if_false, ← hkey, ← hbad, ← ht, ← hsave, himage, ← hcapacity]
  case window =>
    show execSelectWaitExpired s = _
    simp only [execSelectWaitExpired, hopen, bne_iff_ne.mpr hwait, hfog, hpower, hrestarting, Bool.not_false, Bool.and_self, if_true]
  case directory =>
    show execDirectoryLoaded s = _
    simp only [execDirectoryLoaded, hstate, hphase, hfog, beq_self_eq_true, Bool.not_false, Bool.and_self, if_true, ← ht]

/-- Settles O53: the ends of the reads that restore a page, and of a recovery. -/
theorem pagesAreRestoredAndRecovered : Obligations.PagesAreRestoredAndRecovered := by
  unfold Obligations.PagesAreRestoredAndRecovered
  refine ⟨fun bad retries corrected page maps s t hphase hfog hpage ht => ?sweep, fun page s hphase hfog hpage => ?fill,
    fun page retries corrected bad maps s hwaits hchannel hsaving hsaved => ?faultIn,
    fun page retries corrected bad lines s t u w hlines hsome hwaits hsaving hsaved ht hu hw => ?recovery⟩
  case sweep =>
    have hnext : (s.rse.sweeping.orElse fun _ => s.sweepPage) = some page := by
      rcases hpage with h | ⟨h, hsweep⟩
      · rw [h]; rfl
      · rw [h, ← hsweep]; rfl
    show execSweepPageDone bad retries ⟨corrected, maps⟩ s = _
    simp only [execSweepPageDone, hphase, hfog, hnext, bne_self_eq_false, Bool.or_self, Bool.false_eq_true, if_false, ← ht]
    rfl
  case fill =>
    show execZeroFillPage s = _
    simp only [execZeroFillPage, hphase, hfog, hpage, bne_self_eq_false, Bool.or_self, Bool.false_eq_true, if_false]
  case faultIn =>
    show execFaultInDone page bad retries ⟨corrected, maps⟩ s = _
    simp only [execFaultInDone, hwaits, hchannel, beq_eq_false_iff_ne.mpr hsaving, beq_eq_false_iff_ne.mpr hsaved, Bool.not_true, Bool.or_self,
      Bool.false_eq_true, if_false]
  case recovery =>
    subst ht hu hw
    show execDramRecoveryDone page bad retries corrected s = _
    -- the statement writes the read of the record out as a `match` of its own, which `rfl` sees through
    simp only [execDramRecoveryDone, ← hlines, List.isEmpty_eq_false_iff.mpr hsome, hwaits, beq_eq_false_iff_ne.mpr hsaving,
      beq_eq_false_iff_ne.mpr hsaved, Bool.or_self, Bool.false_eq_true, if_false] <;> rfl

/-- Settles O54: the write whose turn it is by band, credit and token, and each event of the Carafe and of the tracking. -/
theorem waitingWritesAndCarafe : Obligations.WaitingWritesAndCarafe := by
  unfold Obligations.WaitingWritesAndCarafe
  refine ⟨⟨fun r s hnext hstall hpaced hheld => ?free, fun r s hnext hstall hpaced hcredit htokens => ?token,
      fun r s hnext hstall hband hcredit => ?credit, fun r s holdest hstall => ?timeout, fun s hstall => ⟨?stalled, ?stalledTimeout⟩⟩,
    fun page e s t u v d hcopying ht hu hd hv => ?copy, fun page fa e s t u v hdirect htarget horder ht hu hv => ?direct,
    fun s hseal hwaits => ?wait, fun word s t u d htracking hword ht hu hd => ?track, fun line s t d htracking hline ht hd => ?mask⟩
  case free =>
    show execWaitingWriteAdmitted s = _
    simp only [execWaitingWriteAdmitted, hnext, hstall, beq_eq_false_iff_ne.mpr hpaced, beq_eq_false_iff_ne.mpr hheld, Bool.false_eq_true,
      if_false]
  case token =>
    show execWaitingWriteAdmitted s = _
    simp only [execWaitingWriteAdmitted, hnext, hstall, hpaced, hcredit, beq_eq_false_iff_ne.mpr htokens, bne_self_eq_false, Bool.false_eq_true,
      if_false, beq_self_eq_true, if_true, Nat.reduceBEq]
  case credit =>
    show execWaitingWriteAdmitted s = _
    rcases hband with hband | hband
    · simp only [execWaitingWriteAdmitted, hnext, hstall, hband, bne_iff_ne.mpr hcredit, Bool.false_eq_true, if_false, if_true, Nat.reduceBEq]
    · simp only [execWaitingWriteAdmitted, hnext, hstall, hband, beq_eq_false_iff_ne.mpr hcredit, Bool.false_eq_true, if_false, if_true,
        Nat.reduceBEq]
  case timeout =>
    show execAdmissionTimeout s = _
    simp only [execAdmissionTimeout, holdest, hstall, Bool.false_eq_true, if_false, beq_iff_eq]
  case stalled =>
    show execWaitingWriteAdmitted s = _
    cases hnext : s.nextWaiter <;> simp only [execWaitingWriteAdmitted, hnext, hstall, if_true, State.idle]
  case stalledTimeout =>
    show execAdmissionTimeout s = _
    cases holdest : s.oldestWaiter <;> simp only [execAdmissionTimeout, holdest, hstall, if_true, State.idle]
  case copy =>
    subst ht hu hv
    show execCopyBeforeWriteDone page e s = _
    simp only [execCopyBeforeWriteDone, hcopying, Bool.not_true, Bool.false_eq_true, if_false]
    -- the statement writes the mark of the copied bit out as a `match` of its own
    rw [hd] <;> rfl
  case direct =>
    subst ht hu hv
    show execDirectPersistDone page fa e s = _
    simp only [execDirectPersistDone, hdirect, htarget, horder, Bool.not_true, Bool.or_self, Bool.false_eq_true, if_false]
  case wait =>
    show execCarafeWaitExpired s = _
    simp only [execCarafeWaitExpired, bne_iff_ne.mpr hseal, hwaits, Bool.and_self, if_true]
  case track =>
    subst hd
    show execTrackUe word s = _
    simp only [execTrackUe, htracking, decide_eq_false (Nat.not_le.mpr hword), Bool.not_true, Bool.or_self, Bool.false_eq_true, if_false, ← ht,
      beq_iff_eq, ← hu]
  case mask =>
    show execMaskUe line s = _
    simp only [execMaskUe, htracking, decide_eq_false (Nat.not_le.mpr hline), Bool.not_true, Bool.or_self, Bool.false_eq_true, if_false, ← ht, ← hd]

end Sys2Proof
end

section
/-! Drip, sanitizing fills, the sealing epoch and BEACON: the obligations on them. -/

namespace Sys2Proof

namespace Machine

/-- A failed program of Drip is repeated while a save has a place for its page (R234). -/
theorem programSpace_of {s t : State} (hspace : s.pstate = PState.SAVING → t.pageSpace true = true) :
    (s.pstate == PState.SAVING && !s.pwr.underway && !t.pageSpace true) = false := by
  by_cases h : s.pstate = PState.SAVING
  · rw [hspace h, Bool.not_true, Bool.and_false]
  · rw [beq_eq_false_iff_ne.mpr h, Bool.false_and, Bool.false_and]

/-! ### Programs of the sealing epoch (R169) -/

theorem State.ringProgram_of_spots {s : State} {fa fb : Nat} (k : Nat → Nat → State → Res) (hspots : s.ringSpots (fun _ => true) = some (fa, fb)) :
    s.ringProgram (fun _ => true) k = k fa fb s.repeatPassed := by
  simp only [State.ringProgram, hspots]

theorem State.indexProgram_of_spots {s : State} {n : Nat} {fas : List Nat} (k : List Nat → State → Res)
    (hspots : State.wordSpots n s n = some fas) : s.indexProgram n k = k fas s.repeatPassed := by
  simp only [State.indexProgram, hspots]

/-- Outside a save the step of the sealing epoch says what a failed program was for. -/
theorem State.recordTarget_of_sealing {s : State} {fa : Nat} (hsaving : s.saving = false) (hseal : s.drp.sealEpoch ≠ 0)
    (hstep : (s.drp.sealStep = .sealQueued ∨ s.drp.sealStep = .commitQueued) ∧ s.ringTarget fa = true ∨
      s.drp.sealStep = .indexQueued ∧ s.indexTarget fa = true) : s.recordTarget fa = true := by
  rcases hstep with ⟨hstep | hstep, htarget⟩ | ⟨hstep, htarget⟩ <;>
    simp only [State.recordTarget, hsaving, bne_iff_ne.mpr hseal, hstep, htarget, Bool.false_eq_true, if_false, Bool.and_self]

theorem State.saving_of_saving {s : State} (h : s.pstate = PState.SAVING) : s.saving = true := by
  rw [State.saving, h]; rfl

theorem State.recordTarget_of_item {s : State} {fa : Nat} {item : SaveItem} (hsaving : s.pstate = PState.SAVING) (hpower : s.pwr.underway = false)
    (hitem : item ∈ [SaveItem.openRecord, .sealRecord, .sealIndex, .sealCommit, .cutIndex, .cutCommit]) (hdue : s.itemPending item = true)
    (htarget : s.saveTarget item fa = true) : s.recordTarget fa = true := by
  have hany : ([SaveItem.openRecord, .sealRecord, .sealIndex, .sealCommit, .cutIndex, .cutCommit].any fun i =>
      s.itemPending i && s.saveTarget i fa) = true :=
    List.any_eq_true.mpr ⟨item, hitem, by rw [hdue, htarget, Bool.and_self]⟩
  simp only [State.recordTarget, State.saving_of_saving hsaving, hsaving, hpower, hany, beq_self_eq_true, Bool.not_false, Bool.and_self, if_true]

end Machine

open Machine

/-- Settles O55: Drip's reads and programs on each outcome, the wear credit, and a fill's next page. -/
theorem dripPagesAndFills : Obligations.DripPagesAndFills := by
  unfold Obligations.DripPagesAndFills
  refine ⟨fun fa page role e d s t hruns htarget hpage horder ht hd => ?read, fun page p rest s t hfirst ht => ?pass,
    fun page fa p rest s t hfirst hblock horder ht hspace => ⟨fun hsaving htarget => ?failDrip, fun hsaving htarget hpower u hu => ?failSav⟩,
    fun page fa p rest s t hfirst hsaving hpower ht hspace => ?noSpace, fun s t hkeeper hsaving ht => ?wear, fun us s => rfl,
    fun ext page x s t hext hpage hst hepoch hruns hready hband hstall hopen howed hld ht u hu => ?fill⟩
  case read =>
    show execDripPageRead fa e s = _
    simp only [execDripPageRead, hruns, htarget, hpage, horder, Bool.not_true, Bool.or_self, Bool.false_eq_true, if_false, ← ht, ← hd]
  case pass =>
    show execDripProgramPass page s = _
    simp only [execDripProgramPass, hfirst, ← ht]
  case failDrip =>
    subst ht
    show execDripProgramFail page fa s = _
    simp only [execDripProgramFail, hfirst, programSpace_of hspace, hsaving, htarget, horder, beq_eq_false_iff_ne.mpr hblock, Bool.not_true,
      Bool.or_self, Bool.or_false, Bool.false_eq_true, if_false]
  case failSav =>
    subst ht hu
    show execDripProgramFail page fa s = _
    simp only [execDripProgramFail, hfirst, programSpace_of hspace, Bool.false_eq_true, if_false]
    simp only [hsaving, htarget, hpower, horder, beq_eq_false_iff_ne.mpr hblock, Bool.not_true, Bool.not_false, Bool.and_self, Bool.or_self,
      Bool.or_true, Bool.false_eq_true, if_false, if_true]
  case noSpace =>
    show execDripProgramFail page fa s = _
    simp only [execDripProgramFail, hfirst, hsaving, hpower, ← ht, hspace, beq_self_eq_true, Bool.not_false, Bool.and_self, if_true]
  case wear =>
    show execWearCreditWrite s = _
    simp only [execWearCreditWrite, hkeeper, hsaving, Bool.not_true, Bool.or_self, Bool.false_eq_true, if_false, ← ht]
  case fill =>
    show execSanitizeFillPage ext s = _
    simp only [execSanitizeFillPage, hext, ← hpage, hst, hepoch, hruns, hready, hband, hstall, beq_eq_false_iff_ne.mpr hopen, howed, bne_self_eq_false,
      decide_eq_false (Nat.not_le.mpr hld), hld, Bool.not_true, Bool.or_self, Bool.or_false, Bool.false_eq_true, if_false, if_true, ← ht, ← hu,
      beq_iff_eq]

/-- Settles O56: the steps of the sealing epoch, a failed ring record, and the events of BEACON. -/
theorem epochStepsAndBeaconEvents : Obligations.EpochStepsAndBeaconEvents := by
  unfold Obligations.EpochStepsAndBeaconEvents
  refine ⟨⟨fun s hruns hlocal => ?boundary, fun fa fb s t hseal hstep hsaving hspots ht => ?sealed, fun fas s t hseal hstep hsaving hspots ht => ?index,
      fun fa fb n s hseal hstep hsaving hspots hn => ?durable, fun fa s hsaving hseal hstep => ?failed,
      fun fa item s hsaving hpower hitem hdue htarget => ?failedSave⟩,
    fun n crc valid win s t hpowered htiming ht => ?frame, fun n crc valid win s hpowered htiming => ?edge,
    fun s t hlock hfog ht u w hu hw => ?missed, fun n start s t htiming hside himage hsaving hreturn hstart hn ht u hu => ?source,
    fun n s t haccepted ht => ?accepted⟩
  case boundary =>
    show execBoundaryDue s = _
    simp only [execBoundaryDue, hruns, hlocal, Bool.and_self, if_true]
  case sealed =>
    rw [ht]
    show execSealRecordPassed s = _
    simp only [execSealRecordPassed, bne_iff_ne.mpr hseal, hstep, hsaving, beq_self_eq_true, Bool.not_false, Bool.and_self, if_true]
    exact State.ringProgram_of_spots _ hspots
  case index =>
    rw [ht]
    show execIndexSegmentPassed s = _
    simp only [execIndexSegmentPassed, bne_iff_ne.mpr hseal, hstep, hsaving, beq_self_eq_true, Bool.not_false, Bool.and_self, if_true]
    exact State.indexProgram_of_spots _ hspots
  case durable =>
    rw [hn]
    show execEpochDurable s = _
    simp only [execEpochDurable, bne_iff_ne.mpr hseal, hstep, hsaving, beq_self_eq_true, Bool.not_false, Bool.and_self, if_true]
    exact State.ringProgram_of_spots _ hspots
  case failed =>
    show execRingRecordProgramFail fa s = _
    rw [execRingRecordProgramFail, State.recordTarget_of_sealing hsaving hseal hstep, hsaving]
    cases s.inOrder fa with
    | false => simp only [Bool.not_true, Bool.not_false, if_true, Bool.false_eq_true, if_false]
    | true => simp only [Bool.not_true, Bool.false_eq_true, if_false, if_true]
  case failedSave =>
    show execRingRecordProgramFail fa s = _
    rw [execRingRecordProgramFail, State.recordTarget_of_item hsaving hpower hitem hdue htarget, State.saving_of_saving hsaving]
    cases s.inOrder fa with
    | false => simp only [Bool.not_true, Bool.not_false, if_true, Bool.false_eq_true, if_false]
    | true => simp only [Bool.not_true, Bool.false_eq_true, if_false, if_true]
  case frame =>
    show execBeaconFrame n crc valid win s = _
    simp only [execBeaconFrame, hpowered, beq_eq_false_iff_ne.mpr htiming, Bool.not_true, Bool.false_eq_true, if_false, ← ht, Bool.not_eq_true',
      bne_iff_ne, apply_ite Host.Outcome.next]
  case edge =>
    show execBeaconFrame n crc valid win s = _
    simp only [execBeaconFrame, hpowered, htiming, beq_self_eq_true, Bool.not_true, Bool.false_eq_true, if_false, if_true]
  case missed =>
    show execBeaconWindowMiss s = _
    simp only [execBeaconWindowMiss, hlock, hfog, Bool.not_true, Bool.or_self, Bool.false_eq_true, if_false, beq_iff_eq]
    subst ht hu hw
    simp only [apply_ite Host.Outcome.next]
    rfl
  case source =>
    show execBeaconSourceFrame s = _
    simp only [execBeaconSourceFrame, htiming, hside, himage, hsaving, hreturn, bne_self_eq_false, Bool.not_true, Bool.or_self, Bool.false_eq_true,
      if_false, ← hstart, bne_iff_ne, ← hn, ← ht, ← hu]
  case accepted =>
    subst ht
    show execBeaconAcceptedBoundary s = _
    simp only [execBeaconAcceptedBoundary, haccepted, Bool.not_eq_true', beq_iff_eq, apply_ite Host.Outcome.next]

end Sys2Proof
end

section
/-! The management port, the chain, the Keeper store and the host's requests: the obligations on them. -/

namespace Sys2Proof

namespace Machine

/-! ### The events of the management port (R735, R737) -/

theorem State.twiEvent_of_running {s : State} (e : Source) (hrom : s.cpx.rom = false) : s.twiEvent e = s.record e 0 [] := by
  simp only [State.twiEvent, hrom, Bool.false_eq_true, if_false]

theorem State.notifies_of {s : State} (hnotify : s.twi.notify ≠ 0) (hport : s.portUp .twiu = true) (hrom : s.cpx.rom = false) :
    s.notifies = true := by
  simp only [State.notifies, bne_iff_ne.mpr hnotify, hport, hrom, Bool.not_false, Bool.and_self]

/-! ### Packets on the chain (R747) -/

/-- A packet that holds a whole header is acknowledged and acted on. -/
theorem exec_chainFrame_of_packet {down : Bool} {packet : Bytes} {s : State} (hlink : s.chainLink down = true) (hlength : 16 ≤ packet.length) :
    exec (.chainFrame down packet true) s = .next (if down then (s.emit (.chainAnswer down false)).chainFromDown packet
      else (s.emit (.chainAnswer down false)).chainFromUp packet) := by
  have hsome : packet.isEmpty = false := List.isEmpty_eq_false_iff.mpr (List.ne_nil_of_length_pos (by omega))
  show execChainFrame down packet true s = _
  simp only [execChainFrame, hlink, hsome, Nat.not_lt.mpr hlength, Bool.not_true, Bool.false_eq_true, if_false]

/-! ### Requests that reach their logical device (R264, R265) -/

theorem exec_hostWrite_of_reaches {h : Fin 4} {ld : Fin 16} {lpa : Nat} {data : Bytes} {poison : Bool} {s : State}
    (hreaches : s.reaches h ld = true) (hsaving : s.saving = false) :
    exec (.hostWrite h ld lpa data poison) s =
      if !s.ready Reg.GLB_READY.MEM_PARTIAL then .next ((s.newReq h ld lpa true data poison).1.wait (s.newReq h ld lpa true data poison).2 .memPartial)
      else .next ((s.newReq h ld lpa true data poison).1.serveWrite (s.newReq h ld lpa true data poison).2) := by
  show execHostWrite h ld lpa data poison s = _
  simp only [execHostWrite, hreaches, hsaving, Bool.not_true, Bool.or_self, Bool.false_eq_true, if_false]
  rfl

theorem exec_hostRead_of_partial {h : Fin 4} {ld : Fin 16} {lpa : Nat} {found : LineRead} {s : State} (hreaches : s.reaches h ld = true)
    (hpartial : s.ready Reg.GLB_READY.MEM_PARTIAL = true) :
    exec (.hostRead h ld lpa found) s =
      .next ((s.newReq h ld lpa false [] false).1.serveRead (s.newReq h ld lpa false [] false).2 found) := by
  have hready : (s.newReq h ld lpa false [] false).1.ready Reg.GLB_READY.MEM_PARTIAL = true := hpartial
  show execHostRead h ld lpa found s = _
  simp only [execHostRead, hreaches, hready, Bool.not_true, Bool.false_eq_true, if_false]

theorem State.serveRead_of_fault {s : State} {r : HostReq} {k : Nat} (found : LineRead) (htranslate : s.translate r.ld r.lpa = .inr k) :
    s.serveRead r found = (s.translationFault r.head r.ld r.lpa k false).completeRead r [] true := by
  simp only [State.serveRead, htranslate]

theorem State.serveRead_of_restored {s : State} {r : HostReq} {dpa : Nat} (found : LineRead) (htranslate : s.translate r.ld r.lpa = .inl dpa)
    (hrestored : s.pageRestored (dpa / 4096) = true) : s.serveRead r found = s.readRestored { r with dpa } found := by
  simp only [State.serveRead, htranslate, hrestored, if_true]

theorem State.serveRead_of_missing {s : State} {r : HostReq} {dpa : Nat} (found : LineRead) (htranslate : s.translate r.ld r.lpa = .inl dpa)
    (hmissing : s.pageRestored (dpa / 4096) = false) (hsaving : s.saving = false) : s.serveRead r found = s.faultIn { r with dpa } := by
  simp only [State.serveRead, htranslate, hmissing, hsaving, Bool.false_eq_true, if_false]

end Machine

open Machine

/-- Settles O57: each exchange of the management port, and a notification of the host on each of its outcomes. -/
theorem managementPortExchanges : Obligations.ManagementPortExchanges := by
  unfold Obligations.ManagementPortExchanges
  refine ⟨fun data pecOk s htakes => ?first, fun data pecOk s htakes hpartial => ?next, fun data s htakes hpartial => ?stray,
    fun s hport => ⟨?reply, ?replyNext, ?status, ?timeout, ?stuck⟩, fun data s hrom hport => ⟨fun htakes => ?rawWrite, ?rawRead, ?abort⟩,
    fun s hnotify hport hrom => ⟨?acked, ?nacked, fun acked => ?collision, ?retryAcked, ?retryNacked⟩⟩
  case first =>
    show execTwiuBlockWriteFirst data pecOk s = _
    simp only [execTwiuBlockWriteFirst, htakes, if_true]
  case next =>
    show execTwiuBlockWriteNext data pecOk s = _
    simp only [execTwiuBlockWriteNext, htakes, List.isEmpty_eq_false_iff.mpr hpartial, Bool.not_true, Bool.false_and, Bool.false_eq_true, if_false]
  case stray =>
    show execTwiuBlockWriteNext data true s = _
    simp only [execTwiuBlockWriteNext, htakes, hpartial, List.isEmpty_nil, Bool.not_true, Bool.and_self, Bool.false_eq_true, if_false, if_true]
  case reply =>
    show execTwiuReplyRead s = _
    simp only [execTwiuReplyRead, hport, if_true, State.readReply, List.drop_zero, Nat.zero_add]
  case replyNext =>
    show execTwiuReplyReadNext s = _
    simp only [execTwiuReplyReadNext, hport, if_true]
  case status =>
    show execTwiuStatusRead s = _
    simp only [execTwiuStatusRead, hport, if_true]
  case timeout =>
    show execTwiuSclTimeout s = _
    simp only [execTwiuSclTimeout, hport, if_true]
  case stuck =>
    show execTwiuSdaStuck s = _
    simp only [execTwiuSdaStuck, hport, if_true]
  case rawWrite =>
    show execTwiuRawWrite data s = _
    simp only [execTwiuRawWrite, htakes, hrom, Bool.not_false, Bool.and_self, if_true]
  case rawRead =>
    show execTwiuRawRead s = _
    simp only [execTwiuRawRead, hport, hrom, Bool.not_false, Bool.and_self, if_true]
  case abort =>
    show execTwiuStartAbort s = _
    simp only [execTwiuStartAbort, hport, if_true]
    exact congrArg Host.Outcome.next (State.twiEvent_of_running _ hrom)
  case acked =>
    show execHostNotify true false s = _
    simp only [execHostNotify, State.notifies_of hnotify hport hrom, State.sendNotify, Bool.not_true, Bool.false_eq_true, if_false, if_true]
  case nacked =>
    show execHostNotify false false s = _
    simp only [execHostNotify, State.notifies_of hnotify hport hrom, State.sendNotify, Bool.not_true, Bool.false_eq_true, if_false]
  case collision =>
    show execHostNotify acked true s = _
    simp only [execHostNotify, State.notifies_of hnotify hport hrom, Bool.not_true, Bool.false_eq_true, if_false, if_true]
    exact congrArg Host.Outcome.next (State.twiEvent_of_running _ hrom)
  case retryAcked =>
    show execHostNotifyNackRetry true s = _
    simp only [execHostNotifyNackRetry, State.notifies_of hnotify hport hrom, State.sendNotify, if_true]
  case retryNacked =>
    show execHostNotifyNackRetry false s = _
    simp only [execHostNotifyNackRetry, State.notifies_of hnotify hport hrom, State.sendNotify, if_true, Bool.false_eq_true, if_false]

/-- Settles O58: answer frames, refused and acknowledged packets on either link, the links themselves, and malformed packets. -/
theorem chainFramesAndPackets : Obligations.ChainFramesAndPackets := by
  unfold Obligations.ChainFramesAndPackets
  refine ⟨fun down s hlink => ⟨?ack, ?nak, ?linkDown⟩, fun down packet s hlink hsome => ?refused,
    fun packet s t hlink hlength ht => ?fromDown, fun packet s t hlink hlength ht hreply hdist => ?fromUp, fun down s => rfl,
    fun down s hlink hkeeper => ?linkUp, fun port packet s => ?malformed⟩
  case ack =>
    show execChainFrame down [] true s = _
    simp only [execChainFrame, hlink, List.isEmpty_nil, Bool.not_true, Bool.false_eq_true, if_false, if_true]
  case nak =>
    show execChainFrame down [] false s = _
    simp only [execChainFrame, hlink, List.isEmpty_nil, Bool.not_true, Bool.false_eq_true, if_false, if_true]
  case linkDown =>
    show execChainLinkDown down s = _
    simp only [execChainLinkDown, hlink, if_true]
  case refused =>
    show execChainFrame down packet false s = _
    simp only [execChainFrame, hlink, List.isEmpty_eq_false_iff.mpr hsome, Bool.not_true, Bool.not_false, Bool.false_eq_true, if_false, if_true]
  case fromDown =>
    rw [exec_chainFrame_of_packet hlink hlength, ht]
    simp only [if_true, State.chainFromDown, State.chainDiscard, Bool.not_eq_true', beq_iff_eq]
  case fromUp =>
    rw [exec_chainFrame_of_packet hlink hlength, ht]
    simp only [Bool.false_eq_true, if_false, State.chainFromUp, State.chainDiscard, hreply, beq_eq_false_iff_ne.mpr hdist, beq_iff_eq]
  case linkUp =>
    show execChainLinkUp down s = _
    simp only [execChainLinkUp, hlink, hkeeper, Bool.not_true, Bool.or_self, Bool.false_eq_true, if_false]
  case malformed =>
    show execMalformedCommandPacket port packet s = _
    simp only [execMalformedCommandPacket, apply_ite Host.Outcome.next]

/-- Settles O59: a record write and a sector erase, where each ends well, is made again, or fails for good. -/
theorem keeperStoreWritesAndErasesEnd : Obligations.KeeperStoreWritesAndErasesEnd := by
  unfold Obligations.KeeperStoreWritesAndErasesEnd
  refine ⟨fun rec w rest s t hpowered hhold hunit hfirst ht hfit => ?passes, fun rec w rest s t u hpowered hhold hunit hfirst ht hfit hu => ?fails,
    fun sector e s t hfind hbegun ht => ?blank, fun sector e s t u hfind hbegun ht hfails hu => ?redone,
    fun sector e s t u hfind hbegun hfails ht hu => ?sectorFails⟩
  case passes =>
    show execRecordWriteDone rec true s = _
    simp only [execRecordWriteDone, hpowered, hhold, hunit, hfirst, ← ht, hfit, Bool.not_true, Bool.or_self, Bool.false_eq_true, if_false, if_true]
  case fails =>
    show execRecordWriteDone rec false s = _
    simp only [execRecordWriteDone, hpowered, hhold, hunit, hfirst, ← ht, hfit, Bool.not_true, Bool.or_self, Bool.false_eq_true, if_false, ← hu,
      apply_ite Host.Outcome.next]
  case blank =>
    show execKstEraseDone sector true s = _
    simp only [execKstEraseDone, hfind, hbegun, Bool.not_true, Bool.false_eq_true, if_false, if_true, ← ht]
  case redone =>
    have hagain : e.fails + 1 < 3 := by omega
    show execKstEraseDone sector false s = _
    simp only [execKstEraseDone, hfind, hbegun, hagain, Bool.not_true, Bool.false_eq_true, if_false, if_true, ← ht, beq_iff_eq, ← hu]
  case sectorFails =>
    have hlast : ¬ e.fails + 1 < 3 := by omega
    show execKstEraseDone sector false s = _
    simp only [execKstEraseDone, hfind, hbegun, hlast, Bool.not_true, Bool.false_eq_true, if_false, ← ht, ← hu]

/-- Settles O60: a host write and a host read, before MEM_PARTIAL and on each way on from there. -/
theorem hostRequestsAreServed : Obligations.HostRequestsAreServed := by
  unfold Obligations.HostRequestsAreServed
  refine ⟨fun h ld lpa data poison s t r hreaches hsaving ht hr => ⟨fun hpartial => ?writeWaits, fun hpartial => ?writeServed⟩,
    fun h ld lpa found s t r hreaches ht hr => ⟨fun hpartial hsaving => ?readWaits, fun hpartial dpa htranslate hmissing hsaving => ?missing,
      fun hpartial dpa htranslate hrestored u hu => ?restored, fun hpartial k htranslate => ?fault⟩⟩
  case writeWaits =>
    rw [exec_hostWrite_of_reaches hreaches hsaving, hpartial, ht, hr]
    rfl
  case writeServed =>
    rw [exec_hostWrite_of_reaches hreaches hsaving, hpartial, ht, hr]
    rfl
  case readWaits =>
    subst ht hr
    have hready : (s.newReq h ld lpa false [] false).1.ready Reg.GLB_READY.MEM_PARTIAL = false := hpartial
    have hruns : (s.newReq h ld lpa false [] false).1.saving = false := hsaving
    show execHostRead h ld lpa found s = _
    simp only [execHostRead, hreaches, hready, hruns, Bool.not_true, Bool.not_false, Bool.false_eq_true, if_false, if_true]
    rfl
  case missing =>
    subst ht hr
    rw [exec_hostRead_of_partial hreaches hpartial]
    exact congrArg Host.Outcome.next (State.serveRead_of_missing found htranslate hmissing hsaving)
  case restored =>
    subst ht hr
    rw [exec_hostRead_of_partial hreaches hpartial]
    refine congrArg Host.Outcome.next ((State.serveRead_of_restored found htranslate hrestored).trans ?_)
    rw [hu]
    rfl
  case fault =>
    subst ht hr
    rw [exec_hostRead_of_partial hreaches hpartial]
    exact congrArg Host.Outcome.next (State.serveRead_of_fault found htranslate)

end Sys2Proof
end
